-- ==== Sys2Proof/Word.lean ====
section
/-! DEFINITION. The word types and the plainest arithmetic on them: 32-bit words, bytes, bit fields of a natural
number, and the signed reading of a field. Registers are little-endian (R100). -/

namespace Sys2Proof

/-- A register word, as an initiator writes or reads it (R100). -/
abbrev Word := BitVec 32

/-- A byte of a frame or of a memory. -/
abbrev Byte := BitVec 8

/-- Bits `lsb + wid - 1 : lsb` of a number. -/
def bitsOf (v lsb wid : Nat) : Nat := (v >>> lsb) % 2 ^ wid

/-- Bit `n` of a number. -/
def bitAt (v n : Nat) : Bool := (v >>> n) % 2 == 1

/-- A Boolean as a bit. -/
def b2n (b : Bool) : Nat := if b then 1 else 0

/-- The two's-complement reading of the low `wid` bits of a number. -/
def toSigned (v wid : Nat) : Int :=
  if v % 2 ^ wid < 2 ^ (wid - 1) then (v % 2 ^ wid : Nat) else ((v % 2 ^ wid : Nat) : Int) - (2 ^ wid : Nat)

/-- The two's-complement code of an integer in `wid` bits. -/
def ofSigned (x : Int) (wid : Nat) : Nat := (x % ((2 ^ wid : Nat) : Int)).toNat

/-- The number whose bytes are given, the first byte the most significant. -/
def beNat (bs : List Byte) : Nat := bs.foldl (fun a b => a * 256 + b.toNat) 0

/-- The number whose bytes are given, the first byte the least significant. -/
def leNat : List Byte → Nat
  | [] => 0
  | b :: bs => b.toNat + 256 * leNat bs

/-- `n` bytes of a number, the most significant first. -/
def toBE : Nat → Nat → List Byte
  | 0, _ => []
  | n + 1, v => BitVec.ofNat 8 (v >>> (8 * n)) :: toBE n v

/-- `n` bytes of a number, the least significant first. -/
def toLE : Nat → Nat → List Byte
  | 0, _ => []
  | n + 1, v => BitVec.ofNat 8 v :: toLE n (v >>> 8)

/-- The element of a list at an index, or a default. -/
def nth {α : Type} (l : List α) (i : Nat) (d : α) : α := l.getD i d

/-- A list with one element replaced by a function of it. -/
def modNth {α : Type} (l : List α) (i : Nat) (f : α → α) : List α :=
  match l, i with
  | [], _ => []
  | a :: t, 0 => f a :: t
  | a :: t, i + 1 => a :: modNth t i f

/-- Apply `f 0`, `f 1`, … `f (n - 1)` in that order. -/
def iter {σ : Type} : Nat → (Nat → σ → σ) → σ → σ
  | 0, _, s => s
  | n + 1, f, s => f n (iter n f s)

end Sys2Proof
end

