-- ==== Sys2Proof/Syntax.lean ====
section
/-! DEFINITION. The commands the block takes: accesses of the bus initiators, what arrives on links and pins, and the
moments at which the block's own engines act. One constructor of `Instr` per row of the table of operations. -/

namespace Sys2Proof

/-- A frame as it stands on a link between SOF and EOF (R177, R178): header fields as received or sent, the payload
bytes up to the CRC, the CRC-32 field, and whether it ended with K29.7. -/
structure Frame where
  cls : BitVec 4
  typ : BitVec 4
  ver : BitVec 2
  rsv : BitVec 6
  src : BitVec 16
  dst : BitVec 16
  /-- bytes 6 to 9: EPOCH, or STREAM and CREDIT -/
  mid : BitVec 32
  seq : BitVec 16
  len : BitVec 16
  hchk : BitVec 16
  payload : List Byte
  crc : BitVec 32
  /-- ended with K29.7 -/
  good : Bool
  deriving DecidableEq, Repr

/-- What a boot path delivers: nothing (a read error), or the bytes of an image, with whether an uncorrectable ECC error
fell in the load (R455, R456). -/
inductive Source where
  | failed
  | image (bytes : List Byte) (ecc : Bool)
  deriving DecidableEq, Repr

/-- What the TAP scans (R457): a RESPONSE with its public key, or another word of the instruction register. -/
inductive TapScan where
  | key (bytes : List Byte)
  | ir (word : BitVec 5)
  deriving DecidableEq, Repr

/-- Who makes an access (R101, R110): a core pair, the debug port, the DMA, or a management frame that came in at a
strand port of a cell. -/
inductive Who where
  | cpu0 | cpu1 | debug | dma
  | mgmt (port : Fin 2)
  deriving DecidableEq, Repr

/-- The size of an access (R100). -/
inductive Size where
  | byte | half | word
  deriving DecidableEq, Repr

/-- A timestamp FIFO (R135): of a capture input, or of an Ethernet port's receiver or transmitter. -/
inductive TsFifo where
  | tcap (n : Fin 2)
  | eth (n : Fin 2) (rx : Bool)
  deriving DecidableEq, Repr

/-- Where an ECC error shows (R438): the TCM of a core pair, or an address of shared SRAM or of a block memory. -/
inductive EccAt where
  | tcm (pair : Fin 2)
  | sram (addr : BitVec 32)
  | block (addr : BitVec 32)
  deriving DecidableEq, Repr

/-- Where a DMA channel meets an uncorrectable error (R438, R443, R448): in its descriptor, at a byte of its source, or at a byte
of its destination that a DRAM write merges into a burst. Bytes count from the start of the transfer. -/
inductive EccHit where
  | desc
  | data (at_ : BitVec 24)
  | dest (at_ : BitVec 24)
  deriving DecidableEq, Repr

/-- What a cell answers when it is enumerated (R209): VANE.POS, its UID, LINK0.FEATOFF; and the port that faces the A
end as its VANE.POS shows it afterwards. -/
structure Answer where
  pos : BitVec 32
  uidLo : BitVec 32
  uidHi : BitVec 32
  featOff : BitVec 32
  aport : Bool
  deriving DecidableEq, Repr

/-- The commands: one constructor for each row of the table of operations. -/
inductive Instr where
  /-- RAIL_GOOD (R53) -/
  | railGood (r : Fin 6)
  /-- POWER_ON_RESET_END (R56) -/
  | powerOnResetEnd (rstN : Bool) (straps : BitVec 6) (a b : Source)
  /-- BROWN_OUT_RESET (R55) -/
  | brownOutReset (r : Fin 6)
  /-- PIN_RESET (R58) -/
  | pinReset (ns : Nat)
  /-- STRAP_LATCH (R42) -/
  | strapLatch (straps : BitVec 6) (a b : Source)
  /-- SOFTWARE_SYSTEM_RESET (R65) -/
  | softwareSystemReset (v : Word)
  /-- DEBUGGER_SYSTEM_RESET (R61) -/
  | debuggerSystemReset
  /-- TAP_RESET (R61) -/
  | tapReset
  /-- BLOCK_RESET (R62) -/
  | blockReset (page : BitVec 16)
  /-- BLOCK_RESET_END (R62) -/
  | blockResetEnd (page : BitVec 16)
  /-- RELEASE_CPU1 (R74) -/
  | releaseCpu1 (run : Bool)
  /-- RELEASE_TSTK (R420) -/
  | releaseTstk
  /-- CELLCMD_BYPASS (R71) -/
  | cellcmdBypass
  /-- CELLCMD_CLRCNT (R74) -/
  | cellcmdClrcnt
  /-- LINK_BOOT_LOAD_DONE (R456) -/
  | linkBootLoadDone (ecc : Bool)
  /-- UART_BOOT_BLOCK (R456) -/
  | uartBootBlock (bytes : List Byte) (crc : BitVec 32)
  /-- REFCLK_QUALIFIED (R88) -/
  | refclkQualified
  /-- BANDCAL_GO (R80) -/
  | bandcalGo (n : Fin 2) (gate : BitVec 2) (code : BitVec 6)
  /-- BANDCAL_DONE (R80) -/
  | bandcalDone (n : Fin 2) (count : Option Nat)
  /-- RELOCK_GO (R85) -/
  | relockGo (n : Fin 2)
  /-- FREQ_OK (R82) -/
  | freqOk (n : Fin 2)
  /-- FINE_LOCK (R82) -/
  | fineLock (n : Fin 2)
  /-- LOSS_OF_LOCK (R87) -/
  | lossOfLock (n : Fin 2)
  /-- LOSS_OF_REFERENCE (R79) -/
  | lossOfReference (src : Fin 3)
  /-- LINK_CLOCK_QUALIFIED (R79) -/
  | linkClockQualified (p : Fin 2)
  /-- BYPREF_LOST (R89) -/
  | byprefLost
  /-- GOBYP (R89) -/
  | gobyp
  /-- GOSYN (R91) -/
  | gosyn
  /-- AUTORET_RETURN (R91) -/
  | autoretReturn
  /-- SYN_CFG_WRITE (R84) -/
  | synCfgWrite (n : Fin 2) (v : Word)
  /-- OSC_CHECK (R94) -/
  | oscCheck (bad : Bool)
  /-- FABRIC_CLOCK_STOP (R279) -/
  | fabricClockStop
  /-- SUB_WORD_WRITE (R100) -/
  | subWordWrite (who : Who) (addr : BitVec 32) (size : Size) (v : Word)
  /-- MISALIGNED_ACCESS (R100) -/
  | misalignedAccess (who : Who) (addr : BitVec 32) (size : Size) (write : Option Word)
  /-- UNMAPPED_ACCESS (R110) -/
  | unmappedAccess (who : Who) (addr : BitVec 32) (size : Size) (write : Option Word)
  /-- WIDE_READ_LATCH (R100) -/
  | wideReadLatch (who : Who) (addr : BitVec 32) (size : Size)
  /-- REGISTER_WRITE (R4) -/
  | registerWrite (who : Who) (addr : BitVec 32) (size : Size) (v : Word)
  /-- LC_WRITE (R4) -/
  | lcWrite (n : Fin 8) (off : BitVec 12) (v : Word)
  /-- FEATACC_WRITE (R115) -/
  | feataccWrite (who : Who) (page : BitVec 15) (v : Word)
  /-- LOCK_KEY_WRITE (R107) -/
  | lockKeyWrite (who : Who) (page : BitVec 15) (key : BitVec 16)
  /-- UNLOCK_KEY_TIMEOUT (R107) -/
  | unlockKeyTimeout (page : BitVec 15)
  /-- ERRINJ_WRITE (R106) -/
  | errinjWrite (who : Who) (page : BitVec 15) (v : Word)
  /-- WINBASE_WRITE (R112) -/
  | winbaseWrite (v : Word)
  /-- DDR_WINDOW_ACCESS (R112) -/
  | ddrWindowAccess (who : Who) (addr : BitVec 31) (size : Size) (write : Option Word) (ecc : Option Bool)
  /-- RATE_WRITE (R124) -/
  | rateWrite (v : Word)
  /-- TIME_STEP (R127) -/
  | timeStep (abs neg : Bool)
  /-- SLEW_GO (R128) -/
  | slewGo (spd : BitVec 11)
  /-- SLEW_DONE (R128) -/
  | slewDone
  /-- TIME_MODE_WRITE (R130) -/
  | timeModeWrite (mode : BitVec 2)
  /-- VALID_SET (R131) -/
  | validSet
  /-- VALID_CLR (R131) -/
  | validClr
  /-- HOLDOVER_SET (R131) -/
  | holdoverSet
  /-- HOLDOVER_CLR (R131) -/
  | holdoverClr
  /-- TIME_NOW_READ (R126) -/
  | timeNowRead
  /-- TPO_ARM (R136) -/
  | tpoArm (n : Fin 4)
  /-- TPO_DISARM (R137) -/
  | tpoDisarm (n : Fin 4)
  /-- TPO_PULSE_START (R136) -/
  | tpoPulseStart (n : Fin 4)
  /-- TPO_PULSE_END (R136) -/
  | tpoPulseEnd (n : Fin 4)
  /-- TCAP_EDGE (R139) -/
  | tcapEdge (n : Fin 2) (rising : Bool) (sub : BitVec 6)
  /-- TCAP_CFG_WRITE (R139) -/
  | tcapCfgWrite (n : Fin 2) (edges : BitVec 2)
  /-- TIMESTAMP_FIFO_READ (R135) -/
  | timestampFifoRead (fifo : TsFifo)
  /-- ETH_FRAME_RX (R460): with `back`, the word at which an access of the ring meets a double-bit error (R438) -/
  | ethFrameRx (n : Fin 2) (bytes : List Byte) (fcsOk : Bool) (back : Nat × Option Word)
  /-- ETH_FRAME_TX (R460): the port, and the word at which an access of the ring meets a double-bit error (R438) -/
  | ethFrameTx (n : Fin 2 × Option Word)
  /-- ETH_RING_ENABLE (R461) -/
  | ethRingEnable (n : Fin 2) (rx : Bool) (v : Word)
  /-- ETH_TAIL_WRITE (R460) -/
  | ethTailWrite (n : Fin 2) (rx : Bool) (tail : Word)
  /-- MDIO_GO (R461) -/
  | mdioGo (read : Bool) (phy reg : BitVec 5) (data : BitVec 16)
  /-- MDIO_DONE (R461) -/
  | mdioDone (data : BitVec 16)
  /-- PCS_MODE_WRITE (R142) -/
  | pcsModeWrite (n : Fin 2) (v : Word)
  /-- TSSTAT_CLROVF (R142) -/
  | tsstatClrovf (n : Fin 2)
  /-- TRACKER_SAMPLE_SET (R147) -/
  | trackerSampleSet
  /-- FREEWHEEL_END (R150) -/
  | freewheelEnd
  /-- THOFS_WRITE (R156) -/
  | thofsWrite (v : Word)
  /-- SPINDLE_ENABLE_WRITE (R144) -/
  | spindleEnableWrite (en fnom60 : Bool)
  /-- ANGLE_EVENT_FIRE (R155) -/
  | angleEventFire (n : Fin 64)
  /-- ANGLE_EVENT_REARM (R155) -/
  | angleEventRearm (n : Fin 64)
  /-- TIME_EVENT_FIRE (R158) -/
  | timeEventFire (n : Fin 32)
  /-- TEVCTL_WRITE (R158) -/
  | tevctlWrite (n : Fin 32) (v : Word)
  /-- MERGECNT_CLR (R166) -/
  | mergecntClr
  /-- PORT_ENABLE_WRITE (R168): the word, and the part of a frame in reception that had arrived (R171) -/
  | portEnableWrite (p : Fin 10) (v : Word × Option Frame)
  /-- RX_CLOCK_LOCK (R170) -/
  | rxClockLock (p : Fin 10)
  /-- COMMA_ALIGNED (R170) -/
  | commaAligned (p : Fin 10)
  /-- INVALID_CODE_GROUP (R170) -/
  | invalidCodeGroup (p : Fin 10) (run : Nat) (part : Option Frame)
  /-- RX_CLOCK_LOSS (R170) -/
  | rxClockLoss (p : Fin 10) (part : Option Frame)
  /-- S_FRAME_TIMEOUT (R170) -/
  | sFrameTimeout (p : Fin 10)
  /-- GUST_TOKEN_RX (R174) -/
  | gustTokenRx (p : Fin 10) (c1 c2 c3 : Option Byte) (back : Nat)
  /-- GUSTTX_GO (R176) -/
  | gusttxGo (p : Fin 10) (code : BitVec 4)
  /-- S_FRAME_RX (R194) -/
  | sFrameRx (p : Fin 10) (f : Frame) (back : Nat)
  /-- SERVO_SUPERFRAME_CHECK (R217) -/
  | servoSuperframeCheck
  /-- C_FRAME_RX (R225) -/
  | cFrameRx (p : Fin 10) (f : Frame)
  /-- T_FRAME_RX (R241) -/
  | tFrameRx (p : Fin 10) (f : Frame) (offSlot : Bool)
  /-- B_DATA_FRAME_RX (R200) -/
  | bDataFrameRx (p : Fin 10) (f : Frame)
  /-- CREDIT_FRAME_RX (R199) -/
  | creditFrameRx (p : Fin 10) (f : Frame)
  /-- M_REQUEST_RX (R202) -/
  | mRequestRx (p : Fin 2) (f : Frame)
  /-- M_RESPONSE_RX (R204) -/
  | mResponseRx (p : Fin 10) (f : Frame)
  /-- M_REQUEST_GO (R204) -/
  | mRequestGo (p : Fin 10) (v : Word)
  /-- M_TIMEOUT (R204) -/
  | mTimeout (p : Fin 10)
  /-- M_RESPONSE_SEND (R202) -/
  | mResponseSend (p : Fin 10)
  /-- S_SLOT (R187) -/
  | sSlot (p : Fin 10) (wait : Nat)
  /-- T_SLOT (R189) -/
  | tSlot (p : Fin 2) (wait : Nat)
  /-- BULK_FRAME_SEND (R190) -/
  | bulkFrameSend (p : Fin 10) (stream : Option (Fin 32))
  /-- CREDIT_FRAME_SEND (R198) -/
  | creditFrameSend (p : Fin 10) (e : Fin 32)
  /-- FORWARD_FIFO_SEND (R186) -/
  | forwardFifoSend (p : Fin 10)
  /-- BSTR_WRITE (R197) -/
  | bstrWrite (p : Fin 10) (e : Fin 32) (hi : Bool) (v : Word)
  /-- LINK_CNTCLR (R206) -/
  | linkCntclr (p : Fin 10)
  /-- ENUM_PASS (R209) -/
  | enumPass (p : Fin 8) (answers : List Answer)
  /-- ENUM_REPASS (R209) -/
  | enumRepass (p : Fin 8) (answers : List (Nat × Answer))
  /-- MAP_WRITE (R211) -/
  | mapWrite (e : Fin 384) (v : Word)
  /-- ENUMFIFO_READ (R235) -/
  | enumfifoRead
  /-- STRAND_SUPERFRAME_EVAL (R212) -/
  | strandSuperframeEval (hops : List (List Nat))
  /-- SLOT_PLAN (R214) -/
  | slotPlan (strand : Fin 8)
  /-- TSF_WRITE (R18) -/
  | tsfWrite (v : Word)
  /-- GRID_RUN_WRITE (R234) -/
  | gridRunWrite (run : Bool)
  /-- VANE_GRID_GO (R160) -/
  | vaneGridGo
  /-- HUB_COMMIT (R17) -/
  | hubCommit
  /-- COMMIT_APPLY (R226) -/
  | commitApply
  /-- LOOP_INSTANT (R27) -/
  | loopInstant
  /-- TELEMETRY_DEADLINE (R27) -/
  | telemetryDeadline
  /-- COMMAND_RELEASE (R32) -/
  | commandRelease
  /-- PEER_RECORD_SEND (R218) -/
  | peerRecordSend
  /-- PEER_RECORD_RX (R218) -/
  | peerRecordRx (port : Fin 2) (bytes : List Byte)
  /-- PEER_RECORD_MISS (R230) -/
  | peerRecordMiss (port : Fin 2)
  /-- HUB_CLAIM (R224) -/
  | hubClaim
  /-- HUBCTL_FORCE (R230) -/
  | hubctlForce
  /-- HUBCTL_STEPDN (R231) -/
  | hubctlStepdn
  /-- RECOVER_GO (R222) -/
  | recoverGo (n : BitVec 8)
  /-- VANE_CNTCLR (R236) -/
  | vaneCntclr
  /-- ISOBAR_START (R237) -/
  | isobarStart
  /-- ISOBAR_LOOP_LATE (R237) -/
  | isobarLoopLate
  /-- ISOBAR_RUN_END (R237) -/
  | isobarRunEnd
  /-- ISOBAR_ENABLE_WRITE (R239) -/
  | isobarEnableWrite (v : Word)
  /-- EXCL_SET (R256) -/
  | exclSet (n : BitVec 8)
  /-- EXCL_CLR (R256) -/
  | exclClr (n : BitVec 8)
  /-- LOADALL (R271) -/
  | loadall
  /-- PWM_APEX (R262) -/
  | pwmApex (m : Fin 6)
  /-- PWM_EDGE (R268) -/
  | pwmEdge (m : Fin 7)
  /-- COT_CFT_TIMER (R265) -/
  | cotCftTimer (m : Fin 7) (which : Fin 3)
  /-- PWM_EVENT (R267) -/
  | pwmEvent (m : Fin 7) (isEnd : Bool) (elapsed : Nat)
  /-- PWM_ENABLE_WRITE (R278) -/
  | pwmEnableWrite (m : Fin 7) (en : Bool)
  /-- DL_RECAL (R277) -/
  | dlRecal (line : Fin 13) (ps : Nat)
  /-- DEBUG_HALT (R279) -/
  | debugHalt (pair : Fin 2)
  /-- HOLDOFF_END (R279) -/
  | holdoffEnd (cause : Fin 3)
  /-- HOLDCNT_CLR (R282) -/
  | holdcntClr
  /-- GATE_REQUEST_RISE (R291) -/
  | gateRequestRise (n : Fin 12)
  /-- GATE_REQUEST_FALL (R291) -/
  | gateRequestFall (n : Fin 12)
  /-- GATE_PHASE_END (R291) -/
  | gatePhaseEnd (n : Fin 12)
  /-- GATE_FB_CHANGE (R288) -/
  | gateFbChange (n : Fin 12) (off : Bool) (ns : Nat)
  /-- GATE_FB_TIMEOUT (R294) -/
  | gateFbTimeout (n : Fin 12)
  /-- INTERLOCK_TIMEOUT (R295) -/
  | interlockTimeout (n : Fin 12)
  /-- LEG_TRIP (R298) -/
  | legTrip (q : Fin 16)
  /-- SOFT_END (R298) -/
  | softEnd (n : Fin 12)
  /-- GDEN_LOW (R302) -/
  | gdenLow (ns : Nat)
  /-- GDEN_RISE (R303) -/
  | gdenRise (ns : Nat)
  /-- GATE_ENABLE_SETTLE (R291) -/
  | gateEnableSettle
  /-- CHCFG_WRITE (R289) -/
  | chcfgWrite (n : Fin 12) (v : Word)
  /-- GCH_CNTCLR (R306) -/
  | gchCntclr
  /-- CHOPPER_OV1 (R304) -/
  | chopperOv1
  /-- CHOPPER_CHECK (R304) -/
  | chopperCheck (k : Fin 3)
  /-- CHOPPER_OV3 (R304) -/
  | chopperOv3
  /-- CHOPPER_RELEASE (R305) -/
  | chopperRelease
  /-- SQUALL_RESULT_CHANGE (R317) -/
  | squallResultChange (q : Fin 16) (v : Nat)
  /-- SQUALL_RESOLVED (R312) -/
  | squallResolved (q : Fin 16) (v : Nat)
  /-- SQCFG_WRITE (R314) -/
  | sqcfgWrite (q : Fin 16) (v : Word)
  /-- SQTHR_WRITE (R311) -/
  | sqthrWrite (q : Fin 16) (v : Word)
  /-- BLANK_WINDOW_END (R315) -/
  | blankWindowEnd (q : Fin 16)
  /-- SQUALL_LATCH_RELEASE (R316) -/
  | squallLatchRelease (mask : BitVec 16)
  /-- SQTRIP_WRITE (R319) -/
  | sqtripWrite (q : Fin 16) (v : Word)
  /-- SQUALL_CAL_UPDATE (R321) -/
  | squallCalUpdate
  /-- SQCNT_CLR (R323) -/
  | sqcntClr (q : Fin 16)
  /-- ADC_REFEN_WRITE (R327) -/
  | adcRefenWrite (c : Fin 2) (en : Bool)
  /-- ADC_REF_READY (R327) -/
  | adcRefReady (c : Fin 2)
  /-- ADC_REF_FAULT (R327) -/
  | adcRefFault (c : Fin 2)
  /-- ADC_ENABLE_WRITE (R343) -/
  | adcEnableWrite (c : Fin 2) (en : Bool)
  /-- ADC_READY (R328) -/
  | adcReady (c : Fin 2)
  /-- ADC_SLOT_WRITE (R331) -/
  | adcSlotWrite (c : Fin 2) (k : Fin 32) (v : Word)
  /-- ADC_SWTRIG (R332) -/
  | adcSwtrig (c : Fin 2) (slot : Fin 32)
  /-- ADC_PENDING_START (R334) -/
  | adcPendingStart (c : Fin 2)
  /-- ADC_WINDOW_START (R335) -/
  | adcWindowStart (c : Fin 2)
  /-- ADC_SLOT_RESULT (R330) -/
  | adcSlotResult (c : Fin 2) (codes : List Int)
  /-- ADC_OPEN_WIRE_SAMPLE (R340) -/
  | adcOpenWireSample (c : Fin 2) (code : Int)
  /-- ADC_URGENT (R338) -/
  | adcUrgent (c : Fin 2) (v : Word)
  /-- ADC_URGENT_RESULT (R338) -/
  | adcUrgentResult (c : Fin 2) (codes : List Int)
  /-- ADC_RINGCFG_WRITE (R342) -/
  | adcRingcfgWrite (c : Fin 2) (v : Word)
  /-- ADC_RINGRD_WRITE (R342) -/
  | adcRingrdWrite (c : Fin 2) (v : Word)
  /-- ADC_CNTCLR (R346) -/
  | adcCntclr (c : Fin 2)
  /-- LATHE_TRIGGER (R354) -/
  | latheTrigger (n : Fin 8)
  /-- LATHE_CHAIN_END (R355) -/
  | latheChainEnd (n : Fin 8)
  /-- LATHE_CLOSE (R359) -/
  | latheClose (n : Fin 8)
  /-- LATHE_OPEN (R360) -/
  | latheOpen (n : Fin 8)
  /-- LATHE_CMD_TRIG (R354) -/
  | latheCmdTrig (n : Fin 8)
  /-- LATHE_CNTCLR (R369) -/
  | latheCntclr (n : Fin 8)
  /-- FAULT_EVENT (R380) -/
  | faultEvent (src : Fin 48)
  /-- FCOL_ACK (R379) -/
  | fcolAck (gust : Bool) (n : BitVec 6)
  /-- CONSEQ_WINDOW_END (R382) -/
  | conseqWindowEnd (src : Fin 48)
  /-- FAULT_N_RELEASE (R386) -/
  | faultNRelease
  /-- ALIVE_TOGGLE (R387) -/
  | aliveToggle
  /-- ALIVE_KICK (R388) -/
  | aliveKick
  /-- KICK_MISS (R388) -/
  | kickMiss
  /-- ALIVECFG_WRITE (R387) -/
  | alivecfgWrite (v : Word)
  /-- RCT_WRITE (R375) -/
  | rctWrite (n : Fin 48) (v : Word)
  /-- GRCT_WRITE (R390) -/
  | grctWrite (n : Fin 16) (v : Word)
  /-- FCOL_CNTCLR (R391) -/
  | fcolCntclr
  /-- THRM_EVAL (R397) -/
  | thrmEval (raws : List Int)
  /-- THRM_RESUME (R401) -/
  | thrmResume
  /-- THRM_FLASH_DONE (R404) -/
  | thrmFlashDone (ok : Bool)
  /-- MOTR_START (R408) -/
  | motrStart (reverse : Bool)
  /-- MOTR_STOP (R413) -/
  | motrStop
  /-- MOTR_WATCH_END (R409) -/
  | motrWatchEnd
  /-- MOTR_BRAKE_END (R410) -/
  | motrBrakeEnd
  /-- MOTR_ALIGN_END (R411) -/
  | motrAlignEnd
  /-- MOTR_COMMUTATE (R412) -/
  | motrCommutate (us : Nat)
  /-- MOTR_ZERO_CROSSING (R412) -/
  | motrZeroCrossing (ph : Fin 3) (us inStep : Nat)
  /-- MOTR_CROSSING_TIMEOUT (R412) -/
  | motrCrossingTimeout
  /-- MOTR_STALL (R411) -/
  | motrStall
  /-- MOTR_ENABLE_WRITE (R417) -/
  | motrEnableWrite (en : Bool)
  /-- TSTK_INPUT_CHANGE (R421) -/
  | tstkInputChange (ch : Fin 4) (lvl : Bool)
  /-- TSTK_DISCREPANCY (R422) -/
  | tstkDiscrepancy (j : Fin 2)
  /-- TSTK_CLRDISC (R422) -/
  | tstkClrdisc
  /-- TSTK_ENERGISE (R425) -/
  | tstkEnergise (key : BitVec 16)
  /-- TSTK_DEENERGISE (R426) -/
  | tstkDeenergise
  /-- TSTK_TESTNOW (R429) -/
  | tstkTestnow
  /-- TSTK_TRIP_REQUEST (R426) -/
  | tstkTripRequest (cause : Fin 3)
  /-- TSTK_STARTUP_STEP (R425) -/
  | tstkStartupStep (hs ls : Bool)
  /-- TSTK_TEST_DUE (R429) -/
  | tstkTestDue
  /-- TSTK_TEST_STEP (R429) -/
  | tstkTestStep (hs ls : Bool)
  /-- TSTK_READBACK_FAULT (R431) -/
  | tstkReadbackFault (hs ls : Bool)
  /-- TSTK_OSC_FAIL (R432) -/
  | tstkOscFail
  /-- TSTK_LOCK_KEY (R433) -/
  | tstkLockKey (key : BitVec 16)
  /-- WFI (R439) -/
  | wfi (pair : Fin 2)
  /-- STOP_WAKE (R439) -/
  | stopWake (cause : Fin 3)
  /-- LOCKSTEP_ERROR (R438) -/
  | lockstepError (pair : Fin 2)
  /-- MEMORY_ECC_ERROR (R438) -/
  | memoryEccError (at_ : EccAt) (double : Bool)
  /-- INTC_CLAIM (R441) -/
  | intcClaim (pair : Fin 2)
  /-- INTC_COMPLETE (R441) -/
  | intcComplete (pair : Fin 2) (src : BitVec 9)
  /-- DMA_GO (R442) -/
  | dmaGo (c : Fin 16) (v : Word)
  /-- DMA_STOP (R443) -/
  | dmaStop (c : Fin 16)
  /-- DMA_DESCRIPTOR_DONE: the channel, and the bytes at which a DRAM read, or a merged DRAM write (`true`), meets a single-bit error, in order (R444, R448) -/
  | dmaDescriptorDone (c : Fin 16 × List (Bool × BitVec 24))
  /-- DMA_ERROR (R443): the channel, and the double-bit error that its access meets (R438, R448) -/
  | dmaError (c : Fin 16 × Option EccHit)
  /-- DDR_INIT_GO (R449) -/
  | ddrInitGo
  /-- DDR_INIT_DONE (R449) -/
  | ddrInitDone (ok : Bool)
  /-- DDR_PATROL_SCRUB (R448) -/
  | ddrPatrolScrub (addr : BitVec 40) (ecc : Option Bool)
  /-- ANMG_DESCRIPTOR_ENABLE (R451) -/
  | anmgDescriptorEnable (n : Fin 512) (v : Word)
  /-- ANMG_TRIGGER (R452) -/
  | anmgTrigger (soft : Bool)
  /-- ANMG_MARK (R453) -/
  | anmgMark (ev : BitVec 8)
  /-- ANMG_BLOCK_CLOSE (R450) -/
  | anmgBlockClose (n : Fin 512)
  /-- ANMG_RECORD_DROP (R453) -/
  | anmgRecordDrop (n : Fin 512)
  /-- TAP_CHALLENGE (R457) -/
  | tapChallenge
  /-- TAP_RESPONSE, and the scans of the instructions that have no row of their own (R457) -/
  | tapResponse (scan : TapScan) (sig : List Byte)
  /-- QSPI_GO (R462) -/
  | qspiGo (v : Word)
  /-- QSPI_DONE (R462) -/
  | qspiDone (bytes : List Byte)
  /-- UART_DATA_WRITE (R463) -/
  | uartDataWrite (n : Fin 2) (b : Byte)
  /-- UART_DATA_READ (R463) -/
  | uartDataRead (n : Fin 2)
  /-- UART_BYTE_RX (R463) -/
  | uartByteRx (n : Fin 2) (b : Byte) (frameErr parityErr : Bool)
  /-- I2C_GO (R464) -/
  | i2cGo (v : Word)
  /-- I2C_DONE (R464) -/
  | i2cDone (nack : Bool) (moved : Nat) (bytes : List Byte)
  /-- I2C_BUS_STUCK (R464) -/
  | i2cBusStuck
  /-- SPI_GO (R465) -/
  | spiGo (len : BitVec 9)
  /-- SPI_DONE (R465) -/
  | spiDone (bytes : List Byte)
  /-- GPIO_SET (R466) -/
  | gpioSet (mask : Word)
  /-- GPIO_CLR (R466) -/
  | gpioClr (mask : Word)
  /-- GPIO_EDGE (R466) -/
  | gpioEdge (n : Fin 24) (rising : Bool)
  /-- CALS_WRITE (R471) -/
  | calsWrite (key : BitVec 16)
  /-- CALS_WRITE_DONE (R471) -/
  | calsWriteDone (same : Bool)
  /-- CALS_RELOAD (R470) -/
  | calsReload (mask : BitVec 5)
  /-- CALS_APT1 (R474) -/
  | calsApt1
  /-- CALS_APT2 (R474) -/
  | calsApt2
  /-- CALS_POINT_DONE (R474) -/
  | calsPointDone (codes : List Int)
  /-- CALS_ACOMP (R474) -/
  | calsAcomp
  /-- CALS_SQMEAS (R475) -/
  | calsSqmeas
  /-- CALS_SQMEAS_DONE (R475) -/
  | calsSqmeasDone (lvl : BitVec 12)
  /-- CALS_TSMEAS (R476) -/
  | calsTsmeas
  /-- CALS_TSMEAS_DONE (R476) -/
  | calsTsmeasDone (sum : Int)
  /-- FABRIC_TICK (R123) -/
  | fabricTick
  /-- CUT_THROUGH_FRAME (R182) -/
  | cutThroughFrame (p : Fin 10) (f : Frame)
  /-- ETH_LINK_CHANGE (R142) -/
  | ethLinkChange (n : Fin 2) (up : Bool) (speed : BitVec 2)
  /-- PAR_ALERT (R459) -/
  | parAlert
  /-- UART_TX_EMPTY (R463) -/
  | uartTxEmpty (n : Fin 2)
  /-- SETTLING_TIME_END (R314) -/
  | settlingTimeEnd (q : Fin 16)
  /-- TUNE_MARGIN (R93) -/
  | tuneMargin (n : Fin 2)
  /-- REFERENCE_RESTORED (R85) -/
  | referenceRestored (src : Fin 3)
  /-- VDDQ_OK_CHANGE (R53) -/
  | vddqOkChange (ok : Bool)
  deriving DecidableEq, Repr

end Sys2Proof
end

