-- ==== Sys2Proof/Decode.lean ====
section
/-! DEFINITION. The words of the table of operations: no row of it has bits, so no word spells a command. -/

namespace Sys2Proof

/-- The command that a word of `nbits` bits spells: none. -/
def decodeTableWord (_nbits _w : Nat) : Option Instr := none

end Sys2Proof
end

