-- ==== Sys2Proof/Config.lean ====
section
/-! DEFINITION. What the spec leaves open, as constants without a body: nothing can be proved of their values. A
free value is one of these applied to the model's own counter `Dev.fresh`, or to the operands it depends on. -/

namespace Sys2Proof.Config

/-- A choice the spec leaves to the device (R42, R58, R302, R303), fresh at every use. -/
opaque freeBit : Nat → Bool

/-- A value the spec leaves open, fresh at every use. -/
opaque freeNat : Nat → Nat

/-- What a byte of a memory reads as when nothing has been written to it since the last system-level reset (R61:
undefined): the count of resets, the memory's number and the address. -/
opaque undefByte : Nat → Nat → Nat → Byte

/-- SHA-256 of a byte string (R455), as 32 bytes. -/
opaque sha256 : List Byte → List Byte

/-- ECDSA P-256 verification (R455, R457): public key, message digest, signature. -/
opaque ecdsaOk : List Byte → List Byte → List Byte → Bool

/-- The keys that are fused in the device and accepted for images (R455). -/
opaque trustedKey : List Byte → Bool

/-- The fused 64-bit unique identity of the device (R209). -/
opaque uid : BitVec 64

/-- What the sine and the cosine of a Lathe engine add to the exact value of a binary32 angle (R351: at most 2^-22), in
steps of 2^-60, counted from the lower bound. -/
opaque sinErr : Nat → Nat
opaque cosErr : Nat → Nat

/-- The threshold offset of a Squall comparator (R492) by channel, mode and die temperature in 1/16 °C, and the size of its
hysteresis by channel and HYS: numbers that the model cuts down to the limits the rule gives. -/
opaque sqOffset : Nat → Nat → Int → Nat
opaque sqHys : Nat → Nat → Nat

/-- The steps of the Squall DACs (R492): by channel and step, a number that the model cuts down to the differential nonlinearity
the rule allows. -/
opaque sqStep : Nat → Nat → Nat

/-- The discrete form of the quadrature generators (R147 gives their gain and tuning, not this): the weight of the new state in
a step, a number that the model cuts down to 2^-16 of 0 to 1. -/
opaque quadForm : Nat

end Sys2Proof.Config
end

