-- ==== Sys2Proof/Machine/State.lean ====
section
/-! DEFINITION. The state of the HY192 as plain data: the register fields of every page, the values in force of the
shadowed fields, the state of each block behind its registers, the memories, and the queue of waiting commands. -/

namespace Sys2Proof.Machine

/-! ### Registers -/

/-- A register field: byte offset in its page, lowest bit, width, value after a reset of the block. -/
structure Fld where
  off : Nat
  lsb : Nat
  wid : Nat
  rst : Nat
  deriving DecidableEq, Repr

/-- The access types of R4. -/
inductive Acc where
  | rw | ro | w1c | wo | sh | lc
  deriving DecidableEq, Repr

/-- A field as the register tables list it. -/
structure RegFld where
  acc : Acc
  lsb : Nat
  wid : Nat
  rst : Nat
  deriving DecidableEq, Repr

/-- A row of a register table: `cnt` registers, `stride` bytes apart, from offset `base`. -/
structure RegRow where
  base : Nat
  stride : Nat
  cnt : Nat
  flds : List RegFld
  deriving DecidableEq, Repr

/-- The kinds of register page (R109). LINK is the kind of the LINK and the PEER pages. -/
inductive Kind where
  | sysc | syn | cksw | fcol | thrm | tstk | intc | dma | cals | time | spdl | link | strd | vane | isob
  | pwmc | pwmu | hk | gch | motr | sql | adc | lth | eth | ddrc | anmg | qspi | uart | i2c | spi | gpio
  deriving DecidableEq, Repr

/-- The fields of all pages that differ from their reset value: key and value, keys strictly rising, so that equal
register files are equal lists. The key of a field is ((page · 4096) + offset) · 32 + lowest bit. -/
abbrev RegFile := List (Nat × Nat)

/-- The level of an output pin. -/
inductive PinLevel where
  | hiZ | low | high
  deriving DecidableEq, Repr

/-- An error occurrence on its way to the fault collector (R104, R372). -/
structure Report where
  src  : Nat
  inst : Nat
  bit  : Nat
  cls  : Nat
  inj  : Bool
  /-- the tick, and TIME and STEPGEN in it (R372) -/
  tick : Nat
  time : Nat
  gen  : Nat
  deriving DecidableEq, Repr

/-- Tailstock as a demand finds it: SCO_HS and SCO_LS, STATE, TRIPCNT and IRQFLG.DEMAND (R430). -/
structure Demanded where
  hs    : Bool
  ls    : Bool
  state : Nat
  trips : Nat
  flag  : Bool
  deriving DecidableEq, Repr

/-- What has happened to registers in the present tick, for what may meet it there (R4, R101, R102, R105). -/
structure Meets where
  /-- pages whose FIRST was taken in this tick, when every bit was clear (R105) -/
  first  : List Nat
  /-- pages whose last ERRSTAT bit software has cleared in this tick, with FIRST before it (R4, R105) -/
  emptied : List (Nat × Nat)
  /-- W1C bits that hardware has set: key of the field plus the bit (R4) -/
  bits   : List Nat
  /-- what hardware has added to counters: key, amount (R101) -/
  counts : List (Nat × Nat)
  /-- registers that software has written: page, offset (R101, R365) -/
  soft   : List (Nat × Nat)
  /-- shadows that software has written: key, and the shadow before the first of these writes (R102) -/
  shadows : List (Nat × Nat)
  /-- an ENERGISE that Tailstock has accepted in this tick: IRQFLG.STATE_CHG before it (R430) -/
  energised : Option Bool
  /-- Tailstock before the demand of this tick (R430) -/
  demanded : Option Demanded
  deriving DecidableEq, Repr

/-! ### Power, reset and pins -/

/-- Where the device stands between power and operation (R53 to R60). -/
inductive Phase where
  | rails      -- a monitored rail is not good
  | interval   -- the power-on-reset interval runs (R56)
  | held       -- in reset, waiting for RST_N to rise (R57, R59)
  | running    -- straps latched
  deriving DecidableEq, Repr

/-- The single output pins whose level a rule of the spec sets. -/
structure Pins where
  cbyp    : PinLevel
  faultN  : PinLevel
  alive   : PinLevel
  curtN   : PinLevel
  scoHs   : PinLevel
  scoLs   : PinLevel
  hkG     : PinLevel
  qspiCsN : PinLevel
  spiCsN  : PinLevel
  ddrRstN : PinLevel
  ddrCke  : PinLevel
  tpo     : List PinLevel
  lockA   : PinLevel
  lockB   : PinLevel
  deriving DecidableEq, Repr

/-! ### Squall channels (chapter 14) -/

/-- A Squall channel behind its registers. Voltages are in units of 1.8 V / 8,192, half a quarter step of the DAC. -/
structure SqCh where
  /-- the voltage at the pin as the model was last told it -/
  inp  : Option Nat
  /-- the two comparison states (R309), and whether each has been decided since the comparator started (R312) -/
  aHi  : Bool
  bLo  : Bool
  decA : Bool
  decB : Bool
  /-- the levels of HI and LO, in quarter steps, from which the DAC settles (R311) -/
  dac  : Option (Nat × Nat)
  /-- the output waits for the end of the settling time after a mode change (R314) -/
  hold : Bool
  /-- the tick in which the open blanking window closes (R315) -/
  blk  : Option Nat
  /-- the tick in which the latch was last set (R316) -/
  asrt : Option Nat
  /-- an assertion that the clocked consumers have not seen for want of a fabric clock (R320) -/
  pend : Bool
  deriving DecidableEq, Repr

/-! ### Gate channels (chapter 13) -/

/-- What a gate channel knows beyond CHSTATn. -/
structure Gate where
  /-- the bound output's level as the channel last saw it -/
  req    : Bool
  /-- a rising edge of the request that has not been acted on (R290) -/
  rise   : Bool
  /-- FB has been seen not off in this turn-on, so ON_FAIL can no longer happen (R294) -/
  onSeen : Bool
  /-- the check of FB after a turn-off has not been met yet (R294) -/
  offChk : Bool
  /-- elements of the FB short code seen so far (R300) -/
  code   : Nat
  /-- tick of the last rising edge of the effective request (R295) -/
  riseAt : Nat
  /-- the rising edge by which the channel left OFF, and `offChk` before (R295) -/
  began  : Option (Nat × Bool)
  deriving DecidableEq, Repr

/-- Brake chopper supervision (R304). -/
structure Chop where
  v0    : Nat
  seen1 : Bool
  seen2 : Bool
  /-- the checks 20 µs and 200 µs after t_0 are still to come -/
  due1  : Bool
  dueV  : Bool
  /-- chopper 2 has not been forced since the last release (0), its check is still to come (1), or is done (2) -/
  due2  : Nat
  deriving DecidableEq, Repr

/-! ### PWM units (chapter 12) -/

/-- A placed output edge: instant in 2^-16 ns of TIME, output B or A, new level. -/
structure PwmEdge where
  at_ : Nat
  outB : Bool
  hi  : Bool
  deriving DecidableEq, Repr

/-- The phases of a COT or CFT unit (R265, R266). -/
inductive CotPhase where
  | idle | on | off | wait
  deriving DecidableEq, Repr

/-- A PWM unit, or HK, behind its registers. Instants and the period length are in 2^-16 ns of TIME, the other lengths
in 62.5 ps. -/
structure PwmU where
  outA  : Bool
  outB  : Bool
  /-- level of S after the last placed edge -/
  s     : Bool
  /-- the placed edges of the outputs -/
  edges : List PwmEdge
  /-- a carrier period is in progress -/
  run   : Bool
  vs    : Nat
  len   : Nat
  /-- the peak of the period in progress is still to come -/
  peak  : Bool
  /-- period, phase and origin of the grid the period in progress belongs to -/
  gper  : Nat
  gph   : Nat
  gorg  : Nat
  dv    : Nat
  /-- a short-pulse policy acted on the period, so D_v serves both edges (R262) -/
  pol   : Bool
  /-- carry added to D_p of this period (R270) -/
  carry : Int
  tL    : Nat
  /-- instant at which the unit was ready to start its first period (R278), or at which its COT or CFT phase began -/
  ready : Nat
  /-- grid origin in free mode (R260) -/
  org   : Nat
  cot   : CotPhase
  ton   : Nat
  toff  : Nat
  tmax  : Nat
  mpw   : Nat
  /-- STAT.DABBLK has to end at the next valley (R275) -/
  dabEnd : Bool
  /-- the tick in which the period in progress started (R281, R283) -/
  tick0 : Nat
  /-- the tick in which the COT or CFT phase in progress began (R281) -/
  tickP : Nat
  /-- edges of S that are placed but have not come yet: instant, level (R268) -/
  sEdges : List (Nat × Bool)
  deriving DecidableEq, Repr

/-! ### ADC (chapter 15) -/

/-- What a slot or an urgent request works with from its first sample on (R329, R346): input configuration, channel,
exponent of the count, open-wire mode, end of the sequence, and the working coefficients. -/
structure AdcCfg where
  input : Nat
  dest  : Nat
  avg   : Nat
  ow    : Nat
  last  : Bool
  gain  : Nat
  ofs   : Int
  tcg   : Int
  tcal  : Int
  uncal : Bool
  deriving DecidableEq, Repr

/-- A slot of a sequence, or an urgent request, in a converter. -/
structure AdcJob where
  slot : Nat
  /-- its first sampling instant -/
  t0   : Nat
  late : Bool
  /-- part of a window sequence, and the window slot itself (R335) -/
  win  : Bool
  wslot : Bool
  /-- for an urgent request: input, exponent, channel -/
  urg  : Option (Nat × Nat × Nat)
  /-- a result computed and waiting for its open-wire conversion: value, clip -/
  held : Option (Int × Bool)
  /-- nothing of its sequence follows it (R343) -/
  fin  : Bool
  /-- what it works with, once it samples -/
  cfg  : Option AdcCfg
  /-- the instant of its last conversion in TIME, once taken (R341) -/
  ts   : Option Nat
  deriving DecidableEq, Repr

def job0 : AdcJob := ⟨0, 0, false, false, false, none, none, false, none, none⟩

/-- A converter behind its registers. -/
structure Adc where
  /-- the slot taking samples -/
  cur    : Option AdcJob
  /-- slots whose samples are taken and whose result is not written yet, oldest first -/
  flight : List AdcJob
  /-- the pending trigger: start slot, instant -/
  pend   : Option (Nat × Nat)
  /-- slots aborted by urgent requests and windows, to be restarted, the last aborted first -/
  back   : List AdcJob
  /-- an urgent request that waits for a window slot -/
  uwait  : Option (Nat × Nat × Nat)
  /-- last sampling instant used, and the earliest instant at which the next sample may lie -/
  free   : Nat
  /-- the last trigger: its tick, its rank, and whether it started (0), was held pending (1) or was refused (2) (R333) -/
  trig   : Option (Nat × Nat × Nat)
  /-- events counted by PTRG0 and PTRG1 since they were enabled -/
  pcnt   : List Nat
  /-- configurations whose coefficients are defaults (R346) -/
  uncal  : Nat
  /-- earliest instant of the next sample after an open-wire phase (R340) -/
  hold   : Nat
  /-- result channels whose value is two's complement, as a mask (R325) -/
  twos   : Nat
  /-- the ANCHCFG word in force before the last write, and the tick of that write (R335) -/
  anch   : Nat
  anchAt : Nat
  deriving DecidableEq, Repr

/-! ### Fault collection (chapter 17) -/

/-- A fault record (R393). -/
structure Rec where
  isOpen : Bool
  real   : Bool
  inj    : Bool
  conseq : Bool
  upg    : Bool
  cls    : Nat
  src    : Nat
  gcode  : Nat
  bits   : Nat
  time   : Nat
  merge  : Nat
  seq    : Nat
  lastm  : Nat
  inst   : Nat
  gen    : Nat
  react  : Nat
  deriving DecidableEq, Repr

/-- The fault collector behind its registers. -/
structure Fcol where
  /-- ring entries written: index and record -/
  ring   : List (Nat × Rec)
  /-- words of the ring memory that an uncorrectable error has lost: word index and what it reads as since (R438) -/
  lost   : List (Nat × Nat)
  /-- open records, with the ring index where the record was written -/
  opened : List (Option Nat × Rec)
  /-- sequence number of the next record -/
  seq    : Nat
  /-- the copy of the first fatal record (R376) -/
  fatal  : Option Rec
  /-- sources whose consequence window is open (R382) -/
  windows : List Nat
  /-- Gust codes accepted in this tick (R372) -/
  tokens : List Nat
  /-- reactions of R376 performed since reset -/
  fatalDone : Bool
  /-- tick at which the present kick interval began (R388) -/
  kickAt : Option Nat
  deriving DecidableEq, Repr

/-! ### Temperature and motor (chapter 18) -/

/-- THRM behind its registers. -/
structure Thrm where
  /-- consecutive evaluations at or above the threshold, and below it less the hysteresis, of WARN, THROTTLE and
  SHUTDOWN (R397) -/
  hi    : List Nat
  lo    : List Nat
  /-- evaluations since reset, and those at which THROTTLE became active within the last second (R398) -/
  evals : Nat
  acts  : List Nat
  /-- last CNT of each external channel, and how many evaluations it has not changed (R396) -/
  ext   : List (Nat × Nat)
  /-- CPUDIV as it will be restored (R399) -/
  cpudiv : Option Nat
  /-- the flash record being written or waiting for the bus, and the one behind it (R404) -/
  flash : Option (List Byte)
  next  : Option (List Byte)
  deriving DecidableEq, Repr

/-- The modes of a motor leg (R406). -/
inductive LegMode where
  | drive | lowOn | off
  deriving DecidableEq, Repr

/-- A motor leg: its mode, and the instants until which a mode change holds output A and B low. -/
structure Leg where
  mode : LegMode
  upA  : Option Nat
  upB  : Option Nat
  deriving DecidableEq, Repr

/-- MOTR behind its registers. Times in µs. -/
structure Motr where
  /-- legs 3 to 5 -/
  legs  : List Leg
  /-- suspended by the hold-off or GDEN (R414) -/
  susp  : Bool
  /-- BRAKE observes (R410) -/
  obs   : Bool
  /-- ms of the phases of BRAKE that have ended, and when BRAKE was entered, nanoseconds of `Dev.ns` -/
  brk   : Nat
  brkAt : Nat
  /-- the last crossing observed: phase, new level -/
  last  : Option (Nat × Bool)
  /-- the present run of crossings that agree in order: reverse, crossings, time between the first and the last -/
  run   : Bool × Nat × Nat
  /-- the last run of three crossings or more of this window -/
  best  : Option (Bool × Nat × Nat)
  /-- time since the ramp began, steps in a row that ended with a crossing, a crossing in this step (R411) -/
  ramp  : Nat
  streak : Nat
  crossed : Bool
  /-- a crossing has scheduled a commutation, and crossings missed in a row (R412) -/
  sched : Bool
  misses : Nat
  deriving DecidableEq, Repr

/-! ### Tailstock (chapter 19) -/

/-- Tailstock behind its registers. -/
structure Tstk where
  /-- step of the start-up check (R425) or of the OFF-pulse test (R429) -/
  step : Nat
  /-- trip requests that have been sent and not arrived: CAUSE codes (R426) -/
  req  : List Nat
  /-- since when both channels of each input are accepted high (R422), nanoseconds of `Dev.ns` -/
  high : List (Option Nat)
  /-- when ENERGISED was last entered (R429), nanoseconds of `Dev.ns` -/
  onAt : Nat
  deriving DecidableEq, Repr

/-! ### TIME (chapter 07) -/

/-- A timestamp FIFO entry: the STEPGEN and message bits of its INFO word, and the time in 2^-16 ns. -/
structure Ts where
  info : Nat
  time : Nat
  deriving DecidableEq, Repr

/-- A pulse output behind its registers. Instants in 2^-16 ns. -/
structure Tpo where
  /-- number of the next pulse (R136) -/
  j    : Nat
  /-- leading edge of a Spindle pulse that has not started -/
  lead : Option Nat
  /-- trailing edge of the pulse in progress, in elapsed time (`Dev.ns`) -/
  stop : Option Nat
  /-- a Spindle event waits for the end of the pulse (R138) -/
  pend : Bool
  deriving DecidableEq, Repr

/-- The time base behind its registers. -/
structure Tb where
  /-- remaining slew offset, 2^-40 ns (R128) -/
  slew : Int
  tpo  : List Tpo
  /-- the capture FIFOs, oldest first, and the last edge captured on each input, in elapsed time,
  2^-16 ns (R139) -/
  tcap : List (List Ts)
  capAt : List (Option Nat)
  /-- the ticks with a step as they end in `Dev.ns`, the last first, what was added to TIME there in 2^-16 ns, and STEPGEN before
  it (R129) -/
  steps : List (Nat × Int × Nat)
  /-- how fast TIME has run, the last first: the nanoseconds of `Dev.ns` from which on, the advance of a tick in 2^-40 ns, and the
  length of the tick in nanoseconds (R123, R132) -/
  paces : List (Nat × Int × Nat)
  deriving DecidableEq, Repr

/-! ### Memories and Anemograph (chapter 20) -/

/-- The byte memories: the two TCMs, shared SRAM and the external DRAM. -/
inductive MemId where
  | tcm0 | tcm1 | sram | dram
  deriving DecidableEq, Repr

/-- An Anemograph descriptor (R450 to R452): words 0 to 4 as written, words 5 to 13, and its open block. -/
structure AnDesc where
  ctl     : Nat
  baseLo  : Nat
  baseHi  : Nat
  nblk    : Nat
  postblk : Nat
  /-- 0 IDLE, 1 ARMED, 2 POST, 3 FROZEN, 4 INVALID -/
  state   : Nat
  wrapped : Bool
  wrblk   : Nat
  trgblk  : Nat
  trgtime : Nat
  trgseq  : Nat
  drop    : Nat
  merged  : Nat
  missed  : Nat
  /-- block sequence number, bytes used in the open block, time of its first record, superframe in which it opened,
  SEQ of the first bulk frame that starts in it -/
  seq     : Nat
  used    : Nat
  first   : Nat
  opened  : Nat
  bulkSeq : Option Nat
  /-- VALID and HOLDOVER at the first record of the open block -/
  flags   : Nat
  /-- the trigger falls in the open block; blocks closed since the trigger -/
  trgIn   : Bool
  post    : Nat
  deriving DecidableEq, Repr

/-- A trigger of the fault collector on its way to Anemograph: its tick, its time, the record's number, and whether TRIG.GO of
the same tick has joined it (1) or has already acted as the same trigger (2) (R452). -/
structure AnTrig where
  tick : Nat
  time : Nat
  seq  : Nat
  join : Nat
  deriving DecidableEq, Repr

/-! ### Spindle (chapter 08) -/

/-- Spindle behind its registers. -/
structure Spd where
  /-- θ with its 32 hidden fraction bits, without THOFS (R143) -/
  theta : Nat
  /-- the visible angle, and VALID, before the present tick, and TIME before it in 2^-16 ns (R155, R162) -/
  prev  : Nat
  prevValid : Bool
  before : Nat
  /-- θ has jumped in the present tick, and by how much θ moved with the tick itself (R162) -/
  jumped : Bool
  step   : Nat
  /-- armed angle events, as a mask (R155) -/
  armed : Nat
  /-- number of the next due time of each time event, and whether that due time was passed (R158, R159) -/
  tevJ  : List Nat
  tevLate : List Bool
  /-- targets triggered in this tick (R164) -/
  hit   : List Nat
  /-- tracker: CNT of the three channels and tick of the last sample set, sets in a row outside and inside 1 % (R146) -/
  cnts  : List Nat
  setAt : Option Nat
  bad   : Nat
  good  : Nat
  /-- freewheeling for want of voltage, or for the interval (R146, R150) -/
  fwV   : Bool
  fwT   : Bool
  /-- tick since which |e| has stayed small, sets in a row at which it was large, last |e| in 2^-30 (R148, R151) -/
  calm  : Option Nat
  large : Nat
  lastE : Nat
  /-- since when VMAG has been back, in nanoseconds (R150) -/
  back  : Option Nat
  /-- what the quadrature generators of α and β hold: output and quadrature output, 2^-32 of a code (R147) -/
  quadA : Int × Int
  quadB : Int × Int
  /-- 2·α+ and 2·β+ of the last set, 2^-32 of a code -/
  pos   : Int × Int
  /-- the integral, 2^-48 Hz, and the part of the change per second not used yet (R147, R149) -/
  integ : Int
  rocRem : Nat
  deriving DecidableEq, Repr

/-! ### Lathe engines (chapter 16) -/

/-- A chain that runs: what it will write, and whether it takes effect. Words are binary32. -/
structure LeRun where
  states : List Nat
  souts  : List Nat
  outs   : List Nat
  lim    : Bool
  arith  : Bool
  range  : Bool
  void   : Bool
  deriving DecidableEq, Repr

/-- An engine behind its registers. -/
structure Le where
  /-- a trigger that has arrived and has not been acted on -/
  req    : Bool
  run    : Option LeRun
  /-- tick of the last chain start since the close (R357) -/
  started : Option Nat
  /-- update stamps, stale counts and freeze counts of the inputs (R363, R364) -/
  stamps : List Nat
  stale  : List Nat
  frz    : List Nat
  /-- triggers passed in HOLD (R364) -/
  held   : Nat
  /-- chains that took effect (R363) -/
  eff    : Nat
  /-- no chain has run since the close (R349, R350, R362) -/
  first  : Bool
  /-- the loop instant's trigger: none here (0), it has arrived (1), it is held pending (2), its chain runs (3) (R237) -/
  loop   : Nat
  /-- the move to the bypass clock has opened the engine, and no CLOSE has been accepted since (R361) -/
  clkOpen : Bool
  deriving DecidableEq, Repr

/-! ### Ronun ports (chapter 09) -/

/-- A stream of a port's bulk table behind its registers (R197 to R200). -/
structure Stream where
  /-- inbound: SEQ of the next data frame, credits received, frames held in the port buffer -/
  rxSeq : Nat
  got   : Nat
  data  : List (Nat × List Byte)
  /-- inbound: bytes of the first frame held that the sink has taken -/
  took  : Nat
  /-- inbound: G in the last credit frame and the S slot of it; none while the first one is due -/
  sent  : Option (Nat × Nat)
  /-- SEQ of the next frame sent -/
  txSeq : Nat
  deriving DecidableEq, Repr

/-- A frame that a port sends. -/
inductive OutKind where
  /-- an own C, T, B or M frame, and whether it is a T copy -/
  | own (f : Frame) (t : Bool)
  /-- the port's own S frame, made up when its SOF leaves (R193) -/
  | slot
  /-- a frame that passes through from the other port, with the tick at which it arrived there (R184) -/
  | pass (f : Frame) (at_ : Nat)
  /-- a frame from the forward FIFO, with the tick at which it arrived (R186) -/
  | stored (f : Frame) (at_ : Nat)
  deriving DecidableEq, Repr

/-- A frame that waits for the tick of its SOF. -/
structure Wait where
  sof  : Nat
  kind : OutKind
  deriving DecidableEq, Repr

/-- A port behind its registers. Ticks count fabric ticks, which are code groups. -/
structure Port where
  /-- tick from which the output is free of frames that have begun; from which it is free of begun frames of this device's own
  or from the FIFO; whether the last one begun is an own T copy -/
  txEnd : Nat
  own   : Nat
  ownT  : Bool
  /-- the frames that have their place on the output and have not begun, the next first -/
  waits : List Wait
  /-- the forward FIFO toward this port: frames with the tick at which they arrived (R186) -/
  fifo  : List (Frame × Nat)
  /-- the last four S frames sent and the last received: number, STEPGEN, timestamp (R193) -/
  stx   : List (Nat × Nat × Nat)
  srx   : Option (Nat × Nat × Nat)
  /-- number of the next S frame; S slots so far; tick at which the port was enabled (R187) -/
  snum  : Nat
  slots : Nat
  enAt  : Nat
  /-- a valid pair in this interval; smallest and largest residence in it, 62.5 ps (R184, R194) -/
  pair  : Bool
  res   : Option (Int × Int)
  /-- the error score (R170) -/
  score : Nat
  /-- outliers in a row, and the filter restarts at the next sample (R195) -/
  outl  : Nat
  fresh : Bool
  streams : List (Nat × Stream)
  /-- the last request of each hub and the response to it, and the responses to be sent, oldest first (R202, R203) -/
  kept  : List (Nat × Nat × Frame)
  resp  : List Frame
  /-- the software request to be sent, and the strand manager's frames to be sent (R204, R209, R214) -/
  mreq  : Option Frame
  mgmt  : List Frame
  /-- accepted features that wait for a commit; the ticks in which the features in force changed, the last first, and what they were
  before (R119) -/
  feats : Option Nat
  featWas : List (Nat × Nat)
  /-- the tick in which the EOF of a broadcast request leaves (R204) -/
  bcast : Option Nat
  /-- frames and tokens sent in loopback that have not been received yet (R168) -/
  loopF : List Frame
  loopG : List Nat
  deriving DecidableEq, Repr

/-- The servo of a follower of S frames (R215 to R217). The lists have one element per port that can be followed. -/
structure Srv where
  /-- pairs with a neighbour that reports VALID = 1 and HOLDOVER = 0, and S frames that report otherwise, in this
  superframe -/
  pair  : List Bool
  bad   : List Bool
  inval : List Bool
  /-- superframes in a row without a valid pair, with a neighbour not to be followed, with one not valid, and with the
  conditions for switching back -/
  noPair : List Nat
  badRun : List Nat
  invRun : List Nat
  good   : List Nat
  /-- the servo has acted in this superframe; superframes in a row with a small offset; superframes of HOLDOVER -/
  acted : Bool
  near  : Nat
  hold  : Nat
  /-- the phase correction being spread: per tick, ticks left, remainder; 2^-40 ns -/
  corr  : Option (Int × Nat × Int)
  deriving DecidableEq, Repr

/-! ### Vane and the strand manager (chapters 02 and 10) -/

/-- A command held for a commit index (R225). -/
structure Cand where
  idx   : Nat
  epoch : Nat
  /-- the end that sent it: bit 8 of SRC -/
  fromB : Bool
  payload : List Byte
  slack : Int
  /-- the port took slopes (INTERP_CMD in force) -/
  slopes : Bool
  /-- frames for this commit discarded on a lower epoch -/
  lose  : Nat
  deriving DecidableEq, Repr

/-- Vane in a cell behind its registers. -/
structure Vn where
  /-- index of the next commit -/
  idx   : Nat
  cands : List Cand
  /-- a command has been applied since enumeration, so commits can be missed (R33) -/
  begun : Bool
  /-- an announced grid change: first commit, TSF, t_so (R253) -/
  ann   : Option (Nat × Nat × Nat)
  /-- flags of FL1 that the next T copy of each port carries (R254) -/
  flags : List Nat
  /-- the values of the T payload taken at S(k), up to the flags and after them, and k -/
  snap  : Option (Nat × Nat × List Byte × List Byte)
  deriving DecidableEq, Repr

/-- What a hub knows of one position of a strand (R209, R212). -/
structure Pos where
  /-- a valid T frame arrived in this superframe, in the last and in the one before, at the A end and at the B end -/
  a0 : Bool
  a1 : Bool
  a2 : Bool
  b0 : Bool
  b1 : Bool
  b2 : Bool
  /-- superframes heard at neither end; superframes heard at no end whose hub commands it (R233) -/
  gone : Nat
  cut : Nat
  /-- superframes in a row in which its T frames carried another index (R253) -/
  offIdx : Nat
  /-- the port of the cell that faces the A end (R210) -/
  aport : Nat
  /-- the offer of its LINK pages, once it has been read (R120) -/
  offer : Option Nat
  deriving DecidableEq, Repr

/-- A strand as a hub sees it. -/
structure Strand where
  pos : List Pos
  /-- superframes in a row with every position heard at both ends -/
  whole : Nat
  /-- cells reached from the A end and from the B end -/
  reachA : Nat
  reachB : Nat
  /-- AEND and BEND of the last peer record (R212) -/
  peerA : Nat
  peerB : Nat
  /-- the partner's end as the last superframe was evaluated with it (R212) -/
  peerWas : Nat
  deriving DecidableEq, Repr

/-- What a hub knows of the hub behind a peer port (R218 to R220). -/
structure Peer where
  /-- fields of the last complete record; the hub number is 4 before the first -/
  epoch : Nat
  term  : Nat
  hub   : Nat
  active : Bool
  synced : Bool
  pairM : Bool
  ptpok : Bool
  prio  : Nat
  leader : Nat
  /-- the superframe, modulo 2^16, whose record has come or has been counted as missed; records missed in a row; records since the
  last miss -/
  came  : Option Nat
  missed : Nat
  heard : Nat
  /-- the state section of the record of this superframe, still to be loaded -/
  section_ : Option (List Byte)
  /-- payloads of this hub's record that wait to be sent out of this port (R218) -/
  out : List (List Byte)
  deriving DecidableEq, Repr

/-- A mapped cell's telemetry as a hub holds it (R241). -/
structure Tele where
  /-- the last valid payload (R257) -/
  payload : List Byte
  /-- the first valid frame of this superframe, if it came before D_T(k) -/
  fresh : Option (List Byte)
  deriving DecidableEq, Repr

/-- The hub's strand manager and Vane behind their registers. -/
structure Hub where
  strands : List Strand
  enumFifo : List (Nat × Nat × Nat)
  peers : List Peer
  /-- index of the next commit, and the last index with commands released -/
  idx : Nat
  released : Nat
  /-- an announced grid change: first commit, TSF, t_so (R18) -/
  ann : Option (Nat × Nat × Nat)
  /-- superframes observed since reset, an active partner or an applied epoch seen; a claim made (R224) -/
  observed : Nat
  sawOther : Bool
  claimed : Bool
  /-- the observation of R224 is over: the hub has claimed or has started as standby -/
  decided : Bool
  /-- SYNCED at the first of the present misses, and records loaded in a row (R229, R230) -/
  wasSynced : Bool
  loaded : Nat
  /-- the chosen leader, and superframes in which it was not leader-capable (R219) -/
  leader : Option Nat
  leadBad : Nat
  /-- recoveries in progress: cell, commands left (R222) -/
  recov : List (Nat × Nat)
  /-- the expected T frames of this superframe are in, or D_T(k) has come (R27) -/
  teleDone : Bool
  /-- the T frames of this superframe that have arrived: map entry, and whether at the B end (R27) -/
  arrived : List (Nat × Bool)
  /-- the tick of the loop instant of this superframe, once it has come -/
  loopAt : Option Nat
  /-- what each assembly that has not ended took when it started, the oldest first: commit index, angle, frequency, angle-valid flag
  (R152) -/
  pred : List (Nat × Nat × Nat × Bool)
  /-- the hop delays measured along each strand from its A end, 2^-16 ns (R25) -/
  hops : List (List Nat)
  /-- superframes in which a mapped cell's T frames were absent (R232), by logical number -/
  silent : List (Nat × Nat)
  /-- commands go out (a fatal reaction has not stopped them, R376) -/
  sending : Bool
  /-- the commit grid runs, or waits for T0, or for its last commit (R234) -/
  grid : Bool
  deriving DecidableEq, Repr

/-! ### Isobar (chapter 11) -/

/-- An entry of the cell table (R257): the words written, the words in force, and the words Isobar writes. -/
structure CellEnt where
  ctl : Nat
  cest : Nat
  vscale : Nat
  app : List Nat
  ctlF : Nat
  cestF : Nat
  vscaleF : Nat
  appF : List Nat
  status : Nat
  v : Nat
  pc : Nat
  pout : Nat
  mout : Nat
  trim : Nat
  slotcph : Nat
  /-- the slope S_i of the last run, and the phase's membership changed in it -/
  slp : Nat
  respread : Bool
  /-- the state-reject flag of the telemetry in use (R242) -/
  rej : Bool
  deriving DecidableEq, Repr

/-- What a run will write when it ends (R237): register fields, the cell entries' outputs, the ERRSTAT and IRQFLG bits it
sets, and whether it computed anything (R240). -/
structure IsoRun where
  /-- the commit for which the run computes -/
  idx   : Nat
  regs  : List (Fld × Nat)
  cells : List (Nat × CellEnt)
  errs  : List Nat
  irqs  : List Nat
  still : Bool
  /-- the input VLV as the run takes it, which is passed to every cell (R240) -/
  vlv   : Nat
  deriving DecidableEq, Repr

/-- Isobar behind its registers: the run in progress (its results are written when it ends) and pending starts. -/
structure Iso where
  cells : List (Nat × CellEnt)
  tele  : List (Nat × Tele)
  run   : Option IsoRun
  pend  : Bool
  /-- tick at which the run in progress began -/
  began : Nat
  /-- the last run computed nothing, or none was made, so slopes are sent as zero (R239, R240) -/
  still : Bool
  /-- masks loaded from the partner (R243) -/
  masks : Option (List Nat)
  /-- engines whose chain of this superframe has ended (R237) -/
  ended : Nat
  /-- Isobar has started in this superframe -/
  started : Bool
  /-- VLV as the last run that computed took it (R240) -/
  vlv   : Nat
  deriving DecidableEq, Repr

/-! ### What the device sends -/

/-- A transfer on the QSPI bus: the opcode, the mode of data and address (0 1-1-1, 1 1-1-4, 2 1-4-4), the divider of the clock,
dummy cycles, the address with its bytes, what goes to the flash, and how many bytes come from it (R404, R456, R462). -/
structure FlashX where
  op    : Nat
  mode  : Nat
  div   : Nat
  dummy : Nat
  addr  : Option (Nat × Nat)
  put   : List Byte
  get   : Nat
  deriving DecidableEq, Repr

/-- One thing sent. -/
inductive Sent where
  /-- a Gust token: port, trip code (R172) -/
  | gust (port code : Nat)
  /-- a frame out of a port -/
  | frame (port : Nat) (f : Frame)
  /-- an Ethernet frame without its frame check sequence: port, octets (R460) -/
  | eth (port : Nat) (bytes : List Byte)
  /-- a clause 22 management frame: read, PHY, register, data (R461) -/
  | mdio (read : Bool) (phy reg data : Nat)
  /-- a flash transfer: of software (R462), of THRM's record (R404) or of the boot ROM (R456) -/
  | qspi (x : FlashX)
  /-- a byte out of a UART (R463) -/
  | uart (n : Nat) (b : Byte)
  /-- an I2C transfer: the CMD word, the bytes written (R464) -/
  | i2c (cmd : Nat) (bytes : List Byte)
  /-- an SPI transfer (R465): MODE, DIV, the bytes with the bit that goes first as their most significant -/
  | spi (mode div : Nat) (bytes : List Byte)
  /-- the bytes a TAP challenge shifts out (R457) -/
  | challenge (bytes : List Byte)
  /-- what the data register of a TAP instruction shifts out: value, bits (R457) -/
  | tap (x bits : Nat)
  deriving DecidableEq, Repr

/-! ### Clock synthesis (chapter 05) -/

/-- Where the boot ROM stands in bringing SYNA up (R83): nothing to do, its core halted before its first instruction (R66),
waiting for the reference, measuring a band, and waiting for lock. -/
inductive RomClk where
  | idle | halted | wait
  | band (i : Nat)
  | lock
  deriving DecidableEq, Repr

/-- The synthesizers behind their registers. -/
structure Clk where
  /-- the references that are present and qualified: REFCLK, the clocks of LINK0 and LINK1 (R78, R79) -/
  refs : List Bool
  /-- of SYNA and of SYNB: a loss of reference lasts; a band measurement runs -/
  lost : List Bool
  band : List Bool
  /-- the die temperature at the last FINE_LOCK of each, 1/16 °C (R93) -/
  tLock : List Int
  /-- what the boot ROM is doing about SYNA's clock (R83) -/
  rom : RomClk
  /-- the tick in which the fabric last went to the bypass clock (R281) -/
  bypAt : Nat
  /-- the clock monitor has seen the fabric clock stop, and has not reported it (R387) -/
  tell  : Bool
  deriving DecidableEq, Repr

/-! ### Ethernet, DMA, interrupts and the serial interfaces (chapters 07 and 20) -/

/-- An Ethernet port behind its registers: the transmit and the receive timestamps (R134, R135). -/
structure Eth where
  tx : List Ts
  rx : List Ts
  deriving DecidableEq, Repr

/-- A DMA channel behind its registers: the address of the descriptor in progress, its words 0 to 5 (none: not read),
and the bytes moved (R442, R444). -/
structure Dma where
  at_   : Nat
  words : List Nat
  moved : Nat
  deriving DecidableEq, Repr

/-- A UART behind its registers (R463): bytes that wait for the shifter, the tick at which it is free, and the bytes
received with their framing and parity flags. -/
structure Uart where
  tx   : List Byte
  free : Nat
  rx   : List (Byte × Bool × Bool)
  deriving DecidableEq, Repr

/-- What the processors' side of the device holds behind its registers. -/
structure Soc where
  /-- sources that a read of CLAIMp has masked, as a mask per pair (R441) -/
  masked : List Nat
  /-- DMA sources pending, as a mask (R440, R444) -/
  dmaIrq : Nat
  dma    : List Dma
  /-- DMA channel 0 runs on descriptors that the boot ROM builds (R456) -/
  bootDma : Bool
  /-- pairs that wait in WFI, and the device is in STOP (R439) -/
  wfi    : List Bool
  stop   : Bool
  eth    : List Eth
  /-- the management frame in progress: read, PHY, register, data (R461) -/
  mdio   : Option (Bool × Nat × Nat × Nat)
  /-- the flash transfers: the CMD words of the one that runs and of those that wait (R462) -/
  qspi   : Option Nat
  qspiWait : List Nat
  uart   : List Uart
  /-- CMD words of the I2C and the SPI transfer in progress (R464, R465) -/
  i2c    : Option Nat
  spi    : Option Nat
  /-- the UART image so far, and how often its present block has failed (R456) -/
  upload : List Byte
  fails  : Nat
  /-- a UART image is being received -/
  loading : Bool
  /-- an uncorrectable ECC error has fallen in the load (R455) -/
  romEcc : Bool
  /-- TAP: instruction register, the outstanding challenge, failed responses, debug unlocked (R457) -/
  tapIr  : Nat
  challenge : Option (List Byte)
  tapFails : Nat
  unlocked : Bool
  /-- memory contents that the present command makes undefined: of the DRAM, or of every memory (R61, R449) -/
  wipe : Option Bool
  deriving DecidableEq, Repr

/-! ### The device -/

/-- The HY192 without its byte memories. -/
structure Dev where
  phase  : Phase
  /-- RST_N and the pin GDEN as driven by the board -/
  rstN   : Bool
  gdenPin : Bool
  pins   : Pins
  /-- register fields: current values, and the shadows of SH fields -/
  regs   : RegFile
  /-- the values in force of SH fields (R4), under the same keys -/
  act    : RegFile
  /-- pages whose first unlock key waits for the second (R107) -/
  unlock : List Nat
  /-- the words latched by a read of the lowest word of a wide value (R100): address and value -/
  latched : List (Nat × Nat)
  /-- what the last bus access answered: none after a write that was accepted or ignored, `some none` a bus error -/
  reply  : Option (Option Nat)
  /-- error occurrences on their way to the fault collector -/
  reports : List Report
  /-- bits reported in this tick: page and bit (R104) -/
  told   : List (Nat × Nat)
  /-- what has met in this tick -/
  meets  : Meets
  /-- pages inside a block reset -/
  inBlk  : List Nat
  /-- RSTCAUSE bits of the reset just entered: causes that coincide are all recorded (R64) -/
  causes : List Nat
  /-- fabric ticks since the straps were latched -/
  ticks  : Nat
  /-- nominal nanoseconds of fabric ticks since the straps were latched, on SYNA or on a bypass clock -/
  ns     : Nat
  /-- how many free values have been taken -/
  fresh  : Nat
  /-- TIME in units of 2^-40 ns (R123) -/
  time   : Nat
  gates  : List Gate
  chop   : Chop
  pwm    : List PwmU
  /-- units that have loaded in this tick (R164, R271) -/
  loadedT : List Nat
  /-- delay lines calibrated since reset, as a mask (R277) -/
  dlDone : Nat
  /-- the corrections in use of the 64 taps of each delay line, 3.125 ps (R469, R470) -/
  dlTaps : List (List Int)
  /-- the commit grid in force in a hub: T0 in 2^-16 ns, TSF and t_so in ticks (R17 to R19) -/
  hgT0   : Nat
  hgTsf  : Nat
  hgSo   : Nat
  /-- the Squall channels behind their registers -/
  sq     : List SqCh
  /-- a wake of CPU pair 0 is requested (R320) -/
  wake   : Bool
  /-- the correction in force of each Squall channel, in quarter steps (R321) -/
  sqCorr : List Int
  adc    : List Adc
  /-- CALSTORE: the entries that differ from the factory's, each its eight words (R467) -/
  calstore : List (Nat × List Nat)
  /-- the entries as the blocks last loaded them (R470), in the same form -/
  calUse : List (Nat × List Nat)
  /-- the operation CALS runs, its entry and the words it writes (R471 to R476) -/
  calBusy : Option (Nat × List Nat)
  /-- the calibration points measured: value and temperature (R474) -/
  calPt  : List (Option (Int × Int))
  fcol   : Fcol
  thrm   : Thrm
  motr   : Motr
  tstk   : Tstk
  tb     : Tb
  spd    : Spd
  ports  : List Port
  srv    : Srv
  vn     : Vn
  hub    : Hub
  iso    : Iso
  le     : List Le
  /-- commands applied, and the words PREF, VLV, MREF, MSLP, APP0 to APP2 of the last (R363) -/
  applied : Nat
  cmdIn  : List Nat
  /-- Isobar runs ended (R363) -/
  isoRuns : Nat
  /-- Anemograph descriptors that are not all zero, by number -/
  an     : List (Nat × AnDesc)
  /-- triggers of the fault collector on their way to Anemograph (R452) -/
  anTrig : List AnTrig
  /-- the last of them that Anemograph has taken (R452) -/
  anPast : Option AnTrig
  /-- the tick and the time of the last software trigger (R452) -/
  anSoft : Option (Nat × Nat)
  /-- the tick at which the commit grid last began to run (R335) -/
  gridAt : Nat
  /-- superframes since the straps were latched: commit instants passed -/
  sf     : Nat
  /-- bytes that the present command stores, put into the memories when it ends: memory, offset, bytes -/
  stores : List (MemId × Nat × List Byte)
  /-- tick of the last local change of the cell state, and the state before it (R73) -/
  cellTick : Option (Nat × Nat)
  /-- tick of the last requested transition of the cell state, and the state before it (R73) -/
  cellReq : Option (Nat × Nat)
  /-- a state request that has been refused, until its tick ends: the tick, and the ports whose next T frame shows it for this
  request alone, and whether it was counted (R72, R73) -/
  cellBad : Option (Nat × Bool × List Bool)
  clk    : Clk
  soc    : Soc
  /-- what the ports and pins have sent, oldest first: the model's own log of its outputs -/
  sent   : List Sent
  deriving DecidableEq, Repr

/-! ### What reset leaves behind the registers -/

def meets0 : Meets := ⟨[], [], [], [], [], [], none, none⟩
def gate0 : Gate := ⟨false, false, false, false, 0, 0, none⟩
def pwm0 : PwmU := ⟨false, false, false, [], false, 0, 0, false, 0, 0, 0, 0, false, 0, 0, 0, 0, .idle, 0, 0, 0, 0, false, 0, 0, []⟩
def adc0 : Adc := ⟨none, [], none, [], none, 0, none, [0, 0], 0, 0, 0, 0, 0⟩
def fcol0 : Fcol := ⟨[], [], [], 0, none, [], [], false, none⟩
def thrm0 : Thrm := ⟨[0, 0, 0], [0, 0, 0], 0, [], [(0, 0), (0, 0), (0, 0), (0, 0)], none, none, none⟩
def sq0 : SqCh := ⟨none, false, false, false, false, none, false, none, none, false⟩
def leg0 : Leg := ⟨.drive, none, none⟩
def motr0 : Motr := ⟨[leg0, leg0, leg0], false, false, 0, 0, none, (false, 0, 0), none, 0, 0, false, false, 0⟩
def tstk0 : Tstk := ⟨0, [], [none, none], 0⟩
def tpo0 : Tpo := ⟨0, none, none, false⟩
def tb0 : Tb := ⟨0, [tpo0, tpo0, tpo0, tpo0], [[], []], [none, none], [], []⟩
def spd0 : Spd :=
  ⟨0, 0, false, 0, false, 0, 0, List.replicate 32 0, List.replicate 32 false, [], [0, 0, 0], none, 0, 0, false, false, none, 0,
    0, none, (0, 0), (0, 0), (0, 0), 0, 0⟩
def port0 : Port :=
  ⟨0, 0, false, [], [], [], none, 0, 0, 0, false, none, 0, 0, true, [], [], [], none, [], none, [], none, [], []⟩
def srv0 : Srv :=
  ⟨[false, false], [false, false], [false, false], [0, 0], [0, 0], [0, 0], [0, 0], false, 0, 0, none⟩
def vn0 : Vn := ⟨0, [], false, none, [0, 0], none⟩
def pos0 : Pos := ⟨false, false, false, false, false, false, 0, 0, 0, 0, none⟩
def strand0 : Strand := ⟨List.replicate 48 pos0, 0, 0, 0, 0x3F, 0x3F, 0x3F⟩
def peer0 : Peer := ⟨0, 0, 4, false, false, false, false, 0, 0, none, 0, 0, none, []⟩
def hub0 : Hub :=
  ⟨List.replicate 8 strand0, [], [peer0, peer0], 0, 0, none, 0, false, false, false, false, 0, none, 0, [], false, [], none, [],
    [], [], true, false⟩
def iso0 : Iso := ⟨[], [], none, false, 0, true, none, 0, false, 0⟩
def le0 : Le := ⟨false, none, none, List.replicate 8 0, List.replicate 8 0, List.replicate 8 0, 0, 0, true, 0, false⟩
def clk0 : Clk := ⟨[false, false, false], [false, false], [false, false], [0, 0], .idle, 0, false⟩
def eth0 : Eth := ⟨[], []⟩
def uart0 : Uart := ⟨[], 0, []⟩
def dma0 : Dma := ⟨0, [], 0⟩
def soc0 : Soc :=
  ⟨[0, 0], 0, List.replicate 16 dma0, false, [false, false], false, [eth0, eth0], none, none, [], [uart0, uart0], none, none,
    [], 0, false, false, 0x01, none, 0, false, none⟩

/-- Every output at high impedance (R46). -/
def Pins.off : Pins :=
  ⟨.hiZ, .hiZ, .hiZ, .hiZ, .hiZ, .hiZ, .hiZ, .hiZ, .hiZ, .hiZ, .hiZ, [.hiZ, .hiZ, .hiZ, .hiZ], .hiZ, .hiZ⟩

/-- A device held in reset, before it has run: every register at its reset value, nothing behind the registers, the
serial number of free values at its start, no input driven. -/
def Dev.fresh0 : Dev where
  phase := .held
  rstN := true
  gdenPin := false
  pins := Pins.off
  regs := []
  act := []
  unlock := []
  latched := []
  reply := none
  reports := []
  told := []
  meets := meets0
  inBlk := []
  causes := []
  ticks := 0
  ns := 0
  fresh := 0
  time := 0
  gates := List.replicate 12 gate0
  chop := ⟨0, false, false, false, false, 0⟩
  pwm := List.replicate 7 pwm0
  loadedT := []
  dlDone := 0
  dlTaps := List.replicate 13 (List.replicate 64 0)
  hgT0 := 0
  hgTsf := 0
  hgSo := 0
  sq := List.replicate 16 sq0
  wake := false
  sqCorr := List.replicate 16 0
  adc := [adc0, adc0]
  calstore := []
  calUse := []
  calBusy := none
  calPt := [none, none]
  fcol := fcol0
  thrm := thrm0
  motr := motr0
  tstk := tstk0
  tb := tb0
  spd := spd0
  ports := List.replicate 10 port0
  srv := srv0
  vn := vn0
  hub := hub0
  iso := iso0
  le := List.replicate 8 le0
  applied := 0
  cmdIn := []
  isoRuns := 0
  an := []
  anTrig := []
  anPast := none
  anSoft := none
  gridAt := 0
  sf := 0
  stores := []
  cellTick := none
  cellReq := none
  cellBad := none
  clk := clk0
  soc := soc0
  sent := []

/-! ### The memories -/

/-- Bytes of a memory that have been written, addresses strictly rising. -/
abbrev Memory := List Host.Cell

/-- The byte memories, and what makes an unlisted byte's value: how often their contents have become undefined. -/
structure Mems where
  tcm0 : Memory
  tcm1 : Memory
  sram : Memory
  dram : Memory
  /-- system-level resets (R61), and losses of the DRAM contents (R449) -/
  gen  : Nat
  dgen : Nat
  deriving DecidableEq, Repr

/-- The state of the device: `Dev`, its memories, and the commands that wait, first in, first out. -/
structure State extends Dev where
  mems : Mems
  pending : List Instr
  deriving DecidableEq, Repr

/-! ### The state after reset -/

/-- The register fields whose value after reset is not the one in the tables: what a cell with all straps low has (R7, R44,
R383, R390), and the boot report of an empty flash. The lists are what `Dev.strapLatch` leaves (`test_reset_is_strap_latch`). -/
def State.resetRegs : RegFile :=
  [(2816, 8), (2828, 15), (2099200, 1), (2099328, 200), (4210688, 1), (4210944, 2), (4211200, 1028),
    (4211328, 24576), (4211456, 8), (4211712, 16), (4211968, 32), (4212224, 64), (4212480, 640), (4212736, 256),
    (4212992, 768), (4213248, 1024), (4213504, 2113931264), (4213632, 8184), (4213760, 14687232), (4214016, 14691328),
    (4214272, 14699520), (4214528, 14715904), (4214784, 14748672), (4215040, 14814208), (4215296, 14945280),
    (4215552, 15207424), (4215808, 7341056), (4216064, 2097152), (4216320, 4194304), (4216576, 8388608),
    (4216832, 2130706432), (4216960, 7), (4217088, 33554432), (4217216, 7), (4217344, 67108864), (4217472, 7),
    (4217600, 134217728), (4217728, 7), (4217856, 268435456), (4217984, 7), (4218112, 536870912), (4218240, 7),
    (4218368, 1073741824), (4218496, 7), (4218624, 2147483648), (4219008, 1), (4219264, 2), (4219520, 4),
    (4219648, 8390656), (4219776, 8169), (4219904, 8390656), (4220032, 8177), (4220160, 2122317824), (4220288, 32),
    (4220416, 2122317824), (4220544, 64), (4220672, 2122317824), (4220800, 128), (4220928, 2122317824),
    (4221056, 256), (4221184, 2122317824), (4221312, 512), (4221440, 2122317824), (4221568, 1024),
    (4221696, 2122317824), (4221824, 2048), (4221952, 2122317824), (4222080, 4096), (4222336, 8192), (4222464, 512),
    (4222592, 16384)] ++
  [(4222848, 32768), (4227456, 5), (4227584, 513), (4228864, 1), (12649472, 4294967295), (12649600, 4294967295),
    (12649728, 2147483647), (33555076, 1), (33556480, 1), (35653633, 1), (35653888, 0), (35654016, 0), (35654024, 0),
    (35654144, 0), (35654160, 0), (35654272, 0), (35654400, 0), (35654416, 0), (35654528, 0), (67110912, 1),
    (67110914, 1), (67110923, 1), (67178512, 0), (67241984, 1), (67241986, 1), (67241995, 1), (67309584, 0),
    (69340703, 0), (134283394, 1), (134283423, 1), (134349443, 1), (134350852, 1), (134350860, 1), (134350862, 1),
    (134480515, 1), (134481924, 1), (134481932, 1), (134481933, 1), (134481934, 1), (134611587, 1), (134612996, 1),
    (134613007, 1), (134742659, 1), (134744068, 1), (134744079, 1), (134873731, 1), (134875140, 1), (134875151, 1),
    (135004803, 1), (135006212, 1), (135006223, 1), (135137280, 2), (135137408, 14), (135137416, 15), (135200768, 0),
    (135201152, 0), (135201280, 0), (136317056, 1), (136317184, 2), (136317312, 3), (136317440, 4), (136317568, 5),
    (136317696, 6), (136317824, 7), (136317952, 8), (136318080, 9), (136318208, 10), (136318336, 11), (136319252, 1),
    (136319380, 1), (136319508, 2), (136319636, 2)]

/-- The machine right after a power-on reset (R60): straps latched with every strap low, so a cell node on REFCLK of
25 MHz whose boot ROM has read the headers of both images in a flash which holds nothing (PRESUMED levels: the spec gives
straps no default); outputs at their safe levels; no memory byte written; no command waiting. -/
def State.reset : State where
  toDev := { Dev.fresh0 with
    phase := .running
    pins := { Pins.off with cbyp := .high, faultN := .low, alive := .low, scoHs := .low, scoLs := .low, hkG := .low,
                            qspiCsN := .high, lockA := .low, lockB := .low }
    regs := State.resetRegs
    act := [(2099328, 200), (135200768, 0), (135201152, 0), (135201280, 0)]
    clk := { clk0 with rom := .wait }
    sent := [.qspi ⟨3, 0, 19, 0, some (3, 0), [], 256⟩, .qspi ⟨3, 0, 19, 0, some (3, 0x400000), [], 256⟩] }
  mems := ⟨[], [], [], [], 0, 0⟩
  pending := []

/-- Why a step stops with a fault. No command does: a bus error, an error flag and a hold are effects the spec gives. -/
inductive Fault where
  /-- raised by no command; safe: nothing is proved of a run that stops -/
  | never
  deriving DecidableEq, Repr

/-- Why a command has no meaning. -/
inductive Refusal where
  /-- raised by the dispatcher for a command whose meaning is not written; safe: the run stops -/
  | notModelled (mnemonic : String)
  deriving DecidableEq, Repr

end Sys2Proof.Machine
end

