-- ==== Sys2Proof/Machine/Regs.lean ====
section
/-! DEFINITION. The register fields of every page (the register tables of the chapters that own the pages):
one named `Fld` per field (`PAGE.REGISTER_FIELD`; a register that is one field is `PAGE.REGISTER`; a register
array takes its index), the bit numbers of every page's ERRSTAT (`PAGE.E_NAME`) and IRQFLG (`PAGE.I_NAME`), and
per kind of page the table of its registers with access type, place, width and reset value (R4, R99, R103). -/

namespace Sys2Proof.Machine

/-! ### SYSC -/

def SYSC.STRAP_INV : Fld := ⟨0x040, 6, 1, 0x0⟩
def SYSC.STRAP_REF : Fld := ⟨0x040, 4, 2, 0x0⟩
def SYSC.STRAP_BOOT : Fld := ⟨0x040, 2, 2, 0x0⟩
def SYSC.STRAP_ROLE : Fld := ⟨0x040, 0, 2, 0x0⟩
def SYSC.RSTCAUSE_BOR_RAIL : Fld := ⟨0x044, 8, 3, 0x0⟩
def SYSC.RSTCAUSE_DBG : Fld := ⟨0x044, 4, 1, 0x0⟩
def SYSC.RSTCAUSE_SW : Fld := ⟨0x044, 3, 1, 0x0⟩
def SYSC.RSTCAUSE_PIN : Fld := ⟨0x044, 2, 1, 0x0⟩
def SYSC.RSTCAUSE_BOR : Fld := ⟨0x044, 1, 1, 0x0⟩
def SYSC.RSTCAUSE_POR : Fld := ⟨0x044, 0, 1, 0x1⟩
def SYSC.PWRSTAT_VDDQ_OK : Fld := ⟨0x048, 6, 1, 0x0⟩
def SYSC.PWRSTAT_RAIL_OK : Fld := ⟨0x048, 0, 6, 0x3F⟩
def SYSC.SWRST_KEY : Fld := ⟨0x04C, 16, 16, 0x0⟩
def SYSC.SWRST_SYSRST : Fld := ⟨0x04C, 0, 1, 0x0⟩
def SYSC.RELEASE_TSTK : Fld := ⟨0x050, 1, 1, 0x0⟩
def SYSC.RELEASE_CPU1 : Fld := ⟨0x050, 0, 1, 0x0⟩
def SYSC.BLKRST_GO : Fld := ⟨0x054, 31, 1, 0x0⟩
def SYSC.BLKRST_PAGE : Fld := ⟨0x054, 0, 16, 0x0⟩
def SYSC.BOOTSTAT_PHASE : Fld := ⟨0x058, 12, 4, 0x0⟩
def SYSC.BOOTSTAT_CODE : Fld := ⟨0x058, 0, 8, 0x0⟩
def SYSC.CELLSTATE_INVALID_CNT : Fld := ⟨0x05C, 16, 16, 0x0⟩
def SYSC.CELLSTATE_ENUM : Fld := ⟨0x05C, 12, 1, 0x0⟩
def SYSC.CELLSTATE_CAUSE : Fld := ⟨0x05C, 8, 4, 0x0⟩
def SYSC.CELLSTATE_PREV : Fld := ⟨0x05C, 4, 3, 0x0⟩
def SYSC.CELLSTATE_STATE : Fld := ⟨0x05C, 0, 3, 0x0⟩
def SYSC.CELLCMD_CLRCNT : Fld := ⟨0x060, 1, 1, 0x0⟩
def SYSC.CELLCMD_BYPASS : Fld := ⟨0x060, 0, 1, 0x0⟩
def SYSC.VDCWIN_MAX : Fld := ⟨0x064, 16, 16, 0xFFFF⟩
def SYSC.VDCWIN_MIN : Fld := ⟨0x064, 0, 16, 0xFFFF⟩
def SYSC.E_KEY_ERR : Nat := 0
def SYSC.E_BLKRST_DENY : Nat := 1

/-! ### SYN -/

def SYN.CFG_TCOMP_EN : Fld := ⟨0x040, 13, 1, 0x1⟩
def SYN.CFG_AUTOREL : Fld := ⟨0x040, 12, 1, 0x1⟩
def SYN.CFG_BW : Fld := ⟨0x040, 8, 3, 0x3⟩
def SYN.CFG_PRE : Fld := ⟨0x040, 4, 2, 0x0⟩
def SYN.CFG_REFSEL : Fld := ⟨0x040, 1, 2, 0x0⟩
def SYN.CFG_EN : Fld := ⟨0x040, 0, 1, 0x0⟩
def SYN.FBINT_INT : Fld := ⟨0x044, 0, 10, 0x0⟩
def SYN.FBFRAC_FRAC : Fld := ⟨0x048, 0, 24, 0x0⟩
def SYN.POSTDIV_DDRDIV : Fld := ⟨0x04C, 24, 3, 0x4⟩
def SYN.POSTDIV_EODINT : Fld := ⟨0x04C, 16, 6, 0x26⟩
def SYN.POSTDIV_EODNUM : Fld := ⟨0x04C, 8, 8, 0x2⟩
def SYN.POSTDIV_EODDEN : Fld := ⟨0x04C, 0, 8, 0x5⟩
def SYN.RELOCK_GO : Fld := ⟨0x050, 0, 1, 0x0⟩
def SYN.LOCKSTAT_FINE : Fld := ⟨0x054, 16, 16, 0x8000⟩
def SYN.LOCKSTAT_BAND : Fld := ⟨0x054, 10, 6, 0x0⟩
def SYN.LOCKSTAT_ACTREF : Fld := ⟨0x054, 8, 2, 0x0⟩
def SYN.LOCKSTAT_PHASE : Fld := ⟨0x054, 4, 3, 0x0⟩
def SYN.LOCKSTAT_GATED : Fld := ⟨0x054, 3, 1, 0x1⟩
def SYN.LOCKSTAT_REFOK : Fld := ⟨0x054, 2, 1, 0x0⟩
def SYN.LOCKSTAT_FINE_LOCK : Fld := ⟨0x054, 1, 1, 0x0⟩
def SYN.LOCKSTAT_FREQ_OK : Fld := ⟨0x054, 0, 1, 0x0⟩
def SYN.LOCKWIN_PHWIN : Fld := ⟨0x058, 0, 8, 0xC⟩
def SYN.TCOMP_TC : Fld := ⟨0x05C, 0, 16, 0x83⟩
def SYN.BANDCAL_GO : Fld := ⟨0x060, 31, 1, 0x0⟩
def SYN.BANDCAL_DONE : Fld := ⟨0x060, 30, 1, 0x0⟩
def SYN.BANDCAL_GATE : Fld := ⟨0x060, 8, 2, 0x0⟩
def SYN.BANDCAL_CODE : Fld := ⟨0x060, 0, 6, 0x0⟩
def SYN.BANDCNT_COUNT : Fld := ⟨0x064, 0, 20, 0x0⟩
def SYN.BANDTBL_VALID (n : Nat) : Fld := ⟨0x100 + 0x4 * n, 31, 1, 0x0⟩
def SYN.BANDTBL_FCTR (n : Nat) : Fld := ⟨0x100 + 0x4 * n, 0, 16, 0x0⟩
def SYN.E_LOL : Nat := 0
def SYN.E_REFLOSS : Nat := 1
def SYN.E_CFG_INVALID : Nat := 2
def SYN.E_BAND_NONE : Nat := 3
def SYN.E_BANDCAL_ABORT : Nat := 4
def SYN.E_TUNE_MARGIN : Nat := 5
def SYN.I_LOL : Nat := 0
def SYN.I_REFLOSS : Nat := 1
def SYN.I_CFG_INVALID : Nat := 2
def SYN.I_BAND_NONE : Nat := 3
def SYN.I_BANDCAL_ABORT : Nat := 4
def SYN.I_TUNE_MARGIN : Nat := 5

/-! ### CKSW -/

def CKSW.CKSTAT_SWCNT : Fld := ⟨0x040, 16, 16, 0x0⟩
def CKSW.CKSTAT_REFQ : Fld := ⟨0x040, 2, 1, 0x0⟩
def CKSW.CKSTAT_SRC : Fld := ⟨0x040, 0, 2, 0x2⟩
def CKSW.CKCTL_AUTORET : Fld := ⟨0x044, 8, 1, 0x0⟩
def CKSW.CKCTL_CPUDIV : Fld := ⟨0x044, 4, 1, 0x0⟩
def CKSW.CKCTL_GOBYP : Fld := ⟨0x044, 1, 1, 0x0⟩
def CKSW.CKCTL_GOSYN : Fld := ⟨0x044, 0, 1, 0x0⟩
def CKSW.OSCTRIM_TCEN : Fld := ⟨0x048, 8, 1, 0x1⟩
def CKSW.OSCTRIM_TRIM : Fld := ⟨0x048, 0, 8, 0x80⟩
def CKSW.E_BYPASS_ENTERED : Nat := 0
def CKSW.E_BYPREF_LOST : Nat := 1
def CKSW.E_OSC_FAIL : Nat := 2
def CKSW.E_GOSYN_DENY : Nat := 3

/-! ### FCOL -/

def FCOL.STAT_WINDOW : Fld := ⟨0x014, 3, 1, 0x0⟩
def FCOL.STAT_ALIVERUN : Fld := ⟨0x014, 2, 1, 0x0⟩
def FCOL.STAT_FNASSERT : Fld := ⟨0x014, 1, 1, 0x1⟩
def FCOL.STAT_FATAL : Fld := ⟨0x014, 0, 1, 0x0⟩
def FCOL.CFG_HUBCODE : Fld := ⟨0x040, 0, 4, 0x3⟩
def FCOL.INJCFG_FATAL : Fld := ⟨0x044, 31, 1, 0x0⟩
def FCOL.INJCFG_ACT : Fld := ⟨0x044, 0, 10, 0x3⟩
def FCOL.ALIVECFG_KICKTO : Fld := ⟨0x048, 24, 8, 0x0⟩
def FCOL.ALIVECFG_HALF : Fld := ⟨0x048, 0, 13, 0x1F4⟩
def FCOL.RCT_FAT (n : Nat) : Fld := ⟨0x100 + 0x4 * n, 20, 10, 0x197⟩
def FCOL.RCT_UNC (n : Nat) : Fld := ⟨0x100 + 0x4 * n, 10, 10, 0x3⟩
def FCOL.RCT_COR (n : Nat) : Fld := ⟨0x100 + 0x4 * n, 0, 10, 0x0⟩
def FCOL.DEPLO (n : Nat) : Fld := ⟨0x200 + 0x8 * n, 0, 32, 0x0⟩
def FCOL.DEPHI (n : Nat) : Fld := ⟨0x204 + 0x8 * n, 0, 16, 0x0⟩
def FCOL.GRCT (n : Nat) : Fld := ⟨0x400 + 0x4 * n, 0, 10, 0x0⟩
def FCOL.FSTATLO : Fld := ⟨0x800, 0, 32, 0x0⟩
def FCOL.FSTATHI : Fld := ⟨0x804, 0, 16, 0x0⟩
def FCOL.GSTAT : Fld := ⟨0x808, 0, 16, 0x0⟩
def FCOL.FNCTL_RELEASE : Fld := ⟨0x80C, 31, 1, 0x0⟩
def FCOL.ALIVEKICK_KICK : Fld := ⟨0x810, 31, 1, 0x0⟩
def FCOL.ACK_GO : Fld := ⟨0x814, 31, 1, 0x0⟩
def FCOL.ACK_GUST : Fld := ⟨0x814, 6, 1, 0x0⟩
def FCOL.ACK_SRC : Fld := ⟨0x814, 0, 6, 0x0⟩
def FCOL.RECWR : Fld := ⟨0x818, 0, 11, 0x0⟩
def FCOL.RECRD : Fld := ⟨0x81C, 0, 11, 0x0⟩
def FCOL.RECCNT_RECOVF : Fld := ⟨0x820, 16, 16, 0x0⟩
def FCOL.RECCNT_WRITTEN : Fld := ⟨0x820, 0, 16, 0x0⟩
def FCOL.CNTCLR : Fld := ⟨0x824, 0, 1, 0x0⟩
def FCOL.FATALREC (n : Nat) : Fld := ⟨0x840 + 0x4 * n, 0, 32, 0x0⟩
def FCOL.CORCNT (n : Nat) : Fld := ⟨0x900 + 0x4 * n, 0, 16, 0x0⟩
def FCOL.E_CFG_REJ : Nat := 0
def FCOL.E_REC_OVF : Nat := 1
def FCOL.E_KICK_MISS : Nat := 2
def FCOL.I_REC : Nat := 0
def FCOL.I_FATAL : Nat := 1
def FCOL.I_GUST : Nat := 2
def FCOL.I_OVF : Nat := 3

/-! ### THRM -/

def THRM.STAT_EVBUSY : Fld := ⟨0x014, 1, 1, 0x0⟩
def THRM.STAT_HOLDSTBY : Fld := ⟨0x014, 0, 1, 0x0⟩
def THRM.CFG_SENSEN : Fld := ⟨0x040, 16, 4, 0xF⟩
def THRM.CFG_DWELL : Fld := ⟨0x040, 8, 8, 0xA⟩
def THRM.CFG_BULKSTOP : Fld := ⟨0x040, 1, 1, 0x1⟩
def THRM.CFG_CPUHALF : Fld := ⟨0x040, 0, 1, 0x1⟩
def THRM.THWARN_TH : Fld := ⟨0x044, 16, 16, 0x6E0⟩
def THRM.THWARN_HYS : Fld := ⟨0x044, 0, 12, 0x50⟩
def THRM.THTHR_TH : Fld := ⟨0x048, 16, 16, 0x780⟩
def THRM.THTHR_HYS : Fld := ⟨0x048, 0, 12, 0x50⟩
def THRM.THSHUT_TH : Fld := ⟨0x04C, 16, 16, 0x870⟩
def THRM.THSHUT_HYS : Fld := ⟨0x04C, 0, 12, 0xA0⟩
def THRM.TCRIT : Fld := ⟨0x050, 0, 16, 0x910⟩
def THRM.DERATE0_DSTART : Fld := ⟨0x054, 16, 16, 0x640⟩
def THRM.DERATE0_DEND : Fld := ⟨0x054, 0, 16, 0x780⟩
def THRM.DERATE1_PCEILSW : Fld := ⟨0x058, 8, 8, 0xFF⟩
def THRM.DERATE1_DMIN : Fld := ⟨0x058, 0, 8, 0x80⟩
def THRM.EXT_EN (n : Nat) : Fld := ⟨0x060 + 0x4 * n, 31, 1, 0x0⟩
def THRM.EXT_ADC (n : Nat) : Fld := ⟨0x060 + 0x4 * n, 30, 1, 0x0⟩
def THRM.EXT_CH (n : Nat) : Fld := ⟨0x060 + 0x4 * n, 0, 4, 0x0⟩
def THRM.NTCPT_CODE (n : Nat) : Fld := ⟨0x080 + 0x4 * n, 16, 16, 0x0⟩
def THRM.NTCPT_TEMP (n : Nat) : Fld := ⟨0x080 + 0x4 * n, 0, 16, 0x0⟩
def THRM.EVCFG_EN : Fld := ⟨0x0A0, 31, 1, 0x0⟩
def THRM.EVCFG_A4 : Fld := ⟨0x0A0, 30, 1, 0x0⟩
def THRM.EVBASE : Fld := ⟨0x0A4, 0, 32, 0x0⟩
def THRM.EVEND : Fld := ⟨0x0A8, 0, 32, 0x0⟩
def THRM.EVNEXT : Fld := ⟨0x0AC, 0, 32, 0x0⟩
def THRM.TDIE_TVALID : Fld := ⟨0x800, 31, 1, 0x0⟩
def THRM.TDIE_T : Fld := ⟨0x800, 0, 16, 0x0⟩
def THRM.TG_GSRC : Fld := ⟨0x804, 16, 4, 0x0⟩
def THRM.TG_T : Fld := ⟨0x804, 0, 16, 0x0⟩
def THRM.TSENS_VALID (n : Nat) : Fld := ⟨0x810 + 0x4 * n, 31, 1, 0x0⟩
def THRM.TSENS_T (n : Nat) : Fld := ⟨0x810 + 0x4 * n, 0, 16, 0x0⟩
def THRM.EXTT_VALID (n : Nat) : Fld := ⟨0x820 + 0x4 * n, 31, 1, 0x0⟩
def THRM.EXTT_T (n : Nat) : Fld := ⟨0x820 + 0x4 * n, 0, 16, 0x0⟩
def THRM.LEVEL_PCEIL : Fld := ⟨0x830, 16, 8, 0xFF⟩
def THRM.LEVEL_TOGCNT : Fld := ⟨0x830, 8, 8, 0x0⟩
def THRM.LEVEL_CRIT : Fld := ⟨0x830, 4, 1, 0x0⟩
def THRM.LEVEL_TOGLATCH : Fld := ⟨0x830, 3, 1, 0x0⟩
def THRM.LEVEL_SHUTDOWN : Fld := ⟨0x830, 2, 1, 0x0⟩
def THRM.LEVEL_THROTTLE : Fld := ⟨0x830, 1, 1, 0x0⟩
def THRM.LEVEL_WARN : Fld := ⟨0x830, 0, 1, 0x0⟩
def THRM.CMD_RESUME : Fld := ⟨0x834, 31, 1, 0x0⟩
def THRM.EVCNT_DROPPED : Fld := ⟨0x838, 16, 16, 0x0⟩
def THRM.EVCNT_WRITTEN : Fld := ⟨0x838, 0, 16, 0x0⟩
def THRM.E_CFG_REJ : Nat := 0
def THRM.E_WARN : Nat := 1
def THRM.E_THROTTLE : Nat := 2
def THRM.E_TOG_LATCH : Nat := 3
def THRM.E_SHUTDOWN : Nat := 4
def THRM.E_CRIT : Nat := 5
def THRM.E_SENS_FAIL : Nat := 6
def THRM.E_EXT_FAIL : Nat := 7
def THRM.E_EV_FAIL : Nat := 8
def THRM.E_EV_FULL : Nat := 9
def THRM.I_LEVEL_CHG : Nat := 0
def THRM.I_EV_DONE : Nat := 1

/-! ### TSTK -/

def TSTK.CFG_TESTEN : Fld := ⟨0x040, 6, 1, 0x1⟩
def TSTK.CFG_TROV3 : Fld := ⟨0x040, 5, 1, 0x1⟩
def TSTK.CFG_TRFATAL : Fld := ⟨0x040, 4, 1, 0x0⟩
def TSTK.CFG_TRFCOL : Fld := ⟨0x040, 3, 1, 0x1⟩
def TSTK.CFG_IN1EN : Fld := ⟨0x040, 1, 1, 0x1⟩
def TSTK.CFG_IN0EN : Fld := ⟨0x040, 0, 1, 0x1⟩
def TSTK.INCFG_DISC1 : Fld := ⟨0x044, 16, 9, 0x64⟩
def TSTK.INCFG_DISC0 : Fld := ⟨0x044, 0, 9, 0x64⟩
def TSTK.TESTCFG_TIVL : Fld := ⟨0x048, 20, 12, 0xA⟩
def TSTK.TESTCFG_TPULSE : Fld := ⟨0x048, 9, 9, 0xC8⟩
def TSTK.TESTCFG_TSW : Fld := ⟨0x048, 0, 9, 0xC8⟩
def TSTK.CMD_ENERGISE : Fld := ⟨0x800, 31, 1, 0x0⟩
def TSTK.CMD_DEENERGISE : Fld := ⟨0x800, 30, 1, 0x0⟩
def TSTK.CMD_TESTNOW : Fld := ⟨0x800, 29, 1, 0x0⟩
def TSTK.CMD_CLRDISC : Fld := ⟨0x800, 28, 1, 0x0⟩
def TSTK.CMD_KEY : Fld := ⟨0x800, 0, 16, 0x0⟩
def TSTK.TSTAT_FLT : Fld := ⟨0x804, 28, 4, 0x0⟩
def TSTK.TSTAT_OSCF : Fld := ⟨0x804, 27, 1, 0x0⟩
def TSTK.TSTAT_DLOCK : Fld := ⟨0x804, 25, 2, 0x0⟩
def TSTK.TSTAT_TRIPREQ : Fld := ⟨0x804, 24, 1, 0x0⟩
def TSTK.TSTAT_CAUSE : Fld := ⟨0x804, 16, 4, 0x0⟩
def TSTK.TSTAT_STATE : Fld := ⟨0x804, 0, 3, 0x0⟩
def TSTK.INSTAT_ACC : Fld := ⟨0x808, 4, 4, 0x0⟩
def TSTK.INSTAT_SYNC : Fld := ⟨0x808, 0, 4, 0x0⟩
def TSTK.RBSTAT_HS : Fld := ⟨0x80C, 3, 1, 0x0⟩
def TSTK.RBSTAT_LS : Fld := ⟨0x80C, 2, 1, 0x0⟩
def TSTK.RBSTAT_HSFB : Fld := ⟨0x80C, 1, 1, 0x0⟩
def TSTK.RBSTAT_LSFB : Fld := ⟨0x80C, 0, 1, 0x0⟩
def TSTK.CFGCRC : Fld := ⟨0x810, 0, 16, 0x0⟩
def TSTK.COUNTS_TRIPCNT : Fld := ⟨0x814, 16, 16, 0x0⟩
def TSTK.COUNTS_TESTCNT : Fld := ⟨0x814, 0, 16, 0x0⟩
def TSTK.NEXTTEST : Fld := ⟨0x818, 0, 12, 0x0⟩
def TSTK.E_CFG_REJ : Nat := 0
def TSTK.E_DISCREP0 : Nat := 1
def TSTK.E_DISCREP1 : Nat := 2
def TSTK.E_HS_STUCK : Nat := 3
def TSTK.E_LS_STUCK : Nat := 4
def TSTK.E_HS_OPEN : Nat := 5
def TSTK.E_LS_OPEN : Nat := 6
def TSTK.E_ENERG_REJ : Nat := 7
def TSTK.E_OSC_FAIL : Nat := 8
def TSTK.I_DEMAND : Nat := 0
def TSTK.I_TEST_DONE : Nat := 1
def TSTK.I_STATE_CHG : Nat := 2

/-! ### INTC -/

def INTC.P1BOOT : Fld := ⟨0x040, 0, 32, 0x0⟩
def INTC.SLEEPCFG_REJ : Fld := ⟨0x044, 31, 1, 0x0⟩
def INTC.SLEEPCFG_STOP : Fld := ⟨0x044, 0, 1, 0x0⟩
def INTC.SRCCFG_TGT1 (n : Nat) : Fld := ⟨0x100 + 0x4 * n, 9, 1, 0x0⟩
def INTC.SRCCFG_TGT0 (n : Nat) : Fld := ⟨0x100 + 0x4 * n, 8, 1, 0x0⟩
def INTC.SRCCFG_PRIO (n : Nat) : Fld := ⟨0x100 + 0x4 * n, 0, 4, 0x0⟩
def INTC.THRESH (n : Nat) : Fld := ⟨0x800 + 0x8 * n, 0, 4, 0x0⟩
def INTC.CLAIM (n : Nat) : Fld := ⟨0x804 + 0x8 * n, 0, 9, 0x0⟩
def INTC.SWI : Fld := ⟨0x820, 0, 8, 0x0⟩
def INTC.PEND (n : Nat) : Fld := ⟨0x900 + 0x4 * n, 0, 32, 0x0⟩
def INTC.CPUERR0 : Fld := ⟨0x980, 0, 32, 0x0⟩
def INTC.CPUERR1 : Fld := ⟨0x984, 0, 32, 0x0⟩
def INTC.MEMERR : Fld := ⟨0x988, 0, 32, 0x0⟩
def INTC.MEMADDR : Fld := ⟨0x98C, 0, 32, 0x0⟩
def INTC.E_CFG_REJ : Nat := 0

/-! ### DMA -/

def DMA.CHCTL_GO (n : Nat) : Fld := ⟨0x800 + 0x20 * n, 31, 1, 0x0⟩
def DMA.CHCTL_STOP (n : Nat) : Fld := ⟨0x800 + 0x20 * n, 30, 1, 0x0⟩
def DMA.CHCTL_KIND (n : Nat) : Fld := ⟨0x800 + 0x20 * n, 16, 4, 0x0⟩
def DMA.CHCTL_PORT (n : Nat) : Fld := ⟨0x800 + 0x20 * n, 8, 4, 0x0⟩
def DMA.CHCTL_BSTR (n : Nat) : Fld := ⟨0x800 + 0x20 * n, 0, 5, 0x0⟩
def DMA.CHDESC (n : Nat) : Fld := ⟨0x804 + 0x20 * n, 0, 32, 0x0⟩
def DMA.CHSTAT_BUSY (n : Nat) : Fld := ⟨0x808 + 0x20 * n, 31, 1, 0x0⟩
def DMA.CHSTAT_DONE (n : Nat) : Fld := ⟨0x808 + 0x20 * n, 30, 1, 0x0⟩
def DMA.CHSTAT_ERR (n : Nat) : Fld := ⟨0x808 + 0x20 * n, 29, 1, 0x0⟩
def DMA.CHSTAT_CODE (n : Nat) : Fld := ⟨0x808 + 0x20 * n, 0, 4, 0x0⟩
def DMA.E_CFG_REJ : Nat := 0

/-! ### CALS -/

def CALS.STAT_OP : Fld := ⟨0x014, 1, 3, 0x0⟩
def CALS.STAT_BUSY : Fld := ⟨0x014, 0, 1, 0x0⟩
def CALS.STGENT_ENTRY : Fld := ⟨0x040, 0, 7, 0x0⟩
def CALS.STG (n : Nat) : Fld := ⟨0x044 + 0x4 * n, 0, 32, 0x0⟩
def CALS.ACFG_ADC : Fld := ⟨0x060, 31, 1, 0x0⟩
def CALS.ACFG_AVG : Fld := ⟨0x060, 16, 4, 0x8⟩
def CALS.ACFG_INPUT : Fld := ⟨0x060, 0, 5, 0x0⟩
def CALS.ATGT_S : Fld := ⟨0x064, 16, 16, 0x0⟩
def CALS.ATGT_Z : Fld := ⟨0x064, 0, 16, 0x0⟩
def CALS.SCFG_VKQ : Fld := ⟨0x068, 16, 12, 0x0⟩
def CALS.SCFG_MODE : Fld := ⟨0x068, 8, 2, 0x0⟩
def CALS.SCFG_CH : Fld := ⟨0x068, 0, 4, 0x0⟩
def CALS.TREF_SENS : Fld := ⟨0x06C, 16, 4, 0x0⟩
def CALS.TREF_TREF : Fld := ⟨0x06C, 0, 16, 0x0⟩
def CALS.CMD_WRITE : Fld := ⟨0x800, 31, 1, 0x0⟩
def CALS.CMD_RELOAD : Fld := ⟨0x800, 30, 1, 0x0⟩
def CALS.CMD_APT1 : Fld := ⟨0x800, 29, 1, 0x0⟩
def CALS.CMD_APT2 : Fld := ⟨0x800, 28, 1, 0x0⟩
def CALS.CMD_ACOMP : Fld := ⟨0x800, 27, 1, 0x0⟩
def CALS.CMD_SQMEAS : Fld := ⟨0x800, 26, 1, 0x0⟩
def CALS.CMD_TSMEAS : Fld := ⟨0x800, 25, 1, 0x0⟩
def CALS.CMD_RLMASK : Fld := ⟨0x800, 16, 5, 0x0⟩
def CALS.CMD_KEY : Fld := ⟨0x800, 0, 16, 0x0⟩
def CALS.RES (n : Nat) : Fld := ⟨0x808 + 0x4 * n, 0, 24, 0x0⟩
def CALS.RTEMP_T2 : Fld := ⟨0x810, 16, 16, 0x0⟩
def CALS.RTEMP_T1 : Fld := ⟨0x810, 0, 16, 0x0⟩
def CALS.VALIDMAP (n : Nat) : Fld := ⟨0x820 + 0x4 * n, 0, 32, 0x0⟩
def CALS.E_CFG_REJ : Nat := 0
def CALS.E_WR_FAIL : Nat := 1
def CALS.E_MEAS_FAIL : Nat := 2
def CALS.I_DONE : Nat := 0

/-! ### TIME -/

def TIME.STAT_STEPGEN : Fld := ⟨0x014, 8, 4, 0x0⟩
def TIME.STAT_MODE : Fld := ⟨0x014, 4, 2, 0x0⟩
def TIME.STAT_SLEWING : Fld := ⟨0x014, 3, 1, 0x0⟩
def TIME.STAT_HOLDOVER : Fld := ⟨0x014, 2, 1, 0x0⟩
def TIME.STAT_VALID : Fld := ⟨0x014, 1, 1, 0x0⟩
def TIME.STAT_ONSYNA : Fld := ⟨0x014, 0, 1, 0x0⟩
def TIME.CFG_MODE : Fld := ⟨0x040, 0, 2, 0x0⟩
def TIME.TPOCFG_OFS (n : Nat) : Fld := ⟨0x100 + 0x20 * n, 24, 8, 0x0⟩
def TIME.TPOCFG_VALIDONLY (n : Nat) : Fld := ⟨0x100 + 0x20 * n, 8, 1, 0x1⟩
def TIME.TPOCFG_POL (n : Nat) : Fld := ⟨0x100 + 0x20 * n, 2, 1, 0x0⟩
def TIME.TPOCFG_MODE (n : Nat) : Fld := ⟨0x100 + 0x20 * n, 0, 2, 0x0⟩
def TIME.TPONS (n : Nat) : Fld := ⟨0x104 + 0x20 * n, 0, 30, 0x0⟩
def TIME.TPOSL (n : Nat) : Fld := ⟨0x108 + 0x20 * n, 0, 32, 0x0⟩
def TIME.TPOSH_FRAC (n : Nat) : Fld := ⟨0x10C + 0x20 * n, 16, 16, 0x0⟩
def TIME.TPOSH_SECH (n : Nat) : Fld := ⟨0x10C + 0x20 * n, 0, 16, 0x0⟩
def TIME.TPOPERNS (n : Nat) : Fld := ⟨0x110 + 0x20 * n, 0, 30, 0x0⟩
def TIME.TPOPERSF_FRAC (n : Nat) : Fld := ⟨0x114 + 0x20 * n, 16, 16, 0x0⟩
def TIME.TPOPERSF_SEC (n : Nat) : Fld := ⟨0x114 + 0x20 * n, 0, 8, 0x0⟩
def TIME.TPOWIDTH (n : Nat) : Fld := ⟨0x118 + 0x20 * n, 0, 30, 0x0⟩
def TIME.TCAPCFG_EDGE (n : Nat) : Fld := ⟨0x200 + 0x4 * n, 0, 2, 0x0⟩
def TIME.NOWNS : Fld := ⟨0x800, 0, 30, 0x0⟩
def TIME.NOWSL : Fld := ⟨0x804, 0, 32, 0x0⟩
def TIME.NOWSH_FRAC : Fld := ⟨0x808, 16, 16, 0x0⟩
def TIME.NOWSH_SECH : Fld := ⟨0x808, 0, 16, 0x0⟩
def TIME.RATE : Fld := ⟨0x810, 0, 32, 0x0⟩
def TIME.SLEWOFS : Fld := ⟨0x814, 0, 32, 0x0⟩
def TIME.SLEWCTL_GO : Fld := ⟨0x818, 31, 1, 0x0⟩
def TIME.SLEWCTL_BUSY : Fld := ⟨0x818, 30, 1, 0x0⟩
def TIME.SLEWCTL_SPD : Fld := ⟨0x818, 0, 11, 0x0⟩
def TIME.STEPNS : Fld := ⟨0x820, 0, 30, 0x0⟩
def TIME.STEPSL : Fld := ⟨0x824, 0, 32, 0x0⟩
def TIME.STEPSH_FRAC : Fld := ⟨0x828, 16, 16, 0x0⟩
def TIME.STEPSH_SECH : Fld := ⟨0x828, 0, 16, 0x0⟩
def TIME.STEPCTL_GO : Fld := ⟨0x82C, 31, 1, 0x0⟩
def TIME.STEPCTL_ABS : Fld := ⟨0x82C, 1, 1, 0x0⟩
def TIME.STEPCTL_NEG : Fld := ⟨0x82C, 0, 1, 0x0⟩
def TIME.VALIDCTL_HOLD_CLR : Fld := ⟨0x830, 3, 1, 0x0⟩
def TIME.VALIDCTL_HOLD_SET : Fld := ⟨0x830, 2, 1, 0x0⟩
def TIME.VALIDCTL_CLR : Fld := ⟨0x830, 1, 1, 0x0⟩
def TIME.VALIDCTL_SET : Fld := ⟨0x830, 0, 1, 0x0⟩
def TIME.TPOCMD_ARM (n : Nat) : Fld := ⟨0x840 + 0x4 * n, 31, 1, 0x0⟩
def TIME.TPOCMD_DISARM (n : Nat) : Fld := ⟨0x840 + 0x4 * n, 30, 1, 0x0⟩
def TIME.TPOCMD_ARMED (n : Nat) : Fld := ⟨0x840 + 0x4 * n, 29, 1, 0x0⟩
def TIME.TPOCMD_TRIGOVR (n : Nat) : Fld := ⟨0x840 + 0x4 * n, 0, 16, 0x0⟩
def TIME.TCAPINFO_VALID (n : Nat) : Fld := ⟨0xA00 + 0x10 * n, 31, 1, 0x0⟩
def TIME.TCAPINFO_EDGE (n : Nat) : Fld := ⟨0xA00 + 0x10 * n, 30, 1, 0x0⟩
def TIME.TCAPINFO_STEPGEN (n : Nat) : Fld := ⟨0xA00 + 0x10 * n, 24, 4, 0x0⟩
def TIME.TCAPINFO_FILL (n : Nat) : Fld := ⟨0xA00 + 0x10 * n, 16, 3, 0x0⟩
def TIME.TCAPINFO_MISS (n : Nat) : Fld := ⟨0xA00 + 0x10 * n, 0, 16, 0x0⟩
def TIME.TCAPNS (n : Nat) : Fld := ⟨0xA04 + 0x10 * n, 0, 30, 0x0⟩
def TIME.TCAPSL (n : Nat) : Fld := ⟨0xA08 + 0x10 * n, 0, 32, 0x0⟩
def TIME.TCAPSH_FRAC (n : Nat) : Fld := ⟨0xA0C + 0x10 * n, 16, 16, 0x0⟩
def TIME.TCAPSH_SECH (n : Nat) : Fld := ⟨0xA0C + 0x10 * n, 0, 16, 0x0⟩
def TIME.E_STEP_REJ : Nat := 0
def TIME.E_RATE_REJ : Nat := 1
def TIME.E_SLEW_REJ : Nat := 2
def TIME.E_CFG_REJ : Nat := 3
def TIME.E_TPO_REJ : Nat := 4
def TIME.E_TPO_LATE : Nat := 5
def TIME.E_TCAP_MISS : Nat := 6
def TIME.E_INVALID : Nat := 7
def TIME.I_SLEW_DONE : Nat := 0
def TIME.I_STEP_DONE : Nat := 1
def TIME.I_TPO0 : Nat := 2
def TIME.I_TPO1 : Nat := 3
def TIME.I_TPO2 : Nat := 4
def TIME.I_TPO3 : Nat := 5
def TIME.I_TCAP0 : Nat := 6
def TIME.I_TCAP1 : Nat := 7

/-! ### SPDL -/

def SPDL.STAT_ROCOF_LIM : Fld := ⟨0x014, 3, 1, 0x0⟩
def SPDL.STAT_FREEWHEEL : Fld := ⟨0x014, 2, 1, 0x0⟩
def SPDL.STAT_LOCK : Fld := ⟨0x014, 1, 1, 0x0⟩
def SPDL.STAT_VALID : Fld := ⟨0x014, 0, 1, 0x0⟩
def SPDL.CFG_FNOM : Fld := ⟨0x040, 2, 1, 0x0⟩
def SPDL.CFG_MODE : Fld := ⟨0x040, 1, 1, 0x0⟩
def SPDL.CFG_EN : Fld := ⟨0x040, 0, 1, 0x1⟩
def SPDL.TRKIN_TEN : Fld := ⟨0x044, 31, 1, 0x0⟩
def SPDL.TRKIN_LL : Fld := ⟨0x044, 30, 1, 0x0⟩
def SPDL.TRKIN_ADC : Fld := ⟨0x044, 29, 1, 0x0⟩
def SPDL.TRKIN_CHW : Fld := ⟨0x044, 8, 4, 0x0⟩
def SPDL.TRKIN_CHV : Fld := ⟨0x044, 4, 4, 0x0⟩
def SPDL.TRKIN_CHU : Fld := ⟨0x044, 0, 4, 0x0⟩
def SPDL.TRKTS_TS : Fld := ⟨0x048, 0, 15, 0x1388⟩
def SPDL.TRKLOOP_JUMPTH : Fld := ⟨0x04C, 8, 8, 0x7⟩
def SPDL.TRKLOOP_JUMPSNAP : Fld := ⟨0x04C, 4, 1, 0x0⟩
def SPDL.TRKLOOP_BW : Fld := ⟨0x04C, 0, 2, 0x1⟩
def SPDL.FLIM_FHI : Fld := ⟨0x050, 16, 16, 0x1C20⟩
def SPDL.FLIM_FLO : Fld := ⟨0x050, 0, 16, 0xFA0⟩
def SPDL.ROCOF : Fld := ⟨0x054, 0, 16, 0x1F4⟩
def SPDL.VLIM_VHYS : Fld := ⟨0x058, 16, 16, 0x400⟩
def SPDL.VLIM_VMIN : Fld := ⟨0x058, 0, 16, 0x800⟩
def SPDL.RECOV : Fld := ⟨0x05C, 0, 16, 0x14⟩
def SPDL.THOFS : Fld := ⟨0x060, 0, 32, 0x0⟩
def SPDL.FJTH : Fld := ⟨0x064, 0, 32, 0x16C16C⟩
def SPDL.AEVEN (n : Nat) : Fld := ⟨0x068 + 0x4 * n, 0, 32, 0x0⟩
def SPDL.AEVANG (n : Nat) : Fld := ⟨0x100 + 0x8 * n, 0, 32, 0x0⟩
def SPDL.AEVACT (n : Nat) : Fld := ⟨0x104 + 0x8 * n, 0, 32, 0x0⟩
def SPDL.TEVCTL_EN (n : Nat) : Fld := ⟨0x400 + 0x20 * n, 31, 1, 0x0⟩
def SPDL.TEVCTL_ARMED (n : Nat) : Fld := ⟨0x400 + 0x20 * n, 30, 1, 0x0⟩
def SPDL.TEVCTL_LATEPOL (n : Nat) : Fld := ⟨0x400 + 0x20 * n, 17, 1, 0x0⟩
def SPDL.TEVCTL_PERIODIC (n : Nat) : Fld := ⟨0x400 + 0x20 * n, 16, 1, 0x0⟩
def SPDL.TEVCTL_SKIPCNT (n : Nat) : Fld := ⟨0x400 + 0x20 * n, 0, 16, 0x0⟩
def SPDL.TEVNS (n : Nat) : Fld := ⟨0x404 + 0x20 * n, 0, 30, 0x0⟩
def SPDL.TEVSL (n : Nat) : Fld := ⟨0x408 + 0x20 * n, 0, 32, 0x0⟩
def SPDL.TEVSH_FRAC (n : Nat) : Fld := ⟨0x40C + 0x20 * n, 16, 16, 0x0⟩
def SPDL.TEVSH_SECH (n : Nat) : Fld := ⟨0x40C + 0x20 * n, 0, 16, 0x0⟩
def SPDL.TEVPERNS (n : Nat) : Fld := ⟨0x410 + 0x20 * n, 0, 30, 0x0⟩
def SPDL.TEVPERSF_FRAC (n : Nat) : Fld := ⟨0x414 + 0x20 * n, 16, 16, 0x0⟩
def SPDL.TEVPERSF_SEC (n : Nat) : Fld := ⟨0x414 + 0x20 * n, 0, 8, 0x0⟩
def SPDL.TEVACT (n : Nat) : Fld := ⟨0x418 + 0x20 * n, 0, 32, 0x0⟩
def SPDL.ANGLE : Fld := ⟨0x800, 0, 32, 0x0⟩
def SPDL.FREQ : Fld := ⟨0x804, 0, 32, 0x0⟩
def SPDL.VMAG : Fld := ⟨0x808, 0, 16, 0x0⟩
def SPDL.FJUMP : Fld := ⟨0x80C, 0, 32, 0x0⟩
def SPDL.FJMAX : Fld := ⟨0x810, 0, 32, 0x0⟩
def SPDL.PRED : Fld := ⟨0x814, 0, 32, 0x0⟩
def SPDL.AEVFLG (n : Nat) : Fld := ⟨0x820 + 0x4 * n, 0, 32, 0x0⟩
def SPDL.TEVFLG : Fld := ⟨0x828, 0, 32, 0x0⟩
def SPDL.MERGECNT_CLR : Fld := ⟨0x82C, 31, 1, 0x0⟩
def SPDL.MERGECNT_CNT : Fld := ⟨0x82C, 0, 16, 0x0⟩
def SPDL.E_CFG_REJ : Nat := 0
def SPDL.E_TEV_MISSED : Nat := 1
def SPDL.E_FJUMP : Nat := 2
def SPDL.E_TS_MISMATCH : Nat := 3
def SPDL.E_INVALID : Nat := 4
def SPDL.I_GRID_LOW : Nat := 0
def SPDL.I_GRID_OK : Nat := 1
def SPDL.I_PHJUMP : Nat := 2
def SPDL.I_LOCK_CHG : Nat := 3
def SPDL.I_AEV : Nat := 4
def SPDL.I_TEV : Nat := 5

/-! ### LINK -/

def LINK.STAT_FEATF : Fld := ⟨0x014, 8, 3, 0x0⟩
def LINK.STAT_ADJ : Fld := ⟨0x014, 5, 1, 0x0⟩
def LINK.STAT_GRID : Fld := ⟨0x014, 4, 1, 0x0⟩
def LINK.STAT_MEASOK : Fld := ⟨0x014, 3, 1, 0x0⟩
def LINK.STAT_REFCLK : Fld := ⟨0x014, 2, 1, 0x0⟩
def LINK.STAT_STATE : Fld := ⟨0x014, 0, 2, 0x0⟩
def LINK.PCFG_GORIG : Fld := ⟨0x040, 12, 1, 0x1⟩
def LINK.PCFG_GFWD : Fld := ⟨0x040, 11, 1, 0x0⟩
def LINK.PCFG_RXPOL : Fld := ⟨0x040, 7, 1, 0x0⟩
def LINK.PCFG_TXPOL : Fld := ⟨0x040, 6, 1, 0x0⟩
def LINK.PCFG_LPBK : Fld := ⟨0x040, 5, 1, 0x0⟩
def LINK.PCFG_FWD : Fld := ⟨0x040, 2, 1, 0x0⟩
def LINK.PCFG_TXON : Fld := ⟨0x040, 1, 1, 0x1⟩
def LINK.PCFG_EN : Fld := ⟨0x040, 0, 1, 0x0⟩
def LINK.TXLAT : Fld := ⟨0x044, 0, 24, 0x0⟩
def LINK.RXLAT : Fld := ⟨0x048, 0, 24, 0x0⟩
def LINK.ASYM : Fld := ⟨0x04C, 0, 32, 0x0⟩
def LINK.MEASCFG_OUTLIM : Fld := ⟨0x050, 16, 12, 0x20⟩
def LINK.MEASCFG_FILT : Fld := ⟨0x050, 0, 4, 0x4⟩
def LINK.SLOTCFG_THEAD : Fld := ⟨0x054, 31, 1, 0x0⟩
def LINK.SLOTCFG_TSLOT : Fld := ⟨0x054, 16, 15, 0x7D⟩
def LINK.SLOTCFG_SSLOT : Fld := ⟨0x054, 0, 15, 0x0⟩
def LINK.DWIN_EN (n : Nat) : Fld := ⟨0x060 + 0x4 * n, 31, 1, 0x0⟩
def LINK.DWIN_END (n : Nat) : Fld := ⟨0x060 + 0x4 * n, 16, 15, 0x0⟩
def LINK.DWIN_START (n : Nat) : Fld := ⟨0x060 + 0x4 * n, 0, 15, 0x0⟩
def LINK.MTO : Fld := ⟨0x074, 0, 8, 0x8⟩
def LINK.BSTRA_PEER (n : Nat) : Fld := ⟨0x100 + 0x8 * n, 16, 16, 0x0⟩
def LINK.BSTRA_STREAM (n : Nat) : Fld := ⟨0x100 + 0x8 * n, 0, 16, 0x0⟩
def LINK.BSTRB_EN (n : Nat) : Fld := ⟨0x104 + 0x8 * n, 31, 1, 0x0⟩
def LINK.BSTRB_DIR (n : Nat) : Fld := ⟨0x104 + 0x8 * n, 30, 1, 0x0⟩
def LINK.BSTRB_LIMIT (n : Nat) : Fld := ⟨0x104 + 0x8 * n, 0, 8, 0x0⟩
def LINK.MEASD : Fld := ⟨0x800, 0, 32, 0x0⟩
def LINK.FILTD : Fld := ⟨0x804, 0, 32, 0x0⟩
def LINK.OFS : Fld := ⟨0x808, 0, 32, 0x0⟩
def LINK.RESID : Fld := ⟨0x80C, 0, 32, 0x0⟩
def LINK.RESRNG_MAX : Fld := ⟨0x810, 16, 16, 0x0⟩
def LINK.RESRNG_MIN : Fld := ⟨0x810, 0, 16, 0x0⟩
def LINK.STXNS : Fld := ⟨0x820, 0, 30, 0x0⟩
def LINK.STXSL : Fld := ⟨0x824, 0, 32, 0x0⟩
def LINK.STXSH_FRAC : Fld := ⟨0x828, 16, 16, 0x0⟩
def LINK.STXSH_SECH : Fld := ⟨0x828, 0, 16, 0x0⟩
def LINK.SRXNS : Fld := ⟨0x830, 0, 30, 0x0⟩
def LINK.SRXSL : Fld := ⟨0x834, 0, 32, 0x0⟩
def LINK.SRXSH_FRAC : Fld := ⟨0x838, 16, 16, 0x0⟩
def LINK.SRXSH_SECH : Fld := ⟨0x838, 0, 16, 0x0⟩
def LINK.CNTA_CGERR : Fld := ⟨0x840, 16, 16, 0x0⟩
def LINK.CNTA_HDRERR : Fld := ⟨0x840, 0, 16, 0x0⟩
def LINK.CNTB_CRCERR : Fld := ⟨0x844, 16, 16, 0x0⟩
def LINK.CNTB_EOFBAD : Fld := ⟨0x844, 0, 16, 0x0⟩
def LINK.CNTC_GUSTRX : Fld := ⟨0x848, 16, 16, 0x0⟩
def LINK.CNTC_GUSTERR : Fld := ⟨0x848, 0, 16, 0x0⟩
def LINK.CNTD_DROP : Fld := ⟨0x84C, 24, 8, 0x0⟩
def LINK.CNTD_SLIP : Fld := ⟨0x84C, 16, 8, 0x0⟩
def LINK.CNTD_UNCLAIMED : Fld := ⟨0x84C, 0, 16, 0x0⟩
def LINK.CNTE_SMISS : Fld := ⟨0x850, 16, 16, 0x0⟩
def LINK.CNTE_OUTLIER : Fld := ⟨0x850, 0, 16, 0x0⟩
def LINK.CNTCLR : Fld := ⟨0x854, 0, 1, 0x0⟩
def LINK.GUSTLAST_CODE : Fld := ⟨0x860, 0, 4, 0x0⟩
def LINK.GUSTTSNS : Fld := ⟨0x864, 0, 30, 0x0⟩
def LINK.GUSTTSSL : Fld := ⟨0x868, 0, 32, 0x0⟩
def LINK.GUSTTSSH_FRAC : Fld := ⟨0x86C, 16, 16, 0x0⟩
def LINK.GUSTTSSH_SECH : Fld := ⟨0x86C, 0, 16, 0x0⟩
def LINK.GUSTTX_GO : Fld := ⟨0x870, 31, 1, 0x0⟩
def LINK.GUSTTX_CODE : Fld := ⟨0x870, 0, 4, 0x0⟩
def LINK.MCTL_GO : Fld := ⟨0x880, 31, 1, 0x0⟩
def LINK.MCTL_RETRY : Fld := ⟨0x880, 30, 1, 0x0⟩
def LINK.MCTL_COUNT : Fld := ⟨0x880, 16, 6, 0x1⟩
def LINK.MCTL_DST : Fld := ⟨0x880, 0, 16, 0x0⟩
def LINK.MSTAT_BUSY : Fld := ⟨0x884, 31, 1, 0x0⟩
def LINK.MSTAT_DONE : Fld := ⟨0x884, 30, 1, 0x0⟩
def LINK.MSTAT_TOUT : Fld := ⟨0x884, 29, 1, 0x0⟩
def LINK.MSTAT_SEQ : Fld := ⟨0x884, 0, 16, 0x0⟩
def LINK.BSTAT_G (n : Nat) : Fld := ⟨0x900 + 0x4 * n, 16, 16, 0x0⟩
def LINK.BSTAT_U (n : Nat) : Fld := ⟨0x900 + 0x4 * n, 0, 16, 0x0⟩
def LINK.MBUF (n : Nat) : Fld := ⟨0xC00 + 0x4 * n, 0, 32, 0x0⟩
def LINK.E_SYNC_LOST : Nat := 0
def LINK.E_S_MISS : Nat := 1
def LINK.E_HDR_ERR : Nat := 2
def LINK.E_CRC_ERR : Nat := 3
def LINK.E_GUST_ERR : Nat := 4
def LINK.E_MEAS_OUTLIER : Nat := 5
def LINK.E_TRAIN_SLIP : Nat := 6
def LINK.E_FWD_OVF : Nat := 7
def LINK.E_CREDIT_ERR : Nat := 8
def LINK.E_UNCLAIMED : Nat := 9
def LINK.E_M_TIMEOUT : Nat := 10
def LINK.E_CFG_REJ : Nat := 11
def LINK.I_LINK_CHG : Nat := 0
def LINK.I_GUST_RX : Nat := 1
def LINK.I_M_DONE : Nat := 2
def LINK.I_MEAS : Nat := 3

/-! ### STRD -/

def STRD.CTRL_AUTOLEAD : Fld := ⟨0x010, 3, 1, 0x0⟩
def STRD.CTRL_PLAN : Fld := ⟨0x010, 2, 1, 0x0⟩
def STRD.CTRL_ENUM : Fld := ⟨0x010, 1, 1, 0x0⟩
def STRD.CTRL_RUN : Fld := ⟨0x010, 0, 1, 0x0⟩
def STRD.STAT_SPLIT : Fld := ⟨0x014, 10, 1, 0x0⟩
def STRD.STAT_LEADHUB : Fld := ⟨0x014, 8, 2, 0x0⟩
def STRD.STAT_LEADER : Fld := ⟨0x014, 4, 1, 0x0⟩
def STRD.STAT_TSF_PEND : Fld := ⟨0x014, 3, 1, 0x0⟩
def STRD.STAT_SEND_LATE : Fld := ⟨0x014, 2, 1, 0x0⟩
def STRD.STAT_BUDGET_SHORT : Fld := ⟨0x014, 1, 1, 0x0⟩
def STRD.STAT_RUN : Fld := ⟨0x014, 0, 1, 0x0⟩
def STRD.TSF_PERIOD : Fld := ⟨0x040, 0, 15, 0x186A⟩
def STRD.SAMPOFS_OFS : Fld := ⟨0x044, 0, 15, 0x0⟩
def STRD.T0NS : Fld := ⟨0x048, 0, 30, 0x0⟩
def STRD.T0SL : Fld := ⟨0x04C, 0, 32, 0x0⟩
def STRD.T0SH_FRAC : Fld := ⟨0x050, 16, 16, 0x0⟩
def STRD.T0SH_SECH : Fld := ⟨0x050, 0, 16, 0x0⟩
def STRD.GRPCFG_PRIO : Fld := ⟨0x054, 8, 4, 0x8⟩
def STRD.GRPCFG_PTPOK : Fld := ⟨0x054, 7, 1, 0x0⟩
def STRD.GRPCFG_NHUB : Fld := ⟨0x054, 2, 3, 0x1⟩
def STRD.GRPCFG_HUBNUM : Fld := ⟨0x054, 0, 2, 0x0⟩
def STRD.RECOVER_GO : Fld := ⟨0x058, 31, 1, 0x0⟩
def STRD.RECOVER_N : Fld := ⟨0x058, 0, 8, 0x0⟩
def STRD.SCFG_EN (n : Nat) : Fld := ⟨0x060 + 0x4 * n, 31, 1, 0x0⟩
def STRD.SCFG_SLEN (n : Nat) : Fld := ⟨0x060 + 0x4 * n, 0, 6, 0x0⟩
def STRD.MINSLACK (n : Nat) : Fld := ⟨0x800 + 0x4 * n, 0, 15, 0x7FFF⟩
def STRD.SSTAT_BRK (n : Nat) : Fld := ⟨0x820 + 0x4 * n, 31, 1, 0x0⟩
def STRD.SSTAT_INTACT (n : Nat) : Fld := ⟨0x820 + 0x4 * n, 30, 1, 0x0⟩
def STRD.SSTAT_AEND (n : Nat) : Fld := ⟨0x820 + 0x4 * n, 24, 6, 0x3F⟩
def STRD.SSTAT_BEND (n : Nat) : Fld := ⟨0x820 + 0x4 * n, 16, 6, 0x3F⟩
def STRD.SSTAT_LOST (n : Nat) : Fld := ⟨0x820 + 0x4 * n, 8, 6, 0x0⟩
def STRD.SSTAT_NCELL (n : Nat) : Fld := ⟨0x820 + 0x4 * n, 0, 6, 0x0⟩
def STRD.ENUMFIFO_VALID : Fld := ⟨0x840, 31, 1, 0x0⟩
def STRD.ENUMFIFO_FILL : Fld := ⟨0x840, 16, 5, 0x0⟩
def STRD.ENUMFIFO_STRAND : Fld := ⟨0x840, 8, 3, 0x0⟩
def STRD.ENUMFIFO_POS : Fld := ⟨0x840, 0, 6, 0x0⟩
def STRD.ENUMUIDLO : Fld := ⟨0x844, 0, 32, 0x0⟩
def STRD.ENUMUIDHI : Fld := ⟨0x848, 0, 32, 0x0⟩
def STRD.MAP_VALID (n : Nat) : Fld := ⟨0x900 + 0x4 * n, 31, 1, 0x0⟩
def STRD.MAP_ENUMD (n : Nat) : Fld := ⟨0x900 + 0x4 * n, 30, 1, 0x0⟩
def STRD.MAP_FEAT (n : Nat) : Fld := ⟨0x900 + 0x4 * n, 8, 3, 0x0⟩
def STRD.MAP_N (n : Nat) : Fld := ⟨0x900 + 0x4 * n, 0, 8, 0x0⟩
def STRD.E_TSF_RANGE : Nat := 0
def STRD.E_CFG_REJ : Nat := 1
def STRD.E_ENUM_ERR : Nat := 2
def STRD.E_BREAK : Nat := 3
def STRD.E_CELL_LOST : Nat := 4
def STRD.E_UNMAPPED : Nat := 5
def STRD.E_GRID_MISMATCH : Nat := 6
def STRD.E_PEER_LOST : Nat := 7
def STRD.E_SPLIT : Nat := 8
def STRD.E_RECOV_FAIL : Nat := 9
def STRD.E_ENUMFIFO_OVF : Nat := 10
def STRD.I_BUDGET : Nat := 0
def STRD.I_SENDLATE : Nat := 1
def STRD.I_ENUM : Nat := 2
def STRD.I_BREAK_CHG : Nat := 3
def STRD.I_LEADER_CHG : Nat := 4
def STRD.I_RECOV_DONE : Nat := 5

/-! ### VANE -/

def VANE.STAT_OBSERVE : Fld := ⟨0x014, 12, 1, 0x0⟩
def VANE.STAT_HBMISS : Fld := ⟨0x014, 10, 2, 0x0⟩
def VANE.STAT_SYNCED : Fld := ⟨0x014, 9, 1, 0x0⟩
def VANE.STAT_ACTIVE : Fld := ⟨0x014, 8, 1, 0x0⟩
def VANE.STAT_ALT : Fld := ⟨0x014, 4, 1, 0x0⟩
def VANE.STAT_FOLPORT : Fld := ⟨0x014, 3, 1, 0x0⟩
def VANE.STAT_GRID : Fld := ⟨0x014, 2, 1, 0x0⟩
def VANE.STAT_MISSED : Fld := ⟨0x014, 0, 2, 0x0⟩
def VANE.POS_ASSIGNED : Fld := ⟨0x040, 31, 1, 0x0⟩
def VANE.POS_APORT : Fld := ⟨0x040, 30, 1, 0x0⟩
def VANE.POS_WEND : Fld := ⟨0x040, 29, 1, 0x0⟩
def VANE.POS_SLEN : Fld := ⟨0x040, 16, 6, 0x0⟩
def VANE.POS_APOS : Fld := ⟨0x040, 8, 6, 0x0⟩
def VANE.POS_LOGN : Fld := ⟨0x040, 0, 8, 0x0⟩
def VANE.GT0NS : Fld := ⟨0x044, 0, 30, 0x0⟩
def VANE.GT0SL : Fld := ⟨0x048, 0, 32, 0x0⟩
def VANE.GT0SH_FRAC : Fld := ⟨0x04C, 16, 16, 0x0⟩
def VANE.GT0SH_SECH : Fld := ⟨0x04C, 0, 16, 0x0⟩
def VANE.GTSF : Fld := ⟨0x050, 0, 15, 0x186A⟩
def VANE.GSAMP : Fld := ⟨0x054, 0, 15, 0x0⟩
def VANE.GRIDCTL_GO : Fld := ⟨0x058, 31, 1, 0x0⟩
def VANE.GRIDCTL_RUN : Fld := ⟨0x058, 30, 1, 0x0⟩
def VANE.SRVCFG_KP : Fld := ⟨0x060, 28, 4, 0x2⟩
def VANE.SRVCFG_KI : Fld := ⟨0x060, 24, 4, 0x6⟩
def VANE.SRVCFG_VALTH : Fld := ⟨0x060, 16, 8, 0x20⟩
def VANE.SRVCFG_HOLDMAX : Fld := ⟨0x060, 8, 8, 0x28⟩
def VANE.SRVCFG_STEPTH : Fld := ⟨0x060, 0, 8, 0xFA⟩
def VANE.HUBCFG_AUTOTAKE : Fld := ⟨0x070, 31, 1, 0x1⟩
def VANE.HUBCFG_PPORT : Fld := ⟨0x070, 8, 1, 0x0⟩
def VANE.HUBCFG_ID : Fld := ⟨0x070, 0, 1, 0x0⟩
def VANE.HUBCTL_STEPDN : Fld := ⟨0x074, 1, 1, 0x0⟩
def VANE.HUBCTL_FORCE : Fld := ⟨0x074, 0, 1, 0x0⟩
def VANE.EPOCH : Fld := ⟨0x800, 0, 32, 0x0⟩
def VANE.FLOOR : Fld := ⟨0x804, 0, 31, 0x0⟩
def VANE.OUTWIN_CNT : Fld := ⟨0x810, 0, 16, 0x0⟩
def VANE.LATE_CNT : Fld := ⟨0x814, 0, 16, 0x0⟩
def VANE.LOSE_CNT : Fld := ⟨0x818, 0, 16, 0x0⟩
def VANE.STALE_CNT : Fld := ⟨0x81C, 0, 16, 0x0⟩
def VANE.ALTUSE_CNT : Fld := ⟨0x820, 0, 16, 0x0⟩
def VANE.SLACK : Fld := ⟨0x824, 0, 32, 0x0⟩
def VANE.UIDLO : Fld := ⟨0x828, 0, 32, 0x0⟩
def VANE.UIDHI : Fld := ⟨0x82C, 0, 32, 0x0⟩
def VANE.CNTCLR : Fld := ⟨0x830, 0, 1, 0x0⟩
def VANE.SRVOFS : Fld := ⟨0x834, 0, 32, 0x0⟩
def VANE.TAKECNT_STEPDNS : Fld := ⟨0x838, 16, 16, 0x0⟩
def VANE.TAKECNT_TAKES : Fld := ⟨0x838, 0, 16, 0x0⟩
def VANE.E_LATE : Nat := 0
def VANE.E_OUTWIN : Nat := 1
def VANE.E_STALE : Nat := 2
def VANE.E_TIME_INVALID : Nat := 3
def VANE.E_STARVE : Nat := 4
def VANE.E_TERM_EXH : Nat := 5
def VANE.I_TAKEOVER : Nat := 0
def VANE.I_STEPDOWN : Nat := 1
def VANE.I_SYNC_CHG : Nat := 2
def VANE.I_STARVE : Nat := 3

/-! ### ISOB -/

def ISOB.CTRL_NOEXP : Fld := ⟨0x010, 2, 1, 0x0⟩
def ISOB.CTRL_DABBLK : Fld := ⟨0x010, 1, 1, 0x0⟩
def ISOB.CTRL_EN : Fld := ⟨0x010, 0, 1, 0x0⟩
def ISOB.STAT_PEND : Fld := ⟨0x014, 3, 1, 0x0⟩
def ISOB.STAT_NOEXP : Fld := ⟨0x014, 2, 1, 0x0⟩
def ISOB.STAT_DABBLK : Fld := ⟨0x014, 1, 1, 0x0⟩
def ISOB.STAT_BUSY : Fld := ⟨0x014, 0, 1, 0x0⟩
def ISOB.CFG_LEWAIT : Fld := ⟨0x040, 16, 8, 0x0⟩
def ISOB.CFG_TRIMEN : Fld := ⟨0x040, 3, 1, 0x0⟩
def ISOB.CFG_ZSEQEN : Fld := ⟨0x040, 2, 1, 0x0⟩
def ISOB.CFG_PHBALEN : Fld := ⟨0x040, 1, 1, 0x0⟩
def ISOB.CFG_CELLBALEN : Fld := ⟨0x040, 0, 1, 0x0⟩
def ISOB.PRATED : Fld := ⟨0x044, 0, 32, 0x0⟩
def ISOB.MMAX : Fld := ⟨0x048, 0, 32, 0x3F7AE148⟩
def ISOB.TRIMMAX : Fld := ⟨0x04C, 0, 32, 0x3D4CCCCD⟩
def ISOB.KCD : Fld := ⟨0x050, 0, 32, 0x0⟩
def ISOB.KCT : Fld := ⟨0x054, 0, 32, 0x0⟩
def ISOB.KPH : Fld := ⟨0x058, 0, 32, 0x0⟩
def ISOB.KZ : Fld := ⟨0x05C, 0, 32, 0x0⟩
def ISOB.KZI : Fld := ⟨0x060, 0, 32, 0x0⟩
def ISOB.ZMAX : Fld := ⟨0x064, 0, 32, 0x0⟩
def ISOB.IDB : Fld := ⟨0x068, 0, 32, 0x0⟩
def ISOB.NTOT_W : Fld := ⟨0x06C, 16, 8, 0x40⟩
def ISOB.NTOT_V : Fld := ⟨0x06C, 8, 8, 0x40⟩
def ISOB.NTOT_U : Fld := ⟨0x06C, 0, 8, 0x40⟩
def ISOB.NMIN_W : Fld := ⟨0x070, 16, 8, 0x1⟩
def ISOB.NMIN_V : Fld := ⟨0x070, 8, 8, 0x1⟩
def ISOB.NMIN_U : Fld := ⟨0x070, 0, 8, 0x1⟩
def ISOB.PHOFS (n : Nat) : Fld := ⟨0x074 + 0x4 * n, 0, 24, 0x0⟩
def ISOB.PTOT : Fld := ⟨0x800, 0, 32, 0x0⟩
def ISOB.MPH (n : Nat) : Fld := ⟨0x804 + 0x4 * n, 0, 32, 0x0⟩
def ISOB.MSLP (n : Nat) : Fld := ⟨0x810 + 0x4 * n, 0, 32, 0x0⟩
def ISOB.IPH (n : Nat) : Fld := ⟨0x81C + 0x4 * n, 0, 32, 0x0⟩
def ISOB.IANG : Fld := ⟨0x828, 0, 32, 0x0⟩
def ISOB.VLV : Fld := ⟨0x82C, 0, 32, 0x0⟩
def ISOB.NACT_W : Fld := ⟨0x880, 16, 8, 0x0⟩
def ISOB.NACT_V : Fld := ⟨0x880, 8, 8, 0x0⟩
def ISOB.NACT_U : Fld := ⟨0x880, 0, 8, 0x0⟩
def ISOB.VBAR (n : Nat) : Fld := ⟨0x884 + 0x4 * n, 0, 32, 0x0⟩
def ISOB.PPH (n : Nat) : Fld := ⟨0x890 + 0x4 * n, 0, 32, 0x0⟩
def ISOB.ZRE : Fld := ⟨0x89C, 0, 32, 0x0⟩
def ISOB.ZIM : Fld := ⟨0x8A0, 0, 32, 0x0⟩
def ISOB.PUNALLOC : Fld := ⟨0x8A4, 0, 32, 0x0⟩
def ISOB.RUNSTAT_IDX : Fld := ⟨0x8A8, 16, 16, 0x0⟩
def ISOB.RUNSTAT_DUR : Fld := ⟨0x8A8, 0, 16, 0x0⟩
def ISOB.TRIGCNT_DISC : Fld := ⟨0x8AC, 16, 16, 0x0⟩
def ISOB.TRIGCNT_TRIGOVR : Fld := ⟨0x8AC, 0, 16, 0x0⟩
def ISOB.EXCLSET_SET : Fld := ⟨0x8B0, 31, 1, 0x0⟩
def ISOB.EXCLSET_CLR : Fld := ⟨0x8B0, 30, 1, 0x0⟩
def ISOB.EXCLSET_N : Fld := ⟨0x8B0, 0, 8, 0x0⟩
def ISOB.MASK (n : Nat) : Fld := ⟨0x8C0 + 0x4 * n, 0, 32, 0x0⟩
def ISOB.IALPHA : Fld := ⟨0x8E0, 0, 32, 0x0⟩
def ISOB.IBETA : Fld := ⟨0x8E4, 0, 32, 0x0⟩
def ISOB.E_CFG_REJ : Nat := 0
def ISOB.E_TRIG_OVR : Nat := 1
def ISOB.E_LOOP_LATE : Nat := 2
def ISOB.E_M_SAT : Nat := 3
def ISOB.E_P_SPILL : Nat := 4
def ISOB.E_P_UNALLOC : Nat := 5
def ISOB.E_NACT_LOW : Nat := 6
def ISOB.E_INPUT_NAN : Nat := 7
def ISOB.E_MASK_DIFF : Nat := 8
def ISOB.E_HELD : Nat := 9
def ISOB.I_DONE : Nat := 0
def ISOB.I_MEMBER_CHG : Nat := 1
def ISOB.I_SAT : Nat := 2
def ISOB.I_HELD_CHG : Nat := 3

/-! ### PWMC -/

def PWMC.LDSEL_SOFT : Fld := ⟨0x040, 8, 7, 0x7F⟩
def PWMC.LDSEL_COMMIT : Fld := ⟨0x040, 0, 6, 0x3F⟩
def PWMC.LOADALL_GO : Fld := ⟨0x800, 31, 1, 0x0⟩
def PWMC.HOLDSTAT_ACTIVE : Fld := ⟨0x804, 31, 1, 0x0⟩
def PWMC.HOLDSTAT_CKMON : Fld := ⟨0x804, 3, 1, 0x0⟩
def PWMC.HOLDSTAT_CKSW : Fld := ⟨0x804, 2, 1, 0x0⟩
def PWMC.HOLDSTAT_DBG1 : Fld := ⟨0x804, 1, 1, 0x0⟩
def PWMC.HOLDSTAT_DBG0 : Fld := ⟨0x804, 0, 1, 0x0⟩
def PWMC.HOLDCNT_CLR : Fld := ⟨0x808, 31, 1, 0x0⟩
def PWMC.HOLDCNT_CNT : Fld := ⟨0x808, 0, 16, 0x0⟩
def PWMC.DLSTAT_RECALCNT : Fld := ⟨0x80C, 16, 16, 0x0⟩
def PWMC.DLSTAT_ALLOK : Fld := ⟨0x80C, 15, 1, 0x0⟩
def PWMC.DLSTAT_FB : Fld := ⟨0x80C, 0, 13, 0x0⟩
def PWMC.E_DL_UNLOCK : Nat := 0
def PWMC.E_HOLDOFF : Nat := 1
def PWMC.I_HOLD_CHG : Nat := 0
def PWMC.I_DL_CHG : Nat := 1

/-! ### PWMU -/

def PWMU.CTRL_EN : Fld := ⟨0x010, 0, 1, 0x0⟩
def PWMU.STAT_FINEFB : Fld := ⟨0x014, 6, 1, 0x0⟩
def PWMU.STAT_TRANS : Fld := ⟨0x014, 5, 1, 0x0⟩
def PWMU.STAT_DABBLK : Fld := ⟨0x014, 4, 1, 0x0⟩
def PWMU.STAT_HOLDOFF : Fld := ⟨0x014, 3, 1, 0x0⟩
def PWMU.STAT_WAITGRID : Fld := ⟨0x014, 2, 1, 0x0⟩
def PWMU.STAT_WAITLOAD : Fld := ⟨0x014, 1, 1, 0x0⟩
def PWMU.STAT_RUNNING : Fld := ⟨0x014, 0, 1, 0x0⟩
def PWMU.CFG_DABGRP : Fld := ⟨0x040, 15, 1, 0x0⟩
def PWMU.CFG_CMDREF : Fld := ⟨0x040, 14, 1, 0x0⟩
def PWMU.CFG_RNEG : Fld := ⟨0x040, 13, 1, 0x0⟩
def PWMU.CFG_REFSRC : Fld := ⟨0x040, 12, 1, 0x0⟩
def PWMU.CFG_SPP : Fld := ⟨0x040, 8, 2, 0x0⟩
def PWMU.CFG_SYNC : Fld := ⟨0x040, 4, 2, 0x0⟩
def PWMU.CFG_MODE : Fld := ⟨0x040, 0, 3, 0x0⟩
def PWMU.EVCFG_STARTEN : Fld := ⟨0x044, 15, 1, 0x0⟩
def PWMU.EVCFG_ENDEN : Fld := ⟨0x044, 14, 1, 0x0⟩
def PWMU.EVCFG_ENDSQ : Fld := ⟨0x044, 8, 4, 0x0⟩
def PWMU.EVCFG_STARTSQ : Fld := ⟨0x044, 0, 4, 0x0⟩
def PWMU.PER : Fld := ⟨0x800, 0, 30, 0xC3500⟩
def PWMU.DUTY : Fld := ⟨0x804, 0, 30, 0x0⟩
def PWMU.PHASE : Fld := ⟨0x808, 0, 24, 0x0⟩
def PWMU.DTA : Fld := ⟨0x80C, 0, 16, 0xFA0⟩
def PWMU.DTB : Fld := ⟨0x810, 0, 16, 0xFA0⟩
def PWMU.MINPW : Fld := ⟨0x814, 0, 16, 0x1F40⟩
def PWMU.TON : Fld := ⟨0x818, 0, 30, 0x1F40⟩
def PWMU.TOFF : Fld := ⟨0x81C, 0, 30, 0x1F40⟩
def PWMU.TMAX : Fld := ⟨0x820, 0, 30, 0x138800⟩
def PWMU.REF : Fld := ⟨0x824, 0, 32, 0x0⟩
def PWMU.SLP : Fld := ⟨0x828, 0, 32, 0x0⟩
def PWMU.PSTAT_CNT : Fld := ⟨0x8C0, 0, 24, 0x0⟩
def PWMU.ACC : Fld := ⟨0x8C4, 0, 32, 0x0⟩
def PWMU.SPCNT_CARRYOVF : Fld := ⟨0x8C8, 24, 8, 0x0⟩
def PWMU.SPCNT_ABORT : Fld := ⟨0x8C8, 16, 8, 0x0⟩
def PWMU.SPCNT_SHORT : Fld := ⟨0x8C8, 0, 16, 0x0⟩
def PWMU.REFNOW : Fld := ⟨0x8CC, 0, 32, 0x0⟩
def PWMU.LOADINFO_CNT : Fld := ⟨0x8D0, 16, 16, 0x0⟩
def PWMU.LOADINFO_IDX : Fld := ⟨0x8D0, 0, 16, 0x0⟩
def PWMU.E_CFG_REJ : Nat := 0
def PWMU.E_DUTY_CLAMP : Nat := 1
def PWMU.E_LOAD_REJ : Nat := 2
def PWMU.E_REF_SAT : Nat := 3
def PWMU.E_CARRY_OVF : Nat := 4
def PWMU.E_EVT_TIMEOUT : Nat := 5
def PWMU.E_TIME_STEP : Nat := 6
def PWMU.I_PSTART : Nat := 0
def PWMU.I_LOADED : Nat := 1
def PWMU.I_SHORT : Nat := 2
def PWMU.I_CLAMP : Nat := 3

/-! ### GCH -/

def GCH.STAT_CSACT : Fld := ⟨0x014, 2, 1, 0x0⟩
def GCH.STAT_LATCHED : Fld := ⟨0x014, 1, 1, 0x0⟩
def GCH.STAT_GDEN : Fld := ⟨0x014, 0, 1, 0x0⟩
def GCH.CHCFG_SRC (n : Nat) : Fld := ⟨0x040 + 0x4 * n, 0, 4, 0x0⟩
def GCH.LEGCFG_LSCEN (n : Nat) : Fld := ⟨0x080 + 0x4 * n, 31, 1, 0x0⟩
def GCH.LEGCFG_ILEN (n : Nat) : Fld := ⟨0x080 + 0x4 * n, 30, 1, 0x1⟩
def GCH.LEGCFG_FBCEN (n : Nat) : Fld := ⟨0x080 + 0x4 * n, 29, 1, 0x0⟩
def GCH.LEGCFG_LSCSQ (n : Nat) : Fld := ⟨0x080 + 0x4 * n, 24, 4, 0x0⟩
def GCH.LEGCFG_BRG (n : Nat) : Fld := ⟨0x080 + 0x4 * n, 20, 2, 0x0⟩
def GCH.LEGCFG_ILTO (n : Nat) : Fld := ⟨0x080 + 0x4 * n, 0, 12, 0xFA⟩
def GCH.LEGTIM_TSOFT (n : Nat) : Fld := ⟨0x0A0 + 0x4 * n, 16, 16, 0x3200⟩
def GCH.LEGTIM_FBFLT (n : Nat) : Fld := ⟨0x0A0 + 0x4 * n, 12, 4, 0x4⟩
def GCH.LEGTIM_FBTO (n : Nat) : Fld := ⟨0x0A0 + 0x4 * n, 0, 12, 0xFA⟩
def GCH.CSCFG_EN : Fld := ⟨0x0C0, 31, 1, 0x0⟩
def GCH.CSCFG_CURTREL : Fld := ⟨0x0C0, 30, 1, 0x0⟩
def GCH.CSCFG_OV3GUST : Fld := ⟨0x0C0, 29, 1, 0x0⟩
def GCH.CSCFG_OV3TSTK : Fld := ⟨0x0C0, 28, 1, 0x0⟩
def GCH.CSCFG_OV1SQ : Fld := ⟨0x0C0, 24, 4, 0x0⟩
def GCH.CSCFG_OV3SQ : Fld := ⟨0x0C0, 20, 4, 0x0⟩
def GCH.CSCFG_C1SQ : Fld := ⟨0x0C0, 16, 4, 0x0⟩
def GCH.CSCFG_C2SQ : Fld := ⟨0x0C0, 12, 4, 0x0⟩
def GCH.CSCFG_CH1GC : Fld := ⟨0x0C0, 8, 4, 0x0⟩
def GCH.CSCFG_CH2GC : Fld := ⟨0x0C0, 4, 4, 0x2⟩
def GCH.CSVBUS_ADC : Fld := ⟨0x0C4, 31, 1, 0x0⟩
def GCH.CSVBUS_CH : Fld := ⟨0x0C4, 24, 4, 0x0⟩
def GCH.CSVBUS_RISE : Fld := ⟨0x0C4, 0, 16, 0x100⟩
def GCH.PON_T2 (n : Nat) : Fld := ⟨0x100 + 0x8 * n, 16, 16, 0x640⟩
def GCH.PON_T1 (n : Nat) : Fld := ⟨0x100 + 0x8 * n, 0, 14, 0x280⟩
def GCH.POFF_T2 (n : Nat) : Fld := ⟨0x104 + 0x8 * n, 16, 16, 0x640⟩
def GCH.POFF_T1 (n : Nat) : Fld := ⟨0x104 + 0x8 * n, 0, 14, 0x280⟩
def GCH.CHSTAT_STATE (n : Nat) : Fld := ⟨0x800 + 0x4 * n, 28, 4, 0x0⟩
def GCH.CHSTAT_ONPIN (n : Nat) : Fld := ⟨0x800 + 0x4 * n, 27, 1, 0x0⟩
def GCH.CHSTAT_STRPIN (n : Nat) : Fld := ⟨0x800 + 0x4 * n, 26, 1, 0x0⟩
def GCH.CHSTAT_FB (n : Nat) : Fld := ⟨0x800 + 0x4 * n, 25, 1, 0x0⟩
def GCH.CHSTAT_REQ (n : Nat) : Fld := ⟨0x800 + 0x4 * n, 24, 1, 0x0⟩
def GCH.CHSTAT_ILTMO (n : Nat) : Fld := ⟨0x800 + 0x4 * n, 3, 1, 0x0⟩
def GCH.CHSTAT_ONFAIL (n : Nat) : Fld := ⟨0x800 + 0x4 * n, 2, 1, 0x0⟩
def GCH.CHSTAT_OFFFAIL (n : Nat) : Fld := ⟨0x800 + 0x4 * n, 1, 1, 0x0⟩
def GCH.CHSTAT_FBFAULT (n : Nat) : Fld := ⟨0x800 + 0x4 * n, 0, 1, 0x0⟩
def GCH.LEGSTAT_LEG_SHORT (n : Nat) : Fld := ⟨0x840 + 0x4 * n, 31, 1, 0x0⟩
def GCH.LEGSTAT_SRC (n : Nat) : Fld := ⟨0x840 + 0x4 * n, 29, 2, 0x0⟩
def GCH.LEGSTAT_ESC (n : Nat) : Fld := ⟨0x840 + 0x4 * n, 28, 1, 0x0⟩
def GCH.LEGSTAT_CONFLICT (n : Nat) : Fld := ⟨0x840 + 0x4 * n, 27, 1, 0x0⟩
def GCH.LEGSTAT_CONFCNT (n : Nat) : Fld := ⟨0x840 + 0x4 * n, 0, 8, 0x0⟩
def GCH.GDSTAT_GDEN : Fld := ⟨0x860, 31, 1, 0x0⟩
def GCH.GDSTAT_CLRARM : Fld := ⟨0x860, 30, 1, 0x0⟩
def GCH.GDSTAT_CLEARS : Fld := ⟨0x860, 0, 16, 0x0⟩
def GCH.CSSTAT_OV1 : Fld := ⟨0x864, 31, 1, 0x0⟩
def GCH.CSSTAT_OV3 : Fld := ⟨0x864, 30, 1, 0x0⟩
def GCH.CSSTAT_CH1F : Fld := ⟨0x864, 29, 1, 0x0⟩
def GCH.CSSTAT_CH2F : Fld := ⟨0x864, 28, 1, 0x0⟩
def GCH.CSSTAT_FAIL1 : Fld := ⟨0x864, 27, 1, 0x0⟩
def GCH.CSSTAT_FAIL2 : Fld := ⟨0x864, 26, 1, 0x0⟩
def GCH.CSSTAT_NOEXPREQ : Fld := ⟨0x864, 25, 1, 0x0⟩
def GCH.CSSTAT_DABBLKREQ : Fld := ⟨0x864, 24, 1, 0x0⟩
def GCH.CSSTAT_CURT : Fld := ⟨0x864, 23, 1, 0x1⟩
def GCH.CSCTL_RELEASE : Fld := ⟨0x868, 31, 1, 0x0⟩
def GCH.CNTCLR : Fld := ⟨0x86C, 0, 1, 0x0⟩
def GCH.LEGTSNS (n : Nat) : Fld := ⟨0x880 + 0x10 * n, 0, 30, 0x0⟩
def GCH.LEGTSSL (n : Nat) : Fld := ⟨0x884 + 0x10 * n, 0, 32, 0x0⟩
def GCH.LEGTSSH_FRAC (n : Nat) : Fld := ⟨0x888 + 0x10 * n, 16, 16, 0x0⟩
def GCH.LEGTSSH_SECH (n : Nat) : Fld := ⟨0x888 + 0x10 * n, 0, 16, 0x0⟩
def GCH.E_CFG_REJ : Nat := 0
def GCH.E_LEG_CONFLICT : Nat := 1
def GCH.E_INTERLOCK_TIMEOUT : Nat := 2
def GCH.E_LEG_SHORT : Nat := 3
def GCH.E_ESCALATE : Nat := 4
def GCH.E_ON_FAIL : Nat := 5
def GCH.E_OFF_FAIL : Nat := 6
def GCH.E_FB_FAULT : Nat := 7
def GCH.E_CHOPPER_FAIL : Nat := 8
def GCH.E_OV3 : Nat := 9
def GCH.E_GDEN_LOW : Nat := 10
def GCH.I_TRIP : Nat := 0
def GCH.I_GDEN_CHG : Nat := 1
def GCH.I_CLEARED : Nat := 2
def GCH.I_CSUP : Nat := 3

/-! ### MOTR -/

def MOTR.CTRL_EN : Fld := ⟨0x010, 0, 1, 0x0⟩
def MOTR.CFG_DLY : Fld := ⟨0x040, 24, 8, 0x80⟩
def MOTR.CFG_SQC : Fld := ⟨0x040, 8, 4, 0xA⟩
def MOTR.CFG_SQB : Fld := ⟨0x040, 4, 4, 0x9⟩
def MOTR.CFG_SQA : Fld := ⟨0x040, 0, 4, 0x8⟩
def MOTR.RATED : Fld := ⟨0x044, 0, 16, 0x0⟩
def MOTR.OBSWIN : Fld := ⟨0x048, 0, 9, 0x32⟩
def MOTR.BRAKE_BRKMAX : Fld := ⟨0x04C, 16, 16, 0x64⟩
def MOTR.BRAKE_BRKON : Fld := ⟨0x04C, 0, 10, 0xC8⟩
def MOTR.ALIGN_ADUTY : Fld := ⟨0x050, 16, 16, 0xCCD⟩
def MOTR.ALIGN_ALIGNT : Fld := ⟨0x050, 0, 10, 0xC8⟩
def MOTR.RAMPF_FHAND : Fld := ⟨0x054, 16, 16, 0x0⟩
def MOTR.RAMPF_FSTART : Fld := ⟨0x054, 0, 16, 0x0⟩
def MOTR.RAMPT_RDUTY : Fld := ⟨0x058, 16, 16, 0x199A⟩
def MOTR.RAMPT_RAMPT : Fld := ⟨0x058, 0, 16, 0x3E8⟩
def MOTR.CMD_START : Fld := ⟨0x800, 31, 1, 0x0⟩
def MOTR.CMD_STOP : Fld := ⟨0x800, 30, 1, 0x0⟩
def MOTR.CMD_DIR : Fld := ⟨0x800, 0, 1, 0x0⟩
def MOTR.MSTAT_STATE : Fld := ⟨0x804, 28, 4, 0x0⟩
def MOTR.MSTAT_TDIR : Fld := ⟨0x804, 27, 1, 0x0⟩
def MOTR.MSTAT_TRUN : Fld := ⟨0x804, 26, 1, 0x0⟩
def MOTR.MSTAT_ODIR : Fld := ⟨0x804, 25, 1, 0x0⟩
def MOTR.MSTAT_OVALID : Fld := ⟨0x804, 24, 1, 0x0⟩
def MOTR.MSTAT_STEP : Fld := ⟨0x804, 0, 3, 0x0⟩
def MOTR.SPEED : Fld := ⟨0x808, 0, 16, 0x0⟩
def MOTR.STEPIVL : Fld := ⟨0x80C, 0, 20, 0x0⟩
def MOTR.BRKTIME : Fld := ⟨0x810, 0, 16, 0x0⟩
def MOTR.CNT_RESYNC : Fld := ⟨0x814, 24, 8, 0x0⟩
def MOTR.CNT_CATCH : Fld := ⟨0x814, 16, 8, 0x0⟩
def MOTR.CNT_BRAKES : Fld := ⟨0x814, 8, 8, 0x0⟩
def MOTR.CNT_STARTS : Fld := ⟨0x814, 0, 8, 0x0⟩
def MOTR.E_CFG_REJ : Nat := 0
def MOTR.E_LOST_SYNC : Nat := 1
def MOTR.E_STALL : Nat := 2
def MOTR.E_BRAKE_TMO : Nat := 3
def MOTR.E_BRIDGE_FAULT : Nat := 4
def MOTR.I_STATE_CHG : Nat := 0

/-! ### SQL -/

def SQL.STAT_UNRES : Fld := ⟨0x014, 17, 1, 0x0⟩
def SQL.STAT_SETTLE : Fld := ⟨0x014, 16, 1, 0x0⟩
def SQL.STAT_LSC : Fld := ⟨0x014, 0, 16, 0x0⟩
def SQL.SQCFG_WAKE (n : Nat) : Fld := ⟨0x040 + 0x8 * n, 31, 1, 0x0⟩
def SQL.SQCFG_INIT (n : Nat) : Fld := ⟨0x040 + 0x8 * n, 30, 1, 0x0⟩
def SQL.SQCFG_ECLS (n : Nat) : Fld := ⟨0x040 + 0x8 * n, 28, 2, 0x0⟩
def SQL.SQCFG_LATCH (n : Nat) : Fld := ⟨0x040 + 0x8 * n, 24, 2, 0x0⟩
def SQL.SQCFG_MODE (n : Nat) : Fld := ⟨0x040 + 0x8 * n, 16, 2, 0x1⟩
def SQL.SQCFG_FUNC (n : Nat) : Fld := ⟨0x040 + 0x8 * n, 0, 3, 0x0⟩
def SQL.SQTHR_HYS (n : Nat) : Fld := ⟨0x044 + 0x8 * n, 27, 5, 0x0⟩
def SQL.SQTHR_HI (n : Nat) : Fld := ⟨0x044 + 0x8 * n, 16, 10, 0x3FF⟩
def SQL.SQTHR_LO (n : Nat) : Fld := ⟨0x044 + 0x8 * n, 0, 10, 0x0⟩
def SQL.SQBLK_BLKEV (n : Nat) : Fld := ⟨0x0C0 + 0x4 * n, 28, 4, 0x0⟩
def SQL.SQBLK_BLKSRC (n : Nat) : Fld := ⟨0x0C0 + 0x4 * n, 24, 3, 0x7⟩
def SQL.SQBLK_BLKW (n : Nat) : Fld := ⟨0x0C0 + 0x4 * n, 0, 12, 0x0⟩
def SQL.SQTRIP_TRIPSEL (n : Nat) : Fld := ⟨0x100 + 0x4 * n, 0, 12, 0x0⟩
def SQL.OUT_UNRES : Fld := ⟨0x800, 16, 16, 0x0⟩
def SQL.OUT_LVL : Fld := ⟨0x800, 0, 16, 0x0⟩
def SQL.LATCH : Fld := ⟨0x804, 0, 16, 0x0⟩
def SQL.RAW : Fld := ⟨0x808, 0, 16, 0x0⟩
def SQL.SETL : Fld := ⟨0x80C, 0, 16, 0x0⟩
def SQL.SQCNT_CLR (n : Nat) : Fld := ⟨0x840 + 0x4 * n, 31, 1, 0x0⟩
def SQL.SQCNT_CNT (n : Nat) : Fld := ⟨0x840 + 0x4 * n, 0, 16, 0x0⟩
def SQL.THRACT_HI (n : Nat) : Fld := ⟨0x880 + 0x4 * n, 16, 12, 0x0⟩
def SQL.THRACT_LO (n : Nat) : Fld := ⟨0x880 + 0x4 * n, 0, 12, 0x0⟩
def SQL.E_ASRT (n : Nat) : Nat := n
def SQL.E_CFG_REJ : Nat := 16
def SQL.E_CAL_DEF : Nat := 17
def SQL.I_SQ (n : Nat) : Nat := n
def SQL.I_RESOLVED : Nat := 16

/-! ### ADC -/

def ADC.CTRL_EN : Fld := ⟨0x010, 0, 1, 0x0⟩
def ADC.STAT_SLOT : Fld := ⟨0x014, 8, 5, 0x0⟩
def ADC.STAT_ANCHACT : Fld := ⟨0x014, 5, 1, 0x0⟩
def ADC.STAT_REFRDY : Fld := ⟨0x014, 4, 1, 0x0⟩
def ADC.STAT_READY : Fld := ⟨0x014, 3, 1, 0x0⟩
def ADC.STAT_URGACT : Fld := ⟨0x014, 2, 1, 0x0⟩
def ADC.STAT_PEND : Fld := ⟨0x014, 1, 1, 0x0⟩
def ADC.STAT_BUSY : Fld := ⟨0x014, 0, 1, 0x0⟩
def ADC.REFCTL_REFRDY : Fld := ⟨0x040, 31, 1, 0x0⟩
def ADC.REFCTL_REFEN : Fld := ⟨0x040, 0, 1, 0x0⟩
def ADC.ANCHCFG_EN : Fld := ⟨0x044, 31, 1, 0x0⟩
def ADC.ANCHCFG_SLOT : Fld := ⟨0x044, 0, 5, 0x0⟩
def ADC.PTRG_EN (n : Nat) : Fld := ⟨0x048 + 0x4 * n, 31, 1, 0x0⟩
def ADC.PTRG_UNIT (n : Nat) : Fld := ⟨0x048 + 0x4 * n, 28, 3, 0x7⟩
def ADC.PTRG_EV (n : Nat) : Fld := ⟨0x048 + 0x4 * n, 26, 2, 0x0⟩
def ADC.PTRG_DIV (n : Nat) : Fld := ⟨0x048 + 0x4 * n, 16, 8, 0x0⟩
def ADC.PTRG_SLOT (n : Nat) : Fld := ⟨0x048 + 0x4 * n, 0, 5, 0x0⟩
def ADC.OWCFG_OWTH : Fld := ⟨0x050, 16, 16, 0x800⟩
def ADC.OWCFG_OWSET : Fld := ⟨0x050, 0, 12, 0xFA⟩
def ADC.RINGBASE : Fld := ⟨0x054, 6, 26, 0x800000⟩
def ADC.RINGCFG_EN : Fld := ⟨0x058, 31, 1, 0x0⟩
def ADC.RINGCFG_SIZE : Fld := ⟨0x058, 16, 4, 0x0⟩
def ADC.RINGCFG_MASK : Fld := ⟨0x058, 0, 16, 0x0⟩
def ADC.TLM_EN : Fld := ⟨0x060, 31, 1, 0x0⟩
def ADC.TLM_VAUXADC : Fld := ⟨0x060, 15, 1, 0x0⟩
def ADC.TLM_VAUXCH : Fld := ⟨0x060, 8, 4, 0x0⟩
def ADC.TLM_VDCADC : Fld := ⟨0x060, 7, 1, 0x0⟩
def ADC.TLM_VDCCH : Fld := ⟨0x060, 0, 4, 0x0⟩
def ADC.SLOT_LAST (n : Nat) : Fld := ⟨0x100 + 0x4 * n, 31, 1, 0x1⟩
def ADC.SLOT_OW (n : Nat) : Fld := ⟨0x100 + 0x4 * n, 28, 2, 0x0⟩
def ADC.SLOT_GAP (n : Nat) : Fld := ⟨0x100 + 0x4 * n, 24, 4, 0x0⟩
def ADC.SLOT_AVG (n : Nat) : Fld := ⟨0x100 + 0x4 * n, 16, 4, 0x0⟩
def ADC.SLOT_DEST (n : Nat) : Fld := ⟨0x100 + 0x4 * n, 8, 4, 0x0⟩
def ADC.SLOT_INPUT (n : Nat) : Fld := ⟨0x100 + 0x4 * n, 0, 5, 0x0⟩
def ADC.GAIN (n : Nat) : Fld := ⟨0x200 + 0x10 * n, 0, 20, 0x80000⟩
def ADC.OFS (n : Nat) : Fld := ⟨0x204 + 0x10 * n, 0, 20, 0x0⟩
def ADC.TC_TCG (n : Nat) : Fld := ⟨0x208 + 0x10 * n, 16, 16, 0x0⟩
def ADC.TC_TCAL (n : Nat) : Fld := ⟨0x208 + 0x10 * n, 0, 16, 0x0⟩
def ADC.SWTRIG_GO : Fld := ⟨0x800, 31, 1, 0x0⟩
def ADC.SWTRIG_SLOT : Fld := ⟨0x800, 0, 5, 0x0⟩
def ADC.URGCTL_GO : Fld := ⟨0x804, 31, 1, 0x0⟩
def ADC.URGCTL_AVG : Fld := ⟨0x804, 16, 4, 0x0⟩
def ADC.URGCTL_DEST : Fld := ⟨0x804, 8, 4, 0x0⟩
def ADC.URGCTL_INPUT : Fld := ⟨0x804, 0, 5, 0x0⟩
def ADC.URGRES_CNT : Fld := ⟨0x808, 24, 8, 0x0⟩
def ADC.URGRES_OWF : Fld := ⟨0x808, 23, 1, 0x0⟩
def ADC.URGRES_CLIP : Fld := ⟨0x808, 22, 1, 0x0⟩
def ADC.URGRES_LATE : Fld := ⟨0x808, 21, 1, 0x0⟩
def ADC.URGRES_UNCAL : Fld := ⟨0x808, 20, 1, 0x0⟩
def ADC.URGRES_CH : Fld := ⟨0x808, 16, 4, 0x0⟩
def ADC.URGRES_VALUE : Fld := ⟨0x808, 0, 16, 0x0⟩
def ADC.TRGCNT_DISC : Fld := ⟨0x810, 24, 8, 0x0⟩
def ADC.TRGCNT_ABORT : Fld := ⟨0x810, 16, 8, 0x0⟩
def ADC.TRGCNT_MERGE : Fld := ⟨0x810, 8, 8, 0x0⟩
def ADC.CNTCLR : Fld := ⟨0x814, 0, 1, 0x0⟩
def ADC.RINGWR : Fld := ⟨0x818, 0, 16, 0x0⟩
def ADC.RINGRD : Fld := ⟨0x81C, 0, 16, 0x0⟩
def ADC.OVFCNT_RINGOVF : Fld := ⟨0x820, 16, 16, 0x0⟩
def ADC.OVFCNT_TRIGOVR : Fld := ⟨0x820, 0, 16, 0x0⟩
def ADC.OWSTAT : Fld := ⟨0x824, 0, 24, 0x0⟩
def ADC.RES_CNT (n : Nat) : Fld := ⟨0x840 + 0x4 * n, 24, 8, 0x0⟩
def ADC.RES_OWF (n : Nat) : Fld := ⟨0x840 + 0x4 * n, 23, 1, 0x0⟩
def ADC.RES_CLIP (n : Nat) : Fld := ⟨0x840 + 0x4 * n, 22, 1, 0x0⟩
def ADC.RES_LATE (n : Nat) : Fld := ⟨0x840 + 0x4 * n, 21, 1, 0x0⟩
def ADC.RES_UNCAL (n : Nat) : Fld := ⟨0x840 + 0x4 * n, 20, 1, 0x0⟩
def ADC.RES_VALUE (n : Nat) : Fld := ⟨0x840 + 0x4 * n, 0, 16, 0x0⟩
def ADC.RESTS (n : Nat) : Fld := ⟨0x880 + 0x4 * n, 0, 32, 0x0⟩
def ADC.E_CFG_REJ : Nat := 0
def ADC.E_TRIG_OVR : Nat := 1
def ADC.E_NRDY : Nat := 2
def ADC.E_URG_REJ : Nat := 3
def ADC.E_CLIP : Nat := 4
def ADC.E_RING_OVF : Nat := 5
def ADC.E_CAL_DEF : Nat := 6
def ADC.E_OPEN_WIRE : Nat := 7
def ADC.E_ANCH_MISS : Nat := 8
def ADC.E_CLK_STOP : Nat := 9
def ADC.E_REF_FAULT : Nat := 10
def ADC.I_SEQ_DONE : Nat := 0
def ADC.I_URG_DONE : Nat := 1
def ADC.I_OW : Nat := 2
def ADC.I_RING : Nat := 3
def ADC.I_REF_CHG : Nat := 4

/-! ### LTH -/

def LTH.STAT_CONSEC : Fld := ⟨0x014, 8, 2, 0x0⟩
def LTH.STAT_RAMP : Fld := ⟨0x014, 6, 1, 0x0⟩
def LTH.STAT_LIM : Fld := ⟨0x014, 5, 1, 0x0⟩
def LTH.STAT_CLOSEARM : Fld := ⟨0x014, 4, 1, 0x0⟩
def LTH.STAT_PEND : Fld := ⟨0x014, 3, 1, 0x0⟩
def LTH.STAT_BUSY : Fld := ⟨0x014, 2, 1, 0x0⟩
def LTH.STAT_STATE : Fld := ⟨0x014, 0, 2, 0x0⟩
def LTH.CFG_MIRROR : Fld := ⟨0x040, 31, 1, 0x0⟩
def LTH.CFG_HOLDRES : Fld := ⟨0x040, 30, 1, 0x0⟩
def LTH.CFG_HOLDN : Fld := ⟨0x040, 8, 8, 0x4⟩
def LTH.TSAMP : Fld := ⟨0x044, 0, 32, 0x37D1B717⟩
def LTH.TRIG_AFTEREN : Fld := ⟨0x048, 31, 1, 0x0⟩
def LTH.TRIG_AFTER : Fld := ⟨0x048, 24, 3, 0x0⟩
def LTH.TRIG_CMT : Fld := ⟨0x048, 1, 1, 0x0⟩
def LTH.TRIG_LI : Fld := ⟨0x048, 0, 1, 0x0⟩
def LTH.SPCFG_MEAS3 : Fld := ⟨0x04C, 12, 3, 0x0⟩
def LTH.SPCFG_MEAS2 : Fld := ⟨0x04C, 8, 3, 0x0⟩
def LTH.SPCFG_MEAS1 : Fld := ⟨0x04C, 4, 3, 0x0⟩
def LTH.SPCFG_MEAS0 : Fld := ⟨0x04C, 0, 3, 0x0⟩
def LTH.SRATE (n : Nat) : Fld := ⟨0x050 + 0x4 * n, 0, 32, 0x0⟩
def LTH.IN_SRC (n : Nat) : Fld := ⟨0x080 + 0x10 * n, 28, 4, 0x0⟩
def LTH.IN_SIGNED (n : Nat) : Fld := ⟨0x080 + 0x10 * n, 27, 1, 0x0⟩
def LTH.IN_IDX (n : Nat) : Fld := ⟨0x080 + 0x10 * n, 16, 6, 0x0⟩
def LTH.IN_STALEN (n : Nat) : Fld := ⟨0x080 + 0x10 * n, 8, 8, 0x0⟩
def LTH.IN_FRZN (n : Nat) : Fld := ⟨0x080 + 0x10 * n, 0, 8, 0x0⟩
def LTH.ISCL (n : Nat) : Fld := ⟨0x084 + 0x10 * n, 0, 32, 0x3F800000⟩
def LTH.IOFS (n : Nat) : Fld := ⟨0x088 + 0x10 * n, 0, 32, 0x0⟩
def LTH.OUT_KIND (n : Nat) : Fld := ⟨0x100 + 0x10 * n, 28, 4, 0x0⟩
def LTH.OUT_UNIT (n : Nat) : Fld := ⟨0x100 + 0x10 * n, 24, 3, 0x0⟩
def LTH.OUT_FIELD (n : Nat) : Fld := ⟨0x100 + 0x10 * n, 16, 4, 0x0⟩
def LTH.OUT_SEL (n : Nat) : Fld := ⟨0x100 + 0x10 * n, 0, 5, 0x1C⟩
def LTH.OSCL (n : Nat) : Fld := ⟨0x104 + 0x10 * n, 0, 32, 0x3F800000⟩
def LTH.OOFS (n : Nat) : Fld := ⟨0x108 + 0x10 * n, 0, 32, 0x0⟩
def LTH.SAFE (n : Nat) : Fld := ⟨0x10C + 0x10 * n, 0, 32, 0x0⟩
def LTH.STAGE_TYPE (n : Nat) : Fld := ⟨0x180 + 0x4 * n, 28, 4, 0x0⟩
def LTH.STAGE_SUB (n : Nat) : Fld := ⟨0x180 + 0x4 * n, 24, 3, 0x0⟩
def LTH.STAGE_A (n : Nat) : Fld := ⟨0x180 + 0x4 * n, 16, 5, 0x0⟩
def LTH.STAGE_B (n : Nat) : Fld := ⟨0x180 + 0x4 * n, 8, 5, 0x0⟩
def LTH.STAGE_C (n : Nat) : Fld := ⟨0x180 + 0x4 * n, 0, 5, 0x0⟩
def LTH.K (n : Nat) : Fld := ⟨0x200 + 0x4 * n, 0, 32, 0x0⟩
def LTH.CMD_CLOSE : Fld := ⟨0x800, 31, 1, 0x0⟩
def LTH.CMD_OPEN : Fld := ⟨0x800, 30, 1, 0x0⟩
def LTH.CMD_TRIG : Fld := ⟨0x800, 29, 1, 0x0⟩
def LTH.CMD_CNTCLR : Fld := ⟨0x800, 28, 1, 0x0⟩
def LTH.CNT_TRIGOVR : Fld := ⟨0x804, 24, 8, 0x0⟩
def LTH.CNT_OVRCNT : Fld := ⟨0x804, 16, 8, 0x0⟩
def LTH.CNT_DISC : Fld := ⟨0x804, 8, 8, 0x0⟩
def LTH.CNT_MERGE : Fld := ⟨0x804, 0, 8, 0x0⟩
def LTH.TIMING_IVL : Fld := ⟨0x808, 16, 16, 0x0⟩
def LTH.TIMING_CHAINT : Fld := ⟨0x808, 0, 8, 0x0⟩
def LTH.INSTAT_FRZ : Fld := ⟨0x80C, 8, 8, 0x0⟩
def LTH.INSTAT_STALE : Fld := ⟨0x80C, 0, 8, 0x0⟩
def LTH.SP (n : Nat) : Fld := ⟨0x810 + 0x4 * n, 0, 32, 0x0⟩
def LTH.SPEFF (n : Nat) : Fld := ⟨0x820 + 0x4 * n, 0, 32, 0x0⟩
def LTH.INVAL (n : Nat) : Fld := ⟨0x830 + 0x4 * n, 0, 32, 0x0⟩
def LTH.INV (n : Nat) : Fld := ⟨0x850 + 0x4 * n, 0, 32, 0x0⟩
def LTH.OUTV (n : Nat) : Fld := ⟨0x870 + 0x4 * n, 0, 32, 0x0⟩
def LTH.STATEW (n : Nat) : Fld := ⟨0x900 + 0x4 * n, 0, 32, 0x0⟩
def LTH.SOUT (n : Nat) : Fld := ⟨0xA00 + 0x4 * n, 0, 32, 0x0⟩
def LTH.E_CFG_REJ : Nat := 0
def LTH.E_OVR : Nat := 1
def LTH.E_OVR_STOP : Nat := 2
def LTH.E_TRIG_OVR : Nat := 3
def LTH.E_STALE : Nat := 4
def LTH.E_OPENED : Nat := 5
def LTH.E_ARITH : Nat := 6
def LTH.E_TS_DEV : Nat := 7
def LTH.E_PR_RANGE : Nat := 8
def LTH.E_CLK_STOP : Nat := 9
def LTH.I_DONE : Nat := 0
def LTH.I_STATE_CHG : Nat := 1
def LTH.I_LIM : Nat := 2

/-! ### ETH -/

def ETH.PCSCFG_LINKUP : Fld := ⟨0x040, 15, 1, 0x0⟩
def ETH.PCSCFG_SPEED : Fld := ⟨0x040, 12, 2, 0x2⟩
def ETH.PCSCFG_ANEN : Fld := ⟨0x040, 2, 1, 0x1⟩
def ETH.PCSCFG_MODE : Fld := ⟨0x040, 0, 1, 0x0⟩
def ETH.MACCTL_MCALL : Fld := ⟨0x044, 5, 1, 0x0⟩
def ETH.MACCTL_PROMISC : Fld := ⟨0x044, 4, 1, 0x0⟩
def ETH.MACCTL_BCAST : Fld := ⟨0x044, 3, 1, 0x1⟩
def ETH.MACCTL_RXEN : Fld := ⟨0x044, 1, 1, 0x0⟩
def ETH.MACCTL_TXEN : Fld := ⟨0x044, 0, 1, 0x0⟩
def ETH.MACLO : Fld := ⟨0x048, 0, 32, 0x0⟩
def ETH.MACHI : Fld := ⟨0x04C, 0, 16, 0x0⟩
def ETH.TXRING : Fld := ⟨0x060, 4, 28, 0x2000000⟩
def ETH.TXCFG_EN : Fld := ⟨0x064, 31, 1, 0x0⟩
def ETH.TXCFG_K : Fld := ⟨0x064, 0, 4, 0x2⟩
def ETH.RXRING : Fld := ⟨0x068, 4, 28, 0x2000000⟩
def ETH.RXCFG_EN : Fld := ⟨0x06C, 31, 1, 0x0⟩
def ETH.RXCFG_K : Fld := ⟨0x06C, 0, 4, 0x2⟩
def ETH.MDIOCMD_GO : Fld := ⟨0x070, 31, 1, 0x0⟩
def ETH.MDIOCMD_READ : Fld := ⟨0x070, 30, 1, 0x0⟩
def ETH.MDIOCMD_PHY : Fld := ⟨0x070, 21, 5, 0x0⟩
def ETH.MDIOCMD_REG : Fld := ⟨0x070, 16, 5, 0x0⟩
def ETH.MDIOCMD_DATA : Fld := ⟨0x070, 0, 16, 0x0⟩
def ETH.PTPCFG_DOMAIN : Fld := ⟨0x300, 24, 8, 0x0⟩
def ETH.PTPCFG_MCEN : Fld := ⟨0x300, 7, 1, 0x0⟩
def ETH.PTPCFG_VLAN : Fld := ⟨0x300, 6, 1, 0x0⟩
def ETH.PTPCFG_ONESTEP : Fld := ⟨0x300, 5, 1, 0x0⟩
def ETH.PTPCFG_UDP6EN : Fld := ⟨0x300, 4, 1, 0x0⟩
def ETH.PTPCFG_UDP4EN : Fld := ⟨0x300, 3, 1, 0x0⟩
def ETH.PTPCFG_L2EN : Fld := ⟨0x300, 2, 1, 0x1⟩
def ETH.PTPCFG_TSEN : Fld := ⟨0x300, 0, 1, 0x0⟩
def ETH.TXLAT_LAT : Fld := ⟨0x304, 0, 24, 0x0⟩
def ETH.RXLAT_LAT : Fld := ⟨0x308, 0, 24, 0x0⟩
def ETH.TXHEAD : Fld := ⟨0x800, 0, 8, 0x0⟩
def ETH.TXTAIL : Fld := ⟨0x804, 0, 8, 0x0⟩
def ETH.RXHEAD : Fld := ⟨0x808, 0, 8, 0x0⟩
def ETH.RXTAIL : Fld := ⟨0x80C, 0, 8, 0x0⟩
def ETH.MDIOSTAT_BUSY : Fld := ⟨0x810, 31, 1, 0x0⟩
def ETH.MDIOSTAT_DATA : Fld := ⟨0x810, 0, 16, 0x0⟩
def ETH.TXCNT : Fld := ⟨0x820, 0, 32, 0x0⟩
def ETH.RXCNT : Fld := ⟨0x824, 0, 32, 0x0⟩
def ETH.RXERRCNT_NODESC : Fld := ⟨0x828, 16, 16, 0x0⟩
def ETH.RXERRCNT_BAD : Fld := ⟨0x828, 0, 16, 0x0⟩
def ETH.TXTSINFO_VALID : Fld := ⟨0xC00, 31, 1, 0x0⟩
def ETH.TXTSINFO_STEPGEN : Fld := ⟨0xC00, 24, 4, 0x0⟩
def ETH.TXTSINFO_MSGTYPE : Fld := ⟨0xC00, 20, 4, 0x0⟩
def ETH.TXTSINFO_TRANSP : Fld := ⟨0xC00, 18, 2, 0x0⟩
def ETH.TXTSINFO_SEQID : Fld := ⟨0xC00, 0, 16, 0x0⟩
def ETH.TXTSNS : Fld := ⟨0xC04, 0, 30, 0x0⟩
def ETH.TXTSSL : Fld := ⟨0xC08, 0, 32, 0x0⟩
def ETH.TXTSSH_FRAC : Fld := ⟨0xC0C, 16, 16, 0x0⟩
def ETH.TXTSSH_SECH : Fld := ⟨0xC0C, 0, 16, 0x0⟩
def ETH.RXTSINFO_VALID : Fld := ⟨0xC10, 31, 1, 0x0⟩
def ETH.RXTSINFO_STEPGEN : Fld := ⟨0xC10, 24, 4, 0x0⟩
def ETH.RXTSINFO_MSGTYPE : Fld := ⟨0xC10, 20, 4, 0x0⟩
def ETH.RXTSINFO_TRANSP : Fld := ⟨0xC10, 18, 2, 0x0⟩
def ETH.RXTSINFO_SEQID : Fld := ⟨0xC10, 0, 16, 0x0⟩
def ETH.RXTSNS : Fld := ⟨0xC14, 0, 30, 0x0⟩
def ETH.RXTSSL : Fld := ⟨0xC18, 0, 32, 0x0⟩
def ETH.RXTSSH_FRAC : Fld := ⟨0xC1C, 16, 16, 0x0⟩
def ETH.RXTSSH_SECH : Fld := ⟨0xC1C, 0, 16, 0x0⟩
def ETH.TSSTAT_TXOVF : Fld := ⟨0xC20, 24, 8, 0x0⟩
def ETH.TSSTAT_RXOVF : Fld := ⟨0xC20, 16, 8, 0x0⟩
def ETH.TSSTAT_CLROVF : Fld := ⟨0xC20, 15, 1, 0x0⟩
def ETH.TSSTAT_RXFILL : Fld := ⟨0xC20, 8, 5, 0x0⟩
def ETH.TSSTAT_TXFILL : Fld := ⟨0xC20, 0, 5, 0x0⟩
def ETH.E_CFG_REJ : Nat := 0
def ETH.E_RX_DROP : Nat := 1
def ETH.E_TS_OVF : Nat := 2
def ETH.E_BUS_ERR : Nat := 3
def ETH.I_TX_DONE : Nat := 0
def ETH.I_RX_DONE : Nat := 1
def ETH.I_LINK_CHG : Nat := 2
def ETH.I_MDIO_DONE : Nat := 3
def ETH.I_TS : Nat := 4

/-! ### DDRC -/

def DDRC.WINBASE_BASE : Fld := ⟨0x040, 0, 6, 0x0⟩
def DDRC.CFG_RANK2 : Fld := ⟨0x044, 31, 1, 0x0⟩
def DDRC.CFG_DENS : Fld := ⟨0x044, 24, 2, 0x0⟩
def DDRC.CFG_X16 : Fld := ⟨0x044, 20, 1, 0x0⟩
def DDRC.CFG_ECCEN : Fld := ⟨0x044, 16, 1, 0x0⟩
def DDRC.CFG_PAREN : Fld := ⟨0x044, 12, 1, 0x0⟩
def DDRC.CFG_RATE : Fld := ⟨0x044, 0, 2, 0x0⟩
def DDRC.TIM (n : Nat) : Fld := ⟨0x048 + 0x4 * n, 0, 32, 0x0⟩
def DDRC.SCRUB_IVL : Fld := ⟨0x058, 0, 16, 0x0⟩
def DDRC.INIT_GO : Fld := ⟨0x800, 31, 1, 0x0⟩
def DDRC.STAT_TRAINING : Fld := ⟨0x804, 1, 1, 0x0⟩
def DDRC.STAT_READY : Fld := ⟨0x804, 0, 1, 0x0⟩
def DDRC.CECNT : Fld := ⟨0x808, 0, 16, 0x0⟩
def DDRC.ECCADDRLO : Fld := ⟨0x80C, 0, 32, 0x0⟩
def DDRC.ECCADDRHI : Fld := ⟨0x810, 0, 8, 0x0⟩
def DDRC.E_WIN_RANGE : Nat := 0
def DDRC.E_ECC_CE : Nat := 1
def DDRC.E_ECC_UE : Nat := 2
def DDRC.E_TRAIN_FAIL : Nat := 3
def DDRC.E_PAR_ALERT : Nat := 4

/-! ### ANMG -/

def ANMG.CTRL_FLUSH : Fld := ⟨0x040, 0, 8, 0x10⟩
def ANMG.TRIG_GO : Fld := ⟨0x800, 31, 1, 0x0⟩
def ANMG.MARK_GO : Fld := ⟨0x804, 31, 1, 0x0⟩
def ANMG.MARK_EV : Fld := ⟨0x804, 0, 8, 0x0⟩
def ANMG.E_CFG_REJ : Nat := 0
def ANMG.E_DROP : Nat := 1
def ANMG.E_INVALID : Nat := 2
def ANMG.I_FROZEN : Nat := 0
def ANMG.I_TRIG : Nat := 1

/-! ### QSPI -/

def QSPI.CFG_A4 : Fld := ⟨0x040, 16, 1, 0x0⟩
def QSPI.CFG_DIV : Fld := ⟨0x040, 8, 8, 0x13⟩
def QSPI.CFG_DUMMY : Fld := ⟨0x040, 4, 4, 0x0⟩
def QSPI.CFG_MODE : Fld := ⟨0x040, 0, 2, 0x0⟩
def QSPI.CMD_GO : Fld := ⟨0x800, 31, 1, 0x0⟩
def QSPI.CMD_WRITE : Fld := ⟨0x800, 30, 1, 0x0⟩
def QSPI.CMD_ADDREN : Fld := ⟨0x800, 29, 1, 0x0⟩
def QSPI.CMD_OPCODE : Fld := ⟨0x800, 16, 8, 0x0⟩
def QSPI.CMD_LEN : Fld := ⟨0x800, 0, 9, 0x0⟩
def QSPI.ADDR : Fld := ⟨0x804, 0, 32, 0x0⟩
def QSPI.STAT_BUSY : Fld := ⟨0x808, 31, 1, 0x0⟩
def QSPI.STAT_THRMHOLD : Fld := ⟨0x808, 30, 1, 0x0⟩
def QSPI.DATA (n : Nat) : Fld := ⟨0xC00 + 0x4 * n, 0, 32, 0x0⟩
def QSPI.E_CFG_REJ : Nat := 0
def QSPI.I_DONE : Nat := 0

/-! ### UART -/

def UART.CFG_EN : Fld := ⟨0x040, 31, 1, 0x0⟩
def UART.CFG_PARITY : Fld := ⟨0x040, 26, 2, 0x0⟩
def UART.CFG_STOP2 : Fld := ⟨0x040, 25, 1, 0x0⟩
def UART.CFG_DIV : Fld := ⟨0x040, 0, 16, 0x87A⟩
def UART.DATA_VALID : Fld := ⟨0x800, 31, 1, 0x0⟩
def UART.DATA_FRAMEERR : Fld := ⟨0x800, 9, 1, 0x0⟩
def UART.DATA_PARERR : Fld := ⟨0x800, 8, 1, 0x0⟩
def UART.DATA_BYTE : Fld := ⟨0x800, 0, 8, 0x0⟩
def UART.STAT_TXBUSY : Fld := ⟨0x804, 31, 1, 0x0⟩
def UART.STAT_RXFILL : Fld := ⟨0x804, 8, 5, 0x0⟩
def UART.STAT_TXFILL : Fld := ⟨0x804, 0, 5, 0x0⟩
def UART.E_CFG_REJ : Nat := 0
def UART.E_RX_OVF : Nat := 1
def UART.E_FRAME_ERR : Nat := 2
def UART.E_PARITY_ERR : Nat := 3
def UART.E_TX_OVF : Nat := 4
def UART.I_RX_NE : Nat := 0
def UART.I_TX_EMPTY : Nat := 1

/-! ### I2C -/

def I2C.CFG_EN : Fld := ⟨0x040, 31, 1, 0x0⟩
def I2C.CFG_SPEED : Fld := ⟨0x040, 0, 2, 0x0⟩
def I2C.CMD_GO : Fld := ⟨0x800, 31, 1, 0x0⟩
def I2C.CMD_READ : Fld := ⟨0x800, 30, 1, 0x0⟩
def I2C.CMD_NOSTOP : Fld := ⟨0x800, 29, 1, 0x0⟩
def I2C.CMD_ADDR : Fld := ⟨0x800, 16, 7, 0x0⟩
def I2C.CMD_LEN : Fld := ⟨0x800, 0, 6, 0x0⟩
def I2C.STAT_BUSY : Fld := ⟨0x804, 31, 1, 0x0⟩
def I2C.STAT_NACK : Fld := ⟨0x804, 30, 1, 0x0⟩
def I2C.STAT_MOVED : Fld := ⟨0x804, 0, 6, 0x0⟩
def I2C.DATA (n : Nat) : Fld := ⟨0xC00 + 0x4 * n, 0, 32, 0x0⟩
def I2C.E_CFG_REJ : Nat := 0
def I2C.E_NACK : Nat := 1
def I2C.E_BUS_STUCK : Nat := 2
def I2C.I_DONE : Nat := 0

/-! ### SPI -/

def SPI.CFG_EN : Fld := ⟨0x040, 31, 1, 0x0⟩
def SPI.CFG_MODE : Fld := ⟨0x040, 24, 2, 0x0⟩
def SPI.CFG_LSBFIRST : Fld := ⟨0x040, 16, 1, 0x0⟩
def SPI.CFG_DIV : Fld := ⟨0x040, 0, 12, 0x32⟩
def SPI.CMD_GO : Fld := ⟨0x800, 31, 1, 0x0⟩
def SPI.CMD_LEN : Fld := ⟨0x800, 0, 9, 0x0⟩
def SPI.STAT_BUSY : Fld := ⟨0x804, 31, 1, 0x0⟩
def SPI.DATA (n : Nat) : Fld := ⟨0xC00 + 0x4 * n, 0, 32, 0x0⟩
def SPI.E_CFG_REJ : Nat := 0
def SPI.I_DONE : Nat := 0

/-! ### GPIO -/

def GPIO.DIR : Fld := ⟨0x040, 0, 24, 0x0⟩
def GPIO.OD : Fld := ⟨0x044, 0, 24, 0x0⟩
def GPIO.EDGE0 : Fld := ⟨0x048, 0, 32, 0x0⟩
def GPIO.EDGE1 : Fld := ⟨0x04C, 0, 16, 0x0⟩
def GPIO.OUT : Fld := ⟨0x800, 0, 24, 0x0⟩
def GPIO.IN : Fld := ⟨0x804, 0, 24, 0x0⟩
def GPIO.SET : Fld := ⟨0x808, 0, 24, 0x0⟩
def GPIO.CLR : Fld := ⟨0x80C, 0, 24, 0x0⟩
def GPIO.EDGEFLG : Fld := ⟨0x810, 0, 24, 0x0⟩
def GPIO.E_CFG_REJ : Nat := 0
def GPIO.I_ANY : Nat := 0

/-! ### The register tables -/

def SYSC.table : List RegRow :=
  [⟨0x040, 0x0, 1, [⟨.ro, 6, 1, 0x0⟩, ⟨.ro, 4, 2, 0x0⟩, ⟨.ro, 2, 2, 0x0⟩, ⟨.ro, 0, 2, 0x0⟩]⟩,
   ⟨0x044, 0x0, 1, [⟨.ro, 8, 3, 0x0⟩, ⟨.w1c, 4, 1, 0x0⟩, ⟨.w1c, 3, 1, 0x0⟩, ⟨.w1c, 2, 1, 0x0⟩, ⟨.w1c, 1, 1, 0x0⟩, ⟨.w1c, 0, 1, 0x1⟩]⟩,
   ⟨0x048, 0x0, 1, [⟨.ro, 6, 1, 0x0⟩, ⟨.ro, 0, 6, 0x3F⟩]⟩,
   ⟨0x04C, 0x0, 1, [⟨.wo, 16, 16, 0x0⟩, ⟨.wo, 0, 1, 0x0⟩]⟩,
   ⟨0x050, 0x0, 1, [⟨.rw, 1, 1, 0x0⟩, ⟨.rw, 0, 1, 0x0⟩]⟩,
   ⟨0x054, 0x0, 1, [⟨.wo, 31, 1, 0x0⟩, ⟨.wo, 0, 16, 0x0⟩]⟩,
   ⟨0x058, 0x0, 1, [⟨.ro, 12, 4, 0x0⟩, ⟨.ro, 0, 8, 0x0⟩]⟩,
   ⟨0x05C, 0x0, 1, [⟨.ro, 16, 16, 0x0⟩, ⟨.ro, 12, 1, 0x0⟩, ⟨.ro, 8, 4, 0x0⟩, ⟨.ro, 4, 3, 0x0⟩, ⟨.ro, 0, 3, 0x0⟩]⟩,
   ⟨0x060, 0x0, 1, [⟨.wo, 1, 1, 0x0⟩, ⟨.wo, 0, 1, 0x0⟩]⟩,
   ⟨0x064, 0x0, 1, [⟨.rw, 16, 16, 0xFFFF⟩, ⟨.rw, 0, 16, 0xFFFF⟩]⟩]

def SYN.table : List RegRow :=
  [⟨0x040, 0x0, 1, [⟨.rw, 13, 1, 0x1⟩, ⟨.rw, 12, 1, 0x1⟩, ⟨.rw, 8, 3, 0x3⟩, ⟨.sh, 4, 2, 0x0⟩, ⟨.rw, 1, 2, 0x0⟩, ⟨.rw, 0, 1, 0x0⟩]⟩,
   ⟨0x044, 0x0, 1, [⟨.sh, 0, 10, 0x0⟩]⟩,
   ⟨0x048, 0x0, 1, [⟨.sh, 0, 24, 0x0⟩]⟩,
   ⟨0x04C, 0x0, 1, [⟨.sh, 24, 3, 0x4⟩, ⟨.sh, 16, 6, 0x26⟩, ⟨.sh, 8, 8, 0x2⟩, ⟨.sh, 0, 8, 0x5⟩]⟩,
   ⟨0x050, 0x0, 1, [⟨.wo, 0, 1, 0x0⟩]⟩,
   ⟨0x054, 0x0, 1, [⟨.ro, 16, 16, 0x8000⟩, ⟨.ro, 10, 6, 0x0⟩, ⟨.ro, 8, 2, 0x0⟩, ⟨.ro, 4, 3, 0x0⟩, ⟨.ro, 3, 1, 0x1⟩, ⟨.ro, 2, 1, 0x0⟩, ⟨.ro, 1, 1, 0x0⟩, ⟨.ro, 0, 1, 0x0⟩]⟩,
   ⟨0x058, 0x0, 1, [⟨.rw, 0, 8, 0xC⟩]⟩,
   ⟨0x05C, 0x0, 1, [⟨.rw, 0, 16, 0x83⟩]⟩,
   ⟨0x060, 0x0, 1, [⟨.wo, 31, 1, 0x0⟩, ⟨.ro, 30, 1, 0x0⟩, ⟨.rw, 8, 2, 0x0⟩, ⟨.rw, 0, 6, 0x0⟩]⟩,
   ⟨0x064, 0x0, 1, [⟨.ro, 0, 20, 0x0⟩]⟩,
   ⟨0x100, 0x4, 64, [⟨.rw, 31, 1, 0x0⟩, ⟨.rw, 0, 16, 0x0⟩]⟩]

def CKSW.table : List RegRow :=
  [⟨0x040, 0x0, 1, [⟨.ro, 16, 16, 0x0⟩, ⟨.ro, 2, 1, 0x0⟩, ⟨.ro, 0, 2, 0x2⟩]⟩,
   ⟨0x044, 0x0, 1, [⟨.rw, 8, 1, 0x0⟩, ⟨.rw, 4, 1, 0x0⟩, ⟨.wo, 1, 1, 0x0⟩, ⟨.wo, 0, 1, 0x0⟩]⟩,
   ⟨0x048, 0x0, 1, [⟨.rw, 8, 1, 0x1⟩, ⟨.ro, 0, 8, 0x80⟩]⟩]

def FCOL.table : List RegRow :=
  [⟨0x014, 0x0, 1, [⟨.ro, 3, 1, 0x0⟩, ⟨.ro, 2, 1, 0x0⟩, ⟨.ro, 1, 1, 0x1⟩, ⟨.ro, 0, 1, 0x0⟩]⟩,
   ⟨0x040, 0x0, 1, [⟨.rw, 0, 4, 0x3⟩]⟩,
   ⟨0x044, 0x0, 1, [⟨.rw, 31, 1, 0x0⟩, ⟨.rw, 0, 10, 0x3⟩]⟩,
   ⟨0x048, 0x0, 1, [⟨.rw, 24, 8, 0x0⟩, ⟨.rw, 0, 13, 0x1F4⟩]⟩,
   ⟨0x100, 0x4, 48, [⟨.rw, 20, 10, 0x197⟩, ⟨.rw, 10, 10, 0x3⟩, ⟨.rw, 0, 10, 0x0⟩]⟩,
   ⟨0x200, 0x8, 48, [⟨.rw, 0, 32, 0x0⟩]⟩,
   ⟨0x204, 0x8, 48, [⟨.rw, 0, 16, 0x0⟩]⟩,
   ⟨0x400, 0x4, 16, [⟨.rw, 0, 10, 0x0⟩]⟩,
   ⟨0x800, 0x0, 1, [⟨.ro, 0, 32, 0x0⟩]⟩,
   ⟨0x804, 0x0, 1, [⟨.ro, 0, 16, 0x0⟩]⟩,
   ⟨0x808, 0x0, 1, [⟨.ro, 0, 16, 0x0⟩]⟩,
   ⟨0x80C, 0x0, 1, [⟨.wo, 31, 1, 0x0⟩]⟩,
   ⟨0x810, 0x0, 1, [⟨.wo, 31, 1, 0x0⟩]⟩,
   ⟨0x814, 0x0, 1, [⟨.wo, 31, 1, 0x0⟩, ⟨.wo, 6, 1, 0x0⟩, ⟨.wo, 0, 6, 0x0⟩]⟩,
   ⟨0x818, 0x0, 1, [⟨.ro, 0, 11, 0x0⟩]⟩,
   ⟨0x81C, 0x0, 1, [⟨.rw, 0, 11, 0x0⟩]⟩,
   ⟨0x820, 0x0, 1, [⟨.ro, 16, 16, 0x0⟩, ⟨.ro, 0, 16, 0x0⟩]⟩,
   ⟨0x824, 0x0, 1, [⟨.wo, 0, 1, 0x0⟩]⟩,
   ⟨0x840, 0x4, 8, [⟨.ro, 0, 32, 0x0⟩]⟩,
   ⟨0x900, 0x4, 48, [⟨.ro, 0, 16, 0x0⟩]⟩]

def THRM.table : List RegRow :=
  [⟨0x014, 0x0, 1, [⟨.ro, 1, 1, 0x0⟩, ⟨.ro, 0, 1, 0x0⟩]⟩,
   ⟨0x040, 0x0, 1, [⟨.rw, 16, 4, 0xF⟩, ⟨.rw, 8, 8, 0xA⟩, ⟨.rw, 1, 1, 0x1⟩, ⟨.rw, 0, 1, 0x1⟩]⟩,
   ⟨0x044, 0x0, 1, [⟨.rw, 16, 16, 0x6E0⟩, ⟨.rw, 0, 12, 0x50⟩]⟩,
   ⟨0x048, 0x0, 1, [⟨.rw, 16, 16, 0x780⟩, ⟨.rw, 0, 12, 0x50⟩]⟩,
   ⟨0x04C, 0x0, 1, [⟨.rw, 16, 16, 0x870⟩, ⟨.rw, 0, 12, 0xA0⟩]⟩,
   ⟨0x050, 0x0, 1, [⟨.rw, 0, 16, 0x910⟩]⟩,
   ⟨0x054, 0x0, 1, [⟨.rw, 16, 16, 0x640⟩, ⟨.rw, 0, 16, 0x780⟩]⟩,
   ⟨0x058, 0x0, 1, [⟨.rw, 8, 8, 0xFF⟩, ⟨.rw, 0, 8, 0x80⟩]⟩,
   ⟨0x060, 0x4, 4, [⟨.rw, 31, 1, 0x0⟩, ⟨.rw, 30, 1, 0x0⟩, ⟨.rw, 0, 4, 0x0⟩]⟩,
   ⟨0x080, 0x4, 8, [⟨.rw, 16, 16, 0x0⟩, ⟨.rw, 0, 16, 0x0⟩]⟩,
   ⟨0x0A0, 0x0, 1, [⟨.rw, 31, 1, 0x0⟩, ⟨.rw, 30, 1, 0x0⟩]⟩,
   ⟨0x0A4, 0x0, 1, [⟨.rw, 0, 32, 0x0⟩]⟩,
   ⟨0x0A8, 0x0, 1, [⟨.rw, 0, 32, 0x0⟩]⟩,
   ⟨0x0AC, 0x0, 1, [⟨.rw, 0, 32, 0x0⟩]⟩,
   ⟨0x800, 0x0, 1, [⟨.ro, 31, 1, 0x0⟩, ⟨.ro, 0, 16, 0x0⟩]⟩,
   ⟨0x804, 0x0, 1, [⟨.ro, 16, 4, 0x0⟩, ⟨.ro, 0, 16, 0x0⟩]⟩,
   ⟨0x810, 0x4, 4, [⟨.ro, 31, 1, 0x0⟩, ⟨.ro, 0, 16, 0x0⟩]⟩,
   ⟨0x820, 0x4, 4, [⟨.ro, 31, 1, 0x0⟩, ⟨.ro, 0, 16, 0x0⟩]⟩,
   ⟨0x830, 0x0, 1, [⟨.ro, 16, 8, 0xFF⟩, ⟨.ro, 8, 8, 0x0⟩, ⟨.ro, 4, 1, 0x0⟩, ⟨.ro, 3, 1, 0x0⟩, ⟨.ro, 2, 1, 0x0⟩, ⟨.ro, 1, 1, 0x0⟩, ⟨.ro, 0, 1, 0x0⟩]⟩,
   ⟨0x834, 0x0, 1, [⟨.wo, 31, 1, 0x0⟩]⟩] ++
  [⟨0x838, 0x0, 1, [⟨.ro, 16, 16, 0x0⟩, ⟨.ro, 0, 16, 0x0⟩]⟩]

def TSTK.table : List RegRow :=
  [⟨0x040, 0x0, 1, [⟨.rw, 6, 1, 0x1⟩, ⟨.rw, 5, 1, 0x1⟩, ⟨.rw, 4, 1, 0x0⟩, ⟨.rw, 3, 1, 0x1⟩, ⟨.rw, 1, 1, 0x1⟩, ⟨.rw, 0, 1, 0x1⟩]⟩,
   ⟨0x044, 0x0, 1, [⟨.rw, 16, 9, 0x64⟩, ⟨.rw, 0, 9, 0x64⟩]⟩,
   ⟨0x048, 0x0, 1, [⟨.rw, 20, 12, 0xA⟩, ⟨.rw, 9, 9, 0xC8⟩, ⟨.rw, 0, 9, 0xC8⟩]⟩,
   ⟨0x800, 0x0, 1, [⟨.wo, 31, 1, 0x0⟩, ⟨.wo, 30, 1, 0x0⟩, ⟨.wo, 29, 1, 0x0⟩, ⟨.wo, 28, 1, 0x0⟩, ⟨.wo, 0, 16, 0x0⟩]⟩,
   ⟨0x804, 0x0, 1, [⟨.ro, 28, 4, 0x0⟩, ⟨.ro, 27, 1, 0x0⟩, ⟨.ro, 25, 2, 0x0⟩, ⟨.ro, 24, 1, 0x0⟩, ⟨.ro, 16, 4, 0x0⟩, ⟨.ro, 0, 3, 0x0⟩]⟩,
   ⟨0x808, 0x0, 1, [⟨.ro, 4, 4, 0x0⟩, ⟨.ro, 0, 4, 0x0⟩]⟩,
   ⟨0x80C, 0x0, 1, [⟨.ro, 3, 1, 0x0⟩, ⟨.ro, 2, 1, 0x0⟩, ⟨.ro, 1, 1, 0x0⟩, ⟨.ro, 0, 1, 0x0⟩]⟩,
   ⟨0x810, 0x0, 1, [⟨.ro, 0, 16, 0x0⟩]⟩,
   ⟨0x814, 0x0, 1, [⟨.ro, 16, 16, 0x0⟩, ⟨.ro, 0, 16, 0x0⟩]⟩,
   ⟨0x818, 0x0, 1, [⟨.ro, 0, 12, 0x0⟩]⟩]

def INTC.table : List RegRow :=
  [⟨0x040, 0x0, 1, [⟨.rw, 0, 32, 0x0⟩]⟩,
   ⟨0x044, 0x0, 1, [⟨.w1c, 31, 1, 0x0⟩, ⟨.rw, 0, 1, 0x0⟩]⟩,
   ⟨0x100, 0x4, 256, [⟨.rw, 9, 1, 0x0⟩, ⟨.rw, 8, 1, 0x0⟩, ⟨.rw, 0, 4, 0x0⟩]⟩,
   ⟨0x800, 0x8, 2, [⟨.rw, 0, 4, 0x0⟩]⟩,
   ⟨0x804, 0x8, 2, [⟨.rw, 0, 9, 0x0⟩]⟩,
   ⟨0x820, 0x0, 1, [⟨.rw, 0, 8, 0x0⟩]⟩,
   ⟨0x900, 0x4, 8, [⟨.ro, 0, 32, 0x0⟩]⟩,
   ⟨0x980, 0x0, 1, [⟨.w1c, 0, 32, 0x0⟩]⟩,
   ⟨0x984, 0x0, 1, [⟨.w1c, 0, 32, 0x0⟩]⟩,
   ⟨0x988, 0x0, 1, [⟨.w1c, 0, 32, 0x0⟩]⟩,
   ⟨0x98C, 0x0, 1, [⟨.ro, 0, 32, 0x0⟩]⟩]

def DMA.table : List RegRow :=
  [⟨0x800, 0x20, 16, [⟨.wo, 31, 1, 0x0⟩, ⟨.wo, 30, 1, 0x0⟩, ⟨.rw, 16, 4, 0x0⟩, ⟨.rw, 8, 4, 0x0⟩, ⟨.rw, 0, 5, 0x0⟩]⟩,
   ⟨0x804, 0x20, 16, [⟨.rw, 0, 32, 0x0⟩]⟩,
   ⟨0x808, 0x20, 16, [⟨.ro, 31, 1, 0x0⟩, ⟨.ro, 30, 1, 0x0⟩, ⟨.ro, 29, 1, 0x0⟩, ⟨.ro, 0, 4, 0x0⟩]⟩]

def CALS.table : List RegRow :=
  [⟨0x014, 0x0, 1, [⟨.ro, 1, 3, 0x0⟩, ⟨.ro, 0, 1, 0x0⟩]⟩,
   ⟨0x040, 0x0, 1, [⟨.rw, 0, 7, 0x0⟩]⟩,
   ⟨0x044, 0x4, 7, [⟨.rw, 0, 32, 0x0⟩]⟩,
   ⟨0x060, 0x0, 1, [⟨.rw, 31, 1, 0x0⟩, ⟨.rw, 16, 4, 0x8⟩, ⟨.rw, 0, 5, 0x0⟩]⟩,
   ⟨0x064, 0x0, 1, [⟨.rw, 16, 16, 0x0⟩, ⟨.rw, 0, 16, 0x0⟩]⟩,
   ⟨0x068, 0x0, 1, [⟨.rw, 16, 12, 0x0⟩, ⟨.rw, 8, 2, 0x0⟩, ⟨.rw, 0, 4, 0x0⟩]⟩,
   ⟨0x06C, 0x0, 1, [⟨.rw, 16, 4, 0x0⟩, ⟨.rw, 0, 16, 0x0⟩]⟩,
   ⟨0x800, 0x0, 1, [⟨.wo, 31, 1, 0x0⟩, ⟨.wo, 30, 1, 0x0⟩, ⟨.wo, 29, 1, 0x0⟩, ⟨.wo, 28, 1, 0x0⟩, ⟨.wo, 27, 1, 0x0⟩, ⟨.wo, 26, 1, 0x0⟩, ⟨.wo, 25, 1, 0x0⟩, ⟨.wo, 16, 5, 0x0⟩, ⟨.wo, 0, 16, 0x0⟩]⟩,
   ⟨0x808, 0x4, 2, [⟨.ro, 0, 24, 0x0⟩]⟩,
   ⟨0x810, 0x0, 1, [⟨.ro, 16, 16, 0x0⟩, ⟨.ro, 0, 16, 0x0⟩]⟩,
   ⟨0x820, 0x4, 4, [⟨.ro, 0, 32, 0x0⟩]⟩]

def TIME.table : List RegRow :=
  [⟨0x014, 0x0, 1, [⟨.ro, 8, 4, 0x0⟩, ⟨.ro, 4, 2, 0x0⟩, ⟨.ro, 3, 1, 0x0⟩, ⟨.ro, 2, 1, 0x0⟩, ⟨.ro, 1, 1, 0x0⟩, ⟨.ro, 0, 1, 0x0⟩]⟩,
   ⟨0x040, 0x0, 1, [⟨.rw, 0, 2, 0x0⟩]⟩,
   ⟨0x100, 0x20, 4, [⟨.rw, 24, 8, 0x0⟩, ⟨.rw, 8, 1, 0x1⟩, ⟨.rw, 2, 1, 0x0⟩, ⟨.rw, 0, 2, 0x0⟩]⟩,
   ⟨0x104, 0x20, 4, [⟨.rw, 0, 30, 0x0⟩]⟩,
   ⟨0x108, 0x20, 4, [⟨.rw, 0, 32, 0x0⟩]⟩,
   ⟨0x10C, 0x20, 4, [⟨.rw, 16, 16, 0x0⟩, ⟨.rw, 0, 16, 0x0⟩]⟩,
   ⟨0x110, 0x20, 4, [⟨.rw, 0, 30, 0x0⟩]⟩,
   ⟨0x114, 0x20, 4, [⟨.rw, 16, 16, 0x0⟩, ⟨.rw, 0, 8, 0x0⟩]⟩,
   ⟨0x118, 0x20, 4, [⟨.rw, 0, 30, 0x0⟩]⟩,
   ⟨0x200, 0x4, 2, [⟨.rw, 0, 2, 0x0⟩]⟩,
   ⟨0x800, 0x0, 1, [⟨.ro, 0, 30, 0x0⟩]⟩,
   ⟨0x804, 0x0, 1, [⟨.ro, 0, 32, 0x0⟩]⟩,
   ⟨0x808, 0x0, 1, [⟨.ro, 16, 16, 0x0⟩, ⟨.ro, 0, 16, 0x0⟩]⟩,
   ⟨0x810, 0x0, 1, [⟨.rw, 0, 32, 0x0⟩]⟩,
   ⟨0x814, 0x0, 1, [⟨.rw, 0, 32, 0x0⟩]⟩,
   ⟨0x818, 0x0, 1, [⟨.wo, 31, 1, 0x0⟩, ⟨.ro, 30, 1, 0x0⟩, ⟨.rw, 0, 11, 0x0⟩]⟩,
   ⟨0x820, 0x0, 1, [⟨.rw, 0, 30, 0x0⟩]⟩,
   ⟨0x824, 0x0, 1, [⟨.rw, 0, 32, 0x0⟩]⟩,
   ⟨0x828, 0x0, 1, [⟨.rw, 16, 16, 0x0⟩, ⟨.rw, 0, 16, 0x0⟩]⟩,
   ⟨0x82C, 0x0, 1, [⟨.wo, 31, 1, 0x0⟩, ⟨.rw, 1, 1, 0x0⟩, ⟨.rw, 0, 1, 0x0⟩]⟩] ++
  [⟨0x830, 0x0, 1, [⟨.wo, 3, 1, 0x0⟩, ⟨.wo, 2, 1, 0x0⟩, ⟨.wo, 1, 1, 0x0⟩, ⟨.wo, 0, 1, 0x0⟩]⟩,
   ⟨0x840, 0x4, 4, [⟨.wo, 31, 1, 0x0⟩, ⟨.wo, 30, 1, 0x0⟩, ⟨.ro, 29, 1, 0x0⟩, ⟨.ro, 0, 16, 0x0⟩]⟩,
   ⟨0xA00, 0x10, 2, [⟨.ro, 31, 1, 0x0⟩, ⟨.ro, 30, 1, 0x0⟩, ⟨.ro, 24, 4, 0x0⟩, ⟨.ro, 16, 3, 0x0⟩, ⟨.ro, 0, 16, 0x0⟩]⟩,
   ⟨0xA04, 0x10, 2, [⟨.ro, 0, 30, 0x0⟩]⟩,
   ⟨0xA08, 0x10, 2, [⟨.ro, 0, 32, 0x0⟩]⟩,
   ⟨0xA0C, 0x10, 2, [⟨.ro, 16, 16, 0x0⟩, ⟨.ro, 0, 16, 0x0⟩]⟩]

def SPDL.table : List RegRow :=
  [⟨0x014, 0x0, 1, [⟨.ro, 3, 1, 0x0⟩, ⟨.ro, 2, 1, 0x0⟩, ⟨.ro, 1, 1, 0x0⟩, ⟨.ro, 0, 1, 0x0⟩]⟩,
   ⟨0x040, 0x0, 1, [⟨.rw, 2, 1, 0x0⟩, ⟨.ro, 1, 1, 0x0⟩, ⟨.rw, 0, 1, 0x1⟩]⟩,
   ⟨0x044, 0x0, 1, [⟨.rw, 31, 1, 0x0⟩, ⟨.rw, 30, 1, 0x0⟩, ⟨.rw, 29, 1, 0x0⟩, ⟨.rw, 8, 4, 0x0⟩, ⟨.rw, 4, 4, 0x0⟩, ⟨.rw, 0, 4, 0x0⟩]⟩,
   ⟨0x048, 0x0, 1, [⟨.rw, 0, 15, 0x1388⟩]⟩,
   ⟨0x04C, 0x0, 1, [⟨.rw, 8, 8, 0x7⟩, ⟨.rw, 4, 1, 0x0⟩, ⟨.rw, 0, 2, 0x1⟩]⟩,
   ⟨0x050, 0x0, 1, [⟨.rw, 16, 16, 0x1C20⟩, ⟨.rw, 0, 16, 0xFA0⟩]⟩,
   ⟨0x054, 0x0, 1, [⟨.rw, 0, 16, 0x1F4⟩]⟩,
   ⟨0x058, 0x0, 1, [⟨.rw, 16, 16, 0x400⟩, ⟨.rw, 0, 16, 0x800⟩]⟩,
   ⟨0x05C, 0x0, 1, [⟨.rw, 0, 16, 0x14⟩]⟩,
   ⟨0x060, 0x0, 1, [⟨.rw, 0, 32, 0x0⟩]⟩,
   ⟨0x064, 0x0, 1, [⟨.rw, 0, 32, 0x16C16C⟩]⟩,
   ⟨0x068, 0x4, 2, [⟨.rw, 0, 32, 0x0⟩]⟩,
   ⟨0x100, 0x8, 64, [⟨.rw, 0, 32, 0x0⟩]⟩,
   ⟨0x104, 0x8, 64, [⟨.rw, 0, 32, 0x0⟩]⟩,
   ⟨0x400, 0x20, 32, [⟨.rw, 31, 1, 0x0⟩, ⟨.ro, 30, 1, 0x0⟩, ⟨.rw, 17, 1, 0x0⟩, ⟨.rw, 16, 1, 0x0⟩, ⟨.ro, 0, 16, 0x0⟩]⟩,
   ⟨0x404, 0x20, 32, [⟨.rw, 0, 30, 0x0⟩]⟩,
   ⟨0x408, 0x20, 32, [⟨.rw, 0, 32, 0x0⟩]⟩,
   ⟨0x40C, 0x20, 32, [⟨.rw, 16, 16, 0x0⟩, ⟨.rw, 0, 16, 0x0⟩]⟩,
   ⟨0x410, 0x20, 32, [⟨.rw, 0, 30, 0x0⟩]⟩,
   ⟨0x414, 0x20, 32, [⟨.rw, 16, 16, 0x0⟩, ⟨.rw, 0, 8, 0x0⟩]⟩] ++
  [⟨0x418, 0x20, 32, [⟨.rw, 0, 32, 0x0⟩]⟩,
   ⟨0x800, 0x0, 1, [⟨.ro, 0, 32, 0x0⟩]⟩,
   ⟨0x804, 0x0, 1, [⟨.ro, 0, 32, 0x0⟩]⟩,
   ⟨0x808, 0x0, 1, [⟨.ro, 0, 16, 0x0⟩]⟩,
   ⟨0x80C, 0x0, 1, [⟨.ro, 0, 32, 0x0⟩]⟩,
   ⟨0x810, 0x0, 1, [⟨.rw, 0, 32, 0x0⟩]⟩,
   ⟨0x814, 0x0, 1, [⟨.ro, 0, 32, 0x0⟩]⟩,
   ⟨0x820, 0x4, 2, [⟨.w1c, 0, 32, 0x0⟩]⟩,
   ⟨0x828, 0x0, 1, [⟨.w1c, 0, 32, 0x0⟩]⟩,
   ⟨0x82C, 0x0, 1, [⟨.wo, 31, 1, 0x0⟩, ⟨.ro, 0, 16, 0x0⟩]⟩]

def LINK.table : List RegRow :=
  [⟨0x014, 0x0, 1, [⟨.ro, 8, 3, 0x0⟩, ⟨.ro, 5, 1, 0x0⟩, ⟨.ro, 4, 1, 0x0⟩, ⟨.ro, 3, 1, 0x0⟩, ⟨.ro, 2, 1, 0x0⟩, ⟨.ro, 0, 2, 0x0⟩]⟩,
   ⟨0x040, 0x0, 1, [⟨.rw, 12, 1, 0x1⟩, ⟨.rw, 11, 1, 0x0⟩, ⟨.rw, 7, 1, 0x0⟩, ⟨.rw, 6, 1, 0x0⟩, ⟨.rw, 5, 1, 0x0⟩, ⟨.rw, 2, 1, 0x0⟩, ⟨.rw, 1, 1, 0x1⟩, ⟨.rw, 0, 1, 0x0⟩]⟩,
   ⟨0x044, 0x0, 1, [⟨.rw, 0, 24, 0x0⟩]⟩,
   ⟨0x048, 0x0, 1, [⟨.rw, 0, 24, 0x0⟩]⟩,
   ⟨0x04C, 0x0, 1, [⟨.rw, 0, 32, 0x0⟩]⟩,
   ⟨0x050, 0x0, 1, [⟨.rw, 16, 12, 0x20⟩, ⟨.rw, 0, 4, 0x4⟩]⟩,
   ⟨0x054, 0x0, 1, [⟨.rw, 31, 1, 0x0⟩, ⟨.rw, 16, 15, 0x7D⟩, ⟨.rw, 0, 15, 0x0⟩]⟩,
   ⟨0x060, 0x4, 4, [⟨.rw, 31, 1, 0x0⟩, ⟨.rw, 16, 15, 0x0⟩, ⟨.rw, 0, 15, 0x0⟩]⟩,
   ⟨0x074, 0x0, 1, [⟨.rw, 0, 8, 0x8⟩]⟩,
   ⟨0x100, 0x8, 32, [⟨.rw, 16, 16, 0x0⟩, ⟨.rw, 0, 16, 0x0⟩]⟩,
   ⟨0x104, 0x8, 32, [⟨.rw, 31, 1, 0x0⟩, ⟨.rw, 30, 1, 0x0⟩, ⟨.rw, 0, 8, 0x0⟩]⟩,
   ⟨0x800, 0x0, 1, [⟨.ro, 0, 32, 0x0⟩]⟩,
   ⟨0x804, 0x0, 1, [⟨.ro, 0, 32, 0x0⟩]⟩,
   ⟨0x808, 0x0, 1, [⟨.ro, 0, 32, 0x0⟩]⟩,
   ⟨0x80C, 0x0, 1, [⟨.ro, 0, 32, 0x0⟩]⟩,
   ⟨0x810, 0x0, 1, [⟨.ro, 16, 16, 0x0⟩, ⟨.ro, 0, 16, 0x0⟩]⟩,
   ⟨0x820, 0x0, 1, [⟨.ro, 0, 30, 0x0⟩]⟩,
   ⟨0x824, 0x0, 1, [⟨.ro, 0, 32, 0x0⟩]⟩,
   ⟨0x828, 0x0, 1, [⟨.ro, 16, 16, 0x0⟩, ⟨.ro, 0, 16, 0x0⟩]⟩,
   ⟨0x830, 0x0, 1, [⟨.ro, 0, 30, 0x0⟩]⟩] ++
  [⟨0x834, 0x0, 1, [⟨.ro, 0, 32, 0x0⟩]⟩,
   ⟨0x838, 0x0, 1, [⟨.ro, 16, 16, 0x0⟩, ⟨.ro, 0, 16, 0x0⟩]⟩,
   ⟨0x840, 0x0, 1, [⟨.ro, 16, 16, 0x0⟩, ⟨.ro, 0, 16, 0x0⟩]⟩,
   ⟨0x844, 0x0, 1, [⟨.ro, 16, 16, 0x0⟩, ⟨.ro, 0, 16, 0x0⟩]⟩,
   ⟨0x848, 0x0, 1, [⟨.ro, 16, 16, 0x0⟩, ⟨.ro, 0, 16, 0x0⟩]⟩,
   ⟨0x84C, 0x0, 1, [⟨.ro, 24, 8, 0x0⟩, ⟨.ro, 16, 8, 0x0⟩, ⟨.ro, 0, 16, 0x0⟩]⟩,
   ⟨0x850, 0x0, 1, [⟨.ro, 16, 16, 0x0⟩, ⟨.ro, 0, 16, 0x0⟩]⟩,
   ⟨0x854, 0x0, 1, [⟨.wo, 0, 1, 0x0⟩]⟩,
   ⟨0x860, 0x0, 1, [⟨.ro, 0, 4, 0x0⟩]⟩,
   ⟨0x864, 0x0, 1, [⟨.ro, 0, 30, 0x0⟩]⟩,
   ⟨0x868, 0x0, 1, [⟨.ro, 0, 32, 0x0⟩]⟩,
   ⟨0x86C, 0x0, 1, [⟨.ro, 16, 16, 0x0⟩, ⟨.ro, 0, 16, 0x0⟩]⟩,
   ⟨0x870, 0x0, 1, [⟨.wo, 31, 1, 0x0⟩, ⟨.wo, 0, 4, 0x0⟩]⟩,
   ⟨0x880, 0x0, 1, [⟨.wo, 31, 1, 0x0⟩, ⟨.wo, 30, 1, 0x0⟩, ⟨.rw, 16, 6, 0x1⟩, ⟨.rw, 0, 16, 0x0⟩]⟩,
   ⟨0x884, 0x0, 1, [⟨.ro, 31, 1, 0x0⟩, ⟨.ro, 30, 1, 0x0⟩, ⟨.ro, 29, 1, 0x0⟩, ⟨.ro, 0, 16, 0x0⟩]⟩,
   ⟨0x900, 0x4, 32, [⟨.ro, 16, 16, 0x0⟩, ⟨.ro, 0, 16, 0x0⟩]⟩,
   ⟨0xC00, 0x4, 64, [⟨.rw, 0, 32, 0x0⟩]⟩]

def STRD.table : List RegRow :=
  [⟨0x010, 0x0, 1, [⟨.rw, 3, 1, 0x0⟩, ⟨.rw, 2, 1, 0x0⟩, ⟨.rw, 1, 1, 0x0⟩, ⟨.rw, 0, 1, 0x0⟩]⟩,
   ⟨0x014, 0x0, 1, [⟨.ro, 10, 1, 0x0⟩, ⟨.ro, 8, 2, 0x0⟩, ⟨.ro, 4, 1, 0x0⟩, ⟨.ro, 3, 1, 0x0⟩, ⟨.ro, 2, 1, 0x0⟩, ⟨.ro, 1, 1, 0x0⟩, ⟨.ro, 0, 1, 0x0⟩]⟩,
   ⟨0x040, 0x0, 1, [⟨.rw, 0, 15, 0x186A⟩]⟩,
   ⟨0x044, 0x0, 1, [⟨.rw, 0, 15, 0x0⟩]⟩,
   ⟨0x048, 0x0, 1, [⟨.rw, 0, 30, 0x0⟩]⟩,
   ⟨0x04C, 0x0, 1, [⟨.rw, 0, 32, 0x0⟩]⟩,
   ⟨0x050, 0x0, 1, [⟨.rw, 16, 16, 0x0⟩, ⟨.rw, 0, 16, 0x0⟩]⟩,
   ⟨0x054, 0x0, 1, [⟨.rw, 8, 4, 0x8⟩, ⟨.rw, 7, 1, 0x0⟩, ⟨.rw, 2, 3, 0x1⟩, ⟨.rw, 0, 2, 0x0⟩]⟩,
   ⟨0x058, 0x0, 1, [⟨.wo, 31, 1, 0x0⟩, ⟨.wo, 0, 8, 0x0⟩]⟩,
   ⟨0x060, 0x4, 8, [⟨.rw, 31, 1, 0x0⟩, ⟨.rw, 0, 6, 0x0⟩]⟩,
   ⟨0x800, 0x4, 8, [⟨.rw, 0, 15, 0x7FFF⟩]⟩,
   ⟨0x820, 0x4, 8, [⟨.ro, 31, 1, 0x0⟩, ⟨.ro, 30, 1, 0x0⟩, ⟨.ro, 24, 6, 0x3F⟩, ⟨.ro, 16, 6, 0x3F⟩, ⟨.ro, 8, 6, 0x0⟩, ⟨.ro, 0, 6, 0x0⟩]⟩,
   ⟨0x840, 0x0, 1, [⟨.ro, 31, 1, 0x0⟩, ⟨.ro, 16, 5, 0x0⟩, ⟨.ro, 8, 3, 0x0⟩, ⟨.ro, 0, 6, 0x0⟩]⟩,
   ⟨0x844, 0x0, 1, [⟨.ro, 0, 32, 0x0⟩]⟩,
   ⟨0x848, 0x0, 1, [⟨.ro, 0, 32, 0x0⟩]⟩,
   ⟨0x900, 0x4, 384, [⟨.rw, 31, 1, 0x0⟩, ⟨.ro, 30, 1, 0x0⟩, ⟨.ro, 8, 3, 0x0⟩, ⟨.rw, 0, 8, 0x0⟩]⟩]

def VANE.table : List RegRow :=
  [⟨0x014, 0x0, 1, [⟨.ro, 12, 1, 0x0⟩, ⟨.ro, 10, 2, 0x0⟩, ⟨.ro, 9, 1, 0x0⟩, ⟨.ro, 8, 1, 0x0⟩, ⟨.ro, 4, 1, 0x0⟩, ⟨.ro, 3, 1, 0x0⟩, ⟨.ro, 2, 1, 0x0⟩, ⟨.ro, 0, 2, 0x0⟩]⟩,
   ⟨0x040, 0x0, 1, [⟨.ro, 31, 1, 0x0⟩, ⟨.ro, 30, 1, 0x0⟩, ⟨.rw, 29, 1, 0x0⟩, ⟨.rw, 16, 6, 0x0⟩, ⟨.rw, 8, 6, 0x0⟩, ⟨.rw, 0, 8, 0x0⟩]⟩,
   ⟨0x044, 0x0, 1, [⟨.rw, 0, 30, 0x0⟩]⟩,
   ⟨0x048, 0x0, 1, [⟨.rw, 0, 32, 0x0⟩]⟩,
   ⟨0x04C, 0x0, 1, [⟨.rw, 16, 16, 0x0⟩, ⟨.rw, 0, 16, 0x0⟩]⟩,
   ⟨0x050, 0x0, 1, [⟨.rw, 0, 15, 0x186A⟩]⟩,
   ⟨0x054, 0x0, 1, [⟨.rw, 0, 15, 0x0⟩]⟩,
   ⟨0x058, 0x0, 1, [⟨.wo, 31, 1, 0x0⟩, ⟨.ro, 30, 1, 0x0⟩]⟩,
   ⟨0x060, 0x0, 1, [⟨.rw, 28, 4, 0x2⟩, ⟨.rw, 24, 4, 0x6⟩, ⟨.rw, 16, 8, 0x20⟩, ⟨.rw, 8, 8, 0x28⟩, ⟨.rw, 0, 8, 0xFA⟩]⟩,
   ⟨0x070, 0x0, 1, [⟨.rw, 31, 1, 0x1⟩, ⟨.rw, 8, 1, 0x0⟩, ⟨.ro, 0, 1, 0x0⟩]⟩,
   ⟨0x074, 0x0, 1, [⟨.wo, 1, 1, 0x0⟩, ⟨.wo, 0, 1, 0x0⟩]⟩,
   ⟨0x800, 0x0, 1, [⟨.ro, 0, 32, 0x0⟩]⟩,
   ⟨0x804, 0x0, 1, [⟨.ro, 0, 31, 0x0⟩]⟩,
   ⟨0x810, 0x0, 1, [⟨.ro, 0, 16, 0x0⟩]⟩,
   ⟨0x814, 0x0, 1, [⟨.ro, 0, 16, 0x0⟩]⟩,
   ⟨0x818, 0x0, 1, [⟨.ro, 0, 16, 0x0⟩]⟩,
   ⟨0x81C, 0x0, 1, [⟨.ro, 0, 16, 0x0⟩]⟩,
   ⟨0x820, 0x0, 1, [⟨.ro, 0, 16, 0x0⟩]⟩,
   ⟨0x824, 0x0, 1, [⟨.ro, 0, 32, 0x0⟩]⟩,
   ⟨0x828, 0x0, 1, [⟨.ro, 0, 32, 0x0⟩]⟩] ++
  [⟨0x82C, 0x0, 1, [⟨.ro, 0, 32, 0x0⟩]⟩,
   ⟨0x830, 0x0, 1, [⟨.wo, 0, 1, 0x0⟩]⟩,
   ⟨0x834, 0x0, 1, [⟨.ro, 0, 32, 0x0⟩]⟩,
   ⟨0x838, 0x0, 1, [⟨.ro, 16, 16, 0x0⟩, ⟨.ro, 0, 16, 0x0⟩]⟩]

def ISOB.table : List RegRow :=
  [⟨0x010, 0x0, 1, [⟨.rw, 2, 1, 0x0⟩, ⟨.rw, 1, 1, 0x0⟩, ⟨.rw, 0, 1, 0x0⟩]⟩,
   ⟨0x014, 0x0, 1, [⟨.ro, 3, 1, 0x0⟩, ⟨.ro, 2, 1, 0x0⟩, ⟨.ro, 1, 1, 0x0⟩, ⟨.ro, 0, 1, 0x0⟩]⟩,
   ⟨0x040, 0x0, 1, [⟨.rw, 16, 8, 0x0⟩, ⟨.rw, 3, 1, 0x0⟩, ⟨.rw, 2, 1, 0x0⟩, ⟨.rw, 1, 1, 0x0⟩, ⟨.rw, 0, 1, 0x0⟩]⟩,
   ⟨0x044, 0x0, 1, [⟨.sh, 0, 32, 0x0⟩]⟩,
   ⟨0x048, 0x0, 1, [⟨.sh, 0, 32, 0x3F7AE148⟩]⟩,
   ⟨0x04C, 0x0, 1, [⟨.sh, 0, 32, 0x3D4CCCCD⟩]⟩,
   ⟨0x050, 0x0, 1, [⟨.sh, 0, 32, 0x0⟩]⟩,
   ⟨0x054, 0x0, 1, [⟨.sh, 0, 32, 0x0⟩]⟩,
   ⟨0x058, 0x0, 1, [⟨.sh, 0, 32, 0x0⟩]⟩,
   ⟨0x05C, 0x0, 1, [⟨.sh, 0, 32, 0x0⟩]⟩,
   ⟨0x060, 0x0, 1, [⟨.sh, 0, 32, 0x0⟩]⟩,
   ⟨0x064, 0x0, 1, [⟨.sh, 0, 32, 0x0⟩]⟩,
   ⟨0x068, 0x0, 1, [⟨.sh, 0, 32, 0x0⟩]⟩,
   ⟨0x06C, 0x0, 1, [⟨.sh, 16, 8, 0x40⟩, ⟨.sh, 8, 8, 0x40⟩, ⟨.sh, 0, 8, 0x40⟩]⟩,
   ⟨0x070, 0x0, 1, [⟨.sh, 16, 8, 0x1⟩, ⟨.sh, 8, 8, 0x1⟩, ⟨.sh, 0, 8, 0x1⟩]⟩,
   ⟨0x074, 0x4, 3, [⟨.sh, 0, 24, 0x0⟩]⟩,
   ⟨0x800, 0x0, 1, [⟨.rw, 0, 32, 0x0⟩]⟩,
   ⟨0x804, 0x4, 3, [⟨.rw, 0, 32, 0x0⟩]⟩,
   ⟨0x810, 0x4, 3, [⟨.rw, 0, 32, 0x0⟩]⟩,
   ⟨0x81C, 0x4, 3, [⟨.rw, 0, 32, 0x0⟩]⟩] ++
  [⟨0x828, 0x0, 1, [⟨.rw, 0, 32, 0x0⟩]⟩,
   ⟨0x82C, 0x0, 1, [⟨.rw, 0, 32, 0x0⟩]⟩,
   ⟨0x880, 0x0, 1, [⟨.ro, 16, 8, 0x0⟩, ⟨.ro, 8, 8, 0x0⟩, ⟨.ro, 0, 8, 0x0⟩]⟩,
   ⟨0x884, 0x4, 3, [⟨.ro, 0, 32, 0x0⟩]⟩,
   ⟨0x890, 0x4, 3, [⟨.ro, 0, 32, 0x0⟩]⟩,
   ⟨0x89C, 0x0, 1, [⟨.ro, 0, 32, 0x0⟩]⟩,
   ⟨0x8A0, 0x0, 1, [⟨.ro, 0, 32, 0x0⟩]⟩,
   ⟨0x8A4, 0x0, 1, [⟨.ro, 0, 32, 0x0⟩]⟩,
   ⟨0x8A8, 0x0, 1, [⟨.ro, 16, 16, 0x0⟩, ⟨.ro, 0, 16, 0x0⟩]⟩,
   ⟨0x8AC, 0x0, 1, [⟨.ro, 16, 16, 0x0⟩, ⟨.ro, 0, 16, 0x0⟩]⟩,
   ⟨0x8B0, 0x0, 1, [⟨.wo, 31, 1, 0x0⟩, ⟨.wo, 30, 1, 0x0⟩, ⟨.wo, 0, 8, 0x0⟩]⟩,
   ⟨0x8C0, 0x4, 6, [⟨.ro, 0, 32, 0x0⟩]⟩,
   ⟨0x8E0, 0x0, 1, [⟨.ro, 0, 32, 0x0⟩]⟩,
   ⟨0x8E4, 0x0, 1, [⟨.ro, 0, 32, 0x0⟩]⟩]

def PWMC.table : List RegRow :=
  [⟨0x040, 0x0, 1, [⟨.rw, 8, 7, 0x7F⟩, ⟨.rw, 0, 6, 0x3F⟩]⟩,
   ⟨0x800, 0x0, 1, [⟨.wo, 31, 1, 0x0⟩]⟩,
   ⟨0x804, 0x0, 1, [⟨.ro, 31, 1, 0x0⟩, ⟨.ro, 3, 1, 0x0⟩, ⟨.ro, 2, 1, 0x0⟩, ⟨.ro, 1, 1, 0x0⟩, ⟨.ro, 0, 1, 0x0⟩]⟩,
   ⟨0x808, 0x0, 1, [⟨.wo, 31, 1, 0x0⟩, ⟨.ro, 0, 16, 0x0⟩]⟩,
   ⟨0x80C, 0x0, 1, [⟨.ro, 16, 16, 0x0⟩, ⟨.ro, 15, 1, 0x0⟩, ⟨.ro, 0, 13, 0x0⟩]⟩]

def PWMU.table : List RegRow :=
  [⟨0x010, 0x0, 1, [⟨.rw, 0, 1, 0x0⟩]⟩,
   ⟨0x014, 0x0, 1, [⟨.ro, 6, 1, 0x0⟩, ⟨.ro, 5, 1, 0x0⟩, ⟨.ro, 4, 1, 0x0⟩, ⟨.ro, 3, 1, 0x0⟩, ⟨.ro, 2, 1, 0x0⟩, ⟨.ro, 1, 1, 0x0⟩, ⟨.ro, 0, 1, 0x0⟩]⟩,
   ⟨0x040, 0x0, 1, [⟨.rw, 15, 1, 0x0⟩, ⟨.rw, 14, 1, 0x0⟩, ⟨.rw, 13, 1, 0x0⟩, ⟨.rw, 12, 1, 0x0⟩, ⟨.rw, 8, 2, 0x0⟩, ⟨.rw, 4, 2, 0x0⟩, ⟨.rw, 0, 3, 0x0⟩]⟩,
   ⟨0x044, 0x0, 1, [⟨.rw, 15, 1, 0x0⟩, ⟨.rw, 14, 1, 0x0⟩, ⟨.rw, 8, 4, 0x0⟩, ⟨.rw, 0, 4, 0x0⟩]⟩,
   ⟨0x800, 0x0, 1, [⟨.sh, 0, 30, 0xC3500⟩]⟩,
   ⟨0x804, 0x0, 1, [⟨.sh, 0, 30, 0x0⟩]⟩,
   ⟨0x808, 0x0, 1, [⟨.sh, 0, 24, 0x0⟩]⟩,
   ⟨0x80C, 0x0, 1, [⟨.sh, 0, 16, 0xFA0⟩]⟩,
   ⟨0x810, 0x0, 1, [⟨.sh, 0, 16, 0xFA0⟩]⟩,
   ⟨0x814, 0x0, 1, [⟨.sh, 0, 16, 0x1F40⟩]⟩,
   ⟨0x818, 0x0, 1, [⟨.sh, 0, 30, 0x1F40⟩]⟩,
   ⟨0x81C, 0x0, 1, [⟨.sh, 0, 30, 0x1F40⟩]⟩,
   ⟨0x820, 0x0, 1, [⟨.sh, 0, 30, 0x138800⟩]⟩,
   ⟨0x824, 0x0, 1, [⟨.sh, 0, 32, 0x0⟩]⟩,
   ⟨0x828, 0x0, 1, [⟨.sh, 0, 32, 0x0⟩]⟩,
   ⟨0x8C0, 0x0, 1, [⟨.ro, 0, 24, 0x0⟩]⟩,
   ⟨0x8C4, 0x0, 1, [⟨.ro, 0, 32, 0x0⟩]⟩,
   ⟨0x8C8, 0x0, 1, [⟨.ro, 24, 8, 0x0⟩, ⟨.ro, 16, 8, 0x0⟩, ⟨.ro, 0, 16, 0x0⟩]⟩,
   ⟨0x8CC, 0x0, 1, [⟨.ro, 0, 32, 0x0⟩]⟩,
   ⟨0x8D0, 0x0, 1, [⟨.ro, 16, 16, 0x0⟩, ⟨.ro, 0, 16, 0x0⟩]⟩]

def GCH.table : List RegRow :=
  [⟨0x014, 0x0, 1, [⟨.ro, 2, 1, 0x0⟩, ⟨.ro, 1, 1, 0x0⟩, ⟨.ro, 0, 1, 0x0⟩]⟩,
   ⟨0x040, 0x4, 12, [⟨.rw, 0, 4, 0x0⟩]⟩,
   ⟨0x080, 0x4, 6, [⟨.rw, 31, 1, 0x0⟩, ⟨.rw, 30, 1, 0x1⟩, ⟨.rw, 29, 1, 0x0⟩, ⟨.rw, 24, 4, 0x0⟩, ⟨.rw, 20, 2, 0x0⟩, ⟨.rw, 0, 12, 0xFA⟩]⟩,
   ⟨0x0A0, 0x4, 6, [⟨.rw, 16, 16, 0x3200⟩, ⟨.rw, 12, 4, 0x4⟩, ⟨.rw, 0, 12, 0xFA⟩]⟩,
   ⟨0x0C0, 0x0, 1, [⟨.rw, 31, 1, 0x0⟩, ⟨.rw, 30, 1, 0x0⟩, ⟨.rw, 29, 1, 0x0⟩, ⟨.rw, 28, 1, 0x0⟩, ⟨.rw, 24, 4, 0x0⟩, ⟨.rw, 20, 4, 0x0⟩, ⟨.rw, 16, 4, 0x0⟩, ⟨.rw, 12, 4, 0x0⟩, ⟨.rw, 8, 4, 0x0⟩, ⟨.rw, 4, 4, 0x2⟩]⟩,
   ⟨0x0C4, 0x0, 1, [⟨.rw, 31, 1, 0x0⟩, ⟨.rw, 24, 4, 0x0⟩, ⟨.rw, 0, 16, 0x100⟩]⟩,
   ⟨0x100, 0x8, 12, [⟨.rw, 16, 16, 0x640⟩, ⟨.rw, 0, 14, 0x280⟩]⟩,
   ⟨0x104, 0x8, 12, [⟨.rw, 16, 16, 0x640⟩, ⟨.rw, 0, 14, 0x280⟩]⟩,
   ⟨0x800, 0x4, 12, [⟨.ro, 28, 4, 0x0⟩, ⟨.ro, 27, 1, 0x0⟩, ⟨.ro, 26, 1, 0x0⟩, ⟨.ro, 25, 1, 0x0⟩, ⟨.ro, 24, 1, 0x0⟩, ⟨.ro, 3, 1, 0x0⟩, ⟨.ro, 2, 1, 0x0⟩, ⟨.ro, 1, 1, 0x0⟩, ⟨.ro, 0, 1, 0x0⟩]⟩,
   ⟨0x840, 0x4, 6, [⟨.ro, 31, 1, 0x0⟩, ⟨.ro, 29, 2, 0x0⟩, ⟨.ro, 28, 1, 0x0⟩, ⟨.ro, 27, 1, 0x0⟩, ⟨.ro, 0, 8, 0x0⟩]⟩,
   ⟨0x860, 0x0, 1, [⟨.ro, 31, 1, 0x0⟩, ⟨.ro, 30, 1, 0x0⟩, ⟨.ro, 0, 16, 0x0⟩]⟩,
   ⟨0x864, 0x0, 1, [⟨.ro, 31, 1, 0x0⟩, ⟨.ro, 30, 1, 0x0⟩, ⟨.ro, 29, 1, 0x0⟩, ⟨.ro, 28, 1, 0x0⟩, ⟨.ro, 27, 1, 0x0⟩, ⟨.ro, 26, 1, 0x0⟩, ⟨.ro, 25, 1, 0x0⟩, ⟨.ro, 24, 1, 0x0⟩, ⟨.ro, 23, 1, 0x1⟩]⟩,
   ⟨0x868, 0x0, 1, [⟨.wo, 31, 1, 0x0⟩]⟩,
   ⟨0x86C, 0x0, 1, [⟨.wo, 0, 1, 0x0⟩]⟩,
   ⟨0x880, 0x10, 6, [⟨.ro, 0, 30, 0x0⟩]⟩,
   ⟨0x884, 0x10, 6, [⟨.ro, 0, 32, 0x0⟩]⟩,
   ⟨0x888, 0x10, 6, [⟨.ro, 16, 16, 0x0⟩, ⟨.ro, 0, 16, 0x0⟩]⟩]

def MOTR.table : List RegRow :=
  [⟨0x010, 0x0, 1, [⟨.rw, 0, 1, 0x0⟩]⟩,
   ⟨0x040, 0x0, 1, [⟨.rw, 24, 8, 0x80⟩, ⟨.rw, 8, 4, 0xA⟩, ⟨.rw, 4, 4, 0x9⟩, ⟨.rw, 0, 4, 0x8⟩]⟩,
   ⟨0x044, 0x0, 1, [⟨.rw, 0, 16, 0x0⟩]⟩,
   ⟨0x048, 0x0, 1, [⟨.rw, 0, 9, 0x32⟩]⟩,
   ⟨0x04C, 0x0, 1, [⟨.rw, 16, 16, 0x64⟩, ⟨.rw, 0, 10, 0xC8⟩]⟩,
   ⟨0x050, 0x0, 1, [⟨.rw, 16, 16, 0xCCD⟩, ⟨.rw, 0, 10, 0xC8⟩]⟩,
   ⟨0x054, 0x0, 1, [⟨.rw, 16, 16, 0x0⟩, ⟨.rw, 0, 16, 0x0⟩]⟩,
   ⟨0x058, 0x0, 1, [⟨.rw, 16, 16, 0x199A⟩, ⟨.rw, 0, 16, 0x3E8⟩]⟩,
   ⟨0x800, 0x0, 1, [⟨.wo, 31, 1, 0x0⟩, ⟨.wo, 30, 1, 0x0⟩, ⟨.wo, 0, 1, 0x0⟩]⟩,
   ⟨0x804, 0x0, 1, [⟨.ro, 28, 4, 0x0⟩, ⟨.ro, 27, 1, 0x0⟩, ⟨.ro, 26, 1, 0x0⟩, ⟨.ro, 25, 1, 0x0⟩, ⟨.ro, 24, 1, 0x0⟩, ⟨.ro, 0, 3, 0x0⟩]⟩,
   ⟨0x808, 0x0, 1, [⟨.ro, 0, 16, 0x0⟩]⟩,
   ⟨0x80C, 0x0, 1, [⟨.ro, 0, 20, 0x0⟩]⟩,
   ⟨0x810, 0x0, 1, [⟨.ro, 0, 16, 0x0⟩]⟩,
   ⟨0x814, 0x0, 1, [⟨.ro, 24, 8, 0x0⟩, ⟨.ro, 16, 8, 0x0⟩, ⟨.ro, 8, 8, 0x0⟩, ⟨.ro, 0, 8, 0x0⟩]⟩]

def SQL.table : List RegRow :=
  [⟨0x014, 0x0, 1, [⟨.ro, 17, 1, 0x0⟩, ⟨.ro, 16, 1, 0x0⟩, ⟨.ro, 0, 16, 0x0⟩]⟩,
   ⟨0x040, 0x8, 16, [⟨.rw, 31, 1, 0x0⟩, ⟨.rw, 30, 1, 0x0⟩, ⟨.rw, 28, 2, 0x0⟩, ⟨.rw, 24, 2, 0x0⟩, ⟨.rw, 16, 2, 0x1⟩, ⟨.rw, 0, 3, 0x0⟩]⟩,
   ⟨0x044, 0x8, 16, [⟨.rw, 27, 5, 0x0⟩, ⟨.rw, 16, 10, 0x3FF⟩, ⟨.rw, 0, 10, 0x0⟩]⟩,
   ⟨0x0C0, 0x4, 16, [⟨.rw, 28, 4, 0x0⟩, ⟨.rw, 24, 3, 0x7⟩, ⟨.rw, 0, 12, 0x0⟩]⟩,
   ⟨0x100, 0x4, 16, [⟨.rw, 0, 12, 0x0⟩]⟩,
   ⟨0x800, 0x0, 1, [⟨.ro, 16, 16, 0x0⟩, ⟨.ro, 0, 16, 0x0⟩]⟩,
   ⟨0x804, 0x0, 1, [⟨.w1c, 0, 16, 0x0⟩]⟩,
   ⟨0x808, 0x0, 1, [⟨.ro, 0, 16, 0x0⟩]⟩,
   ⟨0x80C, 0x0, 1, [⟨.ro, 0, 16, 0x0⟩]⟩,
   ⟨0x840, 0x4, 16, [⟨.wo, 31, 1, 0x0⟩, ⟨.ro, 0, 16, 0x0⟩]⟩,
   ⟨0x880, 0x4, 16, [⟨.ro, 16, 12, 0x0⟩, ⟨.ro, 0, 12, 0x0⟩]⟩]

def ADC.table : List RegRow :=
  [⟨0x010, 0x0, 1, [⟨.rw, 0, 1, 0x0⟩]⟩,
   ⟨0x014, 0x0, 1, [⟨.ro, 8, 5, 0x0⟩, ⟨.ro, 5, 1, 0x0⟩, ⟨.ro, 4, 1, 0x0⟩, ⟨.ro, 3, 1, 0x0⟩, ⟨.ro, 2, 1, 0x0⟩, ⟨.ro, 1, 1, 0x0⟩, ⟨.ro, 0, 1, 0x0⟩]⟩,
   ⟨0x040, 0x0, 1, [⟨.ro, 31, 1, 0x0⟩, ⟨.rw, 0, 1, 0x0⟩]⟩,
   ⟨0x044, 0x0, 1, [⟨.rw, 31, 1, 0x0⟩, ⟨.rw, 0, 5, 0x0⟩]⟩,
   ⟨0x048, 0x4, 2, [⟨.rw, 31, 1, 0x0⟩, ⟨.rw, 28, 3, 0x7⟩, ⟨.rw, 26, 2, 0x0⟩, ⟨.rw, 16, 8, 0x0⟩, ⟨.rw, 0, 5, 0x0⟩]⟩,
   ⟨0x050, 0x0, 1, [⟨.rw, 16, 16, 0x800⟩, ⟨.rw, 0, 12, 0xFA⟩]⟩,
   ⟨0x054, 0x0, 1, [⟨.rw, 6, 26, 0x800000⟩]⟩,
   ⟨0x058, 0x0, 1, [⟨.rw, 31, 1, 0x0⟩, ⟨.rw, 16, 4, 0x0⟩, ⟨.rw, 0, 16, 0x0⟩]⟩,
   ⟨0x060, 0x0, 1, [⟨.rw, 31, 1, 0x0⟩, ⟨.rw, 15, 1, 0x0⟩, ⟨.rw, 8, 4, 0x0⟩, ⟨.rw, 7, 1, 0x0⟩, ⟨.rw, 0, 4, 0x0⟩]⟩,
   ⟨0x100, 0x4, 32, [⟨.rw, 31, 1, 0x1⟩, ⟨.rw, 28, 2, 0x0⟩, ⟨.rw, 24, 4, 0x0⟩, ⟨.rw, 16, 4, 0x0⟩, ⟨.rw, 8, 4, 0x0⟩, ⟨.rw, 0, 5, 0x0⟩]⟩,
   ⟨0x200, 0x10, 24, [⟨.rw, 0, 20, 0x80000⟩]⟩,
   ⟨0x204, 0x10, 24, [⟨.rw, 0, 20, 0x0⟩]⟩,
   ⟨0x208, 0x10, 24, [⟨.rw, 16, 16, 0x0⟩, ⟨.rw, 0, 16, 0x0⟩]⟩,
   ⟨0x800, 0x0, 1, [⟨.wo, 31, 1, 0x0⟩, ⟨.wo, 0, 5, 0x0⟩]⟩,
   ⟨0x804, 0x0, 1, [⟨.wo, 31, 1, 0x0⟩, ⟨.rw, 16, 4, 0x0⟩, ⟨.rw, 8, 4, 0x0⟩, ⟨.rw, 0, 5, 0x0⟩]⟩,
   ⟨0x808, 0x0, 1, [⟨.ro, 24, 8, 0x0⟩, ⟨.ro, 23, 1, 0x0⟩, ⟨.ro, 22, 1, 0x0⟩, ⟨.ro, 21, 1, 0x0⟩, ⟨.ro, 20, 1, 0x0⟩, ⟨.ro, 16, 4, 0x0⟩, ⟨.ro, 0, 16, 0x0⟩]⟩,
   ⟨0x810, 0x0, 1, [⟨.ro, 24, 8, 0x0⟩, ⟨.ro, 16, 8, 0x0⟩, ⟨.ro, 8, 8, 0x0⟩]⟩,
   ⟨0x814, 0x0, 1, [⟨.wo, 0, 1, 0x0⟩]⟩,
   ⟨0x818, 0x0, 1, [⟨.ro, 0, 16, 0x0⟩]⟩,
   ⟨0x81C, 0x0, 1, [⟨.rw, 0, 16, 0x0⟩]⟩] ++
  [⟨0x820, 0x0, 1, [⟨.ro, 16, 16, 0x0⟩, ⟨.ro, 0, 16, 0x0⟩]⟩,
   ⟨0x824, 0x0, 1, [⟨.w1c, 0, 24, 0x0⟩]⟩,
   ⟨0x840, 0x4, 16, [⟨.ro, 24, 8, 0x0⟩, ⟨.ro, 23, 1, 0x0⟩, ⟨.ro, 22, 1, 0x0⟩, ⟨.ro, 21, 1, 0x0⟩, ⟨.ro, 20, 1, 0x0⟩, ⟨.ro, 0, 16, 0x0⟩]⟩,
   ⟨0x880, 0x4, 16, [⟨.ro, 0, 32, 0x0⟩]⟩]

def LTH.table : List RegRow :=
  [⟨0x014, 0x0, 1, [⟨.ro, 8, 2, 0x0⟩, ⟨.ro, 6, 1, 0x0⟩, ⟨.ro, 5, 1, 0x0⟩, ⟨.ro, 4, 1, 0x0⟩, ⟨.ro, 3, 1, 0x0⟩, ⟨.ro, 2, 1, 0x0⟩, ⟨.ro, 0, 2, 0x0⟩]⟩,
   ⟨0x040, 0x0, 1, [⟨.lc, 31, 1, 0x0⟩, ⟨.lc, 30, 1, 0x0⟩, ⟨.lc, 8, 8, 0x4⟩]⟩,
   ⟨0x044, 0x0, 1, [⟨.lc, 0, 32, 0x37D1B717⟩]⟩,
   ⟨0x048, 0x0, 1, [⟨.lc, 31, 1, 0x0⟩, ⟨.lc, 24, 3, 0x0⟩, ⟨.lc, 1, 1, 0x0⟩, ⟨.lc, 0, 1, 0x0⟩]⟩,
   ⟨0x04C, 0x0, 1, [⟨.lc, 12, 3, 0x0⟩, ⟨.lc, 8, 3, 0x0⟩, ⟨.lc, 4, 3, 0x0⟩, ⟨.lc, 0, 3, 0x0⟩]⟩,
   ⟨0x050, 0x4, 4, [⟨.lc, 0, 32, 0x0⟩]⟩,
   ⟨0x080, 0x10, 8, [⟨.lc, 28, 4, 0x0⟩, ⟨.lc, 27, 1, 0x0⟩, ⟨.lc, 16, 6, 0x0⟩, ⟨.lc, 8, 8, 0x0⟩, ⟨.lc, 0, 8, 0x0⟩]⟩,
   ⟨0x084, 0x10, 8, [⟨.lc, 0, 32, 0x3F800000⟩]⟩,
   ⟨0x088, 0x10, 8, [⟨.lc, 0, 32, 0x0⟩]⟩,
   ⟨0x100, 0x10, 8, [⟨.lc, 28, 4, 0x0⟩, ⟨.lc, 24, 3, 0x0⟩, ⟨.lc, 16, 4, 0x0⟩, ⟨.lc, 0, 5, 0x1C⟩]⟩,
   ⟨0x104, 0x10, 8, [⟨.lc, 0, 32, 0x3F800000⟩]⟩,
   ⟨0x108, 0x10, 8, [⟨.lc, 0, 32, 0x0⟩]⟩,
   ⟨0x10C, 0x10, 8, [⟨.lc, 0, 32, 0x0⟩]⟩,
   ⟨0x180, 0x4, 16, [⟨.lc, 28, 4, 0x0⟩, ⟨.lc, 24, 3, 0x0⟩, ⟨.lc, 16, 5, 0x0⟩, ⟨.lc, 8, 5, 0x0⟩, ⟨.lc, 0, 5, 0x0⟩]⟩,
   ⟨0x200, 0x4, 128, [⟨.lc, 0, 32, 0x0⟩]⟩,
   ⟨0x800, 0x0, 1, [⟨.wo, 31, 1, 0x0⟩, ⟨.wo, 30, 1, 0x0⟩, ⟨.wo, 29, 1, 0x0⟩, ⟨.wo, 28, 1, 0x0⟩]⟩,
   ⟨0x804, 0x0, 1, [⟨.ro, 24, 8, 0x0⟩, ⟨.ro, 16, 8, 0x0⟩, ⟨.ro, 8, 8, 0x0⟩, ⟨.ro, 0, 8, 0x0⟩]⟩,
   ⟨0x808, 0x0, 1, [⟨.ro, 16, 16, 0x0⟩, ⟨.ro, 0, 8, 0x0⟩]⟩,
   ⟨0x80C, 0x0, 1, [⟨.ro, 8, 8, 0x0⟩, ⟨.ro, 0, 8, 0x0⟩]⟩,
   ⟨0x810, 0x4, 4, [⟨.rw, 0, 32, 0x0⟩]⟩] ++
  [⟨0x820, 0x4, 4, [⟨.ro, 0, 32, 0x0⟩]⟩,
   ⟨0x830, 0x4, 8, [⟨.rw, 0, 32, 0x0⟩]⟩,
   ⟨0x850, 0x4, 8, [⟨.ro, 0, 32, 0x0⟩]⟩,
   ⟨0x870, 0x4, 8, [⟨.ro, 0, 32, 0x0⟩]⟩,
   ⟨0x900, 0x4, 64, [⟨.ro, 0, 32, 0x0⟩]⟩,
   ⟨0xA00, 0x4, 16, [⟨.ro, 0, 32, 0x0⟩]⟩]

def ETH.table : List RegRow :=
  [⟨0x040, 0x0, 1, [⟨.ro, 15, 1, 0x0⟩, ⟨.ro, 12, 2, 0x2⟩, ⟨.rw, 2, 1, 0x1⟩, ⟨.rw, 0, 1, 0x0⟩]⟩,
   ⟨0x044, 0x0, 1, [⟨.rw, 5, 1, 0x0⟩, ⟨.rw, 4, 1, 0x0⟩, ⟨.rw, 3, 1, 0x1⟩, ⟨.rw, 1, 1, 0x0⟩, ⟨.rw, 0, 1, 0x0⟩]⟩,
   ⟨0x048, 0x0, 1, [⟨.rw, 0, 32, 0x0⟩]⟩,
   ⟨0x04C, 0x0, 1, [⟨.rw, 0, 16, 0x0⟩]⟩,
   ⟨0x060, 0x0, 1, [⟨.rw, 4, 28, 0x2000000⟩]⟩,
   ⟨0x064, 0x0, 1, [⟨.rw, 31, 1, 0x0⟩, ⟨.rw, 0, 4, 0x2⟩]⟩,
   ⟨0x068, 0x0, 1, [⟨.rw, 4, 28, 0x2000000⟩]⟩,
   ⟨0x06C, 0x0, 1, [⟨.rw, 31, 1, 0x0⟩, ⟨.rw, 0, 4, 0x2⟩]⟩,
   ⟨0x070, 0x0, 1, [⟨.wo, 31, 1, 0x0⟩, ⟨.wo, 30, 1, 0x0⟩, ⟨.wo, 21, 5, 0x0⟩, ⟨.wo, 16, 5, 0x0⟩, ⟨.wo, 0, 16, 0x0⟩]⟩,
   ⟨0x300, 0x0, 1, [⟨.rw, 24, 8, 0x0⟩, ⟨.rw, 7, 1, 0x0⟩, ⟨.rw, 6, 1, 0x0⟩, ⟨.rw, 5, 1, 0x0⟩, ⟨.rw, 4, 1, 0x0⟩, ⟨.rw, 3, 1, 0x0⟩, ⟨.rw, 2, 1, 0x1⟩, ⟨.rw, 0, 1, 0x0⟩]⟩,
   ⟨0x304, 0x0, 1, [⟨.rw, 0, 24, 0x0⟩]⟩,
   ⟨0x308, 0x0, 1, [⟨.rw, 0, 24, 0x0⟩]⟩,
   ⟨0x800, 0x0, 1, [⟨.ro, 0, 8, 0x0⟩]⟩,
   ⟨0x804, 0x0, 1, [⟨.rw, 0, 8, 0x0⟩]⟩,
   ⟨0x808, 0x0, 1, [⟨.ro, 0, 8, 0x0⟩]⟩,
   ⟨0x80C, 0x0, 1, [⟨.rw, 0, 8, 0x0⟩]⟩,
   ⟨0x810, 0x0, 1, [⟨.ro, 31, 1, 0x0⟩, ⟨.ro, 0, 16, 0x0⟩]⟩,
   ⟨0x820, 0x0, 1, [⟨.ro, 0, 32, 0x0⟩]⟩,
   ⟨0x824, 0x0, 1, [⟨.ro, 0, 32, 0x0⟩]⟩,
   ⟨0x828, 0x0, 1, [⟨.ro, 16, 16, 0x0⟩, ⟨.ro, 0, 16, 0x0⟩]⟩] ++
  [⟨0xC00, 0x0, 1, [⟨.ro, 31, 1, 0x0⟩, ⟨.ro, 24, 4, 0x0⟩, ⟨.ro, 20, 4, 0x0⟩, ⟨.ro, 18, 2, 0x0⟩, ⟨.ro, 0, 16, 0x0⟩]⟩,
   ⟨0xC04, 0x0, 1, [⟨.ro, 0, 30, 0x0⟩]⟩,
   ⟨0xC08, 0x0, 1, [⟨.ro, 0, 32, 0x0⟩]⟩,
   ⟨0xC0C, 0x0, 1, [⟨.ro, 16, 16, 0x0⟩, ⟨.ro, 0, 16, 0x0⟩]⟩,
   ⟨0xC10, 0x0, 1, [⟨.ro, 31, 1, 0x0⟩, ⟨.ro, 24, 4, 0x0⟩, ⟨.ro, 20, 4, 0x0⟩, ⟨.ro, 18, 2, 0x0⟩, ⟨.ro, 0, 16, 0x0⟩]⟩,
   ⟨0xC14, 0x0, 1, [⟨.ro, 0, 30, 0x0⟩]⟩,
   ⟨0xC18, 0x0, 1, [⟨.ro, 0, 32, 0x0⟩]⟩,
   ⟨0xC1C, 0x0, 1, [⟨.ro, 16, 16, 0x0⟩, ⟨.ro, 0, 16, 0x0⟩]⟩,
   ⟨0xC20, 0x0, 1, [⟨.ro, 24, 8, 0x0⟩, ⟨.ro, 16, 8, 0x0⟩, ⟨.wo, 15, 1, 0x0⟩, ⟨.ro, 8, 5, 0x0⟩, ⟨.ro, 0, 5, 0x0⟩]⟩]

def DDRC.table : List RegRow :=
  [⟨0x040, 0x0, 1, [⟨.rw, 0, 6, 0x0⟩]⟩,
   ⟨0x044, 0x0, 1, [⟨.rw, 31, 1, 0x0⟩, ⟨.rw, 24, 2, 0x0⟩, ⟨.rw, 20, 1, 0x0⟩, ⟨.rw, 16, 1, 0x0⟩, ⟨.rw, 12, 1, 0x0⟩, ⟨.rw, 0, 2, 0x0⟩]⟩,
   ⟨0x048, 0x4, 4, [⟨.rw, 0, 32, 0x0⟩]⟩,
   ⟨0x058, 0x0, 1, [⟨.rw, 0, 16, 0x0⟩]⟩,
   ⟨0x800, 0x0, 1, [⟨.wo, 31, 1, 0x0⟩]⟩,
   ⟨0x804, 0x0, 1, [⟨.ro, 1, 1, 0x0⟩, ⟨.ro, 0, 1, 0x0⟩]⟩,
   ⟨0x808, 0x0, 1, [⟨.ro, 0, 16, 0x0⟩]⟩,
   ⟨0x80C, 0x0, 1, [⟨.ro, 0, 32, 0x0⟩]⟩,
   ⟨0x810, 0x0, 1, [⟨.ro, 0, 8, 0x0⟩]⟩]

def ANMG.table : List RegRow :=
  [⟨0x040, 0x0, 1, [⟨.rw, 0, 8, 0x10⟩]⟩,
   ⟨0x800, 0x0, 1, [⟨.wo, 31, 1, 0x0⟩]⟩,
   ⟨0x804, 0x0, 1, [⟨.wo, 31, 1, 0x0⟩, ⟨.wo, 0, 8, 0x0⟩]⟩]

def QSPI.table : List RegRow :=
  [⟨0x040, 0x0, 1, [⟨.rw, 16, 1, 0x0⟩, ⟨.rw, 8, 8, 0x13⟩, ⟨.rw, 4, 4, 0x0⟩, ⟨.rw, 0, 2, 0x0⟩]⟩,
   ⟨0x800, 0x0, 1, [⟨.wo, 31, 1, 0x0⟩, ⟨.wo, 30, 1, 0x0⟩, ⟨.wo, 29, 1, 0x0⟩, ⟨.wo, 16, 8, 0x0⟩, ⟨.wo, 0, 9, 0x0⟩]⟩,
   ⟨0x804, 0x0, 1, [⟨.rw, 0, 32, 0x0⟩]⟩,
   ⟨0x808, 0x0, 1, [⟨.ro, 31, 1, 0x0⟩, ⟨.ro, 30, 1, 0x0⟩]⟩,
   ⟨0xC00, 0x4, 64, [⟨.rw, 0, 32, 0x0⟩]⟩]

def UART.table : List RegRow :=
  [⟨0x040, 0x0, 1, [⟨.rw, 31, 1, 0x0⟩, ⟨.rw, 26, 2, 0x0⟩, ⟨.rw, 25, 1, 0x0⟩, ⟨.rw, 0, 16, 0x87A⟩]⟩,
   ⟨0x800, 0x0, 1, [⟨.ro, 31, 1, 0x0⟩, ⟨.ro, 9, 1, 0x0⟩, ⟨.ro, 8, 1, 0x0⟩, ⟨.wo, 0, 8, 0x0⟩]⟩,
   ⟨0x804, 0x0, 1, [⟨.ro, 31, 1, 0x0⟩, ⟨.ro, 8, 5, 0x0⟩, ⟨.ro, 0, 5, 0x0⟩]⟩]

def I2C.table : List RegRow :=
  [⟨0x040, 0x0, 1, [⟨.rw, 31, 1, 0x0⟩, ⟨.rw, 0, 2, 0x0⟩]⟩,
   ⟨0x800, 0x0, 1, [⟨.wo, 31, 1, 0x0⟩, ⟨.wo, 30, 1, 0x0⟩, ⟨.wo, 29, 1, 0x0⟩, ⟨.wo, 16, 7, 0x0⟩, ⟨.wo, 0, 6, 0x0⟩]⟩,
   ⟨0x804, 0x0, 1, [⟨.ro, 31, 1, 0x0⟩, ⟨.ro, 30, 1, 0x0⟩, ⟨.ro, 0, 6, 0x0⟩]⟩,
   ⟨0xC00, 0x4, 8, [⟨.rw, 0, 32, 0x0⟩]⟩]

def SPI.table : List RegRow :=
  [⟨0x040, 0x0, 1, [⟨.rw, 31, 1, 0x0⟩, ⟨.rw, 24, 2, 0x0⟩, ⟨.rw, 16, 1, 0x0⟩, ⟨.rw, 0, 12, 0x32⟩]⟩,
   ⟨0x800, 0x0, 1, [⟨.wo, 31, 1, 0x0⟩, ⟨.wo, 0, 9, 0x0⟩]⟩,
   ⟨0x804, 0x0, 1, [⟨.ro, 31, 1, 0x0⟩]⟩,
   ⟨0xC00, 0x4, 64, [⟨.rw, 0, 32, 0x0⟩]⟩]

def GPIO.table : List RegRow :=
  [⟨0x040, 0x0, 1, [⟨.rw, 0, 24, 0x0⟩]⟩,
   ⟨0x044, 0x0, 1, [⟨.rw, 0, 24, 0x0⟩]⟩,
   ⟨0x048, 0x0, 1, [⟨.rw, 0, 32, 0x0⟩]⟩,
   ⟨0x04C, 0x0, 1, [⟨.rw, 0, 16, 0x0⟩]⟩,
   ⟨0x800, 0x0, 1, [⟨.rw, 0, 24, 0x0⟩]⟩,
   ⟨0x804, 0x0, 1, [⟨.ro, 0, 24, 0x0⟩]⟩,
   ⟨0x808, 0x0, 1, [⟨.wo, 0, 24, 0x0⟩]⟩,
   ⟨0x80C, 0x0, 1, [⟨.wo, 0, 24, 0x0⟩]⟩,
   ⟨0x810, 0x0, 1, [⟨.w1c, 0, 24, 0x0⟩]⟩]

/-- The registers of a page of each kind, the common header (R103) apart. -/
def Kind.table : Kind → List RegRow
  | .sysc => SYSC.table
  | .syn => SYN.table
  | .cksw => CKSW.table
  | .fcol => FCOL.table
  | .thrm => THRM.table
  | .tstk => TSTK.table
  | .intc => INTC.table
  | .dma => DMA.table
  | .cals => CALS.table
  | .time => TIME.table
  | .spdl => SPDL.table
  | .link => LINK.table
  | .strd => STRD.table
  | .vane => VANE.table
  | .isob => ISOB.table
  | .pwmc => PWMC.table
  | .pwmu => PWMU.table
  | .gch => GCH.table
  | .motr => MOTR.table
  | .sql => SQL.table
  | .adc => ADC.table
  | .lth => LTH.table
  | .eth => ETH.table
  | .ddrc => DDRC.table
  | .anmg => ANMG.table
  | .qspi => QSPI.table
  | .uart => UART.table
  | .i2c => I2C.table
  | .spi => SPI.table
  | .gpio => GPIO.table
  | .hk => PWMU.table

/-- The ERRSTAT bits 27:0 each kind of page defines, with their class (1 corrected, 2 uncorrected-contained,
3 fatal). The bits of SQL 15:0 take their class from SQCFGn.ECLS (R322), and are answered here as corrected. -/
def Kind.errTable : Kind → List (Nat × Nat)
  | .sysc => [(0, 1), (1, 1)]
  | .syn => [(0, 2), (1, 2), (2, 2), (3, 2), (4, 2), (5, 1)]
  | .cksw => [(0, 2), (1, 2), (2, 3), (3, 1)]
  | .fcol => [(0, 1), (1, 1), (2, 3)]
  | .thrm => [(0, 1), (1, 1), (2, 1), (3, 1), (4, 2), (5, 3), (6, 2), (7, 1), (8, 1), (9, 1)]
  | .tstk => [(0, 1), (1, 2), (2, 2), (3, 2), (4, 2), (5, 2), (6, 2), (7, 1), (8, 3)]
  | .intc => [(0, 1)]
  | .dma => [(0, 1)]
  | .cals => [(0, 1), (1, 2), (2, 1)]
  | .time => [(0, 1), (1, 1), (2, 1), (3, 1), (4, 1), (5, 1), (6, 1), (7, 2)]
  | .spdl => [(0, 1), (1, 1), (2, 1), (3, 2), (4, 2)]
  | .link => [(0, 2), (1, 2), (2, 1), (3, 1), (4, 1), (5, 1), (6, 1), (7, 2), (8, 2), (9, 1), (10, 1), (11, 1)]
  | .strd => [(0, 1), (1, 1), (2, 2), (3, 2), (4, 2), (5, 1), (6, 2), (7, 2), (8, 2), (9, 1), (10, 1)]
  | .vane => [(0, 1), (1, 1), (2, 1), (3, 2), (4, 2), (5, 2)]
  | .isob => [(0, 1), (1, 1), (2, 1), (3, 1), (4, 1), (5, 2), (6, 2), (7, 2), (8, 1), (9, 1)]
  | .pwmc => [(0, 2), (1, 2)]
  | .pwmu => [(0, 1), (1, 1), (2, 1), (3, 1), (4, 1), (5, 1), (6, 2)]
  | .gch => [(0, 1), (1, 2), (2, 2), (3, 2), (4, 2), (5, 2), (6, 2), (7, 2), (8, 2), (9, 2), (10, 1)]
  | .motr => [(0, 1), (1, 1), (2, 2), (3, 2), (4, 2)]
  | .sql => [(0, 1), (1, 1), (2, 1), (3, 1), (4, 1), (5, 1), (6, 1), (7, 1), (8, 1), (9, 1), (10, 1), (11, 1), (12, 1), (13, 1), (14, 1), (15, 1), (16, 1), (17, 1)]
  | .adc => [(0, 1), (1, 1), (2, 1), (3, 1), (4, 1), (5, 1), (6, 1), (7, 2), (8, 2), (9, 2), (10, 2)]
  | .lth => [(0, 1), (1, 1), (2, 2), (3, 1), (4, 1), (5, 2), (6, 2), (7, 1), (8, 1), (9, 2)]
  | .eth => [(0, 1), (1, 1), (2, 1), (3, 2)]
  | .ddrc => [(0, 2), (1, 1), (2, 2), (3, 2), (4, 2)]
  | .anmg => [(0, 1), (1, 2), (2, 2)]
  | .qspi => [(0, 1)]
  | .uart => [(0, 1), (1, 1), (2, 1), (3, 1), (4, 1)]
  | .i2c => [(0, 1), (1, 1), (2, 2)]
  | .spi => [(0, 1)]
  | .gpio => [(0, 1)]
  | .hk => [(0, 1), (1, 1), (2, 1), (5, 1)]

/-- The IRQFLG bits that a kind of page defines; the others are reserved, in IRQEN too (R3, R103). -/
def Kind.irqMask : Kind → Nat
  | .sysc => 0x0
  | .syn => 0x3F
  | .cksw => 0x0
  | .fcol => 0xF
  | .thrm => 0x3
  | .tstk => 0x7
  | .intc => 0x0
  | .dma => 0x0
  | .cals => 0x1
  | .time => 0xFF
  | .spdl => 0x3F
  | .link => 0xF
  | .strd => 0x3F
  | .vane => 0xF
  | .isob => 0xF
  | .pwmc => 0x3
  | .pwmu => 0xF
  | .hk => 0xF
  | .gch => 0xF
  | .motr => 0x1
  | .sql => 0x1FFFF
  | .adc => 0x1F
  | .lth => 0x7
  | .eth => 0x1F
  | .ddrc => 0x0
  | .anmg => 0x3
  | .qspi => 0x1
  | .uart => 0x3
  | .i2c => 0x1
  | .spi => 0x1
  | .gpio => 0x1

end Sys2Proof.Machine
end

