-- ==== Sys2Proof/Machine/Flags.lean ====
section
/-! DEFINITION. Reading and writing register fields, the map of pages (R109) and of fault sources (R371), the common
header (R103), and every error flag and interrupt flag computation: raising an IRQFLG bit, setting an ERRSTAT bit
with FIRST and the report to the fault collector (R104, R105), MAXCLS, and clearing by writing 1. -/

namespace Sys2Proof.Machine

/-! ### Register files -/

/-- The key of a field in a register file. -/
def Fld.key (F : Fld) (pg : Nat) : Nat := (pg * 4096 + F.off) * 32 + F.lsb

/-- The field's part of a written word. -/
def Fld.pick (F : Fld) (v : Nat) : Nat := bitsOf v F.lsb F.wid

/-- What a register file lists under a key. -/
def rfLook : RegFile → Nat → Option Nat
  | [], _ => none
  | (k, v) :: t, key => if k = key then some v else rfLook t key

/-- A register file without a key. -/
def rfDel : RegFile → Nat → RegFile
  | [], _ => []
  | (k, v) :: t, key => if k = key then rfDel t key else (k, v) :: rfDel t key

/-- A register file with a value under a key, keys rising; the value `rst` is not listed. -/
def rfPut : RegFile → Nat → Nat → Nat → RegFile
  | [], key, v, rst => if v = rst then [] else [(key, v)]
  | (k, w) :: t, key, v, rst =>
    if k < key then (k, w) :: rfPut t key v rst
    else
      let l := rfDel ((k, w) :: t) key
      if v = rst then l else (key, v) :: l

/-- Drop every field of a page. -/
def rfDrop (l : RegFile) (pg : Nat) : RegFile := l.filter fun p => decide (p.1 / 131072 ≠ pg)

/-- The current value of a field (for an SH field, its shadow). -/
def Dev.get (d : Dev) (pg : Nat) (F : Fld) : Nat := (rfLook d.regs (F.key pg)).getD F.rst

/-- A field that is not zero. -/
def Dev.on (d : Dev) (pg : Nat) (F : Fld) : Bool := d.get pg F != 0

/-- A field with a new value, cut to its width. -/
def Dev.set (d : Dev) (pg : Nat) (F : Fld) (v : Nat) : Dev :=
  { d with regs := rfPut d.regs (F.key pg) (v % 2 ^ F.wid) F.rst }

/-- The value in force of an SH field (R4). -/
def Dev.inForce (d : Dev) (pg : Nat) (F : Fld) : Nat := (rfLook d.act (F.key pg)).getD F.rst

/-- Give an SH field a new value in force. -/
def Dev.setForce (d : Dev) (pg : Nat) (F : Fld) (v : Nat) : Dev :=
  { d with act := rfPut d.act (F.key pg) (v % 2 ^ F.wid) F.rst }

/-- Add to what has met in this tick. -/
def Dev.meet (d : Dev) (f : Meets → Meets) : Dev := { d with meets := f d.meets }

/-- The shadow that a load takes: a value written in the tick of the load waits for the next one (R102). -/
def Dev.shadow (d : Dev) (pg : Nat) (F : Fld) : Nat := (d.meets.shadows.lookup (F.key pg)).getD (d.get pg F)

/-- Make the shadow of a field its value in force (R4: a load). -/
def Dev.load (d : Dev) (pg : Nat) (F : Fld) : Dev := d.setForce pg F (d.shadow pg F)

/-- Software writes a shadow (R102). -/
def Dev.setShadow (d : Dev) (pg : Nat) (F : Fld) (v : Nat) : Dev :=
  (d.meet fun m => { m with shadows := if (m.shadows.lookup (F.key pg)).isSome then m.shadows
                                       else (F.key pg, d.get pg F) :: m.shadows }).set pg F v

/-- Hardware updates an RW field: a value that software has written in this tick is kept (R101). -/
def Dev.hwSet (d : Dev) (pg : Nat) (F : Fld) (v : Nat) : Dev :=
  if d.meets.soft.contains (pg, F.off) then d else d.set pg F v

/-- Hardware gives a shadow a value for a load: one that software has written in this tick stays in the shadow (R101), and
the load takes the given value, also over one that hardware has written in this tick. -/
def Dev.giveShadow (d : Dev) (pg : Nat) (F : Fld) (v : Nat) : Dev :=
  (d.hwSet pg F v).meet fun m =>
    { m with shadows := if (m.shadows.lookup (F.key pg)).isSome then (F.key pg, v % 2 ^ F.wid) :: m.shadows else m.shadows }

/-- Hardware writes a shadow as software does (R102, R365), but for a field that software has written in this tick (R101). -/
def Dev.hwShadow (d : Dev) (pg : Nat) (F : Fld) (v : Nat) : Dev :=
  if d.meets.soft.contains (pg, F.off) then d else d.setShadow pg F v

/-- Add a number to a counter that saturates. -/
def Dev.incBy (d : Dev) (pg : Nat) (F : Fld) (n : Nat) : Dev :=
  (d.set pg F (min (d.get pg F + n) (2 ^ F.wid - 1))).meet fun m => { m with counts := (F.key pg, n) :: m.counts }

/-- Add 1 to a counter that saturates. -/
def Dev.inc (d : Dev) (pg : Nat) (F : Fld) : Dev := d.incBy pg F 1

/-- What hardware has added to a counter in this tick. -/
def Dev.counted (d : Dev) (pg : Nat) (F : Fld) : Nat :=
  min (((d.meets.counts.filter fun c => c.1 = F.key pg).map Prod.snd).foldl (· + ·) 0) (2 ^ F.wid - 1)

/-- Software clears a counter: what hardware has added in this tick remains (R101). -/
def Dev.clearCnt (d : Dev) (pg : Nat) (F : Fld) : Dev := d.set pg F (d.counted pg F)

/-- Add 1 to a counter that wraps. -/
def Dev.incWrap (d : Dev) (pg : Nat) (F : Fld) : Dev := d.set pg F (d.get pg F + 1)

/-- A field as a mask with one bit set or cleared. -/
def Dev.setBit (d : Dev) (pg : Nat) (F : Fld) (n : Nat) (b : Bool) : Dev :=
  d.set pg F (if b then d.get pg F ||| 1 <<< n else (d.get pg F) - (if bitAt (d.get pg F) n then 2 ^ n else 0))

/-- A bit of a field read as a mask. -/
def Dev.bit (d : Dev) (pg : Nat) (F : Fld) (n : Nat) : Bool := bitAt (d.get pg F) n

/-- Write several fields of a page from one word. -/
def Dev.setWord (d : Dev) (pg : Nat) (Fs : List Fld) (v : Nat) : Dev :=
  Fs.foldl (fun d F => d.set pg F (F.pick v)) d

/-- A fresh choice that the spec leaves to the device. -/
def Dev.coin (d : Dev) : Bool × Dev := (Config.freeBit d.fresh, { d with fresh := d.fresh + 1 })

/-- A fresh value that the spec leaves open. -/
def Dev.free (d : Dev) : Nat × Dev := (Config.freeNat d.fresh, { d with fresh := d.fresh + 1 })

/-! ### Pages (R109): bits 27:12 of the address -/

def pSYSC : Nat := 0x0000
def pSYNA : Nat := 0x0010
def pSYNB : Nat := 0x0011
/-- SYNA (0) or SYNB (1). -/
def pSYN (n : Nat) : Nat := 0x0010 + n
def pCKSW : Nat := 0x0012
def pFCOL : Nat := 0x0020
def pTHRM : Nat := 0x0030
def pTSTK : Nat := 0x0040
def pINTC : Nat := 0x0050
def pDMA : Nat := 0x0051
def pCALS : Nat := 0x0060
def pTIME : Nat := 0x0100
def pSPDL : Nat := 0x0110
/-- LINK0 to LINK7 as 0 to 7, PEER0 and PEER1 as 8 and 9. -/
def pLINK (n : Nat) : Nat := 0x0200 + n
def pSTRD : Nat := 0x0210
def pVANE : Nat := 0x0211
def pISOB : Nat := 0x0300
def pPWMC : Nat := 0x0400
/-- PWMU0 to PWMU5, and HK as 6. -/
def pPWMU (m : Nat) : Nat := 0x0401 + m
def pGCH : Nat := 0x0410
def pMOTR : Nat := 0x0411
def pSQL : Nat := 0x0420
/-- ADCA (0) or ADCB (1). -/
def pADC (c : Nat) : Nat := 0x0500 + c
def pLE (n : Nat) : Nat := 0x0600 + n
def pETH (n : Nat) : Nat := 0x0700 + n
def pDDRC : Nat := 0x0710
def pANMG : Nat := 0x0711
def pQSPI : Nat := 0x0720
def pUART (n : Nat) : Nat := 0x0721 + n
def pI2C : Nat := 0x0723
def pSPI : Nat := 0x0724
def pGPIO : Nat := 0x0725

/-- The kind and the instance of a page (R109); PEER0 and PEER1 are the instances 8 and 9 of the LINK kind. -/
def pageKind (pg : Nat) : Option (Kind × Nat) :=
  if pg = 0x0000 then some (.sysc, 0)
  else if pg = 0x0010 ∨ pg = 0x0011 then some (.syn, pg - 0x0010)
  else if pg = 0x0012 then some (.cksw, 0)
  else if pg = 0x0020 then some (.fcol, 0)
  else if pg = 0x0030 then some (.thrm, 0)
  else if pg = 0x0040 then some (.tstk, 0)
  else if pg = 0x0050 then some (.intc, 0)
  else if pg = 0x0051 then some (.dma, 0)
  else if pg = 0x0060 then some (.cals, 0)
  else if pg = 0x0100 then some (.time, 0)
  else if pg = 0x0110 then some (.spdl, 0)
  else if 0x0200 ≤ pg ∧ pg ≤ 0x0209 then some (.link, pg - 0x0200)
  else if pg = 0x0210 then some (.strd, 0)
  else if pg = 0x0211 then some (.vane, 0)
  else if pg = 0x0300 then some (.isob, 0)
  else if pg = 0x0400 then some (.pwmc, 0)
  else if 0x0401 ≤ pg ∧ pg ≤ 0x0406 then some (.pwmu, pg - 0x0401)
  else if pg = 0x0407 then some (.hk, 0)
  else if pg = 0x0410 then some (.gch, 0)
  else if pg = 0x0411 then some (.motr, 0)
  else if pg = 0x0420 then some (.sql, 0)
  else if pg = 0x0500 ∨ pg = 0x0501 then some (.adc, pg - 0x0500)
  else if 0x0600 ≤ pg ∧ pg ≤ 0x0607 then some (.lth, pg - 0x0600)
  else if pg = 0x0700 ∨ pg = 0x0701 then some (.eth, pg - 0x0700)
  else if pg = 0x0710 then some (.ddrc, 0)
  else if pg = 0x0711 then some (.anmg, 0)
  else if pg = 0x0720 then some (.qspi, 0)
  else if pg = 0x0721 ∨ pg = 0x0722 then some (.uart, pg - 0x0721)
  else if pg = 0x0723 then some (.i2c, 0)
  else if pg = 0x0724 then some (.spi, 0)
  else if pg = 0x0725 then some (.gpio, 0)
  else none

/-- The fault source of a page, and the page's instance within it (R371). -/
def pageSource (pg : Nat) : Nat × Nat :=
  match pageKind pg with
  | some (.sysc, _) => (0, 0) | some (.cals, _) => (0, 1) | some (.fcol, _) => (0, 2)
  | some (.syn, n) => (1 + n, 0) | some (.cksw, _) => (3, 0) | some (.thrm, _) => (4, 0)
  | some (.tstk, _) => (5, 0) | some (.intc, _) => (9, 0) | some (.dma, _) => (9, 1)
  | some (.time, _) => (10, 0) | some (.spdl, _) => (11, 0)
  | some (.link, n) => if n < 8 then (12 + n, 0) else (20, n - 8)
  | some (.strd, _) => (21, 0) | some (.vane, _) => (22, 0) | some (.isob, _) => (23, 0)
  | some (.pwmc, _) => (24, 0) | some (.pwmu, m) => (25 + m, 0) | some (.hk, _) => (31, 0)
  | some (.gch, _) => (32, 0) | some (.motr, _) => (33, 0) | some (.sql, _) => (34, 0)
  | some (.adc, c) => (35 + c, 0) | some (.lth, n) => (37 + n, 0) | some (.eth, n) => (45, n)
  | some (.ddrc, _) => (46, 0) | some (.anmg, _) => (46, 1) | some (.qspi, _) => (47, 0)
  | some (.uart, n) => (47, 1 + n) | some (.i2c, _) => (47, 3) | some (.spi, _) => (47, 4)
  | some (.gpio, _) => (47, 5) | none => (0, 0)

/-- The pages of a fault source (R371). -/
def sourcePages (src : Nat) : List Nat :=
  if src = 0 then [pSYSC, pCALS, pFCOL]
  else if src = 1 then [pSYNA] else if src = 2 then [pSYNB] else if src = 3 then [pCKSW]
  else if src = 4 then [pTHRM] else if src = 5 then [pTSTK] else if src = 9 then [pINTC, pDMA]
  else if src = 10 then [pTIME] else if src = 11 then [pSPDL]
  else if 12 ≤ src ∧ src ≤ 19 then [pLINK (src - 12)] else if src = 20 then [pLINK 8, pLINK 9]
  else if src = 21 then [pSTRD] else if src = 22 then [pVANE] else if src = 23 then [pISOB]
  else if src = 24 then [pPWMC] else if 25 ≤ src ∧ src ≤ 31 then [pPWMU (src - 25)]
  else if src = 32 then [pGCH] else if src = 33 then [pMOTR] else if src = 34 then [pSQL]
  else if 35 ≤ src ∧ src ≤ 36 then [pADC (src - 35)] else if 37 ≤ src ∧ src ≤ 44 then [pLE (src - 37)]
  else if src = 45 then [pETH 0, pETH 1] else if src = 46 then [pDDRC, pANMG]
  else if src = 47 then [pQSPI, pUART 0, pUART 1, pI2C, pSPI, pGPIO] else []

/-! ### Roles (R6, R7, R44) -/

/-- The device is strapped as a cell node. -/
def Dev.isCell (d : Dev) : Bool := d.get pSYSC SYSC.STRAP_ROLE == 0

/-- The device is strapped in a hub role (R2). -/
def Dev.isHub (d : Dev) : Bool := !d.isCell

/-- A page whose block is absent in the strapped role, so that it reads zero (R7, R8, R109, R234). -/
def Dev.gone (d : Dev) (pg : Nat) : Bool :=
  match pageKind pg with
  | none => true
  | some (k, n) =>
    if d.isCell then
      match k with
      | .syn => n == 1
      | .strd => true | .isob => true | .motr => true | .eth => true | .ddrc => true | .anmg => true
      | _ => false
    else false

/-- A page whose block is absent or held in reset in the strapped role, so that it takes no write and does nothing (R7,
R8): in a cell also LINK2 to LINK7 and the peer ports. -/
def Dev.absent (d : Dev) (pg : Nat) : Bool :=
  d.gone pg || (d.isCell && decide (0x0202 ≤ pg) && decide (pg ≤ 0x0209))

/-! ### The common header (R103) -/

def HDR.FEATACC_DONE : Fld := ⟨0x00C, 31, 1, 0⟩
def HDR.FEATACC_ACC : Fld := ⟨0x00C, 0, 31, 0⟩
def HDR.IRQEN : Fld := ⟨0x018, 0, 32, 0⟩
def HDR.IRQFLG : Fld := ⟨0x01C, 0, 32, 0⟩
def HDR.ERRSTAT : Fld := ⟨0x020, 0, 32, 0⟩
def HDR.FIRST : Fld := ⟨0x028, 8, 5, 0⟩
def HDR.LOCK_LOCKED : Fld := ⟨0x02C, 31, 1, 0⟩
def HDR.LOCK_STICKY : Fld := ⟨0x02C, 30, 1, 0⟩

/-- The common ERRSTAT bits (R104). -/
def HDR.E_LOCK_ERR : Nat := 31
def HDR.E_FEAT_ERR : Nat := 30
def HDR.E_ACC_REJ : Nat := 29

/-- The class of an ERRSTAT bit of a page (R104): 1 corrected, 2 uncorrected-contained, 3 fatal, 0 not defined. The
bits 15:0 of SQL take theirs from SQCFGn.ECLS (R322). -/
def Dev.errClass (d : Dev) (pg bit : Nat) : Nat :=
  if 29 ≤ bit then 1
  else match pageKind pg with
    | some (.sql, _) => if bit < 16 then d.get pSQL (SQL.SQCFG_ECLS bit) else if bit < 18 then 1 else 0
    | some (k, _) => (k.errTable.lookup bit).getD 0
    | none => 0

/-- The ERRSTAT bits a page defines. -/
def definedErrs (pg : Nat) : List Nat :=
  match pageKind pg with
  | some (k, _) => (k.errTable.map Prod.fst) ++ [29, 30, 31]
  | none => []

/-- The highest class among the set bits of a page's ERRSTAT (R104). -/
def Dev.maxCls (d : Dev) (pg : Nat) : Nat :=
  (definedErrs pg).foldl (fun m b => if d.bit pg HDR.ERRSTAT b then max m (d.errClass pg b) else m) 0

/-- What a timestamp of an instant `back` (2^-16 ns) before the present tick takes from the steps: an instant in a step's
tick or before it has TIME and STEPGEN from before that step (R129, R132). -/
def Dev.stepSince (d : Dev) (back : Nat) : Int × Nat :=
  (d.tb.steps.filter fun s => decide (d.ns ≤ s.1 + (back + 262143) / 262144 * 4)).foldl (fun r s => (r.1 + s.2.1, s.2.2))
    (0, d.get pTIME TIME.STAT_STEPGEN)

/-- TIME in 2^-16 ns and STEPGEN as a timestamp taken in the present tick carries them. -/
def Dev.stamp (d : Dev) : Nat × Nat :=
  let (x, g) := d.stepSince 0
  ((((d.time / 2 ^ 24 : Nat) - x) % (2 ^ 48 * 1000000000 * 65536 : Nat)).toNat, g)

/-- An occurrence of an error on its way to the fault collector (R372). -/
def Dev.occurrence (d : Dev) (src inst bit cls : Nat) (inj : Bool) : Dev :=
  { d with reports := d.reports ++
      [⟨src, inst, bit, cls, inj, d.ticks, d.stamp.1, d.stamp.2⟩] }

/-- Report one occurrence of an error to the fault collector, once per bit and tick (R104, R372). -/
def Dev.report (d : Dev) (pg bit : Nat) : Dev :=
  if d.told.contains (pg, bit) then d
  else
    { d with told := (pg, bit) :: d.told }.occurrence (pageSource pg).1 (pageSource pg).2 bit (d.errClass pg bit) false

/-- FIRST after bit `bit` becomes set, where it was clear: the lowest of the bits that became set in this tick while every bit
was clear (R105). Where software cleared the last bit in this very tick, ERRSTAT has not been clear in between, and FIRST stays (R4,
R105). -/
def Dev.firstAfter (d : Dev) (pg bit : Nat) : Nat :=
  if d.get pg HDR.ERRSTAT = 0 then (d.meets.emptied.lookup pg).getD bit
  else if d.meets.first.contains pg then min bit (d.get pg HDR.FIRST) else d.get pg HDR.FIRST

/-- Set an ERRSTAT bit, and FIRST with it; a bit that is already set changes neither (R104, R105). -/
def Dev.errSet (d : Dev) (pg bit : Nat) : Dev :=
  if d.bit pg HDR.ERRSTAT bit then d
  else
    let first := d.firstAfter pg bit
    let taken := d.get pg HDR.ERRSTAT == 0 && (d.meets.emptied.lookup pg).isNone
    ((d.setBit pg HDR.ERRSTAT bit true).set pg HDR.FIRST first).meet fun m =>
      { m with first := if taken then pg :: m.first else m.first }

/-- A block detects the error `bit` of its page: the flag and FIRST are set and the occurrence is reported (R104,
R105). A page inside a block reset, or whose block is absent in the strapped role, raises nothing (R371, R382). -/
def Dev.err (d : Dev) (pg bit : Nat) : Dev :=
  if d.inBlk.contains pg || d.absent pg then d else (d.errSet pg bit).report pg bit

/-- Count when a condition holds. -/
def Dev.incIf (d : Dev) (b : Bool) (pg : Nat) (F : Fld) : Dev := if b then d.inc pg F else d

/-- Set the error `bit` when a condition holds. -/
def Dev.errIf (d : Dev) (b : Bool) (pg bit : Nat) : Dev := if b then d.err pg bit else d

/-- An injected error (R106): like a detected one, with the INJ tag. Bits that the page does not define are ignored, and
so is a bit of a Squall channel with ECLS = 0 (R322). -/
def Dev.inject (d : Dev) (pg bit : Nat) : Dev :=
  if d.inBlk.contains pg || d.absent pg || d.errClass pg bit == 0 || !(definedErrs pg).contains bit then d
  else
    let cls := d.errClass pg bit
    (d.errSet pg bit).occurrence (pageSource pg).1 (pageSource pg).2 bit cls true

/-- Writing 1 to ERRSTAT bits clears them, but for those that the block has raised in this tick (R4); FIRST returns to 0 with
the last (R104, R105). -/
def Dev.clearErrs (d : Dev) (pg mask : Nat) : Dev :=
  let left := (definedErrs pg).foldl (fun m b =>
    if d.bit pg HDR.ERRSTAT b && (!bitAt mask b || d.told.contains (pg, b)) then m + 2 ^ b else m) 0
  let d1 := d.set pg HDR.ERRSTAT left
  if left ≠ 0 then d1
  else if d.get pg HDR.ERRSTAT = 0 ∨ d.meets.first.contains pg ∨ (d.meets.emptied.lookup pg).isSome then d1.set pg HDR.FIRST 0
  else (d1.set pg HDR.FIRST 0).meet fun m => { m with emptied := (pg, d.get pg HDR.FIRST) :: m.emptied }

/-- Hardware sets a W1C bit (R4). -/
def Dev.raise (d : Dev) (pg : Nat) (F : Fld) (bit : Nat) : Dev :=
  (d.setBit pg F bit true).meet fun m => { m with bits := (F.key pg + bit) :: m.bits }

/-- Raise an interrupt flag of a page. -/
def Dev.irq (d : Dev) (pg bit : Nat) : Dev :=
  if d.inBlk.contains pg || d.absent pg then d else d.raise pg HDR.IRQFLG bit

/-- Raise an interrupt flag when a condition holds. -/
def Dev.irqIf (d : Dev) (b : Bool) (pg bit : Nat) : Dev := if b then d.irq pg bit else d

/-- The bits of a W1C field that hardware has set in this tick, as a mask. -/
def Dev.raised (d : Dev) (pg : Nat) (F : Fld) : Nat :=
  (List.range F.wid).foldl (fun m b => if d.meets.bits.contains (F.key pg + b) then m + 2 ^ b else m) 0

/-- Clear the bits of a W1C field that are 1 in a mask; a bit that hardware has set in this tick remains (R4). -/
def Dev.w1c (d : Dev) (pg : Nat) (F : Fld) (mask : Nat) : Dev :=
  d.set pg F (d.get pg F - (d.get pg F &&& (mask - (mask &&& d.raised pg F))))

/-- A feature of a page is accepted and in force (R115). -/
def Dev.feat (d : Dev) (pg bit : Nat) : Bool := d.on pg HDR.FEATACC_DONE && d.bit pg HDR.FEATACC_ACC bit

end Sys2Proof.Machine
end

