-- ==== Sys2Proof/Machine/Operands.lean ====
section
/-! DEFINITION. Operand forms: the TIME triplet (R140) and the 62.5 ps stamp (R341), rounding to the 62.5 ps grid and
to the tick, the generic read and write of a register by the access types of its fields (R3, R4), and the guard of a
locked page (R107, R108). -/

namespace Sys2Proof.Machine

/-! ### Time -/

/-- 2^-16 ns units in a second. -/
def sec16 : Nat := 1000000000 * 65536

/-- 2^-40 ns units in a second. -/
def sec40 : Nat := 1000000000 * 2 ^ 40

/-- TIME wraps at 2^48 seconds (R123), in 2^-40 ns. -/
def wrap40 : Nat := 2 ^ 48 * sec40

/-- A tick of 4 ns and a step of 62.5 ps in 2^-16 ns. -/
def tick16 : Nat := 262144
def fine16 : Nat := 4096

/-- A signed time in 2^-16 ns, with the wrap of SEC. -/
def time16 (t : Int) : Nat := (t % (2 ^ 48 * sec16 : Nat)).toNat

/-- TIME in 2^-16 ns: SEC, NS and FRAC without the hidden fraction. -/
def Dev.now16 (d : Dev) : Nat := d.time / 2 ^ 24

/-- The NS, FRAC, low SEC and high SEC words of a time in 2^-16 ns (R140). -/
def nsOf (t : Nat) : Nat := t % sec16 / 65536
def fracOf (t : Nat) : Nat := t % 65536
def slOf (t : Nat) : Nat := t / sec16 % 2 ^ 32
def shOf (t : Nat) : Nat := t / sec16 / 2 ^ 32 % 65536

/-- The time in 2^-16 ns that a triplet of fields names. -/
def tripOf (ns sl frac sech : Nat) : Nat := (sech * 2 ^ 32 + sl) * sec16 + ns * 65536 + frac

/-- The four fields of a triplet register set. -/
structure Trip where
  ns : Fld
  sl : Fld
  frac : Fld
  sech : Fld

/-- Store a time in a triplet of registers. -/
def Dev.putTrip (d : Dev) (pg : Nat) (T : Trip) (t : Nat) : Dev :=
  (((d.set pg T.ns (nsOf t)).set pg T.sl (slOf t)).set pg T.frac (fracOf t)).set pg T.sech (shOf t)

/-- Hardware stores a time in a triplet of RW registers (R101). -/
def Dev.hwTrip (d : Dev) (pg : Nat) (T : Trip) (t : Nat) : Dev :=
  (((d.hwSet pg T.ns (nsOf t)).hwSet pg T.sl (slOf t)).hwSet pg T.frac (fracOf t)).hwSet pg T.sech (shOf t)

/-- The time a triplet of registers holds. -/
def Dev.getTrip (d : Dev) (pg : Nat) (T : Trip) : Nat :=
  tripOf (d.get pg T.ns) (d.get pg T.sl) (d.get pg T.frac) (d.get pg T.sech)

/-- A time as the 62.5 ps stamp of R341 and R393: (NS × 16 + FRAC div 4,096) mod 2^32. -/
def stamp62 (t : Nat) : Nat := (nsOf t * 16 + fracOf t / 4096) % 2 ^ 32

/-- The 12-byte layout of a time (R193): SEC, then VALID, HOLDOVER and NS, then FRAC. -/
def bytes12 (t flags : Nat) : List Byte := toBE 6 (t / sec16) ++ toBE 4 (flags * 2 ^ 30 + nsOf t) ++ toBE 2 (fracOf t)

/-- VALID and HOLDOVER of TIME as bits 1 and 0. -/
def Dev.timeFlags (d : Dev) : Nat := 2 * d.get pTIME TIME.STAT_VALID + d.get pTIME TIME.STAT_HOLDOVER

/-- Round to the nearest multiple of `g`, a tie taking the larger value. -/
def roundUpTie (x g : Nat) : Nat := (x + g / 2) / g * g

/-- The quotient rounded to the nearest integer, a tie toward +∞, for a positive divisor. -/
def divRound (x : Int) (n : Nat) : Int := (2 * x + n) / (2 * n : Nat)

/-- The quotient rounded to the nearest integer, a tie to the even one, for a positive divisor. -/
def divRoundEven (x : Int) (n : Nat) : Int :=
  let q := x / (n : Int)
  let r := x - q * n
  if 2 * r < n then q else if 2 * r > n then q + 1 else if q % 2 = 0 then q else q + 1

/-- An integer clamped to a range. -/
def clampI (x lo hi : Int) : Int := if x < lo then lo else if hi < x then hi else x

/-- Whether an instant lies at or before another one, where TIME may have wrapped between them: within half of the range
of SEC. -/
def notAfter (t now : Nat) : Bool := decide (time16 ((now : Int) - t) < 2 ^ 47 * sec16)

/-- The wrap of TIME in 2^-16 ns. -/
def wrap16 : Nat := wrap40 / 2 ^ 24

/-- How far an instant lies after another, negative before it, across the wrap of SEC. A grid's origin can lie before TIME's
zero (R18, R236). -/
def since (t0 t : Nat) : Int := if notAfter t0 t then (time16 ((t : Int) - t0) : Nat) else -((time16 ((t0 : Int) - t) : Nat) : Int)

/-- The later of two instants. -/
def later (a b : Nat) : Nat := if notAfter a b then b else a

/-- The place of an instant in a grid of period p through t0. -/
def placeIn (t0 p t : Nat) : Nat := (since t0 t % (p : Nat)).toNat

/-! ### Registers by their tables -/

/-- The register of a table row at a byte offset. -/
def RegRow.at (r : RegRow) (off : Nat) : Bool :=
  if r.stride = 0 then off == r.base
  else decide (r.base ≤ off) && (off - r.base) % r.stride == 0 && decide ((off - r.base) / r.stride < r.cnt)

/-- The fields of the register of a kind of page at an offset, without the common header. -/
def Kind.fieldsAt (k : Kind) (off : Nat) : List RegFld :=
  match k.table.find? (RegRow.at · off) with
  | some r => r.flds
  | none => []

/-- The field of a page that a table field names at an offset. -/
def RegFld.fld (f : RegFld) (off : Nat) : Fld := ⟨off, f.lsb, f.wid, f.rst⟩

/-- The fields of a register of a page, the RW fields of the header included. -/
def pageFields (pg off : Nat) : List RegFld :=
  if off = 0x018 then [⟨.rw, 0, 32, 0⟩]
  else match pageKind pg with
    | some (k, _) => k.fieldsAt off
    | none => []

/-- The word a register holds in its readable fields (R4); an offset that no table lists gives 0, where R3 says that what
is read there means nothing (DESIGN CHOICE, entry 12). -/
def Dev.wordAt (d : Dev) (pg off : Nat) : Nat :=
  (pageFields pg off).foldl (fun w f => if f.acc = .wo then w else w + d.get pg (f.fld off) <<< f.lsb) 0

/-- Write one field by its access type (R4). LC fields are the Lathe's own (R366). -/
def Dev.writeFld (d : Dev) (pg off v : Nat) (f : RegFld) : Dev :=
  match f.acc with
  | .rw => d.set pg (f.fld off) (bitsOf v f.lsb f.wid)
  | .sh => d.setShadow pg (f.fld off) (bitsOf v f.lsb f.wid)
  | .w1c => d.w1c pg (f.fld off) (bitsOf v f.lsb f.wid)
  | _ => d

/-- Write every field of a register by its access type; reserved bits have no effect (R3). -/
def Dev.writeWord (d : Dev) (pg off v : Nat) : Dev :=
  (pageFields pg off).foldl (fun d f => d.writeFld pg off v f) d

/-! ### The lock (R107, R108) -/

/-- A page is locked or sticky-locked. -/
def Dev.locked (d : Dev) (pg : Nat) : Bool := d.on pg HDR.LOCK_LOCKED

/-- An RW field that the lock guards: CTRL and IRQEN of the header and the configuration area (R108). FEATACC and
ERRINJ are guarded in their own writes. -/
def guardedFld (off : Nat) (f : RegFld) : Bool :=
  f.acc == .rw && (off == 0x010 || off == 0x018 || (decide (0x040 ≤ off) && decide (off < 0x800)))

/-- An RW field of a table that takes no writes on this page: in the strapped role, on a peer port, for want of an
accepted feature (R117), or because it is fixed there. -/
def Dev.fixedFld (d : Dev) (pg off : Nat) (f : RegFld) : Bool :=
  let within (a b : Nat) : Bool := decide (a ≤ off) && decide (off < b)
  match pageKind pg with
  | some (.syn, n) => n == 1 && off == 0x040 && f.lsb == 1
  | some (.thrm, _) => d.isCell && within 0x0A0 0x0B0
  | some (.spdl, _) => (d.isCell && within 0x044 0x064) || (within 0x400 0x440 && (off - 0x400) % 32 != 0x18)
  | some (.link, n) =>
    (off == 0x040 && (f.lsb == 11 || f.lsb == 2) && (d.isHub || decide (2 ≤ n))) ||
      (decide (8 ≤ n) && ((off == 0x054 && f.lsb != 0) || within 0x060 0x070))
  | some (.vane, _) => (d.isHub && within 0x044 0x058) || (off == 0x070 && d.get pSYSC SYSC.STRAP_ROLE % 3 == 0)
  | some (.pwmu, _) => d.isHub && off == 0x040 && PWMU.CFG_CMDREF.lsb == f.lsb
  | some (.hk, _) =>
    (off == 0x040 && f.lsb != PWMU.CFG_MODE.lsb) ||
      (off == 0x044 && f.lsb != PWMU.EVCFG_STARTEN.lsb && f.lsb != PWMU.EVCFG_ENDEN.lsb)
  | some (.gch, _) => d.isCell && (off == 0x0C0 || off == 0x0C4)
  | some (.adc, c) =>
    (off == 0x050 && !d.feat pg 0) || (within 0x100 0x180 && f.lsb == 28 && !d.feat pg 0) ||
      (off == 0x060 && (c == 1 || d.isHub))
  | _ => false

/-- The value that a write of `v` would give an RW field: reserved bits of a register that the table lists whole keep
theirs (R3). -/
def Dev.written (d : Dev) (pg off v : Nat) (f : RegFld) : Nat :=
  let x := bitsOf v f.lsb f.wid
  if d.fixedFld pg off f then d.get pg (f.fld off)
  else match pageKind pg with
    | some (k, _) =>
      if off = 0x018 then x &&& k.irqMask
      else if k = .spdl ∧ (0x100 ≤ off ∧ off < 0x300 ∧ off % 8 = 4 ∨ 0x400 ≤ off ∧ (off - 0x400) % 32 = 0x18) then x - x % 32
      else if k = .fcol ∧ off = 0x044 ∧ f.lsb = 0 then x ||| 1
      else if k = .fcol ∧ 0x100 ≤ off ∧ off < 0x1C0 ∧ f.lsb = 20 then 0x095 ||| (x &&& 0x142) else x
    | none => x

/-- A written word with the guarded fields replaced by their present values. -/
def Dev.lockWord (d : Dev) (pg off v : Nat) : Nat :=
  (pageFields pg off).foldl
    (fun w f => w + (if guardedFld off f then d.get pg (f.fld off) else bitsOf v f.lsb f.wid) <<< f.lsb) 0

/-- The write would change a guarded field. -/
def Dev.lockHits (d : Dev) (pg off v : Nat) : Bool :=
  (pageFields pg off).any fun f => guardedFld off f && d.written pg off v f != d.get pg (f.fld off)

/-- Any write to a page but the second key discards a waiting first key; on a locked page that sets LOCK_ERR (R107). -/
def Dev.dropKey (d : Dev) (pg : Nat) : Dev :=
  if d.unlock.contains pg then
    let d := { d with unlock := d.unlock.filter (· != pg) }
    d.errIf (d.locked pg) pg HDR.E_LOCK_ERR
  else d

/-- A 32-bit write to a register as an initiator makes it: a page whose block is absent ignores it (R8); a waiting
unlock key is dropped; on a locked page the guarded fields keep their values, with LOCK_ERR if one would have changed,
and a register without unguarded fields is not examined further (R108), so that such a write has no side effect even where
it would change no field (DESIGN CHOICE, entry 13); otherwise `f` has the word. -/
def Dev.guard (d : Dev) (pg off v : Nat) (f : Dev → Nat → Dev) : Dev :=
  if d.absent pg || d.inBlk.contains pg then d
  else
    let d := d.dropKey pg
    if d.locked pg then
      let d1 := d.errIf (d.lockHits pg off v) pg HDR.E_LOCK_ERR
      if (pageFields pg off).all (fun fl => guardedFld off fl || fl.acc == .ro) then d1
      else f d1 (d.lockWord pg off v)
    else f d v

/-- A write to a register with no unguarded rule of its own. -/
def Dev.guardWord (d : Dev) (pg off v : Nat) : Dev := d.guard pg off v fun d v => d.writeWord pg off v

/-! ### Errors of the cores and their memories (R438) -/

/-- CPU pair 1 is held in reset (R7, R74, R438), and its error lines are quiet (R371, R382). -/
def Dev.cpu1Held (d : Dev) : Bool := !d.on pSYSC SYSC.RELEASE_CPU1

/-- An error of the words CPUERR0, CPUERR1 or MEMERR, the sources 6, 7 and 8. -/
def Dev.coreErr (d : Dev) (src bit cls : Nat) : Dev :=
  if src == 7 && d.cpu1Held then d
  else
  let F := if src = 6 then INTC.CPUERR0 else if src = 7 then INTC.CPUERR1 else INTC.MEMERR
  let d := d.raise pINTC F bit
  if d.told.contains (0x10000 + src, bit) then d
  else { d with told := (0x10000 + src, bit) :: d.told }.occurrence src 0 bit cls false

/-- An uncorrectable error while the boot ROM loads an image (R455). -/
def Dev.romUe (d : Dev) (double : Bool) : Dev :=
  if double && d.get pSYSC SYSC.BOOTSTAT_PHASE == 3 then { d with soc := { d.soc with romEcc := true } } else d

/-- A double-bit error that an access to shared SRAM meets (R438): it completes with a bus error. -/
def Dev.sramUe (d : Dev) (addr : Nat) : Dev := ((d.romUe true).coreErr 8 1 2).set pINTC INTC.MEMADDR addr

/-! ### Answers of the bus, and latched words (R100) -/

/-- A read is answered. -/
def Dev.answer (d : Dev) (v : Nat) : Dev := { d with reply := some (some v) }

/-- An access completes with a bus error. -/
def Dev.busErr (d : Dev) : Dev := { d with reply := some none }

/-- Latch the words of registers of a page until each is read. -/
def Dev.latch (d : Dev) (pg : Nat) (ws : List (Nat × Nat)) : Dev :=
  { d with latched := ws.foldl (fun l w => (pg * 4096 + w.1, w.2) :: l.filter fun x => x.1 != pg * 4096 + w.1) d.latched }

/-- The word x+8 of a triplet (R140). -/
def fsOf (t : Nat) : Nat := fracOf t * 65536 + shOf t

/-- Latch the two upper words of a triplet at offset x. -/
def Dev.latchTrip (d : Dev) (pg x t : Nat) : Dev := d.latch pg [(x + 4, slOf t), (x + 8, fsOf t)]

end Sys2Proof.Machine
end

