-- ==== Sys2Proof/Machine/Anmg.lean ====
section
/-! DEFINITION. Anemograph (chapter 20, R450 to R453): descriptors, records, blocks and triggers. Its bytes go to DRAM
through `Dev.stores`. -/

namespace Sys2Proof.Machine

def anZero : AnDesc := ⟨0, 0, 0, 0, 0, 0, false, 0, 0, 0, 0, 0, 0, 0, 0, 0, 0, 0, none, 0, false, 0⟩

def Dev.anDesc (d : Dev) (n : Nat) : AnDesc := (d.an.lookup n).getD anZero

/-- Replace a descriptor; a descriptor of zeros is not listed. -/
def anPut : List (Nat × AnDesc) → Nat → AnDesc → List (Nat × AnDesc)
  | [], n, x => if x = anZero then [] else [(n, x)]
  | (k, y) :: t, n, x =>
    if k < n then (k, y) :: anPut t n x
    else if k = n then (if x = anZero then t else (n, x) :: t)
    else if x = anZero then (k, y) :: t else (n, x) :: (k, y) :: t

def Dev.modAn (d : Dev) (n : Nat) (f : AnDesc → AnDesc) : Dev := { d with an := anPut d.an n (f (d.anDesc n)) }

def AnDesc.en (x : AnDesc) : Bool := bitAt x.ctl 31
def AnDesc.kind (x : AnDesc) : Nat := bitsOf x.ctl 28 3
def AnDesc.port (x : AnDesc) : Nat := bitsOf x.ctl 16 8
def AnDesc.stream (x : AnDesc) : Nat := bitsOf x.ctl 0 16
def AnDesc.base (x : AnDesc) : Nat := bitsOf x.baseHi 0 8 * 2 ^ 32 + x.baseLo

/-- A descriptor takes records (ARMED or POST). -/
def AnDesc.takes (x : AnDesc) : Bool := x.en && (x.state == 1 || x.state == 2)

/-- The installed DRAM in bytes (R447, R459). -/
def Dev.dramSize (d : Dev) : Nat :=
  (1 + d.get pDDRC DDRC.CFG_RANK2) * (if d.on pDDRC DDRC.CFG_X16 then 2 else 4) * 2 ^ (29 + d.get pDDRC DDRC.CFG_DENS)

/-- Queue bytes to be stored when the command ends. -/
def Dev.store (d : Dev) (m : MemId) (a : Nat) (bs : List Byte) : Dev := { d with stores := d.stores ++ [(m, a, bs)] }

/-- Drop a record (R453). -/
def Dev.anDrop (d : Dev) (n : Nat) : Dev :=
  (d.modAn n fun x => { x with drop := min (x.drop + 1) (2 ^ 32 - 1) }).err pANMG ANMG.E_DROP

/-- The header of the open block (R450). -/
def anHeader (n : Nat) (x : AnDesc) : List Byte :=
  bytes12 x.first x.flags ++ toBE 4 x.seq ++ toBE 2 x.used ++
  toBE 1 (b2n x.trgIn + 2 * b2n (x.state == 2 && !x.trgIn)) ++ toBE 1 n ++ toBE 1 (n / 256 % 2) ++ toBE 1 0 ++
  toBE 2 (if x.kind = 2 then x.bulkSeq.getD 0xFFFF else 0) ++ toBE 8 0

/-- The open block closes: its header is written, and in POST the descriptor may freeze (R450, R452). -/
def Dev.anClose (d : Dev) (n : Nat) : Dev :=
  let x := d.anDesc n
  let d := d.store .dram (x.base + x.wrblk * 1056) (anHeader n x)
  let next := if x.nblk ≤ x.wrblk + 1 then 0 else x.wrblk + 1
  let frozen := x.state == 2 && decide (x.postblk ≤ x.post)
  let d := d.modAn n fun x =>
    { x with seq := (x.seq + 1) % 2 ^ 32, used := 0, bulkSeq := none, trgIn := false, wrblk := next,
             wrapped := x.wrapped || next == 0, post := if x.state = 2 then x.post + 1 else x.post,
             state := if frozen then 3 else x.state }
  d.irqIf frozen pANMG ANMG.I_FROZEN

/-- Put bytes into the open block, opening it with the first. -/
def Dev.anWrite (d : Dev) (n t : Nat) (bs : List Byte) : Dev :=
  let x := d.anDesc n
  let d := d.store .dram (x.base + x.wrblk * 1056 + 32 + x.used) bs
  d.modAn n fun x =>
    { x with used := x.used + bs.length, first := if x.used = 0 then t else x.first,
             flags := if x.used = 0 then d.timeFlags else x.flags, opened := if x.used = 0 then d.sf else x.opened }

/-- A record arrives for a descriptor: it never spans two blocks; without a ready DRAM it is dropped (R450, R453). -/
def Dev.anRecord (d : Dev) (n t : Nat) (bs : List Byte) : Dev :=
  if !(d.anDesc n).takes then d
  else if !d.on pDDRC DDRC.STAT_READY then d.anDrop n
  else
    let d := if 1024 < (d.anDesc n).used + bs.length then d.anClose n else d
    if (d.anDesc n).takes then d.anWrite n t bs else d

/-- The descriptors that satisfy a condition, in ascending order. -/
def Dev.anWhere (d : Dev) (p : AnDesc → Bool) : List Nat := (d.an.filter fun x => x.2.takes && p x.2).map Prod.fst

/-- Bulk bytes of a frame, filling block after block (R450), and the bytes left where the descriptor freezes among them.
`fuel` bounds the blocks that one frame touches. -/
def Dev.anBulkGo (d : Dev) (n t : Nat) : Nat → List Byte → Dev × List Byte
  | 0, bs => (d, bs)
  | fuel + 1, bs =>
    if bs.isEmpty || !(d.anDesc n).takes then (d, bs)
    else
      let room := 1024 - (d.anDesc n).used
      if room = 0 then (d.anClose n).anBulkGo n t fuel bs
      else (d.anWrite n t (bs.take room)).anBulkGo n t fuel (bs.drop room)

/-- Bytes of a bulk frame for a descriptor, from the frame's start (`start`) or from within: the SEQ of the first frame whose
payload starts in a block is kept (R450). The bytes that the descriptor does not take are left. -/
def Dev.anBulk (d : Dev) (n t seq : Nat) (start : Bool) (bs : List Byte) : Dev × List Byte :=
  if !d.on pDDRC DDRC.STAT_READY then (d.anDrop n, [])
  else
    let d := if (d.anDesc n).used = 1024 then d.anClose n else d
    let d := if start && (d.anDesc n).takes then d.modAn n fun x => { x with bulkSeq := x.bulkSeq.or (some seq) } else d
    d.anBulkGo n t 4 bs

/-- An ADC ring entry for the descriptors of KIND 3 (R450). -/
def Dev.anAdc (d : Dev) (c dest t : Nat) (bs : List Byte) : Dev :=
  (d.anWhere fun x => x.kind == 3 && x.port == c && bitAt x.stream dest).foldl (fun d n => d.anRecord n t bs) d

/-- A marker entry for every enabled marker descriptor: origin 1 Spindle, 2 FCOL, 3 software (R450, R453). -/
def Dev.anMark (d : Dev) (t origin ev : Nat) : Dev :=
  (d.anWhere fun x => x.kind == 4).foldl (fun d n =>
    d.anRecord n t (bytes12 t d.timeFlags ++ toBE 2 0 ++ toBE 1 origin ++ toBE 1 ev)) d

/-- One descriptor sees a trigger (R452). -/
def anTrigger1 (x : AnDesc) (t seq : Nat) : AnDesc :=
  if x.state = 1 then { x with state := 2, trgtime := t, trgseq := seq, trgblk := x.wrblk, trgIn := true, post := 0 }
  else if x.state = 2 then { x with merged := min (x.merged + 1) 65535 }
  else { x with missed := min (x.missed + 1) 65535 }

/-- A trigger reaches the descriptors whose TRGEN enables a source of it: bit 0 FCOL, bit 1 software (R452, R453). -/
def Dev.anTriggerAll (d : Dev) (srcs t seq origin ev : Nat) : Dev :=
  let d := (d.an.map Prod.fst).foldl (fun d n =>
    if bitsOf (d.anDesc n).ctl 26 2 &&& srcs ≠ 0 then d.modAn n fun x => anTrigger1 x t seq else d) d
  (d.anMark t origin ev).irq pANMG ANMG.I_TRIG

/-- A trigger of the fault collector whose tick's TRIG.GO has already acted: the two are one trigger, which has the time and SEQ
of the fault collector's (R452). Its marker entry is the one that TRIG.GO made (DESIGN CHOICE, entry 34). -/
def Dev.anTriggerLate (d : Dev) (soft t seq : Nat) : Dev :=
  (d.an.map Prod.fst).foldl (fun d n =>
    let ctl := (d.anDesc n).ctl
    if bitAt ctl 27 then d.modAn n fun x =>
      if x.trgseq = 0xFFFF ∧ x.trgtime = soft ∧ 2 ≤ x.state then { x with trgtime := t, trgseq := seq } else x
    else if bitAt ctl 26 then d.modAn n fun x => anTrigger1 x t seq else d) d

/-- TRIG.GO in the tick of a trigger of the fault collector that has already acted: it reaches the descriptors that take software's
alone, with the time and SEQ of the fault collector's (R452). -/
def Dev.anTriggerJoin (d : Dev) (t seq : Nat) : Dev :=
  (d.an.map Prod.fst).foldl (fun d n =>
    if bitsOf (d.anDesc n).ctl 26 2 = 2 then d.modAn n fun x => anTrigger1 x t seq else d) d

/-- ANMG_TRIGGER (R452): a write of TRIG.GO, or the fault collector's trigger. Those of one tick are one trigger. -/
def Dev.anmgTrigger (d : Dev) (soft : Bool) : Dev :=
  if d.isCell then d
  else if soft then
    if d.anTrig.any (fun x => x.tick == d.ticks) then
      { d with anTrig := d.anTrig.map fun x => if x.tick = d.ticks ∧ x.join = 0 then { x with join := 1 } else x }
    else if d.anSoft.map Prod.fst = some d.ticks then d
    else match d.anPast.filter fun x => x.tick == d.ticks with
    | some x => if x.join = 0 then { d with anSoft := some (d.ticks, x.time) }.anTriggerJoin x.time x.seq else d
    | none => { d with anSoft := some (d.ticks, d.stamp.1) }.anTriggerAll 2 d.stamp.1 0xFFFF 3 0
  else match d.anTrig with
    | x :: rest =>
      let d := { d with anTrig := rest, anPast := some x }
      if x.join = 2 then d.anTriggerLate ((d.anSoft.map Prod.snd).getD 0) x.time x.seq
      else d.anTriggerAll (if x.join = 1 then 3 else 1) x.time x.seq 2 x.seq
    | [] => d

/-- ANMG_MARK (R453): a software marker. -/
def Dev.anmgMark (d : Dev) (ev : Nat) : Dev := if d.isCell then d else d.anMark d.stamp.1 3 ev

/-- ANMG_BLOCK_CLOSE (R450): the open block is full, or FLUSH superframes have passed since it opened. -/
def Dev.anmgBlockClose (d : Dev) (n : Nat) : Dev :=
  let x := d.anDesc n
  if x.takes && x.used != 0 &&
    (x.used == 1024 || decide (x.opened + max 1 (d.get pANMG ANMG.CTRL_FLUSH) ≤ d.sf)) then d.anClose n else d

/-- ANMG_RECORD_DROP (R453). -/
def Dev.anmgDrop (d : Dev) (n : Nat) : Dev := if (d.anDesc n).takes then d.anDrop n else d

/-- R451: EN = 1 is refused for a descriptor. -/
def Dev.anRefused (d : Dev) (n : Nat) (x : AnDesc) : Bool :=
  decide (x.nblk < 2) || decide (x.nblk ≤ x.postblk + 1) || decide (d.dramSize < x.base + x.nblk * 1056) ||
  (x.kind == 2 && d.an.any fun y =>
    y.1 != n && y.2.en && y.2.kind == 2 && y.2.port == x.port && y.2.stream == x.stream)

/-- ANMG_DESCRIPTOR_ENABLE (R451): a write of word 0. -/
def Dev.anmgCtl (d : Dev) (n v : Nat) : Dev :=
  let v := v - bitsOf v 24 2 * 2 ^ 24
  let x := d.anDesc n
  if d.isCell then d
  else if x.en then
    if bitAt v 31 then d.err pANMG ANMG.E_CFG_REJ
    else d.modAn n fun x => { x with ctl := x.ctl - 2 ^ 31, state := 0 }
  else if bitAt v 31 then
    let y : AnDesc := { anZero with ctl := v, baseLo := x.baseLo, baseHi := x.baseHi, nblk := x.nblk,
                                    postblk := x.postblk, state := 1 }
    if d.anRefused n y then d.err pANMG ANMG.E_CFG_REJ else d.modAn n fun _ => y
  else d.modAn n fun x => { x with ctl := v }

/-- A write of a word of the descriptor window (R451). -/
def Dev.anWriteWord (d : Dev) (n w v : Nat) : Dev :=
  if d.isCell then d
  else if w = 0 then d.anmgCtl n v
  else if 5 ≤ w then d
  else if (d.anDesc n).en then d.err pANMG ANMG.E_CFG_REJ
  else d.modAn n fun x =>
    if w = 1 then { x with baseLo := v } else if w = 2 then { x with baseHi := v % 256 }
    else if w = 3 then { x with nblk := v % 2 ^ 24 } else { x with postblk := v % 2 ^ 24 }

/-- A read of a word of the descriptor window (R451). -/
def AnDesc.word (x : AnDesc) (w : Nat) : Nat :=
  match w with
  | 0 => x.ctl | 1 => x.baseLo | 2 => x.baseHi | 3 => x.nblk | 4 => x.postblk
  | 5 => x.state + 256 * b2n x.wrapped | 6 => x.wrblk | 7 => x.trgblk
  | 8 => nsOf x.trgtime | 9 => slOf x.trgtime | 10 => fsOf x.trgtime
  | 11 => x.trgseq | 12 => x.drop | 13 => x.merged * 65536 + x.missed | _ => 0

/-- A word of a descriptor is lost, and reads as `v` where a register stands (R438). -/
def Dev.anLose (d : Dev) (n w v : Nat) : Dev :=
  d.modAn n fun x =>
    match w with
    | 0 => { x with ctl := v } | 1 => { x with baseLo := v } | 2 => { x with baseHi := v % 256 }
    | 3 => { x with nblk := v } | 4 => { x with postblk := v }
    | 5 => { x with state := v % 5, wrapped := bitAt v 8 } | 6 => { x with wrblk := v } | 7 => { x with trgblk := v }
    | 8 | 9 | 10 => { x with trgtime := v }
    | 11 => { x with trgseq := v } | 12 => { x with drop := v }
    | 13 => { x with merged := v / 65536, missed := v % 65536 }
    | _ => x

/-- A loss of SYNB or a reset of the DDR4 controller: every enabled descriptor enters INVALID (R453). -/
def Dev.anInvalid (d : Dev) : Dev :=
  let any := d.an.any fun x => x.2.en
  let stop (x : Nat × AnDesc) : Nat × AnDesc := (x.1, if x.2.en then { x.2 with state := 4 } else x.2)
  let d := { d with an := d.an.map stop }
  d.errIf any pANMG ANMG.E_INVALID

/-- Writes of ANMG registers (R459). -/
def Dev.anmgWrite (d : Dev) (off v : Nat) : Dev :=
  if off = 0x800 then (if bitAt v 31 then d.anmgTrigger true else d)
  else if off = 0x804 then (if bitAt v 31 then d.anmgMark (bitsOf v 0 8) else d)
  else d.writeWord pANMG off v

end Sys2Proof.Machine
end

