-- ==== Sys2Proof/Machine/Gate.lean ====
section
/-! DEFINITION. Gate channels and leg protection (chapter 13), the cell state machine's local transitions (R70 to R73)
and the origination of Gust tokens (R173), on which escalation acts. -/

namespace Sys2Proof.Machine

/-! ### Clock, outputs, Gust origination -/

/-- Cores and fabric run on SYNA (R91). -/
def Dev.onSyna (d : Dev) : Bool := d.get pCKSW CKSW.CKSTAT_SRC == 0

/-- A transmitter runs: the port is enabled, its driver on, and the SerDes are clocked (R90, R168). -/
def Dev.txRuns (d : Dev) (p : Nat) : Bool :=
  d.onSyna && !d.absent (pLINK p) && d.on (pLINK p) LINK.PCFG_EN && d.on (pLINK p) LINK.PCFG_TXON

/-- Log something sent. -/
def Dev.send (d : Dev) (x : Sent) : Dev := { d with sent := d.sent ++ [x] }

/-- A port returns what it sends to its own receiver (R168). -/
def Dev.lpbk (d : Dev) (p : Nat) : Bool := d.on (pLINK p) LINK.PCFG_LPBK

/-- Code groups of a frame from SOF to EOF (R177). -/
def groups (f : Frame) : Nat := 22 + f.payload.length

/-- The code groups that a waiting frame and one idle take. -/
def Wait.len (w : Wait) : Nat :=
  match w.kind with
  | .own f _ => groups f + 1
  | .slot => 49
  | .pass f _ => groups f + 1
  | .stored f _ => groups f + 1

/-- Waiting frames take their places anew on an output that is free from tick `e`: none earlier than before. -/
def replan (e : Nat) : List Wait → List Wait
  | [] => []
  | w :: t => { w with sof := max w.sof e } :: replan (max w.sof e + w.len) t

/-- A token goes out of a port ahead of all other traffic, which it moves by its 6 code groups (R173, R186). -/
def Dev.token (d : Dev) (p code : Nat) : Dev :=
  let loop := d.lpbk p
  let later (t : Nat) : Nat := if d.ticks < t then t + 6 else t
  let d := { d with ports := modNth d.ports p fun x =>
    { x with txEnd := max x.txEnd d.ticks + 6, own := later x.own, bcast := x.bcast.map later,
             waits := replan (max x.txEnd d.ticks + 6) x.waits,
             loopG := if loop then x.loopG ++ [code] else x.loopG } }
  if loop then d else d.send (.gust p code)

/-- Originate a Gust token on every strand port with GORIG = 1 (R173). -/
def Dev.gust (d : Dev) (code : Nat) : Dev :=
  (List.range 8).foldl (fun d p => if d.txRuns p && d.on (pLINK p) LINK.PCFG_GORIG then d.token p code else d) d

/-! ### A channel's view -/

def Dev.gate (d : Dev) (n : Nat) : Gate := d.gates.getD n gate0
def Dev.modGate (d : Dev) (n : Nat) (f : Gate → Gate) : Dev := { d with gates := modNth d.gates n f }
def Dev.unit (d : Dev) (m : Nat) : PwmU :=
  d.pwm.getD m pwm0
def Dev.modUnit (d : Dev) (m : Nat) (f : PwmU → PwmU) : Dev := { d with pwm := modNth d.pwm m f }

/-- The other channel of a leg. -/
def partner (n : Nat) : Nat := if n % 2 = 0 then n + 1 else n - 1

/-- Output A (`b` = false) or B of a unit, as the channels see it: the mode that MOTR gives legs 3 to 5 lies between
(R406). -/
def Dev.outSeen (d : Dev) (m : Nat) (b : Bool) : Bool :=
  let raw := if b then (d.unit m).outB else (d.unit m).outA
  if m < 3 then raw
  else
    let l := d.motr.legs.getD (m - 3) leg0
    match l.mode with
    | .drive => raw && (if b then l.upB else l.upA).isNone
    | .lowOn => b && l.upB.isNone
    | .off => false

/-- The level of the output a channel is bound to (R289). -/
def Dev.boundOut (d : Dev) (n : Nat) : Bool :=
  let src := d.get pGCH (GCH.CHCFG_SRC n)
  if src < 12 then d.outSeen (src / 2) (src % 2 == 1) else false

/-- The chopper supervision forces a channel on (R304). -/
def Dev.forced (d : Dev) (n : Nat) : Bool :=
  (d.on pGCH GCH.CSSTAT_CH1F && d.get pGCH GCH.CSCFG_CH1GC == n) ||
  (d.on pGCH GCH.CSSTAT_CH2F && d.get pGCH GCH.CSCFG_CH2GC == n)

/-- The channel's four own fault latches (R303). -/
def Dev.chLatched (d : Dev) (n : Nat) : Bool :=
  d.on pGCH (GCH.CHSTAT_ILTMO n) || d.on pGCH (GCH.CHSTAT_ONFAIL n) || d.on pGCH (GCH.CHSTAT_OFFFAIL n) ||
  d.on pGCH (GCH.CHSTAT_FBFAULT n)

/-- LEG_SHORT or ESC of a leg (R303). -/
def Dev.legLatched (d : Dev) (m : Nat) : Bool := d.on pGCH (GCH.LEGSTAT_LEG_SHORT m) || d.on pGCH (GCH.LEGSTAT_ESC m)

/-- Any fault latch of GCH is present (R306). -/
def Dev.anyLatch (d : Dev) : Bool :=
  (List.range 12).any d.chLatched || (List.range 6).any d.legLatched

/-- The pins GCn_ON and GCn_STR: CHSTATn while the device runs, high impedance otherwise (R46). -/
def Dev.gcPins (d : Dev) (n : Nat) : PinLevel × PinLevel :=
  let lv (b : Bool) : PinLevel := if d.phase ≠ .running then .hiZ else if b then .high else .low
  (lv (d.on pGCH (GCH.CHSTAT_ONPIN n)), lv (d.on pGCH (GCH.CHSTAT_STRPIN n)))

/-- The gate hold-off is asserted (R279). -/
def Dev.holdOff (d : Dev) : Bool := d.on pPWMC PWMC.HOLDSTAT_ACTIVE

/-- SYSC holds the channel off: a channel bound to a PWM unit in a cell that is not in RUN (R70). -/
def Dev.sysHeld (d : Dev) (n : Nat) : Bool :=
  d.isCell && d.get pSYSC SYSC.CELLSTATE_STATE != 3 && decide (d.get pGCH (GCH.CHCFG_SRC n) < 12)

/-- A condition of R290 holds the effective request low whatever the bound output is. -/
def Dev.blocked (d : Dev) (n : Nat) : Bool :=
  !d.on pGCH GCH.GDSTAT_GDEN || d.holdOff || d.sysHeld n || d.chLatched n || d.legLatched (n / 2) ||
  d.on pGCH (GCH.LEGSTAT_CONFLICT (n / 2)) || d.forced (partner n)

/-- The effective request (R290). -/
def Dev.effReq (d : Dev) (n : Nat) : Bool := (d.boundOut n || d.forced n) && !d.blocked n

/-- The state of a channel (R307). -/
def Dev.gst (d : Dev) (n : Nat) : Nat := d.get pGCH (GCH.CHSTAT_STATE n)

/-- FB as seen: true means off. -/
def Dev.fbOff (d : Dev) (n : Nat) : Bool := d.on pGCH (GCH.CHSTAT_FB n)

/-- Conducting: from T1 of a turn-on to the end of T2 of a turn-off (R298). -/
def Dev.conducting (d : Dev) (n : Nat) : Bool := decide (3 ≤ d.gst n) && decide (d.gst n ≤ 7)

/-- A channel in a state with its pins (R286, R291). -/
def Dev.gateTo (d : Dev) (n st : Nat) (on str : Bool) : Dev :=
  ((d.set pGCH (GCH.CHSTAT_STATE n) st).set pGCH (GCH.CHSTAT_ONPIN n) (b2n on)).set pGCH (GCH.CHSTAT_STRPIN n) (b2n str)

/-- LATCHED: ON low, STR high only while FB reports off (R294). -/
def Dev.gateLatched (d : Dev) (n : Nat) : Dev := d.gateTo n 9 false (d.fbOff n)

/-- A phase has a length: its fine bits act as zero while the output's line is in tick placement, without a source, and
off SYNA (R292, R293). A phase of length zero is skipped (R291). -/
def Dev.phaseOn (d : Dev) (n : Nat) (F : Fld) : Bool :=
  let v := d.get pGCH F
  let src := d.get pGCH (GCH.CHCFG_SRC n)
  if src < 12 && d.onSyna && !d.bit pPWMC PWMC.DLSTAT_FB src then decide (0 < v) else decide (64 ≤ v)

/-- T1 of a turn-on, or the first of its phases that is not of length zero (R291). -/
def Dev.gateOn (d : Dev) (n : Nat) : Dev :=
  let d := d.modGate n fun g => { g with rise := false, onSeen := !d.fbOff n, offChk := false, code := 0 }
  if d.phaseOn n (GCH.PON_T1 n) then d.gateTo n 3 true true
  else if d.phaseOn n (GCH.PON_T2 n) then d.gateTo n 4 true false else d.gateTo n 5 true true

/-- The interlock lets a channel turn on: its partner is in IDLE, OFF or LATCHED and seen off (R295, R296). -/
def Dev.interlockOk (d : Dev) (n : Nat) : Bool :=
  !d.on pGCH (GCH.LEGCFG_ILEN (n / 2)) ||
  ((d.gst (partner n) == 0 || d.gst (partner n) == 1 || d.gst (partner n) == 9) && d.fbOff (partner n))

/-- A channel that waits on the interlock starts when it is released (R295). -/
def Dev.gateTryWait (d : Dev) (n : Nat) : Dev :=
  if d.gst n = 2 ∧ d.effReq n ∧ d.interlockOk n then d.gateOn n else d

/-- A rising effective request of a channel in OFF: it starts or waits (R291, R295). -/
def Dev.gateStart (d : Dev) (n : Nat) : Dev :=
  let g0 := d.gate n
  let d := if d.interlockOk n then d.gateOn n else (d.modGate n fun g => { g with rise := false }).gateTo n 2 false true
  d.modGate n fun g => { g with began := some (g0.riseAt, g0.offChk) }

/-- The end of T2 of a turn-off (R291, R294): LATCHED with a latch of its own, IDLE while GDEN is seen low or without a
source, OFF otherwise. A rise during the turn-off counts then as a rising edge, after a partner that waits (R295). -/
def Dev.gateOffEnd (d : Dev) (n : Nat) : Dev :=
  let d := d.modGate n fun g => { g with offChk := !d.fbOff n }
  let d :=
    if d.chLatched n then d.gateLatched n
    else if !d.on pGCH GCH.GDSTAT_GDEN || 12 ≤ d.get pGCH (GCH.CHCFG_SRC n) then d.gateTo n 0 false false
    else
      let d := (d.gateTo n 1 false true).gateTryWait (partner n)
      if (d.gate n).rise && d.effReq n then (d.modGate n fun g => { g with riseAt := d.ticks }).gateStart n else d
  d.gateTryWait (partner n)

/-- The off profile (R291). -/
def Dev.gateOff (d : Dev) (n : Nat) : Dev :=
  if d.phaseOn n (GCH.POFF_T1 n) then d.gateTo n 6 false true
  else if d.phaseOn n (GCH.POFF_T2 n) then d.gateTo n 7 false false else d.gateOffEnd n

/-- The effective request of a channel is low: a turn-on or a wait ends (R291, R295). -/
def Dev.gateFall (d : Dev) (n : Nat) : Dev :=
  if d.effReq n then d
  else
    let d := d.modGate n fun g => { g with rise := false }
    if 3 ≤ d.gst n ∧ d.gst n ≤ 5 then d.gateOff n
    else if d.gst n = 2 then
      (if d.on pGCH GCH.GDSTAT_GDEN then d.gateTo n 1 false true else d.gateTo n 0 false false).gateTryWait (partner n)
    else if d.gst n = 1 ∧ !d.on pGCH GCH.GDSTAT_GDEN then d.gateTo n 0 false false
    else d

/-- Every channel follows a change of the conditions of R290, the routes of R319 aside. -/
def Dev.gateFalls (d : Dev) : Dev := (List.range 12).foldl Dev.gateFall d

/-- The channels bound to an output of a unit see its edge: a rise that no condition blocks is a rising edge (R290). One that waits
to be acted on stays while the output is high or the channel is forced on. -/
def Dev.gateSeeOut (d : Dev) (m : Nat) : Dev :=
  (List.range 12).foldl (fun d n =>
    if d.get pGCH (GCH.CHCFG_SRC n) / 2 = m ∧ d.get pGCH (GCH.CHCFG_SRC n) < 12 then
      let lvl := d.boundOut n
      let new := lvl && !(d.gate n).req && !d.blocked n
      d.modGate n fun g => { g with req := lvl, rise := new || (g.rise && (lvl || d.forced n))
                                    riseAt := if new then d.ticks else g.riseAt }
    else d) d

/-- The end of a leg's conflict, at the next load of the unit bound to channel 2m (R295). -/
def Dev.gateConflictEnd (d : Dev) (unit : Nat) : Dev :=
  (List.range 6).foldl (fun d m =>
    if d.get pGCH (GCH.CHCFG_SRC (2 * m)) / 2 = unit ∧ d.get pGCH (GCH.CHCFG_SRC (2 * m)) < 12
    then d.set pGCH (GCH.LEGSTAT_CONFLICT m) 0 else d) d

/-! ### The cell state machine's local causes -/

/-- Enter a cell state: PREV, CAUSE and CBYP follow, and the channels are held off outside RUN (R70). -/
def Dev.cellTo (d : Dev) (st cause prev : Nat) : Dev :=
  let d := ((d.set pSYSC SYSC.CELLSTATE_STATE st).set pSYSC SYSC.CELLSTATE_PREV prev).set pSYSC SYSC.CELLSTATE_CAUSE cause
  let d := { d with pins := { d.pins with cbyp := if st = 1 ∨ st = 2 ∨ st = 3 then .low else .high } }
  d.gateFalls

/-- The rank of a bypass cause when several act in one tick (R73). -/
def causeRank (c : Nat) : Nat :=
  if c = 3 then 0 else if c = 4 then 1 else if c = 2 then 2 else if c = 6 then 3 else 4

/-- The cell state before a requested transition of the present tick, or the present state (R73). -/
def Dev.stateBefore (d : Dev) : Nat :=
  match d.cellReq with
  | some (t, st) => if t = d.ticks then st else d.get pSYSC SYSC.CELLSTATE_STATE
  | none => d.get pSYSC SYSC.CELLSTATE_STATE

/-- BYPASS or FAULT comes before a requested transition of the same tick: one that has been refused was none, and leaves neither
its count nor its flag (R72, R73). -/
def Dev.requestVoid (d : Dev) : Dev :=
  match d.cellBad with
  | some (t, cnt, fl) =>
    if t = d.ticks then
      let d := d.meet fun m => { m with counts := m.counts.erase (SYSC.CELLSTATE_INVALID_CNT.key pSYSC, 1) }
      { d.set pSYSC SYSC.CELLSTATE_INVALID_CNT (d.get pSYSC SYSC.CELLSTATE_INVALID_CNT - b2n cnt) with
        cellBad := none
        vn := { d.vn with flags := d.vn.flags.zipWith (fun x own => if own && bitAt x 5 then x - 2 ^ 5 else x) fl } }
    else d
  | none => d

/-- A local request of BYPASS (R71, R73): it acts in PRECHARGE, STANDBY and RUN, before a requested transition of the
same tick; of several causes of one tick the first in the order of R73 is recorded. -/
def Dev.bypassReq (d : Dev) (cause : Nat) : Dev :=
  if !d.isCell then d
  else
    let st := d.stateBefore
    let now := d.get pSYSC SYSC.CELLSTATE_STATE
    if 1 ≤ st ∧ st ≤ 3 ∧ now < 4 then { d.requestVoid.cellTo 4 cause st with cellTick := some (d.ticks, st) }
    else if now = 4 ∧ d.cellTick.map Prod.fst = some d.ticks ∧
        causeRank cause < causeRank (d.get pSYSC SYSC.CELLSTATE_CAUSE) then
      d.set pSYSC SYSC.CELLSTATE_CAUSE cause
    else d

/-- A fatal error puts a cell in FAULT (R71), before a BYPASS or a requested transition of the same tick (R73). -/
def Dev.faultReq (d : Dev) : Dev :=
  if !d.isCell || d.get pSYSC SYSC.CELLSTATE_STATE == 5 then d
  else
    let prev := match d.cellTick with
      | some (t, p) => if t = d.ticks then p else d.stateBefore
      | none => d.stateBefore
    { d.requestVoid.cellTo 5 5 prev with cellTick := some (d.ticks, prev) }

/-! ### The events of a channel -/

/-- A rising effective request of a channel in OFF that has not been acted on. -/
def Dev.risen (d : Dev) (n : Nat) : Bool := d.gst n == 1 && (d.gate n).rise && d.effReq n

/-- A channel has left OFF, to turn on or to wait, by a rising edge in tick `t`, and has not turned off since. -/
def Dev.leftOff (d : Dev) (n t : Nat) : Bool :=
  decide (2 ≤ d.gst n) && decide (d.gst n ≤ 5) && (d.gate n).began.any fun b => b.1 == t

/-- Neither channel of a conflict starts: a rise is dropped, and one that has been acted on is taken back (R295). -/
def Dev.gateUnstart (d : Dev) (n : Nat) : Dev :=
  let d := d.modGate n fun g => { g with rise := false }
  if 2 ≤ d.gst n ∧ d.gst n ≤ 5 then
    (d.gateTo n 1 false true).modGate n fun g => { g with offChk := (g.began.map Prod.snd).getD g.offChk, began := none }
  else d

/-- GATE_REQUEST_RISE (R291, R295): the channel's effective request has risen. With the interlock, rises of both channels in one
tick are a conflict, and of rises in two ticks the earlier comes first. -/
def Dev.gateRequestRise (d : Dev) (n : Nat) : Dev :=
  let g := d.gate n
  if !g.rise || !d.effReq n then d.modGate n fun g => { g with rise := false }
  else if d.gst n = 1 then
    let p := partner n
    let il := d.on pGCH (GCH.LEGCFG_ILEN (n / 2))
    if il && ((d.risen p && (d.gate p).riseAt == g.riseAt) || d.leftOff p g.riseAt) then
      let d := (d.gateUnstart n).gateUnstart p
      ((d.set pGCH (GCH.LEGSTAT_CONFLICT (n / 2)) 1).inc pGCH (GCH.LEGSTAT_CONFCNT (n / 2))).err pGCH GCH.E_LEG_CONFLICT
    else
      let d := if il && d.risen p && decide ((d.gate p).riseAt < g.riseAt) then d.gateStart p else d
      d.gateStart n
  else if d.gst n = 6 ∨ d.gst n = 7 then d
  else d.modGate n fun g => { g with rise := false }

/-- GATE_PHASE_END (R291): a phase of a turn-on or a turn-off ends. -/
def Dev.gatePhaseEnd (d : Dev) (n : Nat) : Dev :=
  if d.gst n = 3 then (if d.phaseOn n (GCH.PON_T2 n) then d.gateTo n 4 true false else d.gateTo n 5 true true)
  else if d.gst n = 4 then d.gateTo n 5 true true
  else if d.gst n = 6 then (if d.phaseOn n (GCH.POFF_T2 n) then d.gateTo n 7 false false else d.gateOffEnd n)
  else if d.gst n = 7 then d.gateOffEnd n
  else d

/-- A check of R294 or R295 fails: its latch and the error of the same name; ON_FAIL and FB_FAULT run the off profile
on the way to LATCHED, OFF_FAIL and INTERLOCK_TIMEOUT enter it. -/
def Dev.gateFail (d : Dev) (n : Nat) (latch : Fld) (bit : Nat) (profile : Bool) : Dev :=
  let d := (d.set pGCH latch 1).err pGCH bit
  if profile then d.gateOff n else (d.gateLatched n).gateTryWait (partner n)

/-- GATE_FB_TIMEOUT (R294): the check of FB that the channel's state has running fails. -/
def Dev.gateFbTimeout (d : Dev) (n : Nat) : Dev :=
  let g := d.gate n
  if 3 ≤ d.gst n ∧ d.gst n ≤ 5 ∧ d.fbOff n ∧ !g.onSeen then d.gateFail n (GCH.CHSTAT_ONFAIL n) GCH.E_ON_FAIL true
  else if d.gst n = 5 ∧ d.fbOff n then d.gateFail n (GCH.CHSTAT_FBFAULT n) GCH.E_FB_FAULT true
  else if g.offChk ∧ !d.fbOff n ∧ (d.gst n = 0 ∨ d.gst n = 1 ∨ d.gst n = 2 ∨ d.gst n = 9) then
    (d.modGate n fun g => { g with offChk := false }).gateFail n (GCH.CHSTAT_OFFFAIL n) GCH.E_OFF_FAIL false
  else d

/-- INTERLOCK_TIMEOUT (R295). -/
def Dev.gateInterlockTimeout (d : Dev) (n : Nat) : Dev :=
  if d.gst n = 2 then d.gateFail n (GCH.CHSTAT_ILTMO n) GCH.E_INTERLOCK_TIMEOUT false else d

/-! ### Trips and escalation -/

def legTrip3 (m : Nat) : Trip := ⟨GCH.LEGTSNS m, GCH.LEGTSSL m, GCH.LEGTSSH_FRAC m, GCH.LEGTSSH_SECH m⟩

/-- A conducting channel is turned off without any clock and enters SOFT, or LATCHED when TSOFT is zero (R293, R298). -/
def Dev.gateSoft (d : Dev) (n : Nat) : Dev :=
  if d.conducting n then
    let ts := d.get pGCH (GCH.LEGTIM_TSOFT (n / 2))
    if ts = 0 ∨ (ts < 64 ∧ !d.onSyna) then
      ((d.gateTo n 8 false false).modGate n fun g => { g with offChk := !d.fbOff n, rise := false }).gateLatched n
    else (d.gateTo n 8 false false).modGate n fun g => { g with rise := false }
  else d

/-- SOFT_END (R298): TSOFT ends and the channel enters LATCHED. -/
def Dev.gateSoftEnd (d : Dev) (n : Nat) : Dev :=
  if d.gst n = 8 then
    ((d.modGate n fun g => { g with offChk := !d.fbOff n }).gateLatched n).gateTryWait (partner n)
  else d

/-- The legs of a bridge (R301). -/
def Dev.bridgeLegs (d : Dev) (brg : Nat) : List Nat :=
  (List.range 6).filter fun m => d.get pGCH (GCH.LEGCFG_BRG m) == brg

/-- Escalation (R301): leg m has latched; it is more than the first trip of its bridge, at most 2,000 ns after it. -/
def Dev.escalate (d : Dev) (m : Nat) : Dev :=
  let brg := d.get pGCH (GCH.LEGCFG_BRG m)
  let legs := (d.bridgeLegs brg).filter fun l => d.on pGCH (GCH.LEGSTAT_LEG_SHORT l)
  let t := d.getTrip pGCH (legTrip3 m)
  let times := (legs.filter (· != m)).map fun l => d.getTrip pGCH (legTrip3 l)
  let first := times.foldl min (times.headD t)
  if brg = 3 ∨ times = [] ∨ 2000 * 65536 < Int.natAbs ((t : Int) - first) ∨ d.on pGCH (GCH.LEGSTAT_ESC m) then d
  else
    let d := (d.bridgeLegs brg).foldl (fun d l =>
      ((d.set pGCH (GCH.LEGSTAT_ESC l) 1).gateSoft (2 * l)).gateSoft (2 * l + 1)) d
    let d := d.err pGCH GCH.E_ESCALATE
    let d := d.gateFalls
    if d.isCell then (d.bypassReq 3).gust 1 else d

/-- A leg latches LEG_SHORT from a source (bit 0 Squall, bit 1 FB), with the time of its first trip on the 4 ns tick
(R129, R298), and the bridge may escalate. -/
def Dev.legLatch (d : Dev) (m src : Nat) : Dev :=
  if d.on pGCH (GCH.LEGSTAT_LEG_SHORT m) then d.set pGCH (GCH.LEGSTAT_SRC m) (d.get pGCH (GCH.LEGSTAT_SRC m) ||| src)
  else
    let d := (d.set pGCH (GCH.LEGSTAT_LEG_SHORT m) 1).set pGCH (GCH.LEGSTAT_SRC m) src
    let d := d.putTrip pGCH (legTrip3 m) (d.stamp.1 / tick16 * tick16)
    let d := (d.err pGCH GCH.E_LEG_SHORT).irq pGCH GCH.I_TRIP
    let d := (d.gateFall (2 * m)).gateFall (2 * m + 1)
    d.escalate m

/-- The trip of a whole leg (R298, R300). -/
def Dev.legTripAll (d : Dev) (m src : Nat) : Dev := ((d.gateSoft (2 * m)).gateSoft (2 * m + 1)).legLatch m src

/-- A trip routed to one channel (R319): it acts on a conducting channel only. -/
def Dev.routeTrip (d : Dev) (n : Nat) : Dev := if d.conducting n then (d.gateSoft n).legLatch (n / 2) 1 else d

/-- The output of a Squall channel is asserted. -/
def Dev.sqOut (d : Dev) (q : Nat) : Bool := d.bit pSQL SQL.OUT_LVL q

/-- CALS measures the offset of Squall channel q (R475): its output drives no route. -/
def Dev.sqMeasured (d : Dev) (q : Nat) : Bool :=
  d.get pCALS CALS.STAT_OP == 6 && d.calBusy.any fun x => x.1 == 0x30 + q

/-- Squall channel q is bound as detector of leg m (R297). -/
def Dev.lscBound (d : Dev) (q m : Nat) : Bool :=
  d.on pGCH (GCH.LEGCFG_LSCEN m) && d.get pGCH (GCH.LEGCFG_LSCSQ m) == q

/-- Squall channel q is in LEGSC function (R318). -/
def Dev.legsc (d : Dev) (q : Nat) : Bool := (List.range 6).any (d.lscBound q)

/-- Every route of channel q to gate channels trips (R319). -/
def Dev.sqRoutes (d : Dev) (q : Nat) : Dev :=
  if d.sqMeasured q then d
  else (List.range 12).foldl (fun d n => if d.bit pSQL (SQL.SQTRIP_TRIPSEL q) n then d.routeTrip n else d) d

/-- A channel is routed to gate channel n and its output is asserted (R319). -/
def Dev.routed (d : Dev) (n : Nat) : Bool := 
  (List.range 16).any fun q => d.bit pSQL (SQL.SQTRIP_TRIPSEL q) n && d.sqOut q && !d.sqMeasured q

/-- A route trips as long as the output is asserted: a selected channel that has started to conduct is turned off
(R319). -/
def Dev.routeSync (d : Dev) : Dev :=
  (List.range 12).foldl (fun d n => if d.routed n then d.routeTrip n else d) d

/-- Every channel follows a change of the conditions of R290: those whose requests fall turn off, and a partner that one of them
lets turn on is subject to its routes (R319). -/
def Dev.gateFallAll (d : Dev) : Dev := d.gateFalls.routeSync

/-- LEG_TRIP (R298, R319): the output of Squall channel q is asserted; the legs it is bound to and the channels it is
routed to trip. -/
def Dev.legTrip (d : Dev) (q : Nat) : Dev :=
  if !d.sqOut q then d
  else
    let d := (List.range 6).foldl (fun d m => if d.lscBound q m && !d.sqMeasured q then d.legTripAll m 1 else d) d
    d.sqRoutes q

/-- GATE_FB_CHANGE (R288, R294, R295, R300): the filtered FB of channel n is seen at a level (`off`), `ns` after its
last change. A repeated `off` says how long the level has lasted: the third element of a short code is complete when
it exceeds 100 ns, and at the latest when it ends. -/
def Dev.gateFbChange (d : Dev) (n : Nat) (off : Bool) (ns : Nat) : Dev :=
  let was := d.fbOff n
  let elem := decide (100 ≤ ns) && decide (ns ≤ 300)
  let c := (d.gate n).code
  let inT3 := d.gst n == 5 && d.on pGCH (GCH.LEGCFG_FBCEN (n / 2))
  let c' :=
    if !inT3 then 0
    else if off && !was then (if c = 2 && elem then 3 else 1)
    else if !off && was then (if c = 1 && elem then 2 else 0)
    else c
  let d := (d.set pGCH (GCH.CHSTAT_FB n) (b2n off)).modGate n fun g =>
    { g with code := c', onSeen := g.onSeen || !off, offChk := g.offChk && !off }
  if inT3 && was && c == 3 && decide (100 < ns) then
    (d.modGate n fun g => { g with code := 0 }).legTripAll (n / 2) 2
  else
    let d := if d.gst n = 9 then d.gateLatched n else d
    if off then d.gateTryWait (partner n) else d

/-! ### GDEN -/

/-- GDEN_LOW (R302): the pin has been low for `ns`. Below 40 ns it is ignored, from 100 ns it is seen, between the two
either. A low of 10 µs arms the clear of R303. -/
def Dev.gdenLow (d : Dev) (ns : Nat) : Dev :=
  let (seen, d) := if ns < 40 then (false, d) else if 100 ≤ ns then (true, d) else d.coin
  if !seen then d
  else
    let d := { d with gdenPin := false }
    let d := if d.on pGCH GCH.GDSTAT_GDEN
      then ((d.set pGCH GCH.GDSTAT_GDEN 0).err pGCH GCH.E_GDEN_LOW).irq pGCH GCH.I_GDEN_CHG else d
    let d := if 10000 ≤ ns then d.set pGCH GCH.GDSTAT_CLRARM 1 else d
    d.gateFallAll

/-- Clear every fault latch and leave every channel in IDLE (R303). -/
def Dev.gateClear (d : Dev) : Dev :=
  let d := (List.range 12).foldl (fun d n =>
    ((((d.set pGCH (GCH.CHSTAT_ILTMO n) 0).set pGCH (GCH.CHSTAT_ONFAIL n) 0).set pGCH (GCH.CHSTAT_OFFFAIL n) 0).set
      pGCH (GCH.CHSTAT_FBFAULT n) 0).gateTo n 0 false false) d
  let d := (List.range 6).foldl (fun d m =>
    ((d.set pGCH (GCH.LEGSTAT_LEG_SHORT m) 0).set pGCH (GCH.LEGSTAT_SRC m) 0).set pGCH (GCH.LEGSTAT_ESC m) 0) d
  (d.incWrap pGCH GCH.GDSTAT_CLEARS).irq pGCH GCH.I_CLEARED

/-- GDEN_RISE (R302, R303): the pin rises after a low of `ns`. From 10 µs the latches are cleared, below 9 µs they are
not, between the two either. -/
def Dev.gdenRise (d : Dev) (ns : Nat) : Dev :=
  if d.on pGCH GCH.GDSTAT_GDEN then { d with gdenPin := true }
  else
    let (clr, d) := if ns < 9000 then (false, d) else if 10000 ≤ ns then (true, d) else d.coin
    let d := { d with gdenPin := true }
    let d := ((d.set pGCH GCH.GDSTAT_GDEN 1).set pGCH GCH.GDSTAT_CLRARM 0).irq pGCH GCH.I_GDEN_CHG
    if clr then d.gateClear else d

/-- GATE_ENABLE_SETTLE (R291): GDEN has been seen high for 1 µs; idle channels with a source and no latch enter OFF. After
an invalid strap combination (R45) and in a block reset of GCH (R62) the pins stay low. -/
def Dev.gateSettle (d : Dev) : Dev :=
  if !d.on pGCH GCH.GDSTAT_GDEN || d.on pSYSC SYSC.STRAP_INV || d.inBlk.contains pGCH then d
  else (List.range 12).foldl (fun d n =>
    if d.gst n = 0 ∧ d.get pGCH (GCH.CHCFG_SRC n) < 12 ∧ !d.chLatched n ∧ !d.legLatched (n / 2)
    then d.gateTo n 1 false true else d) d

/-! ### Register writes of GCH -/

/-- A unit is disabled, or there is no unit. -/
def Dev.unitOff (d : Dev) (src : Nat) : Bool := decide (12 ≤ src) || !d.on (pPWMU (src / 2)) PWMU.CTRL_EN

/-- CHCFG_WRITE (R289). -/
def Dev.chcfgWrite (d : Dev) (n v : Nat) : Dev :=
  let new := (GCH.CHCFG_SRC n).pick v
  let old := d.get pGCH (GCH.CHCFG_SRC n)
  if (11 < new && new != 15) || !d.unitOff old || !d.unitOff new || !(d.gst n == 0 || d.gst n == 1 || d.gst n == 9)
  then d.err pGCH GCH.E_CFG_REJ
  else
    let d := (d.set pGCH (GCH.CHCFG_SRC n) new).modGate n fun g => { g with req := false, rise := false }
    if 12 ≤ new ∧ d.gst n = 1 then d.gateTo n 0 false false else d

/-- CURT_N: low until CURTREL = 1, while a failure curtails (R304, R305), through a block reset of GCH (R62), and after an
invalid strap combination (R45). -/
def Dev.curtSync (d : Dev) : Dev :=
  let low := !d.on pGCH GCH.CSCFG_CURTREL || d.on pGCH GCH.CSSTAT_FAIL1 || d.inBlk.contains pGCH ||
    d.on pSYSC SYSC.STRAP_INV
  let d := d.set pGCH GCH.CSSTAT_CURT (b2n low)
  if d.isHub then { d with pins := { d.pins with curtN := if low then .low else .high } } else d

/-- A change in CSSTAT raises CSUP (R306). -/
def Dev.csNote (d d0 : Dev) : Dev := d.irqIf (d0.wordAt pGCH 0x864 != d.wordAt pGCH 0x864) pGCH GCH.I_CSUP

/-- Other writes of GCH registers, with the refusals of R292, R297, R300, R305 and R307. A channel that waits on the interlock starts
when ILEN = 0 is written (R296). -/
def Dev.gchWrite (d : Dev) (off v : Nat) : Dev :=
  let rej := d.err pGCH GCH.E_CFG_REJ
  if 0x040 ≤ off ∧ off < 0x070 then d.chcfgWrite ((off - 0x040) / 4) v
  else if 0x080 ≤ off ∧ off < 0x098 then
    let m := (off - 0x080) / 4
    let q := (GCH.LEGCFG_LSCSQ m).pick v
    let lsc := (GCH.LEGCFG_LSCEN m).pick v != 0
    let twice := (List.range 6).any fun l => l != m && d.lscBound q l
    let hk := d.on (pPWMU 6) PWMU.CTRL_EN &&
      ((q == 14 && d.on (pPWMU 6) PWMU.EVCFG_STARTEN) || (q == 15 && d.on (pPWMU 6) PWMU.EVCFG_ENDEN))
    if (lsc && (twice || hk)) || ((GCH.LEGCFG_FBCEN m).pick v != 0 && decide (d.get pGCH (GCH.LEGTIM_FBTO m) < 100))
    then rej else (((d.writeWord pGCH off v).gateTryWait (2 * m)).gateTryWait (2 * m + 1)).routeSync
  else if 0x0A0 ≤ off ∧ off < 0x0B8 then
    let m := (off - 0x0A0) / 4
    if 65472 < (GCH.LEGTIM_TSOFT m).pick v then rej else d.writeWord pGCH off v
  else if 0x100 ≤ off ∧ off < 0x160 then
    if 16320 < bitsOf v 0 14 ∨ 65472 < bitsOf v 16 16 then rej else d.writeWord pGCH off v
  else if off = 0x0C0 then
    if d.isCell then d
    else
      let w := d.wordAt pGCH 0x0C0
      let same := bitsOf w 31 1 == bitsOf v 31 1 && bitsOf w 4 26 == bitsOf v 4 26
      if d.on pGCH GCH.CSCFG_EN && !same then
        (((d.set pGCH GCH.CSCFG_CURTREL (GCH.CSCFG_CURTREL.pick v)).err pGCH GCH.E_CFG_REJ).curtSync).csNote d
      else if GCH.CSCFG_CH1GC.pick v == GCH.CSCFG_CH2GC.pick v || decide (11 < GCH.CSCFG_CH1GC.pick v) ||
          decide (11 < GCH.CSCFG_CH2GC.pick v) then rej
      else ((d.writeWord pGCH off v).curtSync).csNote d
  else if off = 0x0C4 then (if d.isCell then d else d.writeWord pGCH off v)
  else d.writeWord pGCH off v

/-- GCH_CNTCLR (R306). -/
def Dev.gchCntclr (d : Dev) : Dev := iter 6 (fun m d => d.clearCnt pGCH (GCH.LEGSTAT_CONFCNT m)) d

/-! ### Brake chopper supervision (R304, R305) -/

/-- The bus result that CSVBUS names. -/
def Dev.busResult (d : Dev) : Nat :=
  d.get (pADC (d.get pGCH GCH.CSVBUS_ADC)) (ADC.RES_VALUE (d.get pGCH GCH.CSVBUS_CH))

/-- A chopper channel is forced on: its forced on-time counts as a rising edge (R290). -/
def Dev.force (d : Dev) (f : Fld) (ch : Nat) : Dev :=
  let d := (d.set pGCH f 1).gateFall (partner ch)
  d.modGate ch fun g => { g with rise := !d.blocked ch, riseAt := if d.blocked ch then g.riseAt else d.ticks }

/-- Chopper 2 is forced on (R304 items 3 and 4); its current check runs from the first time. -/
def Dev.force2 (d : Dev) : Dev :=
  let c := { d.chop with seen2 := (d.chop.due2 != 0 && d.chop.seen2) || d.sqOut (d.get pGCH GCH.CSCFG_C2SQ)
                         due2 := max 1 d.chop.due2 }
  ({ d with chop := c }).force GCH.CSSTAT_CH2F (d.get pGCH GCH.CSCFG_CH2GC)

/-- CHOPPER_FAIL (R304 item 3). -/
def Dev.chopperFail (d : Dev) : Dev :=
  let d := ((d.set pGCH GCH.CSSTAT_FAIL1 1).set pGCH GCH.CSSTAT_NOEXPREQ 1).err pGCH GCH.E_CHOPPER_FAIL
  let d := d.curtSync
  if d.on pGCH GCH.CSSTAT_OV1 && !d.on pGCH GCH.CSSTAT_CH2F then d.force2 else d

/-- The supervisor runs (R304); in a block reset of GCH it does not (R62). -/
def Dev.csRuns (d : Dev) : Bool := d.isHub && d.on pGCH GCH.CSCFG_EN && !d.inBlk.contains pGCH

/-- CHOPPER_OV1 (R304 items 1 and 2): this tick is t_0. -/
def Dev.chopperOv1 (d : Dev) : Dev :=
  if !d.csRuns || !d.sqOut (d.get pGCH GCH.CSCFG_OV1SQ) || d.on pGCH GCH.CSSTAT_OV1 then d
  else
    let ch := d.get pGCH GCH.CSCFG_CH1GC
    let d1 := { d.set pGCH GCH.CSSTAT_OV1 1 with
      chop := ⟨d.busResult, d.sqOut (d.get pGCH GCH.CSCFG_C1SQ), d.chop.seen2, true, true, d.chop.due2⟩ }
    let d1 := d1.force GCH.CSSTAT_CH1F ch
    let d1 := if d1.on pGCH GCH.CSSTAT_FAIL1 then d1.force2 else d1
    let d1 := if d1.legLatched (ch / 2) || d1.chLatched ch || d1.chLatched (partner ch) then d1.chopperFail else d1
    d1.csNote d

/-- CHOPPER_CHECK (R304 items 2 and 4): chopper 1's current check 20 µs after t_0 (0), the bus rise check 200 µs after
t_0 with OV1 still asserted (1), chopper 2's current check 20 µs after it was first forced (2). -/
def Dev.chopperCheck (d : Dev) (k : Nat) : Dev :=
  let c := d.chop
  if !d.csRuns then d
  else if k = 0 then
    if !c.due1 then d
    else
      let d1 := { d with chop := { c with due1 := false } }
      if c.seen1 then d1 else d1.chopperFail.csNote d
  else if k = 1 then
    if !c.dueV then d
    else
      let d1 := { d with chop := { c with dueV := false } }
      if d.on pGCH GCH.CSSTAT_OV1 && decide (c.v0 + d.get pGCH GCH.CSVBUS_RISE < d.busResult) then
        d1.chopperFail.csNote d
      else d1
  else if c.due2 ≠ 1 then d
  else
    let d1 := { d with chop := { c with due2 := 2 } }
    if c.seen2 then d1 else ((d1.set pGCH GCH.CSSTAT_FAIL2 1).err pGCH GCH.E_CHOPPER_FAIL).csNote d

/-- The supervision follows a change of a Squall output: OV1 or OV3 ends, a current detector asserts (R304). -/
def Dev.chopSync (d : Dev) : Dev :=
  if !d.csRuns then d
  else
    let d0 := d
    let d := { d with chop := { d.chop with seen1 := d.chop.seen1 || d.sqOut (d.get pGCH GCH.CSCFG_C1SQ)
                                            seen2 := d.chop.seen2 || d.sqOut (d.get pGCH GCH.CSCFG_C2SQ) } }
    let d := if d.on pGCH GCH.CSSTAT_OV1 && !d.sqOut (d.get pGCH GCH.CSCFG_OV1SQ)
      then (((d.set pGCH GCH.CSSTAT_OV1 0).set pGCH GCH.CSSTAT_CH1F 0).set pGCH GCH.CSSTAT_CH2F 0).gateFallAll else d
    let d := if d.on pGCH GCH.CSSTAT_OV3 && !d.sqOut (d.get pGCH GCH.CSCFG_OV3SQ)
      then d.set pGCH GCH.CSSTAT_OV3 0 else d
    d.csNote d0

/-- CHOPPER_OV3 (R304 item 5): DAB blocking is requested, with a token and a trip request where they are enabled. -/
def Dev.chopperOv3 (d : Dev) : Dev :=
  if !d.csRuns || !d.sqOut (d.get pGCH GCH.CSCFG_OV3SQ) || d.on pGCH GCH.CSSTAT_OV3 then d
  else
    let d1 := ((d.set pGCH GCH.CSSTAT_OV3 1).set pGCH GCH.CSSTAT_DABBLKREQ 1).err pGCH GCH.E_OV3
    let d1 := if d.on pGCH GCH.CSCFG_OV3GUST then d1.gust 4 else d1
    let d1 := if d.on pGCH GCH.CSCFG_OV3TSTK then { d1 with tstk := { d1.tstk with req := d1.tstk.req ++ [5] } } else d1
    d1.csNote d

/-- CHOPPER_RELEASE (R305). -/
def Dev.chopperRelease (d : Dev) : Dev :=
  if d.isCell then d
  else if d.on pGCH GCH.CSSTAT_OV1 || d.on pGCH GCH.CSSTAT_OV3 then d.err pGCH GCH.E_CFG_REJ
  else
    let d1 := (((d.set pGCH GCH.CSSTAT_FAIL1 0).set pGCH GCH.CSSTAT_FAIL2 0).set pGCH GCH.CSSTAT_NOEXPREQ 0).set pGCH
      GCH.CSSTAT_DABBLKREQ 0
    ({ d1 with chop := { d1.chop with due2 := 0 } }).curtSync.csNote d

/-! ### Register writes of SYSC on the cell state -/

/-- CELLCMD_BYPASS (R71, R74). -/
def Dev.cellcmdBypass (d : Dev) : Dev := d.bypassReq 6

/-- CELLCMD_CLRCNT (R74). -/
def Dev.cellcmdClrcnt (d : Dev) : Dev := d.clearCnt pSYSC SYSC.CELLSTATE_INVALID_CNT

end Sys2Proof.Machine
end

