-- ==== Sys2Proof/Machine/Squall.lean ====
section
/-! DEFINITION. Calibration entries as the blocks read them (R467 to R470), and the Squall comparators (chapter 14). -/

namespace Sys2Proof.Machine

/-! ### CALSTORE entries -/

/-- The data words 1 to 7 of a factory entry: the model takes a factory whose corrections are all neutral. -/
def factoryData (e : Nat) : List Nat :=
  if e < 0x30 then [0x80000, 0, 0, 0, 0, 0, 0]
  else if 0x5A ≤ e ∧ e ≤ 0x5D then [0, 0x8000, 0, 0, 0, 0, 0]
  else if e = 0x5E then [0x80, 0, 0, 0, 0, 0, 0]
  else [0, 0, 0, 0, 0, 0, 0]

/-- CHK of an entry: the CRC of R179 over words 1 to 7, each most significant byte first (R468). -/
def calChk (data : List Nat) : Nat := crc16 (data.flatMap fun w => toBE 4 w)

/-- A factory entry: valid, origin FACTORY, written once; the reserved entries are empty. -/
def factoryEntry (e : Nat) : List Nat :=
  if e < 0x5F then (2 ^ 31 + 2 ^ 16 + calChk (factoryData e)) :: factoryData e else [0, 0, 0, 0, 0, 0, 0, 0]

/-- The eight words of an entry in a store. -/
def calEntry (st : List (Nat × List Nat)) (e : Nat) : List Nat := (st.lookup e).getD (factoryEntry e)

/-- A store with an entry replaced; a factory entry is not listed. -/
def calPut (st : List (Nat × List Nat)) (e : Nat) (ws : List Nat) : List (Nat × List Nat) :=
  let rest := st.filter fun p => p.1 != e
  if ws = factoryEntry e then rest else (e, ws) :: rest

/-- An entry is valid when VALID = 1 and CHK matches its data (R469). -/
def calValid (ws : List Nat) : Bool :=
  match ws with
  | h :: data => bitAt h 31 && h % 65536 == calChk data
  | [] => false

/-- Word w of an entry. -/
def calWord (ws : List Nat) (w : Nat) : Nat := ws.getD w 0

/-- The words of an entry as the blocks use them: none where it is invalid. -/
def Dev.calIn (d : Dev) (e : Nat) : Option (List Nat) :=
  let ws := calEntry d.calUse e
  if calValid ws then some ws else none

/-- The die temperature in 1/16 °C (R396). -/
def Dev.tDie (d : Dev) : Int := toSigned (d.get pTHRM THRM.TDIE_T) 16

/-! ### The correction of R321 -/

/-- O_m + TC × (T − T_cal) in quarter steps, rounded, or zero without a valid entry (R321, R469). -/
def Dev.sqTarget (d : Dev) (q : Nat) : Int :=
  match d.calIn (0x30 + q) with
  | none => 0
  | some ws =>
    let m := d.get pSQL (SQL.SQCFG_MODE q)
    let o := toSigned (bitsOf (calWord ws 1) (8 * m) 8) 8
    let tc := toSigned (calWord ws 2) 16
    let tcal := toSigned (calWord ws 3) 16
    o + divRound (tc * (d.tDie - tcal)) 4096

/-- The level in force of a threshold code (R321). -/
def Dev.sqLevel (d : Dev) (q c : Nat) : Nat := (clampI (4 * (c : Int) + d.sqCorr.getD q 0) 0 4095).toNat

/-- Load the Squall entries from CALSTORE (R470); a missing or invalid entry sets CAL_DEF (R321). -/
def Dev.sqLoadCal (d : Dev) : Dev :=
  (List.range 16).foldl (fun d q =>
    let ws := calEntry d.calstore (0x30 + q)
    { d.errIf (!calValid ws) pSQL SQL.E_CAL_DEF with calUse := calPut d.calUse (0x30 + q) ws }) d

/-! ### The comparison (R308 to R311) -/

def Dev.sqCh (d : Dev) (q : Nat) : SqCh := d.sq.getD q sq0
def Dev.modSq (d : Dev) (q : Nat) (f : SqCh → SqCh) : Dev := { d with sq := modNth d.sq q f }

/-- The levels of HI and LO in force, in quarter steps (R321). -/
def Dev.sqLevels (d : Dev) (q : Nat) : Nat × Nat :=
  (d.sqLevel q (d.get pSQL (SQL.SQTHR_HI q)), d.sqLevel q (d.get pSQL (SQL.SQTHR_LO q)))

/-- A level between the one the DAC leaves and the one it settles on: a free value (R311). -/
def Dev.dacBetween (d : Dev) (x y : Nat) : Nat × Dev :=
  let (w, d) := d.free
  (min x y + w % (max x y - min x y + 1), d)

/-- The levels the comparison is made against. -/
def Dev.sqAgainst (d : Dev) (q : Nat) : (Nat × Nat) × Dev :=
  let (hi, lo) := d.sqLevels q
  match (d.sqCh q).dac with
  | none => ((hi, lo), d)
  | some (hi0, lo0) =>
    let (h, d) := d.dacBetween hi0 hi
    let (l, d) := d.dacBetween lo0 lo
    ((h, l), d)

/-- How far a level of the DAC lies from its nominal place, in units of half a quarter step: every step is half a step too long
or too short at most, so that the DAC stays monotonic (R492). -/
def sqDnl (q level : Nat) : Int := (List.range level).foldl (fun x i => x + (Config.sqStep q i % 3 : Nat) - 1) 0

/-- How far the comparator's threshold at the input lies from a level of its DAC, in units of half a quarter step (R492): up
to 10 mV without a valid entry; with one, what its correction takes away, to within 1.5 mV of the code. -/
def Dev.sqOffset (d : Dev) (q level : Nat) : Int :=
  let x := Config.sqOffset q (d.get pSQL (SQL.SQCFG_MODE q)) d.tDie
  if (d.calIn (0x30 + q)).isSome then clampI ((x % 13 : Nat) - 6 + sqDnl q level) (-6) 6 - 2 * d.sqTarget q
  else clampI ((x % 91 : Nat) - 45 + sqDnl q level) (-45) 45

/-- A threshold at the input for a level of the DAC. -/
def Dev.sqAtInput (d : Dev) (q level : Nat) : Int := 2 * (level : Int) + d.sqOffset q level

/-- The hysteresis at the input: HYS steps, within 20 % (R309, R492). -/
def Dev.sqHysteresis (d : Dev) (q : Nat) : Nat :=
  let h := d.get pSQL (SQL.SQTHR_HYS q)
  let lo := (64 * h + 9) / 10
  lo + Config.sqHys q h % (96 * h / 10 - lo + 1)

/-- The comparison states with the input at `v` (R309), in units of half a quarter step, from the thresholds at the input. -/
def SqCh.compare (c : SqCh) (v : Nat) (hi lo : Int) (hys : Nat) : SqCh :=
  let up : Bool := decide (hi < v)
  let down : Bool := decide ((v : Int) + hys < hi)
  let under : Bool := decide ((v : Int) < lo)
  let above : Bool := decide (lo + hys < v)
  { c with
    aHi := if up then true else if down then false else c.aHi
    bLo := if under then true else if above then false else c.bLo
    decA := c.decA || up || down
    decB := c.decB || under || above }

/-- The function in force: OUTSIDE while a leg binds the channel (R310, R318). -/
def Dev.sqFunc (d : Dev) (q : Nat) : Nat := if d.legsc q then 3 else d.get pSQL (SQL.SQCFG_FUNC q)

/-- The result that a function gives (R310). -/
def SqCh.result (c : SqCh) (func : Nat) : Bool :=
  if func = 1 then c.aHi else if func = 2 then c.bLo else if func = 3 then c.aHi || c.bLo
  else if func = 4 then !c.aHi && !c.bLo else false

/-- Every state that a function uses has been decided (R312). -/
def SqCh.decided (c : SqCh) (func : Nat) : Bool :=
  if func = 1 then c.decA else if func = 2 then c.decB else c.decA && c.decB

/-! ### Output of a channel -/

/-- The channel is powered: its function is not OFF, or a leg binds it (R312, R318). While CALS measures its offset a function
or a binding that software writes waits for the end of the measurement (R475). -/
def Dev.sqPowered (d : Dev) (q : Nat) : Bool := (d.on pSQL (SQL.SQCFG_FUNC q) || d.legsc q) && !d.sqMeasured q

/-- UNRESOLVED (R312). -/
def Dev.sqUnres (d : Dev) (q : Nat) : Bool := d.bit pSQL SQL.OUT_UNRES q

/-- The output is held by a blanking window or by the settling time after a mode change (R314, R315). -/
def Dev.sqHeld (d : Dev) (q : Nat) : Bool := ((d.sqCh q).blk.isSome && !d.legsc q) || (d.sqCh q).hold

/-- The level the output takes from the result, the latch and INIT (R312, R316 to R318). -/
def Dev.sqTargetOut (d : Dev) (q : Nat) : Bool :=
  if !d.sqPowered q || d.sqUnres q then d.on pSQL (SQL.SQCFG_INIT q)
  else if d.legsc q then d.bit pSQL SQL.RAW q
  else d.bit pSQL SQL.RAW q || (d.on pSQL (SQL.SQCFG_LATCH q) && d.bit pSQL SQL.LATCH q)

/-- The fabric clock has stopped: the clock monitor sees no edge (R279). -/
def Dev.clockLost (d : Dev) : Bool := d.on pPWMC PWMC.HOLDSTAT_CKMON

/-- What clocked consumers do at an assertion (R322): count, interrupt, error at class ECLS. -/
def Dev.sqSeen (d : Dev) (q : Nat) : Dev :=
  let d := ((d.inc pSQL (SQL.SQCNT_CNT q)).irq pSQL (SQL.I_SQ q)).modSq q fun c => { c with pend := false }
  d.errIf (d.on pSQL (SQL.SQCFG_ECLS q)) pSQL (SQL.E_ASRT q)

/-- An assertion (R320, R322): a wake, which needs no clock, and the clocked consumers, which wait for one. -/
def Dev.sqAssert (d : Dev) (q : Nat) : Dev :=
  let d := if d.on pSQL (SQL.SQCFG_WAKE q) then { d with wake := true } else d
  if d.clockLost then d.modSq q fun c => { c with pend := true } else d.sqSeen q

/-- The output follows its target: the trips it drives act at once (R298, R319); a rise that the result causes is an
assertion (R322). -/
def Dev.sqFollow (d : Dev) (q : Nat) (byResult : Bool) : Dev :=
  let lvl := d.sqTargetOut q
  if lvl = d.sqOut q then d
  else
    let d := (d.setBit pSQL SQL.OUT_LVL q lvl).modSq q fun c => { c with pend := c.pend && lvl }
    let d := if lvl && byResult then d.sqAssert q else d
    let d := if lvl then d.legTrip q else d
    if d.clockLost then d else d.chopSync

/-- The clocked consumers see what happened while the fabric clock was stopped (R320). -/
def Dev.sqResume (d : Dev) : Dev :=
  let d := (List.range 16).foldl (fun d q => if (d.sqCh q).pend then d.sqSeen q else d) d
  d.chopSync

/-- The result sets the latch of modes 0b01 and 0b10 when it asserts (R316), outside LEGSC function (R318). -/
def Dev.sqSetLatch (d : Dev) (q : Nat) : Dev :=
  if d.on pSQL (SQL.SQCFG_LATCH q) && d.bit pSQL SQL.RAW q && !d.legsc q && d.sqPowered q && !d.sqUnres q then
    (d.setBit pSQL SQL.LATCH q true).modSq q fun c => { c with asrt := some d.ticks }
  else d

/-- The output takes the result, unless it is held. -/
def Dev.sqTake (d : Dev) (q : Nat) (byResult : Bool) : Dev :=
  if d.sqHeld q then d else (d.sqSetLatch q).sqFollow q byResult

/-- A channel leaves UNRESOLVED once its settling time has ended and its states are decided (R312). The change of the
output is no assertion. -/
def Dev.sqDecide (d : Dev) (q : Nat) : Dev :=
  let c := d.sqCh q
  if d.bit pSQL SQL.SETL q || !c.decided (d.sqFunc q) then d
  else
    let d := (d.setBit pSQL SQL.OUT_UNRES q false).setBit pSQL SQL.RAW q (c.result (d.sqFunc q))
    (d.irq pSQL SQL.I_RESOLVED).sqTake q false

/-- The comparison of a channel with its input as it stands. -/
def Dev.sqEval (d : Dev) (q : Nat) : Dev :=
  if !d.sqPowered q then d
  else match (d.sqCh q).inp with
    | none => d
    | some v =>
      let ((hi, lo), d) := d.sqAgainst q
      let d := d.modSq q fun c => c.compare v (d.sqAtInput q hi) (d.sqAtInput q lo) (d.sqHysteresis q)
      if d.sqUnres q then d.sqDecide q
      else
        let r := (d.sqCh q).result (d.sqFunc q)
        if r = d.bit pSQL SQL.RAW q then d else (d.setBit pSQL SQL.RAW q r).sqTake q true

/-- SQUALL_RESULT_CHANGE (R308 to R310, R317): the voltage at the pin moves to `v`. A channel held in a block reset of
SQL compares only while a leg binds it (R318). -/
def Dev.sqInput (d : Dev) (q v : Nat) : Dev :=
  let d := d.modSq q fun c => { c with inp := some v }
  if d.inBlk.contains pSQL && !d.legsc q then d else d.sqEval q

/-- SETTLING_TIME_END (R311, R312, R314): the channel has settled. After a start it can leave UNRESOLVED, after a mode
change the output follows the result again, and after a write of SQTHRn the comparison uses the new levels. -/
def Dev.sqSettled (d : Dev) (q : Nat) : Dev :=
  if !d.bit pSQL SQL.SETL q then d
  else
    let d := (d.setBit pSQL SQL.SETL q false).modSq q fun c => { c with hold := false, dac := none }
    if d.sqUnres q then (d.sqEval q).sqDecide q else (d.sqEval q).sqTake q true

/-- SQUALL_RESOLVED (R312): the settling time of a started channel has ended, with the pin at `v`. -/
def Dev.sqResolved (d : Dev) (q v : Nat) : Dev :=
  if !d.sqUnres q then d
  else ((d.modSq q fun c => { c with inp := some v }).setBit pSQL SQL.SETL q true).sqSettled q

/-- The comparator starts: UNRESOLVED, settling, output at INIT (R312). -/
def Dev.sqStart (d : Dev) (q : Nat) : Dev :=
  let d := (((d.setBit pSQL SQL.OUT_UNRES q true).setBit pSQL SQL.SETL q true).setBit pSQL SQL.RAW q false).modSq q fun c =>
    { sq0 with inp := c.inp }
  (d.sqFollow q false).sqEval q

/-- The comparator is powered down: nothing pending, output at INIT (R312, R314). -/
def Dev.sqStop (d : Dev) (q : Nat) : Dev :=
  let d := (((d.setBit pSQL SQL.OUT_UNRES q false).setBit pSQL SQL.SETL q false).setBit pSQL SQL.RAW q false).setBit
    pSQL SQL.LATCH q false
  (d.modSq q fun c => { sq0 with inp := c.inp }).sqFollow q false

/-- The correction after an update: it moves by at most one quarter step (R321). -/
def Dev.sqCorrNext (d : Dev) (q : Nat) : Int :=
  d.sqCorr.getD q 0 + clampI (d.sqTarget q - d.sqCorr.getD q 0) (-1) 1

/-- SQUALL_CAL_UPDATE (R321): every correction moves, and the comparisons with it. -/
def Dev.sqCalUpdate (d : Dev) : Dev :=
  (List.range 16).foldl Dev.sqEval { d with sqCorr := (List.range 16).map d.sqCorrNext }

/-- The functions that use both states (R311). -/
def twoState (f : Nat) : Bool := f == 3 || f == 4

/-- SQCFG_WRITE (R310, R314, R316). -/
def Dev.sqcfgWrite (d : Dev) (q v : Nat) : Dev :=
  let old := d.get pSQL (SQL.SQCFG_FUNC q)
  let new := (SQL.SQCFG_FUNC q).pick v
  let latch := (SQL.SQCFG_LATCH q).pick v
  let mode := (SQL.SQCFG_MODE q).pick v
  let modeChg := mode != d.get pSQL (SQL.SQCFG_MODE q)
  let w := d.wordAt pSQL (0x040 + 8 * q)
  let onlyMode := bitsOf w 0 16 == bitsOf v 0 3 && bitsOf w 24 8 == bitsOf v 24 2 + bitsOf v 28 4 * 16
  let offNow := new == 0 && old != 0
  if decide (5 ≤ new) || latch == 3 || (latch == 2 && d.get pSQL (SQL.SQBLK_BLKSRC q) == 7) ||
      !(old == 0 || onlyMode || offNow) || (d.legsc q && (modeChg || offNow))
  then d.err pSQL SQL.E_CFG_REJ
  else
    let was := d.sqPowered q
    let d := d.writeWord pSQL (0x040 + 8 * q) v
    if !d.sqPowered q then d.sqStop q
    else if !was then d.sqStart q
    else if modeChg then (d.modSq q fun c => { c with hold := !d.sqUnres q }).setBit pSQL SQL.SETL q true
    else if d.sqUnres q then d.sqFollow q false
    else d

/-- SQTHR_WRITE (R311): a function of two states needs LO + HYS < HI − HYS. The DAC of a powered channel settles on a new
level. -/
def Dev.sqthrWrite (d : Dev) (q v : Nat) : Dev :=
  let hys := (SQL.SQTHR_HYS q).pick v
  let hi := (SQL.SQTHR_HI q).pick v
  let lo := (SQL.SQTHR_LO q).pick v
  if (twoState (d.get pSQL (SQL.SQCFG_FUNC q)) || d.legsc q) && decide (hi ≤ lo + hys + hys)
  then d.err pSQL SQL.E_CFG_REJ
  else
    let was := d.sqLevels q
    let d := d.writeWord pSQL (0x044 + 8 * q) v
    if !d.sqPowered q then d
    else
      let from_ := if was = d.sqLevels q then none else some was
      let d := if from_.isSome then (d.modSq q fun c => { c with dac := from_ }).setBit pSQL SQL.SETL q true else d
      d.sqEval q

/-- SQTRIP_WRITE (R319): a new route to an asserted output trips at once. -/
def Dev.sqtripWrite (d : Dev) (q v : Nat) : Dev :=
  let d := d.writeWord pSQL (0x100 + 4 * q) v
  if d.sqOut q then d.sqRoutes q else d

/-- A release of a latch (R316): it takes effect only while the result is deasserted, and not in the tick of an assertion. -/
def Dev.sqUnlatch (d : Dev) (q : Nat) : Dev :=
  if d.bit pSQL SQL.RAW q ∨ (d.sqCh q).asrt = some d.ticks then d
  else
    let d := d.setBit pSQL SQL.LATCH q false
    if d.sqHeld q then d else d.sqFollow q true

/-- SQUALL_LATCH_RELEASE (R316): a software latch. -/
def Dev.sqRelease (d : Dev) (q : Nat) : Dev := if d.get pSQL (SQL.SQCFG_LATCH q) = 1 then d.sqUnlatch q else d

/-- The start of a unit's period releases the period latches that name it (R316). -/
def Dev.sqPeriod (d : Dev) (unit : Nat) : Dev :=
  (List.range 16).foldl (fun d q =>
    if d.get pSQL (SQL.SQCFG_LATCH q) = 2 ∧ d.get pSQL (SQL.SQBLK_BLKSRC q) = unit then d.sqUnlatch q else d) d

/-- A placed edge of a unit opens or restarts the blanking windows that select it (R315): `ev` 0 A rising, 1 A falling,
2 B rising, 3 B falling. -/
def Dev.sqBlankOpen (d : Dev) (unit ev : Nat) : Dev :=
  (List.range 16).foldl (fun d q =>
    if d.get pSQL (SQL.SQBLK_BLKSRC q) = unit ∧ d.bit pSQL (SQL.SQBLK_BLKEV q) ev ∧ !(unit = 6 ∧ 2 ≤ ev) ∧
        d.on pSQL (SQL.SQBLK_BLKW q) ∧ !d.legsc q then
      d.modSq q fun c => { c with blk := some (d.ticks + d.get pSQL (SQL.SQBLK_BLKW q)) }
    else d) d

/-- BLANK_WINDOW_END (R315): BLKW ticks have passed since the last edge that opened the window; the output takes the
current result at once. -/
def Dev.sqBlankEnd (d : Dev) (q : Nat) : Dev :=
  match (d.sqCh q).blk with
  | some t => if d.ticks < t then d else (d.modSq q fun c => { c with blk := none }).sqTake q true
  | none => d

/-- SQCNT_CLR (R323). -/
def Dev.sqcntClr (d : Dev) (q : Nat) : Dev := d.clearCnt pSQL (SQL.SQCNT_CNT q)

/-- Other writes of SQL registers. SQBLKn accepts a write only while FUNC = OFF (R324). -/
def Dev.sqlWrite (d : Dev) (off v : Nat) : Dev :=
  if 0x040 ≤ off ∧ off < 0x0C0 then
    let q := (off - 0x040) / 8
    if (off - 0x040) % 8 = 0 then d.sqcfgWrite q v else d.sqthrWrite q v
  else if 0x0C0 ≤ off ∧ off < 0x100 then
    let q := (off - 0x0C0) / 4
    if d.on pSQL (SQL.SQCFG_FUNC q) ||
      ((SQL.SQBLK_BLKSRC q).pick v == 7 && d.get pSQL (SQL.SQCFG_LATCH q) == 2) then d.err pSQL SQL.E_CFG_REJ
    else d.writeWord pSQL off v
  else if 0x100 ≤ off ∧ off < 0x140 then d.sqtripWrite ((off - 0x100) / 4) v
  else if off = 0x804 then
    (List.range 16).foldl (fun d q => if bitAt v q then d.sqRelease q else d) d
  else if 0x840 ≤ off ∧ off < 0x880 then (if bitAt v 31 then d.sqcntClr ((off - 0x840) / 4) else d)
  else d.writeWord pSQL off v

/-- A change of the leg bindings: a channel that a leg binds starts, and so does one whose binding ends while FUNC leaves
it powered (R312, R318). -/
def Dev.sqRebind (d0 d : Dev) : Dev :=
  (List.range 16).foldl (fun d q =>
    if d0.legsc q = d.legsc q then d else if d.sqPowered q then d.sqStart q else d.sqStop q) d

/-- Writes of GCH registers, with the binding of Squall channels that LEGCFGm makes (R297, R305, R306, R318). -/
def Dev.gchWriteBind (d : Dev) (off v : Nat) : Dev :=
  if off = 0x868 then (if bitAt v 31 then d.chopperRelease else d)
  else if off = 0x86C then (if bitAt v 0 then d.gchCntclr else d)
  else d.sqRebind (d.gchWrite off v)

end Sys2Proof.Machine
end

