-- ==== Sys2Proof/Machine/Adc.lean ====
section
/-! DEFINITION. The commit grid as the blocks read it (R17 to R19), and the converters ADCA and ADCB (chapter 15). The
converter's place in its work follows from TIME: a slot's samples lie 16 ns apart from its first sampling instant. -/

namespace Sys2Proof.Machine

/-! ### The commit grid -/

def gt0Trip : Trip := ⟨VANE.GT0NS, VANE.GT0SL, VANE.GT0SH_FRAC, VANE.GT0SH_SECH⟩

/-- The grid runs (R335): GRIDCTL.RUN in a cell, STRD.STAT.RUN in a hub. -/
def Dev.gridOn (d : Dev) : Bool := if d.isCell then d.on pVANE VANE.GRIDCTL_RUN else d.on pSTRD STRD.STAT_RUN

/-- Origin, period and sampling offset of the grid in force, in 2^-16 ns. -/
def Dev.gridT0 (d : Dev) : Nat := if d.isCell then d.getTrip pVANE gt0Trip else d.hgT0
def Dev.gridTsf (d : Dev) : Nat := (if d.isCell then d.get pVANE VANE.GTSF else d.hgTsf) * tick16
def Dev.gridSo (d : Dev) : Nat := (if d.isCell then d.get pVANE VANE.GSAMP else d.hgSo) * tick16

/-- The first instant `t0 + k·p` that is not before `t`. -/
def firstFrom (t0 p t : Nat) : Nat := if since t0 t ≤ 0 ∨ p = 0 then t0 else t + (p - placeIn t0 p t) % p

/-! ### The converter's state -/

/-- 16 ns and 224 ns in 2^-16 ns (R326). -/
def conv16 : Nat := 1048576
def ready16 : Nat := 14 * conv16

/-- The first point of the 62.5 ps grid at or after an instant (R326). -/
def fineUp (t : Nat) : Nat := (t + fine16 - 1) / fine16 * fine16

def Dev.adcOf (d : Dev) (c : Nat) : Adc := d.adc.getD c adc0
def Dev.modAdc (d : Dev) (c : Nat) (f : Adc → Adc) : Dev := { d with adc := modNth d.adc c f }

/-- The settings of a slot word as the register holds them, and the working coefficients of its configuration (R329,
R346). -/
def Dev.coefCfg (d : Dev) (c i dest avg ow : Nat) (last : Bool) : AdcCfg :=
  { input := i, dest := dest, avg := avg, ow := ow, last := last, gain := d.get (pADC c) (ADC.GAIN i),
    ofs := toSigned (d.get (pADC c) (ADC.OFS i)) 20, tcg := toSigned (d.get (pADC c) (ADC.TC_TCG i)) 16,
    tcal := toSigned (d.get (pADC c) (ADC.TC_TCAL i)) 16, uncal := bitAt (d.adcOf c).uncal i }

def Dev.slotCfg (d : Dev) (c s : Nat) : AdcCfg :=
  d.coefCfg c (d.get (pADC c) (ADC.SLOT_INPUT s)) (d.get (pADC c) (ADC.SLOT_DEST s)) (d.get (pADC c) (ADC.SLOT_AVG s))
    (if d.feat (pADC c) 0 then d.get (pADC c) (ADC.SLOT_OW s) else 0) (s == 31 || d.on (pADC c) (ADC.SLOT_LAST s))

/-- What a job works with: as it stood when the job took its first sample, else as it stands (R346). -/
def Dev.jobCfg (d : Dev) (c : Nat) (j : AdcJob) : AdcCfg :=
  match j.cfg, j.urg with
  | some g, _ => g
  | none, some (i, avg, dest) => d.coefCfg c i dest avg 0 true
  | none, none => d.slotCfg c j.slot

/-- Number of conversions of a job. -/
def Dev.jobN (d : Dev) (c : Nat) (j : AdcJob) : Nat := 2 ^ (d.jobCfg c j).avg

/-- The instant of the last conversion of a job. -/
def Dev.jobEnd (d : Dev) (c : Nat) (j : AdcJob) : Nat := j.t0 + (d.jobN c j - 1) * conv16

/-- The slot runs an open-wire phase (R340). -/
def Dev.jobOw (d : Dev) (c : Nat) (j : AdcJob) : Bool := (d.jobCfg c j).ow != 0

/-- OWSET ticks in 2^-16 ns; 0 acts as 1 (R347). -/
def Dev.owset16 (d : Dev) (c : Nat) : Nat := max 1 (d.get (pADC c) ADC.OWCFG_OWSET) * tick16

/-- The last sampling instant of a job: its open-wire conversion lies OWSET ticks, and at least 16 ns, after the others
(R326, R340). -/
def Dev.jobLast (d : Dev) (c : Nat) (j : AdcJob) : Nat :=
  d.jobEnd c j + (if d.jobOw c j then max (d.owset16 c) conv16 else 0)

/-- 16 ns × (1 + GAP) of a slot (R329). -/
def Dev.gap16 (d : Dev) (c s : Nat) : Nat := conv16 * (1 + d.get (pADC c) (ADC.SLOT_GAP s))

/-- An instant, or the end of the pause after an open-wire phase where that is later (R340). -/
def Dev.afterHold (d : Dev) (c t : Nat) : Nat := if (d.adcOf c).hold = 0 then t else later t (d.adcOf c).hold

/-- A job that starts anew from its first conversion. -/
def AdcJob.anew (j : AdcJob) : AdcJob := { j with held := none, cfg := none, ts := none }

/-- Keep what a job works with once it samples, and the instant of its last conversion once that is taken (R341, R346). -/
def Dev.jobMark (d : Dev) (c : Nat) (j : AdcJob) : AdcJob :=
  let j := if j.cfg.isNone && notAfter j.t0 d.now16 then { j with cfg := some (d.jobCfg c j) } else j
  if j.ts.isNone && notAfter (d.jobEnd c j) d.now16 then { j with ts := some (d.jobEnd c j) } else j

/-- Put what follows into the converter when a job's samples are taken: an urgent request that waited for the window
slot, the slot aborted last, or the next slot of the sequence (R329, R336, R338). -/
def Dev.adcNext (d : Dev) (c : Nat) (j : AdcJob) : Dev :=
  let last := d.jobLast c j
  let d := d.modAdc c fun a => { a with free := last, hold := if d.jobOw c j then last + d.owset16 c else a.hold }
  let a := d.adcOf c
  let start (x : AdcJob) : AdcJob := { x.anew with t0 := fineUp (d.afterHold c (last + d.gap16 c x.slot)) }
  let ends := j.fin || (d.jobCfg c j).last
  let nxt : AdcJob := { j.anew with slot := j.slot + 1, wslot := false }
  if j.wslot && a.uwait.isSome then
    d.modAdc c fun a =>
      { a with uwait := none, back := if ends then a.back else nxt :: a.back,
               cur := some { job0 with t0 := fineUp (d.afterHold c (last + conv16)), urg := a.uwait } }
  else if j.urg.isSome || ends then
    match a.back with
    | b :: bs => d.modAdc c fun a => { a with cur := some (start { b with late := true }), back := bs }
    | [] => d.modAdc c fun a => { a with cur := none }
  else d.modAdc c fun a => { a with cur := some (start nxt) }

/-- An urgent request whose result nobody awaits: channel 17 stands for one of CALS that its block reset has given up (R474). -/
def AdcJob.givenUp (j : AdcJob) : Bool := j.urg.any fun u => u.2.2 == 17

/-- Slots whose samples are taken by the instant `h` make room for the next (`n` bounds the slots). -/
def Dev.adcCatch (d : Dev) (c h : Nat) : Nat → Dev
  | 0 => d
  | n + 1 =>
    match (d.adcOf c).cur with
    | none => d
    | some j =>
      if !notAfter (d.jobLast c j) h then d
      else
        let j := { j with cfg := some (d.jobCfg c j), ts := some (j.ts.getD (d.jobEnd c j)) }
        ((d.modAdc c fun a => { a with flight := if j.givenUp then a.flight else a.flight ++ [j] }).adcNext c j).adcCatch c h n

/-- The converter brought to the present. -/
def Dev.adcSync (d : Dev) (c : Nat) : Dev :=
  let d := d.adcCatch c d.now16 128
  d.modAdc c fun a => { a with cur := a.cur.map (d.jobMark c) }

/-- READY (R328). -/
def Dev.adcReady (d : Dev) (c : Nat) : Bool := d.on (pADC c) ADC.STAT_READY

/-- An urgent request waits or runs (R339): it runs until its result is written. -/
def Dev.urgBusy (d : Dev) (c : Nat) : Bool :=
  let a := d.adcOf c
  a.uwait.isSome || a.cur.any (·.urg.isSome) || a.flight.any (·.urg.isSome)

/-- No work stands to take samples. -/
def Dev.adcFree (d : Dev) (c : Nat) : Bool :=
  let a := d.adcOf c
  a.cur.isNone && a.back.isEmpty && a.uwait.isNone

/-- Idle: no sequence, no pending trigger, no urgent request (R331). -/
def Dev.adcIdle (d : Dev) (c : Nat) : Bool := d.adcFree c && (d.adcOf c).pend.isNone && !d.urgBusy c

/-- The slots left in a sequence from slot `s` on (`n` bounds them). -/
def Dev.slotsLeft (d : Dev) (c s : Nat) : Nat → Nat
  | 0 => 0
  | n + 1 => if s = 31 ∨ d.on (pADC c) (ADC.SLOT_LAST s) then 1 else 1 + d.slotsLeft c (s + 1) n

def Dev.jobLeft (d : Dev) (c : Nat) (j : AdcJob) : Nat :=
  if j.urg.isSome || j.fin then 1 else d.slotsLeft c j.slot 32

/-- The slots and requests that a converter holds besides those in flight; `cur` counts for `n`. -/
def Dev.workLeft (d : Dev) (c n : Nat) : Nat :=
  let a := d.adcOf c
  n + (a.back.map (d.jobLeft c)).foldl (· + ·) 0 + (if a.pend.isSome then 1 else 0) + (if a.uwait.isSome then 1 else 0)

/-- Discard all work of a converter, and count it in DISC (R344); a window slot that cannot take all its samples is
missed (R336). -/
def Dev.adcDiscard (d : Dev) (c : Nat) : Dev :=
  let d := d.adcSync c
  let a := d.adcOf c
  let missed := a.cur.any fun j => j.wslot && !notAfter (d.jobEnd c j) d.now16
  let d := d.errIf missed (pADC c) ADC.E_ANCH_MISS
  (d.incBy (pADC c) ADC.TRGCNT_DISC (d.workLeft c ((a.cur.map (d.jobLeft c)).getD 0) + a.flight.length)).modAdc c fun a =>
    { a with cur := none, back := [], pend := none, uwait := none, flight := [], hold := 0 }

/-- The ADC clock stops (R344). -/
def Dev.adcClockStop (d : Dev) : Dev :=
  (List.range 2).foldl (fun d c =>
    ((d.adcDiscard c).set (pADC c) ADC.STAT_READY 0).err (pADC c) ADC.E_CLK_STOP) d

/-! ### Triggers (R332 to R334) -/

/-- Start a sequence at a slot; the first sample lies 32 ns after the trigger instant, on the 62.5 ps grid, or later with
LATE (R326, R334). -/
def Dev.adcBegin (d : Dev) (c slot t : Nat) (late : Bool) : Dev :=
  let a := d.adcOf c
  let nominal := roundUpTie (t + 2 * conv16) fine16
  let early := if a.free = 0 then nominal else fineUp (d.afterHold c (a.free + d.gap16 c slot))
  d.modAdc c fun a =>
    { a with cur := some { job0 with slot := slot, t0 := later nominal early, late := late || !notAfter early nominal } }

/-- The trigger of this tick that a converter has taken so far: its rank and what became of it (R333). -/
def Dev.trigNow (d : Dev) (c : Nat) : Option (Nat × Nat) :=
  match (d.adcOf c).trig with
  | some (tk, p, r) => if tk = d.ticks then some (p, r) else none
  | none => none

def Dev.trigSet (d : Dev) (c prio r : Nat) : Dev := d.modAdc c fun a => { a with trig := some (d.ticks, prio, r) }

/-- A trigger of a higher rank takes the place of the one that the tick brought before: in the sequence it started, or in
the pending one it left, unless that has gone; `r` says which: 0 started, 1 pending, 2 lost, 3 pending and started in the same
tick (R333). -/
def Dev.trigReplace (d : Dev) (c slot t r : Nat) : Dev :=
  if r = 1 then d.modAdc c fun a => { a with pend := a.pend.map fun _ => (slot, t) }
  else if r = 3 ∧ (d.adcOf c).cur.any (fun j => j.urg.isNone && !j.win) then
    d.adcBegin c slot (later t (d.now16 + wrap16 - 2 * conv16)) true
  else if r = 2 then d
  else if (d.adcOf c).cur.any fun j => j.urg.isNone && !j.win then d.adcBegin c slot t false
  else d.modAdc c fun a => { a with back := a.back.map fun j => if j.win then j else { j with slot := slot } }

/-- A trigger reaches a converter. `prio` 0 Spindle, 1 PTRG0, 2 PTRG1, 3 SWTRIG; `t` its instant. -/
def Dev.adcTrigger (d : Dev) (c prio slot t : Nat) : Dev :=
  let d := d.adcSync c
  if !d.on (pADC c) ADC.CTRL_EN then d
  else match d.trigNow c with
  | some (p, r) =>
    let d := d.inc (pADC c) ADC.TRGCNT_MERGE
    if prio < p then (d.trigSet c prio r).trigReplace c slot t r else d
  | none =>
    if !d.adcReady c then (d.trigSet c prio 2).err (pADC c) ADC.E_NRDY
    else if d.adcIdle c then (d.trigSet c prio 0).adcBegin c slot t false
    else if (d.adcOf c).pend.isNone then (d.trigSet c prio 1).modAdc c fun a => { a with pend := some (slot, t) }
    else ((d.trigSet c prio 2).inc (pADC c) ADC.OVFCNT_TRIGOVR).err (pADC c) ADC.E_TRIG_OVR

/-- ADC_PENDING_START (R334): the converter is free and the pending trigger's sequence starts, marked LATE. -/
def Dev.adcPendingStart (d : Dev) (c : Nat) : Dev :=
  let d := d.adcSync c
  match (d.adcOf c).pend with
  | none => d
  | some (slot, t) =>
    if d.adcFree c then
      let d := d.modAdc c fun a =>
        { a with pend := none, trig := a.trig.map fun x => if x.1 = d.ticks ∧ x.2.2 = 1 then (x.1, x.2.1, 3) else x }
      d.adcBegin c slot (later t (d.now16 + wrap16 - 2 * conv16)) true
    else d

/-- A placed apex or period start of a PWM unit at instant `t` (R332): `peak` says which apex. -/
def Dev.adcPwmEvent (d : Dev) (unit t : Nat) (peak : Bool) : Dev :=
  (List.range 2).foldl (fun d c =>
    (List.range 2).foldl (fun d k =>
      let pg := pADC c
      let ev := d.get pg (ADC.PTRG_EV k)
      if d.on pg (ADC.PTRG_EN k) && d.get pg (ADC.PTRG_UNIT k) == unit && (ev == 2 || (ev == 1) == peak) then
        let n := (d.adcOf c).pcnt.getD k 0
        let d := d.modAdc c fun a => { a with pcnt := modNth a.pcnt k fun _ => n + 1 }
        if n % (d.get pg (ADC.PTRG_DIV k) + 1) = 0 then d.adcTrigger c (1 + k) (d.get pg (ADC.PTRG_SLOT k)) t else d
      else d) d) d

/-! ### The window (R335, R336) -/

/-- The start of the tick. -/
def Dev.tickAt (d : Dev) : Nat := d.now16 / tick16 * tick16

/-- The first sampling instant, at or after `t`, of the window slot that the ANCHCFG word `w` names (R335). -/
def Dev.winFirst (d : Dev) (c w t : Nat) : Nat :=
  let lead := (2 ^ d.get (pADC c) (ADC.SLOT_AVG (ADC.ANCHCFG_SLOT.pick w)) - 1) * conv16
  firstFrom (d.gridT0 + d.gridSo) d.gridTsf (t + lead) - lead

/-- An instant `t` of the future lies at least 64 ns after tick `k` (R335). -/
def Dev.far (d : Dev) (k t : Nat) : Bool := decide (64 * 65536 ≤ (d.ticks - k) * tick16 + (since d.tickAt t).toNat)

def Dev.anchReg (d : Dev) (c : Nat) : Nat :=
  d.get (pADC c) ADC.ANCHCFG_EN * 2 ^ 31 + d.get (pADC c) ADC.ANCHCFG_SLOT

/-- The ANCHCFG word in force for the window that follows `t`: a word written less than 64 ns before its first sampling
instant does not count yet (R335). -/
def Dev.anchWord (d : Dev) (c t : Nat) : Nat :=
  let a := d.adcOf c
  if d.far a.anchAt (d.winFirst c (d.anchReg c) t) then d.anchReg c else a.anch

/-- The window slot and its first sampling instant, of the first window at or after `t` (R335). -/
def Dev.winNext (d : Dev) (c t : Nat) : Option (Nat × Nat) :=
  let w := d.anchWord c t
  let x := d.winFirst c w t
  if bitAt w 31 && d.gridOn && d.on (pADC c) ADC.CTRL_EN && d.far d.gridAt x then some (ADC.ANCHCFG_SLOT.pick w, x) else none

/-- Place an urgent request `u` (input, exponent of the count, channel): at once where the converter is idle, after the
window slot where one is due, else aborting the slot that samples (R338, R339). -/
def Dev.urgPlace (d : Dev) (c : Nat) (u : Nat × Nat × Nat) : Dev :=
  let a := d.adcOf c
  let req := d.tickAt + 2 * conv16
  let meetsWin (t0 : Nat) : Bool :=
    (d.winNext c (d.now16 + conv16)).any fun x => !notAfter (t0 + (2 ^ u.2.1 - 1) * conv16 + conv16) x.2
  let job (t0 : Nat) : AdcJob := { job0 with t0 := fineUp t0, urg := some u }
  let soon := d.afterHold c (if a.free = 0 then req else later req (a.free + conv16))
  match a.cur with
  | none =>
    if meetsWin soon then d.modAdc c fun a => { a with uwait := some u }
    else d.modAdc c fun a => { a with cur := some (job soon) }
  | some j =>
    if j.wslot then d.modAdc c fun a => { a with uwait := some u }
    else
      let sampling := notAfter j.t0 d.now16
      let ow := d.jobOw c j && notAfter (d.jobEnd c j) d.now16
      let lastTaken := if ow then d.jobEnd c j else j.t0 + (since j.t0 d.now16).toNat / conv16 * conv16
      let t0 := if !sampling then soon
        else if ow then later req (later (lastTaken + conv16) (d.tickAt + d.owset16 c)) else later req (lastTaken + conv16)
      if meetsWin t0 then d.modAdc c fun a => { a with uwait := some u }
      else
        let d := d.incIf sampling (pADC c) ADC.TRGCNT_ABORT
        d.modAdc c fun a => { a with cur := some (job t0), back := j.anew :: a.back }

/-- An urgent request that waits for a window which will not come is placed (R336). -/
def Dev.urgWake (d : Dev) (c : Nat) : Dev :=
  match (d.adcOf c).uwait with
  | some u =>
    if (d.adcOf c).cur.any (·.wslot) || (d.winNext c (d.now16 + conv16)).isSome then d
    else (d.modAdc c fun a => { a with uwait := none }).urgPlace c u
  | none => d

/-- ADC_WINDOW_START (R335, R336): the window sequence starts; a slot that would take samples within 16 ns before it is
aborted and resumes after it. A converter that is enabled but not ready misses its window. -/
def Dev.adcWindow (d : Dev) (c : Nat) : Dev :=
  let d := d.adcSync c
  let w := d.anchWord c d.tickAt
  let d := d.modAdc c fun a => { a with anch := w }
  match d.winNext c d.tickAt with
  | none => d.urgWake c
  | some (s, t) =>
    if !d.adcReady c then d.err (pADC c) ADC.E_ANCH_MISS
    else
      let d := d.adcCatch c (later d.now16 (t + wrap16 - conv16)) 128
      let a := d.adcOf c
      let put (d : Dev) (f : Adc → Adc) : Dev :=
        d.modAdc c fun a => { f a with cur := some { job0 with slot := s, t0 := roundUpTie t fine16, win := true, wslot := true }, hold := 0 }
      match a.cur with
      | none => put d id
      | some j =>
        if j.urg.isSome then put d fun a => { a with uwait := j.urg }
        else put (d.incIf (!notAfter t j.t0) (pADC c) ADC.TRGCNT_ABORT) fun a => { a with back := j.anew :: a.back }

/-! ### Results (R330, R341, R342) -/

/-- The code range of a configuration (R325). -/
def codeLo (i : Nat) : Int := if i < 16 then 0 else -32768
def codeHi (i : Nat) : Int := if i < 16 then 65535 else 32767

/-- The mean of raw codes in 2^-4 code, a tie toward +∞ (R330 item 1). -/
def adcMean (codes : List Int) : Int := divRound (16 * codes.foldl (· + ·) 0) codes.length

/-- The calibrated result of a mean at die temperature `t` (R330 items 2 and 3) before its clamp. -/
def AdcCfg.cal (g : AdcCfg) (t m16 : Int) : Int :=
  divRound (((2 ^ 19 + g.gain : Nat) : Int) * (1600000000 + g.tcg * (t - g.tcal)) * (m16 - g.ofs)) (2 ^ 20 * 1600000000 * 16)

/-- Value and clip of the raw codes of a configuration (R325, R330). -/
def AdcCfg.value (g : AdcCfg) (t : Int) (codes : List Int) : Int × Bool :=
  let lo := codeLo g.input
  let hi := codeHi g.input
  let clipped := codes.any fun x => decide (x ≤ lo) || decide (hi ≤ x)
  let r := g.cal t (adcMean (codes.map fun x => clampI x lo hi))
  let v := clampI r lo hi
  (v, clipped || v != r)

/-- The size of the ring in bytes (R342). -/
def Dev.ringSize (d : Dev) (c : Nat) : Nat := 64 * 2 ^ d.get (pADC c) ADC.RINGCFG_SIZE

/-- Bytes of the ring between RINGRD and RINGWR (R342). -/
def Dev.ringFill (d : Dev) (c : Nat) : Nat :=
  (d.get (pADC c) ADC.RINGWR + d.ringSize c - d.get (pADC c) ADC.RINGRD % d.ringSize c) % d.ringSize c

/-- Write the result of a job worked with `g` to its channel: value, flags, count and stamp, and the ring entry, answered
as words to store in shared SRAM (R341, R342). -/
def Dev.adcPut (d : Dev) (c : Nat) (g : AdcCfg) (v : Int) (clip late owf : Bool) (t : Nat) : Dev × List (Nat × Nat) :=
  let pg := pADC c
  let dest := g.dest
  let d := d.incWrap pg (ADC.RES_CNT dest)
  let d := ((d.set pg (ADC.RES_OWF dest) (b2n owf)).set pg (ADC.RES_CLIP dest) (b2n clip)).set pg (ADC.RES_LATE dest)
    (b2n late)
  let d := (d.set pg (ADC.RES_UNCAL dest) (b2n g.uncal)).set pg (ADC.RES_VALUE dest) (ofSigned v 16)
  let d := d.modAdc c fun a =>
    { a with twos := (if bitAt a.twos dest then a.twos - 2 ^ dest else a.twos) + (if g.input < 16 then 0 else 2 ^ dest) }
  let d := (d.set pg (ADC.RESTS dest) (stamp62 t)).errIf clip pg ADC.E_CLIP
  let word := d.wordAt pg (0x840 + 4 * dest) + dest * 65536
  let d := d.anAdc c dest t (toLE 4 word ++ toLE 4 (d.get pg (ADC.RESTS dest)))
  if d.on pg ADC.RINGCFG_EN && d.bit pg ADC.RINGCFG_MASK dest then
    let sz := d.ringSize c
    if d.ringFill c + 8 ≥ sz then ((d.inc pg ADC.OVFCNT_RINGOVF).err pg ADC.E_RING_OVF, [])
    else
      let wr := d.get pg ADC.RINGWR
      let a := d.get pg ADC.RINGBASE * 64 + wr
      let was := d.ringFill c
      let ws := [(a, word), (a + 4, d.get pg (ADC.RESTS dest))]
      let d := d.set pg ADC.RINGWR ((wr + 8) % sz)
      (d.irqIf (decide (was < sz / 2) && decide (sz / 2 ≤ was + 8)) pg ADC.I_RING, ws)
  else (d, [])

/-- SEQ_DONE when nothing of the sequence is left (R334). -/
def Dev.adcSeqDone (d : Dev) (c : Nat) (j : AdcJob) : Dev :=
  d.irqIf (j.urg.isNone && (j.fin || (d.jobCfg c j).last)) (pADC c) ADC.I_SEQ_DONE

/-- The raw codes of a job are ready: there are as many as it takes, and its last conversion lies 224 ns back (R326). -/
def Dev.codesReady (d : Dev) (c : Nat) (j : AdcJob) (codes : List Int) : Bool :=
  codes.length == d.jobN c j && notAfter (d.jobEnd c j + ready16) d.now16

/-- ADC_SLOT_RESULT (R330): the raw codes of the oldest slot whose samples are taken are ready; its result is written.
A slot with open-wire detection holds its result for ADC_OPEN_WIRE_SAMPLE. -/
def Dev.adcSlotResult (d : Dev) (c : Nat) (codes : List Int) : Dev × List (Nat × Nat) :=
  let d := d.adcSync c
  let a := d.adcOf c
  match a.flight with
  | j :: rest =>
    if j.urg.isSome || j.held.isSome || !d.codesReady c j codes then (d, [])
    else
      let g := d.jobCfg c j
      let (v, clip) := g.value d.tDie codes
      if d.jobOw c j then (d.modAdc c fun a => { a with flight := { j with held := some (v, clip) } :: rest }, [])
      else
        let d := d.modAdc c fun a => { a with flight := rest }
        let (d, ws) := d.adcPut c g v clip j.late false (j.ts.getD 0)
        (d.adcSeqDone c j, ws)
  | [] =>
    match a.cur with
    | none => (d, [])
    | some j =>
      if d.jobOw c j && d.codesReady c j codes && j.held.isNone then
        (d.modAdc c fun a => { a with cur := some { j with held := some ((d.jobCfg c j).value d.tDie codes) } }, [])
      else (d, [])

/-- ADC_OPEN_WIRE_SAMPLE (R340): the conversion with the current on is judged, and the slot's result is written. -/
def Dev.adcOpenWire (d : Dev) (c : Nat) (code : Int) : Dev × List (Nat × Nat) :=
  let d := d.adcSync c
  match (d.adcOf c).flight with
  | [] => (d, [])
  | j :: rest =>
    match j.held with
    | none => (d, [])
    | some (v, clip) =>
      if !notAfter (d.jobLast c j + ready16) d.now16 then (d, [])
      else
        let g := d.jobCfg c j
        let (r, _) := g.value d.tDie [code]
        let th : Int := d.get (pADC c) ADC.OWCFG_OWTH
        let isOpen := if g.ow = 1 then decide (v + th < r) else decide (r < v - th)
        let d := d.modAdc c fun a => { a with flight := rest }
        let d := if isOpen then
            ((d.raise (pADC c) ADC.OWSTAT g.input).err (pADC c) ADC.E_OPEN_WIRE).irq (pADC c) ADC.I_OW else d
        let (d, ws) := d.adcPut c g v clip j.late isOpen (j.ts.getD 0)
        (d.adcSeqDone c j, ws)

/-! ### Urgent requests (R338, R339) -/

/-- ADC_URGENT: a write of URGCTL with GO. -/
def Dev.adcUrgent (d : Dev) (c v : Nat) : Dev :=
  let pg := pADC c
  let d := (d.writeWord pg 0x804 v).adcSync c
  let avg := ADC.URGCTL_AVG.pick v
  let inp := ADC.URGCTL_INPUT.pick v
  if 24 ≤ inp ∨ 8 < avg then d.err pg ADC.E_CFG_REJ
  else if !d.on pg ADC.CTRL_EN then d
  else if !d.adcReady c then d.err pg ADC.E_NRDY
  else if d.urgBusy c then d.err pg ADC.E_URG_REJ
  else d.urgPlace c (inp, avg, ADC.URGCTL_DEST.pick v)

/-- ADC_URGENT_RESULT (R338): the raw codes of the urgent request are ready. Channel 16 stands for a request of CALS. -/
def Dev.adcUrgentResult (d : Dev) (c : Nat) (codes : List Int) : Dev × List (Nat × Nat) :=
  let d := d.adcSync c
  let pg := pADC c
  match (d.adcOf c).flight with
  | [] => (d, [])
  | j :: rest =>
    let g := d.jobCfg c j
    if j.urg.isNone || !d.codesReady c j codes || decide (16 ≤ g.dest) then (d, [])
    else
      let (v, clip) := g.value d.tDie codes
      let d := d.modAdc c fun a => { a with flight := rest }
      let (d, ws) := d.adcPut c g v clip j.late false (j.ts.getD 0)
      let d := (((d.set pg ADC.URGRES_CLIP (b2n clip)).set pg ADC.URGRES_UNCAL (b2n g.uncal)).set pg ADC.URGRES_CH
        g.dest).set pg ADC.URGRES_VALUE (ofSigned v 16)
      ((d.set pg ADC.URGRES_CNT (d.get pg (ADC.RES_CNT g.dest))).irq pg ADC.I_URG_DONE, ws)

/-! ### Reference, enable, register writes -/

/-- ADC_REFEN_WRITE (R327). -/
def Dev.adcRefen (d : Dev) (c v : Nat) : Dev :=
  let pg := pADC c
  let d := d.set pg ADC.REFCTL_REFEN (ADC.REFCTL_REFEN.pick v)
  if d.on pg ADC.REFCTL_REFEN then d
  else
    let d := d.irqIf (d.on pg ADC.REFCTL_REFRDY) pg ADC.I_REF_CHG
    ((d.set pg ADC.REFCTL_REFRDY 0).set pg ADC.STAT_READY 0).adcDiscard c

/-- ADC_REF_READY (R327): VREF has stayed within ±0.5 % for 2.0 ms. -/
def Dev.adcRefReady (d : Dev) (c : Nat) : Dev :=
  if d.on (pADC c) ADC.REFCTL_REFEN && !d.on (pADC c) ADC.REFCTL_REFRDY then
    (d.set (pADC c) ADC.REFCTL_REFRDY 1).irq (pADC c) ADC.I_REF_CHG
  else d

/-- ADC_REF_FAULT (R327): VREF leaves ±2 % for 1 µs while REFEN = 1. -/
def Dev.adcRefFault (d : Dev) (c : Nat) : Dev :=
  let pg := pADC c
  if !d.on pg ADC.REFCTL_REFEN then d
  else
    let d := d.irqIf (d.on pg ADC.REFCTL_REFRDY) pg ADC.I_REF_CHG
    (((d.set pg ADC.REFCTL_REFRDY 0).set pg ADC.STAT_READY 0).err pg ADC.E_REF_FAULT).adcDiscard c

/-- ADC_READY (R328): EN has been set for 10 µs with the ADC clock running, and REFRDY = 1. -/
def Dev.adcMakeReady (d : Dev) (c : Nat) : Dev :=
  if d.on (pADC c) ADC.CTRL_EN && d.on (pADC c) ADC.REFCTL_REFRDY && d.onSyna then d.set (pADC c) ADC.STAT_READY 1
  else d

/-- ADC_ENABLE_WRITE (R343): EN = 0 lets the slot whose samples are being taken complete and discards the rest. -/
def Dev.adcEnable (d : Dev) (c v : Nat) : Dev :=
  let pg := pADC c
  let en := ADC.CTRL_EN.pick v != 0
  let d := d.adcSync c
  if en || !d.on pg ADC.CTRL_EN then d.set pg ADC.CTRL_EN (b2n en)
  else
    let a := d.adcOf c
    let sampling := a.cur.any fun j => notAfter j.t0 d.now16
    let n := d.workLeft c ((a.cur.map (d.jobLeft c)).getD 0 - (if sampling then 1 else 0))
    let d := ((d.set pg ADC.CTRL_EN 0).set pg ADC.STAT_READY 0).incBy pg ADC.TRGCNT_DISC n
    d.modAdc c fun a =>
      { a with cur := if sampling then a.cur.map (fun j => { j with fin := true }) else none,
               back := [], pend := none, uwait := none }

/-- ADC_SLOT_WRITE (R331). -/
def Dev.adcSlotWrite (d : Dev) (c s v : Nat) : Dev :=
  let d := d.adcSync c
  let v := if d.feat (pADC c) 0 then v else v - bitsOf v 28 2 * 2 ^ 28
  if !d.adcIdle c || decide (24 ≤ (ADC.SLOT_INPUT s).pick v) || decide (8 < (ADC.SLOT_AVG s).pick v) ||
    (ADC.SLOT_OW s).pick v == 3 then d.err (pADC c) ADC.E_CFG_REJ
  else d.writeWord (pADC c) (0x100 + 4 * s) v

/-- ADC_RINGCFG_WRITE (R342). -/
def Dev.adcRingcfg (d : Dev) (c v : Nat) : Dev :=
  let pg := pADC c
  let size := ADC.RINGCFG_SIZE.pick v
  let base := d.get pg ADC.RINGBASE * 64
  let was := d.on pg ADC.RINGCFG_EN
  if decide (10 < size) || (was && size != d.get pg ADC.RINGCFG_SIZE) ||
    decide (base < 0x20000000) || decide (0x20400000 < base + 64 * 2 ^ size) then d.err pg ADC.E_CFG_REJ
  else
    let d := d.writeWord pg 0x058 v
    if !was && d.on pg ADC.RINGCFG_EN then (d.set pg ADC.RINGWR 0).set pg ADC.RINGRD 0 else d

/-- ADC_RINGRD_WRITE (R342, R346). -/
def Dev.adcRingrd (d : Dev) (c v : Nat) : Dev :=
  let r := ADC.RINGRD.pick v
  if r % 8 ≠ 0 ∨ d.ringSize c ≤ r then d.err (pADC c) ADC.E_CFG_REJ else d.set (pADC c) ADC.RINGRD r

/-- ADC_CNTCLR (R346). -/
def Dev.adcCntclr (d : Dev) (c : Nat) : Dev :=
  let pg := pADC c
  [ADC.TRGCNT_DISC, ADC.TRGCNT_ABORT, ADC.TRGCNT_MERGE, ADC.OVFCNT_TRIGOVR, ADC.OVFCNT_RINGOVF].foldl
    (fun d F => d.clearCnt pg F) d

/-- ADC_SWTRIG (R332). -/
def Dev.adcSwtrig (d : Dev) (c slot : Nat) : Dev := d.adcTrigger c 3 slot d.tickAt

/-- Writes of ADC registers (R331, R342, R346, R347). -/
def Dev.adcWrite (d : Dev) (c off v : Nat) : Dev :=
  let pg := pADC c
  let d := d.adcSync c
  if off = 0x010 then d.adcEnable c v
  else if off = 0x040 then d.adcRefen c v
  else if off = 0x048 ∨ off = 0x04C then
    let k := (off - 0x048) / 4
    if (ADC.PTRG_EV k).pick v = 3 then d.err pg ADC.E_CFG_REJ
    else if d.on pg (ADC.PTRG_EN k) then d.writeWord pg off v
    else (d.writeWord pg off v).modAdc c fun a => { a with pcnt := modNth a.pcnt k fun _ => 0 }
  else if off = 0x044 then
    let w := d.anchWord c d.tickAt
    ((d.writeWord pg off v).modAdc c fun a => { a with anch := w, anchAt := d.ticks }).urgWake c
  else if off = 0x050 then (if d.feat pg 0 then d.writeWord pg off v else d)
  else if off = 0x054 then
    let base := bitsOf v 6 26 * 64
    if d.on pg ADC.RINGCFG_EN || decide (base < 0x20000000) || decide (0x20400000 < base + d.ringSize c)
    then d.err pg ADC.E_CFG_REJ else d.writeWord pg off v
  else if off = 0x058 then d.adcRingcfg c v
  else if off = 0x060 then (if c = 0 ∧ d.isCell then d.writeWord pg off v else d)
  else if 0x100 ≤ off ∧ off < 0x180 then d.adcSlotWrite c ((off - 0x100) / 4) v
  else if 0x200 ≤ off ∧ off < 0x380 ∧ off % 16 ≠ 12 then
    let i := (off - 0x200) / 16
    (d.writeWord pg off v).modAdc c fun a => { a with uncal := a.uncal - (if bitAt a.uncal i then 2 ^ i else 0) }
  else if off = 0x800 then (if bitAt v 31 then d.adcSwtrig c (bitsOf v 0 5) else d)
  else if off = 0x804 then (if bitAt v 31 then d.adcUrgent c v else d.writeWord pg off v)
  else if off = 0x814 then (if bitAt v 0 then d.adcCntclr c else d)
  else if off = 0x81C then d.adcRingrd c v
  else d.writeWord pg off v

/-- Load the working coefficients of a converter from CALSTORE (R346, R470). -/
def Dev.adcLoadCal (d : Dev) (c : Nat) : Dev :=
  let d := d.adcSync c
  (List.range 24).foldl (fun d i =>
    let pg := pADC c
    let ws := calEntry d.calstore (24 * c + i)
    if calValid ws then
      let d := ((d.set pg (ADC.GAIN i) (calWord ws 1)).set pg (ADC.OFS i) (calWord ws 2)).writeWord pg (0x208 + 16 * i)
        (calWord ws 3)
      d.modAdc c fun a => { a with uncal := a.uncal - (if bitAt a.uncal i then 2 ^ i else 0) }
    else
      let d := ((d.set pg (ADC.GAIN i) 0x80000).set pg (ADC.OFS i) 0).writeWord pg (0x208 + 16 * i) 0
      (d.modAdc c fun a => { a with uncal := a.uncal ||| 2 ^ i }).err pg ADC.E_CAL_DEF) d

end Sys2Proof.Machine
end

