-- ==== Sys2Proof/Machine/Calib.lean ====
section
/-! DEFINITION. Calibration (chapter 21): writing, reloading, measuring and computing CALSTORE entries. -/

namespace Sys2Proof.Machine

/-- The quotient of two integers rounded to the nearest, a tie toward +∞. -/
def ratRound (n d : Int) : Int := if d < 0 then divRound (-n) (-d).toNat else divRound n d.toNat

/-- CALS may write the entry (R467). -/
def calWritable (e : Nat) : Bool := decide (e < 0x40) || (decide (0x5A ≤ e) && decide (e ≤ 0x5D))

/-- The reserved bits of data word `w` of an entry that CALS may write (R469). -/
def calReserved (e w : Nat) : Nat :=
  if e < 0x30 then (if w = 1 ∨ w = 2 then 0xFFF00000 else if w = 3 then 0 else 0xFFFFFFFF)
  else if e < 0x40 then (if w = 1 then 0 else if w = 2 ∨ w = 3 then 0xFFFF0000 else 0xFFFFFFFF)
  else (if w = 1 ∨ w = 2 then 0xFFFF0000 else 0xFFFFFFFF)

/-- The staging registers as data words 1 to 7. -/
def Dev.staged (d : Dev) : List Nat := (List.range 7).map fun w => d.get pCALS (CALS.STG w)

/-- Put data words into the staging registers. -/
def Dev.stageWords (d : Dev) (ws : List Nat) : Dev :=
  (List.range 7).foldl (fun d w => d.set pCALS (CALS.STG w) (ws.getD w 0)) d

/-- CALS records which entries are valid (R469). -/
def Dev.calMap (d : Dev) : Dev :=
  (List.range 4).foldl (fun d j =>
    d.set pCALS (CALS.VALIDMAP j) ((List.range 32).foldl (fun m b =>
      if calValid (calEntry d.calstore (32 * j + b)) then m + 2 ^ b else m) 0)) d

/-- Load entries into the copies that the blocks use (R470). -/
def Dev.calTake (d : Dev) (es : List Nat) : Dev :=
  { d with calUse := es.foldl (fun u e => calPut u e (calEntry d.calstore e)) d.calUse }

/-- Load the entries of THRM: the sensors. -/
def Dev.thrmLoadCal (d : Dev) : Dev := d.calTake [0x5A, 0x5B, 0x5C, 0x5D]

/-- Load the entry of the internal oscillator. -/
def Dev.oscLoadCal (d : Dev) : Dev := d.calTake [0x5E]

/-- CALS runs an operation. -/
def Dev.calsBusy (d : Dev) : Bool := d.on pCALS CALS.STAT_BUSY

def Dev.calsOp (d : Dev) (op : Nat) : Dev := (d.set pCALS CALS.STAT_BUSY 1).set pCALS CALS.STAT_OP op
def Dev.calsIdle (d : Dev) : Dev := { (d.set pCALS CALS.STAT_BUSY 0).set pCALS CALS.STAT_OP 0 with calBusy := none }

/-- A command completes: BUSY clears and DONE is raised. -/
def Dev.calsDone (d : Dev) : Dev := d.calsIdle.irq pCALS CALS.I_DONE

/-- A command is refused: CALS is busy, or more than one command bit is written (R478). -/
def Dev.calsCmd (d : Dev) (op : Dev → Dev) : Dev := if d.calsBusy then d.err pCALS CALS.E_CFG_REJ else op d

/-- CALS_WRITE (R471, R472). -/
def Dev.calsWrite (d : Dev) (key : Nat) : Dev :=
  let e := d.get pCALS CALS.STGENT_ENTRY
  let old := calEntry d.calstore e
  let wcnt := bitsOf (old.headD 0) 16 10
  let bad := (List.range 7).any fun w => d.get pCALS (CALS.STG w) &&& calReserved e (w + 1) != 0
  if key != 0x5E7C || d.calsBusy || !calWritable e || decide (1000 ≤ wcnt) || bad || d.locked pCALS ||
    !d.on pTHRM THRM.TDIE_TVALID || decide (d.tDie < 0) || decide (85 * 16 < d.tDie) then d.err pCALS CALS.E_CFG_REJ
  else
    let data := d.staged
    let words := (2 ^ 31 + 2 ^ 30 + (wcnt + 1) * 2 ^ 16 + calChk data) :: data
    { d.calsOp 1 with calBusy := some (e, words), calstore := calPut d.calstore e [0, 0, 0, 0, 0, 0, 0, 0] }

/-- The words of an entry whose read-back differs: invalid, and otherwise unknown (R471). -/
def Dev.calGarbage (d : Dev) : List Nat × Dev :=
  ((List.range 8).map fun i => Config.freeNat (d.fresh + i) % (if i = 0 then 2 ^ 31 else 2 ^ 32),
   { d with fresh := d.fresh + 8 })

/-- An urgent request of CALS: channel 16 stands for none (R474). -/
def calsUrg (j : AdcJob) : Bool := j.urg.any fun u => u.2.2 == 16

/-- A converter takes the samples of a request that CALS has given up, and its result goes nowhere (R474; DESIGN CHOICE, entry 31). -/
def Dev.calsGiveUp (d : Dev) (c : Nat) : Dev :=
  let drop (u : Nat × Nat × Nat) : Nat × Nat × Nat := if u.2.2 = 16 then (u.1, u.2.1, 17) else u
  let d := d.adcSync c
  d.modAdc c fun a =>
    { a with cur := a.cur.map fun j => { j with urg := j.urg.map drop }
             uwait := a.uwait.map drop
             flight := a.flight.filter fun j => !calsUrg j }

/-- The registers of CALS return to their reset values (R472), which ends a measurement in progress; VALIDMAP shows the store. -/
def Dev.calsPageReset (d : Dev) : Dev :=
  let d := (d.calsGiveUp 0).calsGiveUp 1
  { d with regs := rfDrop d.regs pCALS, calBusy := none, calPt := [none, none] }.calMap

/-- CALS_WRITE_DONE (R471): the entry is read back, equal or not. -/
def Dev.calsWriteDone (d : Dev) (same : Bool) : Dev :=
  match d.calBusy with
  | some (e, words) =>
    if d.get pCALS CALS.STAT_OP = 1 then
      let d := if same then { d with calstore := calPut d.calstore e words }
        else
          let (ws, d) := d.calGarbage
          { d with calstore := calPut d.calstore e ws }.err pCALS CALS.E_WR_FAIL
      if d.inBlk.contains pCALS then d.calsPageReset else d.calMap.calsDone
    else d
  | none => d

/-- CALS_RELOAD (R470). -/
def Dev.calsReload (d : Dev) (mask : Nat) : Dev :=
  d.calsCmd fun d =>
    let d := if bitAt mask 0 then d.adcLoadCal 0 else d
    let d := if bitAt mask 1 then d.adcLoadCal 1 else d
    let d := if bitAt mask 2 then d.sqLoadCal else d
    let d := if bitAt mask 3 then d.thrmLoadCal else d
    (if bitAt mask 4 then d.oscLoadCal else d).irq pCALS CALS.I_DONE

/-- Start a measurement on an entry: its stored words are copied to the staging registers, which are kept to be put
back where the measurement fails. -/
def Dev.calsMeasure (d : Dev) (op e : Nat) (copy : Bool) : Dev :=
  let old := d.get pCALS CALS.STGENT_ENTRY :: d.staged
  let d := { d.calsOp op with calBusy := some (e, old) }
  if copy then (d.set pCALS CALS.STGENT_ENTRY e).stageWords (calEntry d.calstore e).tail else d

/-- The measurement of a Squall channel is over: a function or a binding written meanwhile starts, and the routes act again
(R319, R475). -/
def Dev.sqFreed (d0 d : Dev) : Dev :=
  ((List.range 16).foldl (fun d q => if d0.sqMeasured q && d.sqPowered q then d.sqStart q else d) d).routeSync

/-- A measurement fails: MEAS_FAIL is set and the staging registers are as they were. -/
def Dev.calsFail (d : Dev) : Dev :=
  let d := match d.calBusy with
    | some (_, old) => (d.set pCALS CALS.STGENT_ENTRY (old.headD 0)).stageWords old.tail
    | none => d
  (d.err pCALS CALS.E_MEAS_FAIL).calsDone

/-- The converter and the input of ACFG (R477). -/
def Dev.acfgAdc (d : Dev) : Nat := d.get pCALS CALS.ACFG_ADC
def Dev.acfgInput (d : Dev) : Nat := d.get pCALS CALS.ACFG_INPUT

/-- CALS_APT1 (`k` = 0) and CALS_APT2 (`k` = 1): an urgent request whose result goes to no channel (R474). Channel 16
stands for none. -/
def Dev.calsApt (d : Dev) (k : Nat) : Dev :=
  d.calsCmd fun d =>
    let c := d.acfgAdc
    let i := d.acfgInput
    let avg := d.get pCALS CALS.ACFG_AVG
    let d := d.adcSync c
    if decide (24 ≤ i) || decide (8 < avg) || !d.on (pADC c) ADC.CTRL_EN || !d.adcReady c || d.urgBusy c then
      (d.err pCALS CALS.E_MEAS_FAIL).irq pCALS CALS.I_DONE
    else (d.calsMeasure (3 + k) (24 * c + i) true).urgPlace c (i, avg, 16)

/-- CALS_POINT_DONE (R474): the raw codes of the point; a request that the converter has discarded fails. -/
def Dev.calsPointDone (d : Dev) (codes : List Int) : Dev :=
  let c := d.acfgAdc
  let i := d.acfgInput
  let op := d.get pCALS CALS.STAT_OP
  if op ≠ 3 ∧ op ≠ 4 then d
  else
    let d := d.adcSync c
    let a := d.adcOf c
    if a.flight.any calsUrg then
      if a.flight.any fun j => calsUrg j && !d.codesReady c j codes then d
      else
        let d := d.modAdc c fun a => { a with flight := a.flight.filter fun x => !calsUrg x }
        if codes.any fun x => decide (x ≤ codeLo i) || decide (codeHi i ≤ x) then d.calsFail
        else
          let m := adcMean codes
          let k := op - 3
          let t := ofSigned d.tDie 16
          let d := { d with calPt := (if k = 0 then [some (m, d.tDie), d.calPt.getD 1 none]
                                      else [d.calPt.getD 0 none, some (m, d.tDie)]) }
          let d := d.set pCALS (CALS.RES k) (ofSigned m 24)
          (d.set pCALS (if k = 0 then CALS.RTEMP_T1 else CALS.RTEMP_T2) t).calsDone
    else if (a.cur.any calsUrg) || (a.uwait.any fun u => u.2.2 == 16) then d
    else d.calsFail

/-- A result code in the format of a configuration (R325). -/
def codeOf (i v : Nat) : Int := if i < 16 then (v : Int) else toSigned v 16

/-- CALS_ACOMP (R474). -/
def Dev.calsAcomp (d : Dev) : Dev :=
  d.calsCmd fun d =>
    let fail := (d.err pCALS CALS.E_MEAS_FAIL).irq pCALS CALS.I_DONE
    match d.calPt.getD 0 none, d.calPt.getD 1 none with
    | some (m1, t1), some (m2, t2) =>
      let i := d.acfgInput
      let s := codeOf i (d.get pCALS CALS.ATGT_S)
      let z := codeOf i (d.get pCALS CALS.ATGT_Z)
      let w3 := d.get pCALS (CALS.STG 2)
      let f : Int := 3200000000 + toSigned (bitsOf w3 16 16) 16 * (t1 + t2 - 2 * toSigned w3 16)
      let den := (m2 - m1) * f
      if decide (16 < (t1 - t2).natAbs) || m1 == m2 || den == 0 || s == z then fail
      else
        let gain := ratRound (2 ^ 20 * ((s - z) * 16 * 3200000000 * 2 - den)) (2 * den)
        let ofs := ratRound (m1 * (s - z) - z * (m2 - m1)) (s - z)
        if gain < 0 ∨ 2 ^ 20 ≤ gain ∨ ofs < -(2 ^ 19) ∨ 2 ^ 19 ≤ ofs then fail
        else ((d.set pCALS (CALS.STG 0) gain.toNat).set pCALS (CALS.STG 1) (ofSigned ofs 20)).irq pCALS CALS.I_DONE
    | _, _ => fail

/-- CALS_SQMEAS (R475). -/
def Dev.calsSqmeas (d : Dev) : Dev :=
  d.calsCmd fun d =>
    let q := d.get pCALS CALS.SCFG_CH
    if d.on pSQL (SQL.SQCFG_FUNC q) || d.legsc q then d.err pCALS CALS.E_CFG_REJ
    else d.calsMeasure 6 (0x30 + q) (d.get pCALS CALS.STGENT_ENTRY != 0x30 + q)

/-- CALS_SQMEAS_DONE (R475): the comparison changes at quarter-step level `lvl`. -/
def Dev.calsSqmeasDone (d : Dev) (lvl : Nat) : Dev :=
  if d.get pCALS CALS.STAT_OP ≠ 6 then d
  else
    let m := d.get pCALS CALS.SCFG_MODE
    let tc := toSigned (d.get pCALS (CALS.STG 1)) 16
    let tcal := toSigned (d.get pCALS (CALS.STG 2)) 16
    let o := divRound (4096 * ((lvl : Int) - d.get pCALS CALS.SCFG_VKQ) - tc * (d.tDie - tcal)) 4096
    d.sqFreed <|
    if o < -128 ∨ 127 < o then d.calsFail
    else
      let w := d.get pCALS (CALS.STG 0)
      (d.set pCALS (CALS.STG 0) (w - bitsOf w (8 * m) 8 * 2 ^ (8 * m) + ofSigned o 8 * 2 ^ (8 * m))).calsDone

/-- CALS_TSMEAS (R476). -/
def Dev.calsTsmeas (d : Dev) : Dev :=
  d.calsCmd fun d =>
    let n := d.get pCALS CALS.TREF_SENS
    if 4 ≤ n then (d.err pCALS CALS.E_MEAS_FAIL).irq pCALS CALS.I_DONE else d.calsMeasure 7 (0x5A + n) true

/-- CALS_TSMEAS_DONE (R476): `sum` is the sum of the 16 readings in 1/16 °C. -/
def Dev.calsTsmeasDone (d : Dev) (sum : Int) : Dev :=
  if d.get pCALS CALS.STAT_OP ≠ 7 then d
  else
    let diff := 16 * toSigned (d.get pCALS CALS.TREF_TREF) 16 - sum
    if 8 * 16 * 16 < diff.natAbs then d.calsFail
    else
      let tofs := toSigned (d.get pCALS (CALS.STG 0)) 16
      (d.set pCALS (CALS.STG 0) (ofSigned (tofs + divRound diff 16) 16)).calsDone

/-- Writes of CALS registers (R477, R478). -/
def Dev.calsWriteReg (d : Dev) (off v : Nat) : Dev :=
  if off = 0x800 then
    let bits := (List.range 7).filter fun k => bitAt v (25 + k)
    match bits with
    | [] => d
    | [b] =>
      if b = 6 then d.calsWrite (bitsOf v 0 16)
      else if b = 5 then d.calsReload (bitsOf v 16 5)
      else if b = 4 then d.calsApt 0
      else if b = 3 then d.calsApt 1
      else if b = 2 then d.calsAcomp
      else if b = 1 then d.calsSqmeas
      else d.calsTsmeas
    | _ => d.err pCALS CALS.E_CFG_REJ
  else if 0x040 ≤ off ∧ off ≤ 0x06C ∧ d.calsBusy then d.err pCALS CALS.E_CFG_REJ
  else d.writeWord pCALS off v

end Sys2Proof.Machine
end

