-- ==== Sys2Proof/Machine/Float.lean ====
section
/-! DEFINITION. IEEE 754 binary32 on 32-bit codes held as natural numbers: exact operations rounded once to the nearest,
a tie to even (R264, R349). NaN results are the quiet NaN 0x7FC00000. -/

namespace Sys2Proof.Machine

/-- What a code stands for: NaN, an infinity, or (−1)^neg · m · 2^e. -/
inductive FVal where
  | nan
  | inf (neg : Bool)
  | fin (neg : Bool) (m : Nat) (e : Int)
  deriving DecidableEq, Repr

def fNaN : Nat := 0x7FC00000
def fInf (neg : Bool) : Nat := if neg then 0xFF800000 else 0x7F800000
def fZero (neg : Bool) : Nat := if neg then 0x80000000 else 0

/-- The value of a code. -/
def fDec (c : Nat) : FVal :=
  let neg := bitAt c 31
  let ex := bitsOf c 23 8
  let fr := bitsOf c 0 23
  if ex = 255 then (if fr = 0 then .inf neg else .nan)
  else if ex = 0 then .fin neg fr (-149)
  else .fin neg (fr + 2 ^ 23) ((ex : Int) - 150)

/-- The code nearest to (−1)^neg · m · 2^e, a tie to even; `sticky` says that a non-zero part below m was cut off. -/
def fRound (neg : Bool) (m : Nat) (e : Int) (sticky : Bool) : Nat :=
  if m = 0 then fZero neg
  else
    let top := e + (Nat.log2 m : Int)
    let q := if top - 23 < -149 then -149 else top - 23
    let mant :=
      if q ≤ e then m * 2 ^ (e - q).toNat
      else
        let sh := (q - e).toNat
        let keep := m / 2 ^ sh
        let rem := m % 2 ^ sh
        let half := 2 ^ (sh - 1)
        if rem < half then keep
        else if half < rem || sticky then keep + 1
        else keep + keep % 2
    let (mant, q) := if mant = 2 ^ 24 then (2 ^ 23, q + 1) else (mant, q)
    let sign := if neg then 2 ^ 31 else 0
    if mant < 2 ^ 23 then sign + mant
    else if 255 ≤ q + 150 then fInf neg
    else sign + (q + 150).toNat * 2 ^ 23 + (mant - 2 ^ 23)

/-- An integer times a power of two. -/
def fOfInt (x : Int) (e : Int) : Nat := fRound (decide (x < 0)) x.natAbs e false

/-- The quotient of an integer and a positive natural number. -/
def fOfRat (x : Int) (den : Nat) : Nat :=
  let n := x.natAbs * 2 ^ (64 + Nat.log2 den)
  fRound (decide (x < 0)) (n / den) (-(64 + Nat.log2 den : Nat)) (n % den != 0)

def fNeg (a : Nat) : Nat := if bitAt a 31 then a - 2 ^ 31 else a + 2 ^ 31
def fAbs (a : Nat) : Nat := a % 2 ^ 31
def fIsZero (a : Nat) : Bool := fAbs a == 0

def fIsNaN (a : Nat) : Bool := fDec a == .nan
/-- Neither NaN nor infinite. -/
def fFinite (a : Nat) : Bool := bitsOf a 23 8 != 255

def fAdd (a b : Nat) : Nat :=
  match fDec a, fDec b with
  | .nan, _ => fNaN
  | _, .nan => fNaN
  | .inf s, .inf t => if s = t then fInf s else fNaN
  | .inf s, _ => fInf s
  | _, .inf t => fInf t
  | .fin s m e, .fin t n f =>
    let g := if e ≤ f then e else f
    let x : Int := (if s then -1 else 1) * (m * 2 ^ (e - g).toNat : Nat)
    let y : Int := (if t then -1 else 1) * (n * 2 ^ (f - g).toNat : Nat)
    if x + y = 0 then fZero (s && t) else fOfInt (x + y) g

def fSub (a b : Nat) : Nat := fAdd a (fNeg b)

def fMul (a b : Nat) : Nat :=
  match fDec a, fDec b with
  | .nan, _ => fNaN
  | _, .nan => fNaN
  | .inf s, .inf t => fInf (s != t)
  | .inf s, .fin t n _ => if n = 0 then fNaN else fInf (s != t)
  | .fin s m _, .inf t => if m = 0 then fNaN else fInf (s != t)
  | .fin s m e, .fin t n f => fRound (s != t) (m * n) (e + f) false

def fDiv (a b : Nat) : Nat :=
  match fDec a, fDec b with
  | .nan, _ => fNaN
  | _, .nan => fNaN
  | .inf _, .inf _ => fNaN
  | .inf s, .fin t _ _ => fInf (s != t)
  | .fin s _ _, .inf t => fZero (s != t)
  | .fin s m e, .fin t n f =>
    if n = 0 then (if m = 0 then fNaN else fInf (s != t))
    else fRound (s != t) (m * 2 ^ 64 / n) (e - f - 64) (m * 2 ^ 64 % n != 0)

/-- One step of the integer square root, from the highest bit down. -/
def isqrtGo (n : Nat) : Nat → Nat → Nat
  | 0, r => r
  | k + 1, r => if (r + 2 ^ k) * (r + 2 ^ k) ≤ n then isqrtGo n k (r + 2 ^ k) else isqrtGo n k r

/-- The integer square root of a number below 2^200. -/
def isqrt (n : Nat) : Nat := isqrtGo n 100 0

def fSqrt (a : Nat) : Nat :=
  match fDec a with
  | .nan => fNaN
  | .inf s => if s then fNaN else fInf false
  | .fin s m e =>
    if m = 0 then fZero s
    else if s then fNaN
    else
      let (m, e) := if e % 2 = 0 then (m, e) else (2 * m, e - 1)
      let n := m * 2 ^ 80
      let r := isqrt n
      fRound false r ((e - 80) / 2) (r * r != n)

/-- The value as a fraction of 2^200: an integer x with value x / 2^200 (finite codes). -/
def fScaled (a : Nat) : Int :=
  match fDec a with
  | .fin s m e => (if s then -1 else 1) * (m * 2 ^ (e + 200).toNat : Nat)
  | _ => 0

/-- a < b for codes that are not NaN. -/
def fLt (a b : Nat) : Bool :=
  match fDec a, fDec b with
  | .nan, _ => false
  | _, .nan => false
  | .inf s, .inf t => s && !t
  | .inf s, _ => s
  | _, .inf t => !t
  | .fin .., .fin .. => decide (fScaled a < fScaled b)

def fLe (a b : Nat) : Bool := !fIsNaN a && !fIsNaN b && !fLt b a

/-- The order of the minimum and the maximum of IEEE 754, in which −0 lies below +0. -/
def fBelow (a b : Nat) : Bool := fLt a b || (fIsZero a && fIsZero b && bitAt a 31 && !bitAt b 31)

/-- The minimum and the maximum of IEEE 754-2019, which give NaN where an operand is NaN (DESIGN CHOICE, entry 26: the spec names no
edition). -/
def fMin (a b : Nat) : Nat := if fIsNaN a || fIsNaN b then fNaN else if fBelow b a then b else a
def fMax (a b : Nat) : Nat := if fIsNaN a || fIsNaN b then fNaN else if fBelow a b then b else a

/-- The code clamped to a range. -/
def fClamp (a lo hi : Nat) : Nat := if fLt a lo then lo else if fLt hi a then hi else a

/-- The nearest integer to a finite code, a tie toward +∞. -/
def fToInt (a : Nat) : Int := divRound200 (fScaled a)
where
  divRound200 (x : Int) : Int := (2 * x + 2 ^ 200) / (2 ^ 201 : Int)

/-- The nearest integer to a code that is not NaN, clamped to 0 … hi; an infinity clamps too. -/
def fClampNat (a hi : Nat) : Nat :=
  match fDec a with
  | .inf neg => if neg then 0 else hi
  | _ => if fToInt a < 0 then 0 else min (fToInt a).toNat hi

def fOne : Nat := 0x3F800000
def fMinusOne : Nat := 0xBF800000

end Sys2Proof.Machine
end

