-- ==== Sys2Proof/Machine/Pwm.lean ====
section
/-! DEFINITION. The PWM units, HK and PWMC (chapter 12). Instants are in 2^-16 ns of TIME; 62.5 ps is 4,096 of them. -/

namespace Sys2Proof.Machine

/-! ### A unit's settings -/

/-- FINE_EDGE and INTERP_REF are accepted (R118). -/
def Dev.fineEdge (d : Dev) (m : Nat) : Bool := d.feat (pPWMU m) 1
def Dev.interpRef (d : Dev) (m : Nat) : Bool := m != 6 && d.feat (pPWMU m) 0

/-- A length in 62.5 ps as it acts: without FINE_EDGE bits 5:0 act as zero (R261). -/
def Dev.fx (d : Dev) (m v : Nat) : Nat := if d.fineEdge m then v else v / 64 * 64

/-- A length in force, as it acts. -/
def Dev.pwmLen (d : Dev) (m : Nat) (F : Fld) : Nat := d.fx m (d.inForce (pPWMU m) F)

/-- MINPW below 128 units acts as 128 (R269). -/
def Dev.minpw (d : Dev) (m : Nat) : Nat := max 128 (d.pwmLen m PWMU.MINPW)

/-- Dead times; HK has none (R259). -/
def Dev.dta (d : Dev) (m : Nat) : Nat := if m = 6 then 0 else d.pwmLen m PWMU.DTA
def Dev.dtb (d : Dev) (m : Nat) : Nat := if m = 6 then 0 else d.pwmLen m PWMU.DTB

def Dev.pwmMode (d : Dev) (m : Nat) : Nat := d.get (pPWMU m) PWMU.CFG_MODE

/-- The signed accumulator ACC (R270). -/
def Dev.accOf (d : Dev) (m : Nat) : Int := toSigned (d.get (pPWMU m) PWMU.ACC) 32
def Dev.setAcc (d : Dev) (m : Nat) (x : Int) : Dev := d.set (pPWMU m) PWMU.ACC (ofSigned x 32)

/-- Place an instant on the 62.5 ps grid, or on the tick without FINE_EDGE or while the output's line is in tick
placement; a tie takes the later point (R260, R277). -/
def Dev.place (d : Dev) (m line t : Nat) : Nat :=
  if d.fineEdge m && !d.bit pPWMC PWMC.DLSTAT_FB line then roundUpTie t fine16 else roundUpTie t tick16

/-! ### Placed edges -/

/-- An instant comes before another, across the wrap of SEC (R123). -/
def sooner (a b : Nat) : Bool := decide (0 < since a b)

/-- An instant lies in the present tick, or before it. -/
def Dev.due (d : Dev) (t : Nat) : Bool := sooner t (d.now16 + tick16)

/-- Insert an output edge in time order. -/
def edgeIn (l : List PwmEdge) (x : PwmEdge) : List PwmEdge :=
  match l with
  | [] => [x]
  | y :: t => if sooner x.at_ y.at_ then x :: y :: t else y :: edgeIn t x

/-- S rises at an instant: B falls with it, and A rises DTA later (R268). A pending rise of B that is not earlier is
not made. -/
def Dev.sRise (d : Dev) (m t : Nat) : Dev :=
  let tB := d.place m (2 * m + 1) t
  let tA := d.place m (2 * m) (t + d.dta m * fine16)
  d.modUnit m fun u =>
    let es := u.edges.filter fun e => !(e.outB && e.hi && !sooner e.at_ tB)
    let es := if m = 6 then es else edgeIn es ⟨tB, true, false⟩
    { u with edges := edgeIn es ⟨tA, false, true⟩ }

/-- S falls at an instant: A falls with it, and B rises DTB later (R268). -/
def Dev.sFall (d : Dev) (m t : Nat) : Dev :=
  let tA := d.place m (2 * m) t
  let tB := d.place m (2 * m + 1) (t + d.dtb m * fine16)
  d.modUnit m fun u =>
    let es := u.edges.filter fun e => !(!e.outB && e.hi && !sooner e.at_ tA)
    let es := edgeIn es ⟨tA, false, false⟩
    { u with edges := if m = 6 then es else edgeIn es ⟨tB, true, true⟩ }

/-- An edge of S at an instant becomes edges of the outputs, with the dead times then in force. -/
def Dev.sEdge (d : Dev) (m : Nat) (e : Nat × Bool) : Dev := if e.2 then d.sRise m e.1 else d.sFall m e.1

/-- The edges of S before an instant become edges of the outputs: a load after them does not change them (R268). -/
def Dev.sFlush (d : Dev) (m t : Nat) : Dev :=
  let due := (d.unit m).sEdges.filter fun e => sooner e.1 t
  (due.foldl (fun d e => d.sEdge m e) d).modUnit m fun u => { u with sEdges := u.sEdges.filter fun e => !sooner e.1 t }

/-- Place an edge of S. -/
def Dev.sPut (d : Dev) (m t : Nat) (hi : Bool) : Dev :=
  d.modUnit m fun u => { u with s := hi, sEdges := u.sEdges ++ [(t, hi)] }

/-- The pin HK_G follows output A of HK (R259), and stays low after an invalid strap combination (R45). -/
def Dev.hkPin (d : Dev) : Dev :=
  { d with pins := { d.pins with hkG := if (d.unit 6).outA && !d.on pSYSC SYSC.STRAP_INV then .high else .low } }

/-- Both outputs low at once; nothing placed remains (R275, R276, R278, R279). -/
def Dev.pwmLow (d : Dev) (m : Nat) : Dev :=
  let d := d.modUnit m fun u => { u with outA := false, outB := false, s := false, edges := [], sEdges := [] }
  if m = 6 then d.hkPin else (d.gateSeeOut m).gateFallAll

/-- The state of a unit after an enable (R278): waiting for a load, and in grid mode for the grid, which COT and CFT do not
use (R267). -/
def Dev.pwmArm (d : Dev) (m : Nat) : Dev :=
  let pg := pPWMU m
  let d := (d.pwmLow m).modUnit m fun u => { u with run := false, peak := false, cot := .idle, pol := false, carry := 0 }
  let d := (((d.setAcc m 0).set pg PWMU.STAT_RUNNING 0).set pg PWMU.STAT_TRANS 0).set pg PWMU.STAT_WAITLOAD 1
  d.set pg PWMU.STAT_WAITGRID (b2n (d.get pg PWMU.CFG_SYNC == 1 && decide (d.pwmMode m < 2) && !d.gridOn))

/-- PWM_ENABLE_WRITE (R278, R284). After a fatal event GATESAFE stays in force: no unit of the bridges is enabled (R376). -/
def Dev.pwmEnable (d : Dev) (m v : Nat) : Dev :=
  let pg := pPWMU m
  let en := PWMU.CTRL_EN.pick v != 0
  if en && !d.on pg PWMU.CTRL_EN && !(m != 6 && d.on pFCOL FCOL.STAT_FATAL) then
    let d := (((d.set pg PWMU.CTRL_EN 1).clearCnt pg PWMU.SPCNT_CARRYOVF).clearCnt pg PWMU.SPCNT_ABORT).clearCnt pg PWMU.SPCNT_SHORT
    d.pwmArm m
  else if !en && d.on pg PWMU.CTRL_EN then
    let d := (d.set pg PWMU.CTRL_EN 0).pwmLow m
    let d := d.modUnit m fun u => { u with run := false, peak := false, cot := .idle }
    (((d.set pg PWMU.STAT_RUNNING 0).set pg PWMU.STAT_TRANS 0).set pg PWMU.STAT_WAITLOAD 0).set pg PWMU.STAT_WAITGRID 0
  else d

/-! ### Duty and reference (R263, R264) -/

/-- A span of TIME in seconds, as binary32. -/
def fSeconds (x : Int) : Nat := if x < 0 then fNeg (fOfRat x.natAbs sec16) else fOfRat x.natAbs sec16

/-- r(t) = REF + SLP·(t − t_L) in binary32 before the clamp (R264), across the wrap of SEC (R123). -/
def Dev.refAt (d : Dev) (m t : Nat) : Nat :=
  let slp := if d.interpRef m then d.inForce (pPWMU m) PWMU.SLP else 0
  fAdd (d.inForce (pPWMU m) PWMU.REF) (fMul slp (fSeconds (since (d.unit m).tL t)))

/-- The reference at an apex, taken at its 62.5 ps position (R28), clamped to ±1 with REF_SAT, kept in REFNOW (R264). -/
def Dev.refSample (d : Dev) (m t : Nat) : Nat × Dev :=
  let r := d.refAt m (roundUpTie t fine16)
  let c := fClamp r fMinusOne fOne
  (c, (d.set (pPWMU m) PWMU.REFNOW c).errIf (c != r) (pPWMU m) PWMU.E_REF_SAT)

/-- L·(1 + ρ)/2 rounded to the nearest 62.5 ps, a tie taking the larger value (R263). -/
def dutyOf (len rho : Nat) : Nat :=
  (divRound ((len : Int) * (2 ^ 200 + fScaled rho)) (2 ^ 201)).toNat

/-- The requested D of a period of length `len` at an apex (R263); a DUTY above PER acts as PER, one above the length of a
transition period as that length (R273, R274). -/
def Dev.reqDuty (d : Dev) (m t len : Nat) : Nat × Dev :=
  if d.on (pPWMU m) PWMU.CFG_REFSRC then
    let (r, d) := d.refSample m t
    (dutyOf len (if d.on (pPWMU m) PWMU.CFG_RNEG then fNeg r else r), d)
  else (min len (min (d.pwmLen m PWMU.PER) (d.pwmLen m PWMU.DUTY)), d)

/-- Keep ACC within its bound; the excess is discarded and counted (R270). -/
def Dev.accBound (d : Dev) (m : Nat) (x : Int) : Dev :=
  let b : Int := 2 * (max (d.dta m) (d.dtb m) + d.minpw m : Nat)
  if x < -b ∨ b < x then
    ((d.setAcc m (clampI x (-b) b)).inc (pPWMU m) PWMU.SPCNT_CARRYOVF).err (pPWMU m) PWMU.E_CARRY_OVF
  else d.setAcc m x

/-- The D of a valley after the carry and the short-pulse policy (R269, R270): D, and whether a policy acted. -/
def Dev.valleyDuty (d : Dev) (m t len : Nat) : Nat × Bool × Dev :=
  let pg := pPWMU m
  let spp := d.get pg PWMU.CFG_SPP
  let (req, d) := d.reqDuty m t len
  let carry := if spp = 0 then d.accOf m else 0
  let x : Int := req + carry
  let dv := (clampI x 0 len).toNat
  let keep : Int := x - dv
  let d := d.modUnit m fun u => { u with carry := carry }
  let mp := d.minpw m
  let shortA := decide (0 < dv) && decide (dv < d.dta m + mp)
  let shortB := decide (dv < len) && decide (len - dv < d.dtb m + mp)
  if shortA || shortB then
    let d := (d.inc pg PWMU.SPCNT_SHORT).irq pg PWMU.I_SHORT
    if spp = 0 then
      if shortA then (0, true, d.accBound m (keep + dv))
      else (len, true, d.accBound m (keep - (len - dv : Nat)))
    else if spp = 1 then (if shortA then 0 else len, true, d)
    else (if shortA then min len (d.dta m + mp) else len - min len (d.dtb m + mp), true, d)
  else (dv, false, if spp = 0 then d.accBound m keep else d)

/-! ### Apexes (R260, R262, R273) -/

/-- PHASE·Tc/2^24 rounded to whole 62.5 ps, a tie taking the larger value, in 2^-16 ns (R260). -/
def phaseOfs (ph tc : Nat) : Nat := (ph * tc * 2 + 2 ^ 24) / 2 ^ 25 * fine16

/-- The first valley of a grid at or after an instant: origin, period in 62.5 ps, phase. Valleys exist for every integer
n. -/
def valleyFrom (g tc ph t : Nat) : Nat :=
  let p := tc * fine16
  t + (p - placeIn (g + phaseOfs ph tc) p t) % p

/-- Origin of the grid of a unit (R260): VANE.GT0 in cell role, STRD.T0 in hub role. -/
def Dev.pwmOrg (d : Dev) (m : Nat) : Nat :=
  if d.get (pPWMU m) PWMU.CFG_SYNC = 1 then
    (if d.isCell then d.gridT0 else tripOf (d.get pSTRD STRD.T0NS) (d.get pSTRD STRD.T0SL) (d.get pSTRD STRD.T0SH_FRAC)
      (d.get pSTRD STRD.T0SH_SECH))
  else (d.unit m).org

/-- The unit computes edges: enabled, loaded, its grid runs, no hold-off (R278, R279). -/
def Dev.pwmLive (d : Dev) (m : Nat) : Bool :=
  d.on (pPWMU m) PWMU.CTRL_EN && !d.on (pPWMU m) PWMU.STAT_WAITLOAD && !d.on (pPWMU m) PWMU.STAT_WAITGRID &&
  (m == 6 || !d.holdOff)

/-- The next apex of a unit in a carrier mode: its instant, and whether it is a peak. -/
def Dev.nextApex (d : Dev) (m : Nat) : Nat × Bool :=
  let u := d.unit m
  if u.run then (if u.peak then ((u.vs + u.len / 2) % wrap16, true) else ((u.vs + u.len) % wrap16, false))
  else (valleyFrom (d.pwmOrg m) (d.pwmLen m PWMU.PER) (d.inForce (pPWMU m) PWMU.PHASE) u.ready % wrap16, false)

/-- S rises or falls unless DAB blocking holds the outputs low (R275); `first` is the start of a unit's first period, whose
low S lets B rise as after a fall (R262). -/
def Dev.sRiseIf (d : Dev) (m t : Nat) : Dev :=
  if d.on (pPWMU m) PWMU.STAT_DABBLK || (d.unit m).s then d else d.sPut m t true
def Dev.sFallIf (d : Dev) (m t : Nat) (first : Bool) : Dev :=
  if (d.unit m).s || (first && !d.on (pPWMU m) PWMU.STAT_DABBLK) then d.sPut m t false else d

/-- The instant of the next commit of this device's grid (R17): of an apex at or after it, the commit comes first (R21). -/
def Dev.commitWaits (d : Dev) (t : Nat) : Bool :=
  let k := if d.isCell then d.vn.idx else d.hub.idx
  (if d.isCell then d.gridOn else d.hub.grid) &&
    notAfter ((d.gridT0 + k * d.gridTsf) % wrap16) t

/-- A valley: the period starts, D is sampled, and the edges of S that it sets are placed (R262, R269, R273). -/
def Dev.pwmValley (d : Dev) (m t : Nat) : Dev :=
  let pg := pPWMU m
  let u := d.unit m
  let per := d.pwmLen m PWMU.PER
  let ph := d.inForce pg PWMU.PHASE
  let org := d.pwmOrg m
  let trans := u.run && !(u.gper == per && u.gph == ph && u.gorg == org)
  let len16 := if trans then valleyFrom org per ph (t + per * fine16 / 2) - t else per * fine16
  let upDown := d.pwmMode m == 0
  let first := !u.run || u.dabEnd
  let d := if u.dabEnd then
      (d.set pg PWMU.STAT_DABBLK 0).modUnit m fun u => { u with dabEnd := false }
    else d
  let d := d.modUnit m fun u =>
    { u with run := true, vs := t, len := len16, peak := upDown, gper := per, gph := ph, gorg := org, tick0 := d.ticks }
  let d := ((d.set pg PWMU.STAT_TRANS (b2n trans)).set pg PWMU.STAT_RUNNING (b2n (!d.on pg PWMU.STAT_DABBLK))).irq pg PWMU.I_PSTART
  let len := len16 / fine16
  let (dv, pol, d) := d.valleyDuty m t len
  let d := d.modUnit m fun u => { u with dv := dv, pol := pol }
  let d :=
    if dv = 0 then d.sFallIf m t first
    else if dv = len then d.sRiseIf m t
    else if upDown then (d.sFallIf m t first).sRiseIf m (t + (len - dv) * (fine16 / 2))
    else (d.sRiseIf m t).sFallIf m (t + dv * fine16) false
  (d.sqPeriod m).adcPwmEvent m (d.place m (2 * m) t) false

/-- A peak in up-down mode: D_p is sampled and sets the falling edge (R262, R270); where a policy acted at the valley its D serves,
and the reference is sampled all the same (R264). -/
def Dev.pwmPeak (d : Dev) (m t : Nat) : Dev :=
  let u := d.unit m
  let len := u.len / fine16
  let d := d.modUnit m fun u => { u with peak := false }
  let (dp, d) :=
    if u.pol then (u.dv, (d.reqDuty m t len).2)
    else
      let (req, d) := d.reqDuty m t len
      let x : Int := req + u.carry
      let dp := (clampI x 0 len).toNat
      (dp, if d.get (pPWMU m) PWMU.CFG_SPP = 0 then d.accBound m (d.accOf m + (x - dp)) else d)
  let d :=
    if dp = 0 then d.sFallIf m t false
    else
      let d := d.sRiseIf m t
      if dp = len then d else d.sFallIf m (t + dp * (fine16 / 2)) false
  d.adcPwmEvent m (d.place m (2 * m) t) true

/-- PWM_APEX (R262): the unit's next valley or peak lies in the present tick, or before it, and no commit that comes before
it is still to be applied (R21). -/
def Dev.pwmApex (d : Dev) (m : Nat) : Dev :=
  if !d.pwmLive m || 2 ≤ d.pwmMode m then d
  else
    let (t, peak) := d.nextApex m
    if !d.due t ∨ d.commitWaits t then d
    else if peak then d.pwmPeak m t else d.pwmValley m t

/-- The outputs that a mode change of MOTR raises rise when their dead time is over (R406). -/
def Dev.legRaise (d : Dev) (m : Nat) : Dev :=
  if m < 3 ∨ 6 ≤ m then d
  else
    let due (x : Option Nat) : Option Nat := x.filter fun t => !d.due t
    let d := { d with motr := { d.motr with legs := modNth d.motr.legs (m - 3) fun l =>
      { l with upA := due l.upA, upB := due l.upB } } }
    d.gateSeeOut m

/-- PWM_EDGE (R268, R315): the unit's earliest placed edge lies in the present tick, or before it, and takes effect. -/
def Dev.pwmEdge (d : Dev) (m : Nat) : Dev :=
  let d := d.sFlush m (d.now16 + tick16)
  match (d.unit m).edges with
  | [] => d.legRaise m
  | e :: rest =>
    if !d.due e.at_ then d.legRaise m
    else
      let was := if e.outB then (d.unit m).outB else (d.unit m).outA
      let d := d.modUnit m fun u =>
        if e.outB then { u with outB := e.hi, edges := rest } else { u with outA := e.hi, edges := rest }
      if was = e.hi then d
      else
        let d := d.sqBlankOpen m (2 * b2n e.outB + b2n (!e.hi))
        if m = 6 then d.hkPin else d.gateSeeOut m

/-! ### COT and CFT (R265 to R267) -/

/-- TON, TOFF and TMAX as they act after R274 item 3. -/
def Dev.cotLens (d : Dev) (m : Nat) : Nat × Nat × Nat :=
  let mp := d.minpw m
  let ton := max mp (d.pwmLen m PWMU.TON)
  let toff := max mp (d.pwmLen m PWMU.TOFF)
  let tmax := d.pwmLen m PWMU.TMAX
  (if d.pwmMode m = 2 ∧ tmax < ton + toff then tmax - toff else ton, toff, tmax)

/-- A period starts: the values in force are taken into use and S rises (R265, R267). -/
def Dev.cotStart (d : Dev) (m t : Nat) : Dev :=
  let (ton, toff, tmax) := d.cotLens m
  let mp := d.minpw m
  let d := d.modUnit m fun u =>
    { u with run := true, vs := t, ready := t, cot := .on, ton := ton, toff := toff, tmax := tmax, mpw := mp,
             tick0 := d.ticks, tickP := d.ticks }
  let d := (d.set (pPWMU m) PWMU.STAT_RUNNING (b2n (!d.on (pPWMU m) PWMU.STAT_DABBLK))).irq (pPWMU m) PWMU.I_PSTART
  let d := (d.sRiseIf m t).sFlush m (t + 1)
  (d.sqPeriod m).adcPwmEvent m (d.place m (2 * m) t) false

/-- The on-phase ends at an instant. -/
def Dev.cotOff (d : Dev) (m t : Nat) : Dev := ((d.sFallIf m t false).sFlush m (t + 1)).modUnit m fun u =>
  { u with cot := .off, ready := t, tickP := d.ticks }

/-- The end of a timed phase: its computed instant, or the present one while TIME is held (R281). -/
def Dev.cotAt (d : Dev) (m len : Nat) : Nat :=
  if d.onSyna then (d.unit m).ready + len * fine16 else d.now16

/-- The fabric returns to SYNA: what HK's timers have counted of the period in progress on the bypass clock is behind it, each
cycle as 4 ns (R281). -/
def Dev.cotReturn (d : Dev) : Dev :=
  let back (t from_ : Nat) : Nat := (t + (wrap16 - (d.ticks - max from_ d.clk.bypAt) * tick16 % wrap16)) % wrap16
  d.modUnit 6 fun u => if u.cot = .idle then u else { u with ready := back u.ready u.tickP, vs := back u.vs u.tick0 }

/-- COT_CFT_TIMER (R265, R266): TON (0), TOFF (1) or TMAX (2) expires. -/
def Dev.cotTimer (d : Dev) (m which : Nat) : Dev :=
  let u := d.unit m
  let pg := pPWMU m
  if !d.pwmLive m || d.pwmMode m < 2 then d
  else if which = 0 ∧ u.cot = .on then
    (d.errIf (d.pwmMode m == 3 && d.on pg PWMU.EVCFG_ENDEN) pg PWMU.E_EVT_TIMEOUT).cotOff m (d.cotAt m u.ton)
  else if which = 1 ∧ u.cot = .off then
    if d.pwmMode m = 2 ∧ d.on pg PWMU.EVCFG_STARTEN then d.modUnit m fun u => { u with cot := .wait }
    else d.cotStart m (d.cotAt m u.toff)
  else if which = 2 ∧ u.cot = .wait ∧ d.pwmMode m = 2 then
    (d.err pg PWMU.E_EVT_TIMEOUT).cotStart m (if d.onSyna then u.vs + u.tmax * fine16 else d.now16)
  else d

/-- PWM_EVENT (R265 to R267): the START or END channel of a unit has changed to its active level; `elapsed` is the time
since the on-phase began, in 62.5 ps. The edge lies on a tick. -/
def Dev.pwmEvent (d : Dev) (m : Nat) (isEnd : Bool) (elapsed : Nat) : Dev :=
  let u := d.unit m
  let pg := pPWMU m
  let t := d.now16 / tick16 * tick16
  let sq := if m = 6 then (if isEnd then 15 else 14)
    else d.get pg (if isEnd then PWMU.EVCFG_ENDSQ else PWMU.EVCFG_STARTSQ)
  if !d.pwmLive m || d.pwmMode m < 2 || !d.sqOut sq then d
  else if isEnd then
    if !d.on pg PWMU.EVCFG_ENDEN || u.cot != .on then d
    else if d.pwmMode m = 2 then (d.inc pg PWMU.SPCNT_ABORT).cotOff m t
    else if u.mpw ≤ elapsed then d.cotOff m t else d
  else if d.pwmMode m = 2 ∧ d.on pg PWMU.EVCFG_STARTEN ∧ u.cot = .wait then d.cotStart m t
  else d

/-! ### Loads (R271 to R274) -/

/-- R274 item 1: in the carrier modes the PER to be loaded must hold 16 ticks and both dead times and pulses. -/
def Dev.loadRefused (d : Dev) (m : Nat) : Bool :=
  let pg := pPWMU m
  let per := d.fx m (d.shadow pg PWMU.PER)
  decide (d.pwmMode m < 2) &&
  (decide (per < 1024) || decide (per < d.fx m (d.shadow pg PWMU.DTA) + d.fx m (d.shadow pg PWMU.DTB) +
    2 * max 128 (d.fx m (d.shadow pg PWMU.MINPW))))

/-- A load of one unit at an instant; a commit load stores its index (R271, R274). -/
def Dev.pwmLoad (d : Dev) (m t : Nat) (idx : Option Nat) : Dev :=
  if d.loadedT.contains m then d
  else
    let pg := pPWMU m
    let d := { d.sFlush m (t + 1) with loadedT := m :: d.loadedT }
    let rej := d.loadRefused m
    let d := if rej then d.err pg PWMU.E_LOAD_REJ
      else (((d.load pg PWMU.PER).load pg PWMU.DTA).load pg PWMU.DTB).load pg PWMU.MINPW
    let d := ((((d.load pg PWMU.DUTY).load pg PWMU.PHASE).load pg PWMU.TON).load pg PWMU.TOFF).load pg PWMU.TMAX
    let d : Dev :=
      if m = 6 then d
      else if fFinite (d.shadow pg PWMU.REF) && (!d.interpRef m || fFinite (d.shadow pg PWMU.SLP)) then
        let d := d.load pg PWMU.REF
        (if d.interpRef m then d.load pg PWMU.SLP else d).modUnit m fun u => { u with tL := t }
      else d.err pg PWMU.E_LOAD_REJ
    let d := if m != 6 && decide (d.pwmLen m PWMU.PER < d.pwmLen m PWMU.DUTY) then
        (d.err pg PWMU.E_DUTY_CLAMP).irq pg PWMU.I_CLAMP else d
    let (ton, toff, _) := d.cotLens m
    let d := d.errIf (decide (2 ≤ d.pwmMode m) && (ton != d.pwmLen m PWMU.TON || toff != d.pwmLen m PWMU.TOFF)) pg
      PWMU.E_DUTY_CLAMP
    let d := (d.incWrap pg PWMU.LOADINFO_CNT).irq pg PWMU.I_LOADED
    let d := match idx with
      | some k => d.set pg PWMU.LOADINFO_IDX k
      | none => d
    let d := d.gateConflictEnd m
    if d.on pg PWMU.STAT_WAITLOAD then
      let d := (d.set pg PWMU.STAT_WAITLOAD 0).modUnit m fun u => { u with ready := t, org := t }
      if 2 ≤ d.pwmMode m ∧ d.pwmLive m then d.cotStart m t else d
    else d

/-- The grid starts to run at an instant: units in grid mode stop waiting for it (R278). -/
def Dev.pwmGridStart (d : Dev) (t : Nat) : Dev :=
  (List.range 6).foldl (fun d m =>
    if d.on (pPWMU m) PWMU.STAT_WAITGRID then
      (d.set (pPWMU m) PWMU.STAT_WAITGRID 0).modUnit m fun u => { u with ready := t }
    else d) d

/-- LOADALL, and the PWMLOAD action, load the units that SOFT selects (R271). -/
def Dev.loadSoft (d : Dev) (t : Nat) : Dev :=
  (List.range 7).foldl (fun d m => if d.bit pPWMC PWMC.LDSEL_SOFT m then d.pwmLoad m t none else d) d

/-- A commit load of the units that COMMIT selects (R271, R272). -/
def Dev.loadCommit (d : Dev) (t k : Nat) : Dev :=
  (List.range 6).foldl (fun d m => if d.bit pPWMC PWMC.LDSEL_COMMIT m then d.pwmLoad m t (some k) else d) d

/-- A commit instant at which no command is applied: units with REFSRC = 1 hold their reference (R31, R272). -/
def Dev.pwmHoldRef (d : Dev) (t : Nat) : Dev :=
  (List.range 6).foldl (fun d m =>
    if d.on (pPWMU m) PWMU.CFG_REFSRC then
      let r := fClamp (d.refAt m t) fMinusOne fOne
      ((d.setForce (pPWMU m) PWMU.REF r).setForce (pPWMU m) PWMU.SLP 0).modUnit m fun u => { u with tL := t }
    else d) d

/-! ### DAB blocking, TIME steps, hold-off -/

/-- The DAB group drives its outputs low at once (R275, R378). -/
def Dev.dabBlock (d : Dev) : Dev :=
  if d.isHub then d
  else (List.range 6).foldl (fun d m =>
    if d.on (pPWMU m) PWMU.CFG_DABGRP then
      (((d.pwmLow m).set (pPWMU m) PWMU.STAT_DABBLK 1).set (pPWMU m) PWMU.STAT_RUNNING 0).modUnit m fun u => { u with dabEnd := false }
    else d) d

/-- A commit with DABBLK = 0: the group resumes at its next valley (R275). -/
def Dev.dabRelease (d : Dev) : Dev :=
  (List.range 6).foldl (fun d m =>
    if d.on (pPWMU m) PWMU.STAT_DABBLK then
      if (d.unit m).run && decide (d.pwmMode m < 2) then d.modUnit m fun u => { u with dabEnd := true }
      else (d.set (pPWMU m) PWMU.STAT_DABBLK 0).set (pPWMU m) PWMU.STAT_RUNNING (b2n (d.unit m).run)
    else d) d

/-- A step of TIME while a unit runs (R276), also while DAB blocking holds its outputs low (DESIGN CHOICE, entry 22). -/
def Dev.pwmTimeStep (d : Dev) : Dev :=
  (List.range 6).foldl (fun d m =>
    if (d.unit m).run then (d.err (pPWMU m) PWMU.E_TIME_STEP).pwmArm m else d) d

/-- A cause of the gate hold-off appears (R279): every PWMU output low, every channel in the off profile. The error of an
assertion is set at once, or once the fabric clock runs again (R387). -/
def Dev.holdBegin (d : Dev) (cause : Fld) (now : Bool) : Dev :=
  let d := d.set pPWMC cause 1
  if d.holdOff then d
  else
    let d := if now then d.err pPWMC PWMC.E_HOLDOFF else { d with clk := { d.clk with tell := true } }
    let d := ((d.set pPWMC PWMC.HOLDSTAT_ACTIVE 1).inc pPWMC PWMC.HOLDCNT_CNT).irq pPWMC PWMC.I_HOLD_CHG
    let d := (List.range 6).foldl (fun d m =>
      let d := ((d.pwmLow m).setAcc m 0).set (pPWMU m) PWMU.STAT_HOLDOFF 1
      (d.set (pPWMU m) PWMU.STAT_RUNNING 0).modUnit m fun u => { u with run := false, peak := false, cot := .idle }) d
    d.gateFallAll

/-- A cause of the gate hold-off appears while the fabric clock runs. -/
def Dev.holdAssert (d : Dev) (cause : Fld) : Dev := d.holdBegin cause true

/-- A cause ends; with the last one the enabled units resume as after an enable (R279). -/
def Dev.holdRelease (d : Dev) (cause : Fld) : Dev :=
  let d := d.set pPWMC cause 0
  if !d.holdOff || d.on pPWMC PWMC.HOLDSTAT_DBG0 || d.on pPWMC PWMC.HOLDSTAT_DBG1 || d.on pPWMC PWMC.HOLDSTAT_CKSW ||
    d.on pPWMC PWMC.HOLDSTAT_CKMON then d
  else
    let d := (d.set pPWMC PWMC.HOLDSTAT_ACTIVE 0).irq pPWMC PWMC.I_HOLD_CHG
    (List.range 6).foldl (fun d m =>
      let d := d.set (pPWMU m) PWMU.STAT_HOLDOFF 0
      if d.on (pPWMU m) PWMU.CTRL_EN then d.pwmArm m else d) d

/-- DEBUG_HALT (R279): a core of a pair halts. -/
def Dev.debugHalt (d : Dev) (pair : Nat) : Dev :=
  d.holdAssert (if pair = 0 then PWMC.HOLDSTAT_DBG0 else PWMC.HOLDSTAT_DBG1)

/-- GATESAFE (R378). -/
def Dev.gateSafe (d : Dev) : Dev := (List.range 6).foldl (fun d m => d.pwmEnable m 0) d

/-- The codes of the 32 taps of an entry of a delay line: the field of words 1 to 5, zero where the entry is invalid (R469). -/
def Dev.tapCodes (d : Dev) (e : Nat) : List Int :=
  let ws := calEntry d.calstore e
  let x := (List.range 5).foldl (fun n w => n + calWord ws (w + 1) * 2 ^ (32 * w)) 0
  (List.range 32).map fun j => if calValid ws then toSigned (bitsOf x (5 * j) 5) 5 else 0

/-- The place of a tap, in 1/8 ps: what the spare line measures of it, and the line's correction in force (R277, R470). -/
def Dev.tapPlace (d : Dev) (line tap : Nat) (spare : Int) : Int := spare + 25 * (d.dlTaps.getD line []).getD tap 0

/-- DL_RECAL (R277, R470): delay line `line` has been recalibrated, with its two entries; its taps span `ps` picoseconds. -/
def Dev.dlRecal (d : Dev) (line ps : Nat) : Dev :=
  let fail := decide (ps < 3600) || decide (4400 < ps)
  let was := d.bit pPWMC PWMC.DLSTAT_FB line
  let codes := d.tapCodes (0x40 + 2 * line) ++ d.tapCodes (0x41 + 2 * line)
  let d := { d.incWrap pPWMC PWMC.DLSTAT_RECALCNT with
    dlDone := d.dlDone ||| 2 ^ line, dlTaps := modNth d.dlTaps line fun _ => codes }
  let d := (d.setBit pPWMC PWMC.DLSTAT_FB line fail).errIf fail pPWMC PWMC.E_DL_UNLOCK
  let d := d.irqIf (was != fail) pPWMC PWMC.I_DL_CHG
  d.set pPWMC PWMC.DLSTAT_ALLOK (b2n (d.dlDone == 0x1FFF && d.get pPWMC PWMC.DLSTAT_FB == 0))

/-! ### Register writes -/

/-- Writes of PWMU and HK registers (R262, R269, R278, R280, R284, R285). -/
def Dev.pwmuWrite (d : Dev) (m off v : Nat) : Dev :=
  let pg := pPWMU m
  let rej := d.err pg PWMU.E_CFG_REJ
  if off = 0x010 then d.pwmEnable m v
  else if off = 0x040 then
    let mode := PWMU.CFG_MODE.pick v
    let sync := PWMU.CFG_SYNC.pick v
    if d.on pg PWMU.CTRL_EN then rej
    else if m = 6 then
      if !(mode == 2 || mode == 3) || sync != 0 then rej else d.set pg PWMU.CFG_MODE mode
    else if 4 ≤ mode ∨ PWMU.CFG_SPP.pick v = 3 ∨ 2 ≤ sync then rej
    else
      let d1 := d.writeWord pg off v
      let d1 := if d.isHub then d1.set pg PWMU.CFG_CMDREF 0 else d1
      if mode = d.get pg PWMU.CFG_MODE then d1 else d1.setAcc m 0
  else if off = 0x044 then
    if d.on pg PWMU.CTRL_EN then rej
    else if m = 6 then (d.set pg PWMU.EVCFG_STARTEN (PWMU.EVCFG_STARTEN.pick v)).set pg PWMU.EVCFG_ENDEN
      (PWMU.EVCFG_ENDEN.pick v)
    else d.writeWord pg off v
  else if m = 6 ∧ (off < 0x814 ∨ 0x824 ≤ off) then d
  else if off = 0x828 ∧ !d.interpRef m then d
  else d.writeWord pg off v

/-- HOLDCNT_CLR (R282). -/
def Dev.holdcntClr (d : Dev) : Dev := d.clearCnt pPWMC PWMC.HOLDCNT_CNT

/-- Writes of PWMC registers (R282). -/
def Dev.pwmcWrite (d : Dev) (off v : Nat) : Dev :=
  if off = 0x800 then (if bitAt v 31 then d.loadSoft (d.now16 / tick16 * tick16) else d)
  else if off = 0x808 then (if bitAt v 31 then d.holdcntClr else d)
  else d.writeWord pPWMC off v

end Sys2Proof.Machine
end

