-- ==== Sys2Proof/Machine/Lathe.lean ====
section
/-! DEFINITION. The Lathe engines (chapter 16): binary32 without subnormals, the stages, triggers, chains, states,
set-points, inputs, outputs and the banks. -/

namespace Sys2Proof.Machine

/-! ### Arithmetic (R351) -/

/-- A subnormal is replaced by zero of the same sign. -/
def lz (a : Nat) : Nat := if bitsOf a 23 8 = 0 then a / 2 ^ 31 % 2 * 2 ^ 31 else a

def lAdd (a b : Nat) : Nat := lz (fAdd (lz a) (lz b))
def lSub (a b : Nat) : Nat := lz (fSub (lz a) (lz b))
def lMul (a b : Nat) : Nat := lz (fMul (lz a) (lz b))
def lDiv (a b : Nat) : Nat := lz (fDiv (lz a) (lz b))
def lLt (a b : Nat) : Bool := fLt (lz a) (lz b)
def lMin (a b : Nat) : Nat := fMin (lz a) (lz b)
def lMax (a b : Nat) : Nat := fMax (lz a) (lz b)
def lClampTo (a lo hi : Nat) : Nat := fClamp (lz a) (lz lo) (lz hi)

/-- The constants of R350: 2, 3, 2π, √3. -/
def fTwo : Nat := 0x40000000
def fThree : Nat := 0x40400000
def fTwoPi : Nat := 0x40C90FDB
def fSqrt3 : Nat := 0x3FDDB3D7

/-- 2π · 2^256. -/
def twoPi256 : Nat := 0x6487ed5110b4611a62633145c06e0e68948127044533e63a0105df531d89cd912

/-- The Taylor series of the sine (from k = 1) or the cosine (from k = 0) at x / 2^64, in 2^-64: `term` is the present
term and `n` its power. -/
def taylor (x : Int) : Nat → Int → Nat → Int
  | 0, _, _ => 0
  | fuel + 1, term, n => term + taylor x fuel (-(term * x * x / 2 ^ 128) / (((n + 1) * (n + 2) : Nat) : Int)) (n + 2)

/-- A finite binary32 angle reduced to a turn, in 2^-64 rad. -/
def turn64 (a : Nat) : Int := (fScaled a * 2 ^ 56) % (twoPi256 : Int) / 2 ^ 192

/-- A sine or cosine in 2^-64 with the device's own deviation, as binary32: any code that lies within 2^-22 of the value, the
rounding included (R351). -/
def trigOut (v64 : Int) (dev : Nat) : Nat :=
  let y := lz (fOfInt (v64 / 2 ^ 4 - 2 ^ 38 + (dev % (2 ^ 39 + 1) : Nat)) (-60))
  if (fScaled y - v64 * 2 ^ 136).natAbs ≤ 2 ^ 178 then y else lz (fOfInt v64 (-64))

def lSin (a : Nat) : Nat :=
  if fFinite a then trigOut (taylor (turn64 a) 24 (turn64 a) 1) (Config.sinErr a) else fNaN
def lCos (a : Nat) : Nat :=
  if fFinite a then trigOut (taylor (turn64 a) 24 (2 ^ 64) 0) (Config.cosErr a) else fNaN

/-! ### An engine's view -/

def Dev.leOf (d : Dev) (n : Nat) : Le := d.le.getD n le0
def Dev.modLe (d : Dev) (n : Nat) (f : Le → Le) : Dev := { d with le := modNth d.le n f }

/-- LOOP_OPEN 0, CLOSED 1, HOLD 2. -/
def Dev.leState (d : Dev) (n : Nat) : Nat := d.get (pLE n) LTH.STAT_STATE

/-- A field of the active bank (R366). -/
def Dev.la (d : Dev) (n : Nat) (F : Fld) : Nat := d.inForce (pLE n) F

/-- STEP_SETPOINT is in force (R118, R362). -/
def Dev.stepSp (d : Dev) (n : Nat) : Bool := d.feat (pLE n) 0

/-- The visible angle with its hidden bits: θ, in hub role plus THOFS (R147, R153). -/
def Dev.angle64 (d : Dev) : Nat :=
  (d.spd.theta + (if d.isHub then d.get pSPDL SPDL.THOFS * 2 ^ 32 else 0)) % 2 ^ 64

/-- The value v of an input (R363), from the bank in force. -/
def Dev.leIn (d : Dev) (n i : Nat) : Nat :=
  let src := d.la n (LTH.IN_SRC i)
  let idx := d.la n (LTH.IN_IDX i)
  if src = 0 then d.get (pLE n) (LTH.INVAL i)
  else if src = 1 ∨ src = 2 then
    let v := d.get (pADC (src - 1)) (ADC.RES_VALUE idx)
    fOfInt (if d.la n (LTH.IN_SIGNED i) = 1 then toSigned v 16 else (v : Int)) 0
  else if src = 3 then fOfInt (d.get pSPDL SPDL.FREQ) (-16)
  else if src = 4 then d.get (pLE (idx / 8)) (LTH.OUTV (idx % 8))
  else if src = 5 then d.cmdIn.getD idx 0
  else if idx < 3 then d.get pISOB (ISOB.VBAR idx)
  else if idx < 6 then d.get pISOB (ISOB.PPH (idx - 3))
  else if idx = 6 then d.get pISOB ISOB.ZRE
  else if idx = 7 then d.get pISOB ISOB.ZIM
  else d.get pISOB ISOB.PUNALLOC

/-- What changes when the source of an input is updated (R363). -/
def Dev.leStamp (d : Dev) (n i : Nat) : Nat :=
  let src := d.la n (LTH.IN_SRC i)
  let idx := d.la n (LTH.IN_IDX i)
  if src = 1 ∨ src = 2 then d.get (pADC (src - 1)) (ADC.RES_CNT idx)
  else if src = 4 then (d.leOf (idx / 8)).eff
  else if src = 5 then d.applied
  else if src = 6 then d.isoRuns
  else 0

/-- An input is checked for staleness at all (R363, R364). -/
def Dev.staleCheck (d : Dev) (n i : Nat) : Bool := d.la n (LTH.IN_SRC i) != 0 && d.la n (LTH.IN_STALEN i) != 0

/-- IN_i = v·ISCL + IOFS. -/
def Dev.leScaled (d : Dev) (n i : Nat) : Nat :=
  lAdd (lMul (d.leIn n i) (d.la n (LTH.ISCL i))) (d.la n (LTH.IOFS i))

/-! ### States (R358, R360) -/

def Dev.leTo (d : Dev) (n st : Nat) : Dev := (d.set (pLE n) LTH.STAT_STATE st).irq (pLE n) LTH.I_STATE_CHG

/-- The PWM field of a FIELD code (R365). -/
def pwmField (f : Nat) : Fld :=
  if f = 0 then PWMU.PER else if f = 1 then PWMU.DUTY else if f = 2 then PWMU.PHASE else if f = 3 then PWMU.TON
  else if f = 4 then PWMU.TOFF else if f = 5 then PWMU.TMAX else if f = 6 then PWMU.REF else PWMU.SLP

/-- The Isobar input of a FIELD code (R365). -/
def isoField (f : Nat) : Fld :=
  if f = 0 then ISOB.PTOT else if f < 4 then ISOB.MPH (f - 1) else if f < 7 then ISOB.MSLP (f - 4)
  else if f < 10 then ISOB.IPH (f - 7) else if f = 10 then ISOB.IANG else ISOB.VLV

/-- Convert y and write it to the destination of output j (R365). SLP takes no write while INTERP_REF is not accepted (R264).
The spec states no PHASE for a v that is infinite: a free value. -/
def Dev.leOutput (d : Dev) (n j y : Nat) : Dev :=
  let v := lAdd (lMul y (d.la n (LTH.OSCL j))) (d.la n (LTH.OOFS j))
  let kind := d.la n (LTH.OUT_KIND j)
  let f := d.la n (LTH.OUT_FIELD j)
  if kind = 1 then
    let pg := pPWMU (d.la n (LTH.OUT_UNIT j))
    let F := pwmField f
    if d.inBlk.contains pg || (f == 7 && !d.interpRef (d.la n (LTH.OUT_UNIT j))) then d
    else if f = 6 ∨ f = 7 then d.hwShadow pg F v
    else if f = 2 then
      let (x, d) := if fFinite v then (((fToInt v) % 2 ^ 24).toNat, d) else d.free
      d.hwShadow pg F x
    else d.hwShadow pg F (fClampNat v (2 ^ 30 - 1))
  else if kind = 2 then (if d.inBlk.contains pISOB then d else d.hwSet pISOB (isoField f) v)
  else d

/-- Enter LOOP_OPEN from CLOSED or HOLD (R360). -/
def Dev.leOpen (d : Dev) (n : Nat) : Dev :=
  let pg := pLE n
  let d := d.leTo n 0
  let d := if d.on pg LTH.STAT_PEND then (d.set pg LTH.STAT_PEND 0).inc pg LTH.CNT_DISC else d
  let d := (List.range 8).foldl (fun d j => d.leOutput n j (d.la n (LTH.SAFE j))) d
  (d.set pg LTH.STAT_CONSEC 0).modLe n fun e =>
    { e with run := e.run.map (fun r => { r with void := true }), stale := le0.stale, frz := le0.frz
             loop := if e.loop = 2 then 0 else e.loop }

/-- An engine in CLOSED or HOLD opens with an error. -/
def Dev.leOpenErr (d : Dev) (n bit : Nat) : Dev := (d.err (pLE n) bit).leOpen n

/-- The bypass clock opens every closed engine (R361). -/
def Dev.leClockStop (d : Dev) : Dev :=
  (List.range 8).foldl (fun d n =>
    if d.leState n = 0 || d.inBlk.contains (pLE n) then d
    else (d.leOpenErr n LTH.E_CLK_STOP).modLe n fun e => { e with clkOpen := true }) d

/-! ### Triggers (R354) -/

/-- A trigger arrives at an engine; triggers of one tick are one trigger. -/
def Dev.leTrig (d : Dev) (n : Nat) : Dev :=
  if d.inBlk.contains (pLE n) then d
  else if (d.leOf n).req then d.inc (pLE n) LTH.CNT_MERGE else d.modLe n fun e => { e with req := true }

/-! ### Stages (R350) -/

/-- What a chain works with. -/
structure LeEnv where
  ins  : List Nat
  sps  : List Nat
  /-- outputs of the stages: of this chain where it has reached them, of the last chain otherwise -/
  outs : List Nat
  k    : Nat → Nat → Nat
  st   : Nat → Nat → Nat
  ts   : Nat
  freq : Nat
  ang  : Nat
  first : Bool

/-- The value of an operand code (R348). -/
def LeEnv.op (v : LeEnv) (c : Nat) : Nat :=
  if c < 8 then v.ins.getD c 0 else if c < 12 then v.sps.getD (c - 8) 0
  else if c < 28 then v.outs.getD (c - 12) 0 else 0

/-- What a stage gives: output, its four state words, clamped, out of the range of R352. -/
abbrev StageOut := Nat × List Nat × Bool × Bool

/-- Clamp with a flag. -/
def lClamp (u lo hi : Nat) : Nat × Bool := (lClampTo u lo hi, lLt u lo || lLt hi u)

/-- The angle φ of a ROT stage (R350). -/
def LeEnv.phi (v : LeEnv) (s : Nat) : Nat :=
  let h := fToInt (v.k s 0)
  let u := fOfInt ((h * (v.ang : Int)) % 2 ^ 32) (-32)
  lAdd (lMul fTwoPi u) (v.k s 1)

def stagePI (v : LeEnv) (s a b c : Nat) : StageOut :=
  let e := lSub a b
  let ic := lAdd (v.st s 0) (lMul (lMul (v.k s 1) v.ts) e)
  let u := lAdd (lAdd (lMul (v.k s 0) e) ic) c
  let ke := lMul (v.k s 1) e
  let rest := [v.st s 1, v.st s 2, v.st s 3]
  if lLt (v.k s 3) u && lLt 0 ke then (lz (v.k s 3), v.st s 0 :: rest, true, false)
  else if lLt u (v.k s 2) && lLt ke 0 then (lz (v.k s 2), v.st s 0 :: rest, true, false)
  else
    let (y, cl) := lClamp u (v.k s 2) (v.k s 3)
    (y, ic :: rest, cl, false)

def stagePR (v : LeEnv) (s a b : Nat) : StageOut :=
  let e := lSub a b
  let w := lMul (lMul fTwoPi (v.k s 2)) v.freq
  let keep := [v.st s 0, v.st s 1, v.st s 2, v.st s 3]
  if !fLt (lMul w v.ts) fOne then (0, keep, false, true)
  else
    let x := lMul (lMul fTwo (v.k s 1)) (lSub (lMul (v.k s 0) e) (v.st s 0))
    let s0 := lAdd (v.st s 0) (lMul v.ts (lSub x (lMul w (v.st s 1))))
    let s1 := lAdd (v.st s 1) (lMul (lMul v.ts w) s0)
    let (y, cl) := lClamp (lAdd (lMul (v.k s 4) e) s0) (fNeg (v.k s 3)) (v.k s 3)
    (y, [s0, s1, v.st s 2, v.st s 3], cl, false)

def stageBIQ (v : LeEnv) (s a : Nat) : StageOut :=
  let y := lAdd (lMul (v.k s 0) a) (v.st s 0)
  let s0 := lAdd (lSub (lMul (v.k s 1) a) (lMul (v.k s 3) y)) (v.st s 1)
  let s1 := lSub (lMul (v.k s 2) a) (lMul (v.k s 4) y)
  (y, [s0, s1, v.st s 2, v.st s 3], false, false)

def stageROT (v : LeEnv) (s sub a b c : Nat) : Nat :=
  if sub = 0 then lDiv (lSub (lSub (lMul fTwo a) b) c) fThree
  else if sub = 1 then lDiv (lSub b c) fSqrt3
  else
    let p := v.phi s
    if sub = 2 then lAdd (lMul a (lCos p)) (lMul b (lSin p))
    else if sub = 3 then lAdd (lMul (fNeg a) (lSin p)) (lMul b (lCos p))
    else if sub = 4 then lSub (lMul a (lCos p)) (lMul b (lSin p))
    else lAdd (lMul a (lSin p)) (lMul b (lCos p))

def stageSUM (v : LeEnv) (s sub a b c : Nat) : Nat :=
  if sub = 0 then lAdd (lAdd (lAdd (lMul (v.k s 0) a) (lMul (v.k s 1) b)) (lMul (v.k s 2) c)) (v.k s 3)
  else lAdd (lAdd (lMul (lMul (v.k s 0) a) b) (lMul (v.k s 1) c)) (v.k s 3)

def stageRATE (v : LeEnv) (s sub a : Nat) : StageOut :=
  let s0 := if sub = 1 ∧ v.first then a else v.st s 0
  let y := lAdd s0 (lClampTo (lSub a s0) (fNeg (lMul (v.k s 1) v.ts)) (lMul (v.k s 0) v.ts))
  (y, [y, v.st s 1, v.st s 2, v.st s 3], false, false)

/-- Stage s of a type (R350). -/
def stage (v : LeEnv) (s ty sub a b c : Nat) : StageOut :=
  let keep := [v.st s 0, v.st s 1, v.st s 2, v.st s 3]
  if ty = 1 then stagePI v s a b c
  else if ty = 2 then stagePR v s a b
  else if ty = 3 then stageBIQ v s a
  else if ty = 4 then (stageROT v s sub a b c, keep, false, false)
  else if ty = 5 then (stageSUM v s sub a b c, keep, false, false)
  else if ty = 6 then
    let lo := if sub = 0 then v.k s 0 else b
    let hi := if sub = 0 then v.k s 1 else c
    let y := lMin (lMax a lo) hi
    (y, keep, lLt a lo || lLt hi a, false)
  else if ty = 7 then stageRATE v s sub a
  else
    let y := if sub = 0 then lMin a b else if sub = 1 then lMax a b else if fLe (lz (v.k s 0)) (lz c) then lz a else lz b
    (y, keep, false, false)

/-- t_stage in ns (R355). -/
def stageTime (ty : Nat) : Nat :=
  if ty = 6 ∨ ty = 8 then 12 else if ty = 7 then 16 else if ty = 5 then 20 else if ty = 1 then 24
  else if ty = 3 then 28 else if ty = 2 ∨ ty = 4 then 32 else 0

/-- How many stages run: up to the first END (R349), reading the bank through `g`. -/
def stagesOf (g : Fld → Nat) : Nat → Nat → Nat
  | 0, s => s
  | fuel + 1, s => if g (LTH.STAGE_TYPE s) = 0 then s else stagesOf g fuel (s + 1)

/-- The chain's duration in ticks (R355). -/
def Dev.leTicks (d : Dev) (n : Nat) : Nat :=
  ((List.range (stagesOf (d.la n) 16 0)).foldl (fun t s => t + stageTime (d.la n (LTH.STAGE_TYPE s))) 80) / 4

/-- Replace the four state words of a stage. -/
def putStates (l : List Nat) (s : Nat) (ws : List Nat) : List Nat :=
  (List.range 4).foldl (fun l w => modNth l (4 * s + w) fun _ => ws.getD w 0) l

/-- Run the stages on a copy of the states. -/
def Dev.leStages (d : Dev) (n : Nat) (v : LeEnv) : LeRun :=
  let r0 : LeRun := ⟨(List.range 64).map fun i => d.get (pLE n) (LTH.STATEW i), v.outs, [], false, false, false, false⟩
  (List.range (stagesOf (d.la n) 16 0)).foldl (fun (r : LeRun) (s : Nat) =>
    let v := { v with outs := r.souts }
    let (y, st, cl, rg) := stage v s (d.la n (LTH.STAGE_TYPE s)) (d.la n (LTH.STAGE_SUB s))
      (v.op (d.la n (LTH.STAGE_A s))) (v.op (d.la n (LTH.STAGE_B s))) (v.op (d.la n (LTH.STAGE_C s)))
    { r with states := putStates r.states s st, souts := modNth r.souts s fun _ => y, lim := r.lim || cl,
             range := r.range || rg, arith := r.arith || !fFinite y || st.any fun w => !fFinite w }) r0

/-! ### A chain start (R355, R357, R362 to R364) -/

/-- The effective set-points of a chain start (R362). -/
def Dev.leSetpoints (d : Dev) (n : Nat) : Dev :=
  let pg := pLE n
  let ts := d.la n LTH.TSAMP
  (List.range 4).foldl (fun d j =>
    let sp := d.get pg (LTH.SP j)
    let eff := d.get pg (LTH.SPEFF j)
    let rate := d.la n (LTH.SRATE j)
    let step := lMul rate ts
    let new := if d.stepSp n then sp
      else if (d.leOf n).first then eff
      else if lz rate % 2 ^ 31 = 0 then sp
      else lAdd eff (lClampTo (lSub sp eff) (fNeg step) step)
    d.set pg (LTH.SPEFF j) new) d

/-- Check the inputs: stale and freeze counts, INSTAT; a chain start (`start`) also takes IN_i and the update stamps, which a
trigger in HOLD leaves as the last chain start took them (R363, R369). The second component: an input is stale or frozen; the
third: every checked input has updated and none is frozen (R364). -/
def Dev.leInputs (d : Dev) (n : Nat) (start : Bool) : Dev × Bool × Bool :=
  let pg := pLE n
  let e := d.leOf n
  let ins := (List.range 8).map (d.leScaled n)
  let stamps := (List.range 8).map (d.leStamp n)
  let upd (i : Nat) : Bool := e.first || d.la n (LTH.IN_SRC i) == 3 || stamps.getD i 0 != e.stamps.getD i 0
  let same (i : Nat) : Bool := !e.first && ins.getD i 0 == d.get pg (LTH.INV i)
  let stale := (List.range 8).map fun i => if d.staleCheck n i && !upd i then min (e.stale.getD i 0 + 1) 255 else 0
  let frz := (List.range 8).map fun i => if same i then min (e.frz.getD i 0 + 1) 255 else 0
  let isStale (i : Nat) : Bool := d.staleCheck n i && decide (d.la n (LTH.IN_STALEN i) ≤ stale.getD i 0)
  let isFrz (i : Nat) : Bool := d.la n (LTH.IN_FRZN i) != 0 && decide (d.la n (LTH.IN_FRZN i) ≤ frz.getD i 0)
  let mask (p : Nat → Bool) : Nat := (List.range 8).foldl (fun m i => if p i then m + 2 ^ i else m) 0
  let d := d.modLe n fun e => { e with stamps := if start then stamps else e.stamps, stale := stale, frz := frz }
  let d := if start then (List.range 8).foldl (fun d i => d.set pg (LTH.INV i) (ins.getD i 0)) d else d
  let d := (d.set pg LTH.INSTAT_STALE (mask isStale)).set pg LTH.INSTAT_FRZ (mask isFrz)
  (d, (List.range 8).any (fun i => isStale i || isFrz i),
   (List.range 8).all fun i => (!d.staleCheck n i || upd i) && !isFrz i)

/-- The interval between chain starts (R357). -/
def Dev.leInterval (d : Dev) (n : Nat) : Dev :=
  let pg := pLE n
  let d := match (d.leOf n).started with
    | some t =>
      let ivl := d.ticks - t
      let ts := fScaled (d.la n LTH.TSAMP)
      let dev := ((ivl * 4 : Nat) : Int) * 2 ^ 200 - ts * 1000000000
      (d.set pg LTH.TIMING_IVL (min ivl 65535)).errIf (decide (ts * 1000000000 < 100 * (Int.natAbs dev : Int))) pg LTH.E_TS_DEV
    | none => d
  d.modLe n fun e => { e with started := some d.ticks }

/-- Run a chain: its results are computed in the start tick and written at its end. -/
def Dev.leRun (d : Dev) (n : Nat) : Dev :=
  let pg := pLE n
  let d := (d.leInterval n).leSetpoints n
  let v : LeEnv :=
    { ins := (List.range 8).map fun i => d.get pg (LTH.INV i)
      sps := (List.range 4).map fun j => d.get pg (LTH.SPEFF j)
      outs := (List.range 16).map fun s => d.get pg (LTH.SOUT s)
      k := fun s c => d.la n (LTH.K (8 * s + c))
      st := fun s w => d.get pg (LTH.STATEW (4 * s + w))
      ts := d.la n LTH.TSAMP
      freq := fOfInt (d.get pSPDL SPDL.FREQ) (-16)
      ang := d.angle64 / 2 ^ 32
      first := (d.leOf n).first }
  let r := d.leStages n v
  let r := { r with outs := (List.range 8).map fun j => { v with outs := r.souts }.op (d.la n (LTH.OUT_SEL j)) }
  let d := (d.set pg LTH.TIMING_CHAINT (d.leTicks n)).set pg LTH.STAT_BUSY 1
  d.modLe n fun e => { e with run := some r, first := false, loop := if e.loop = 1 ∨ e.loop = 2 then 3 else 0 }

/-- The loop instant's trigger is gone without a chain. -/
def Dev.leNoLoop (d : Dev) (n : Nat) : Dev := d.modLe n fun e => { e with loop := if e.loop = 3 then 3 else 0 }

/-- A chain start in CLOSED, with its input check (R364). -/
def Dev.leStart (d : Dev) (n : Nat) : Dev :=
  let (d, bad, _) := d.leInputs n true
  if bad then (((d.err (pLE n) LTH.E_STALE).leTo n 2).modLe n fun e => { e with held := 0 }).leNoLoop n else d.leRun n

/-- A trigger in HOLD (R364). -/
def Dev.leHold (d : Dev) (n : Nat) : Dev :=
  let (d1, _, good) := d.leInputs n false
  if d.la n LTH.CFG_HOLDRES = 1 ∧ good then
    let d := (d.leInputs n true).1
    ((d.leTo n 1).modLe n fun e => { e with stale := le0.stale, frz := le0.frz }).leRun n
  else
    let d := d1.leNoLoop n
    let k := (d.leOf n).held + 1
    if max 1 (d.la n LTH.CFG_HOLDN) ≤ k then d.leOpenErr n LTH.E_OPENED else d.modLe n fun e => { e with held := k }

/-! ### Closing (R359, R366) -/

/-- Copy the shadow bank of a page, offsets 0x040 to 0x3FF, into the active bank. -/
def bankCopy (regs act : RegFile) (pg : Nat) : RegFile :=
  let lo := (pg * 4096 + 0x040) * 32
  let hi := (pg * 4096 + 0x400) * 32
  act.filter (fun p => decide (p.1 < lo)) ++ regs.filter (fun p => decide (lo ≤ p.1) && decide (p.1 < hi)) ++
    act.filter (fun p => decide (hi ≤ p.1))

/-- Preset the states (R349, R350). -/
def Dev.lePreset (d : Dev) (n : Nat) : Dev :=
  let pg := pLE n
  let d := (List.range 64).foldl (fun d i => d.set pg (LTH.STATEW i) 0) d
  let d := (List.range 16).foldl (fun d s => d.set pg (LTH.SOUT s) 0) d
  (List.range 16).foldl (fun d s =>
    if d.la n (LTH.STAGE_TYPE s) = 1 then d.set pg (LTH.STATEW (4 * s)) (d.la n (LTH.K (8 * s + 4)))
    else if d.la n (LTH.STAGE_TYPE s) = 7 ∧ d.la n (LTH.STAGE_SUB s) = 0 then
      d.set pg (LTH.STATEW (4 * s)) (d.la n (LTH.K (8 * s + 2)))
    else d) d

/-- The first trigger after an accepted CLOSE (R359). -/
def Dev.leCloseNow (d : Dev) (n : Nat) : Dev :=
  let pg := pLE n
  let d := { d with act := bankCopy d.regs d.act pg }.lePreset n
  let d := d.modLe n fun e => { e with started := none, first := true, held := 0 }
  let d := (List.range 4).foldl (fun d j =>
    d.set pg (LTH.SPEFF j) (if d.stepSp n then d.get pg (LTH.SP j)
      else d.leScaled n (d.la n (if j = 0 then LTH.SPCFG_MEAS0 else if j = 1 then LTH.SPCFG_MEAS1
        else if j = 2 then LTH.SPCFG_MEAS2 else LTH.SPCFG_MEAS3)))) d
  ((d.set pg LTH.STAT_CLOSEARM 0).leTo n 1).leStart n

/-- LATHE_TRIGGER (R354 to R356, R359, R364): a trigger that has arrived is acted on, or a pending one starts. -/
def Dev.latheTrigger (d : Dev) (n : Nat) : Dev :=
  let pg := pLE n
  if d.inBlk.contains pg then d
  else if !(d.leOf n).req then
    if d.on pg LTH.STAT_PEND && !d.on pg LTH.STAT_BUSY then (d.set pg LTH.STAT_PEND 0).leStart n else d
  else
    let d := d.modLe n fun e => { e with req := false }
    let st := d.leState n
    if st = 0 then
      if d.on pg LTH.STAT_CLOSEARM then d.leCloseNow n else (d.inc pg LTH.CNT_MERGE).leNoLoop n
    else if st = 2 then d.leHold n
    else if d.on pg LTH.STAT_PEND then
      ((d.inc pg LTH.CNT_TRIGOVR).err pg LTH.E_TRIG_OVR).modLe n fun e => { e with loop := if e.loop = 1 then 0 else e.loop }
    else if d.on pg LTH.STAT_BUSY then
      let k := d.get pg LTH.STAT_CONSEC + 1
      let d := ((d.err pg LTH.E_OVR).inc pg LTH.CNT_OVRCNT).modLe n fun e =>
        { e with run := e.run.map fun r => { r with void := true }, loop := if e.loop = 1 then 2 else e.loop }
      let d := d.set pg LTH.STAT_PEND 1
      if 4 ≤ k then d.leOpenErr n LTH.E_OVR_STOP else d.set pg LTH.STAT_CONSEC k
    else d.leStart n

/-- LATHE_CHAIN_END (R353, R355, R365): the chain's outputs are written, or it takes no effect. -/
def Dev.latheChainEnd (d : Dev) (n : Nat) : Dev :=
  let pg := pLE n
  match if d.inBlk.contains pg then none else (d.leOf n).run with
  | none => d
  | some r =>
    let d := (d.set pg LTH.STAT_BUSY 0).modLe n fun e => { e with run := none }
    let d := d.errIf r.range pg LTH.E_PR_RANGE
    if r.arith then (if d.leState n = 0 then d.err pg LTH.E_ARITH else d.leOpenErr n LTH.E_ARITH)
    else if r.void then d
    else
      let d := (List.range 64).foldl (fun d i => d.set pg (LTH.STATEW i) (r.states.getD i 0)) d
      let d := (List.range 16).foldl (fun d s => d.set pg (LTH.SOUT s) (r.souts.getD s 0)) d
      let d := (List.range 8).foldl (fun d j =>
        let y := r.outs.getD j 0
        (d.set pg (LTH.OUTV j) y).leOutput n j y) d
      let d := ((d.set pg LTH.STAT_LIM (b2n r.lim)).irqIf r.lim pg LTH.I_LIM).irq pg LTH.I_DONE
      let d := (d.set pg LTH.STAT_CONSEC 0).modLe n fun e => { e with eff := e.eff + 1 }
      (List.range 8).foldl (fun d m =>
        if d.leState m != 0 && d.la m LTH.TRIG_AFTEREN == 1 && d.la m LTH.TRIG_AFTER == n then d.leTrig m
        else if d.leState m == 0 && d.on (pLE m) LTH.TRIG_AFTEREN && d.get (pLE m) LTH.TRIG_AFTER == n then d.leTrig m
        else d) d

/-- The trigger selections of an engine: of the active bank where its loop is closed, of the shadow bank otherwise. -/
def Dev.leTrgCfg (d : Dev) (n : Nat) (F : Fld) : Bool := if d.leState n = 0 then d.on (pLE n) F else d.la n F != 0

/-- The triggers of the loop instant, and of an applied commit (R354). -/
def Dev.leTrigLoop (d : Dev) : Dev :=
  (List.range 8).foldl (fun d n =>
    let hit := d.isHub && d.leTrgCfg n LTH.TRIG_LI
    (if hit then d.leTrig n else d).modLe n fun e => { e with loop := b2n hit }) d
def Dev.leTrigCommit (d : Dev) : Dev :=
  (List.range 8).foldl (fun d n => if d.isCell && d.leTrgCfg n LTH.TRIG_CMT then d.leTrig n else d) d

/-! ### CLOSE, OPEN and the other writes -/

/-- The destination of output j through a bank `g`: none, or kind, unit and field. -/
def leDest (g : Fld → Nat) (j : Nat) : Option (Nat × Nat × Nat) :=
  let kind := g (LTH.OUT_KIND j)
  if kind = 0 then none else some (kind, if kind = 1 then g (LTH.OUT_UNIT j) else 0, g (LTH.OUT_FIELD j))

def leDests (g : Fld → Nat) : List (Nat × Nat × Nat) := (List.range 8).filterMap (leDest g)

/-- SUB codes of a stage type that are not reserved (R350). -/
def subMax (ty : Nat) : Nat := if ty = 4 then 5 else if ty = 8 then 2 else if ty = 5 ∨ ty = 6 ∨ ty = 7 then 1 else 0

/-- R359: CLOSE is refused. -/
def Dev.closeRefused (d : Dev) (n : Nat) : Bool :=
  let g := d.get (pLE n)
  let ns := stagesOf g 16 0
  let stageBad (s : Nat) : Bool :=
    let ty := g (LTH.STAGE_TYPE s)
    decide (8 < ty) || decide (subMax ty < g (LTH.STAGE_SUB s)) || decide (28 < g (LTH.STAGE_A s)) ||
    decide (28 < g (LTH.STAGE_B s)) || decide (28 < g (LTH.STAGE_C s)) ||
    (ty == 4 && decide (2 ≤ g (LTH.STAGE_SUB s)) &&
      (fScaled (g (LTH.K (8 * s))) % 2 ^ 200 != 0 || decide (63 * 2 ^ 200 < (fScaled (g (LTH.K (8 * s)))).natAbs))) ||
    (ty == 1 && fLt (g (LTH.K (8 * s + 3))) (g (LTH.K (8 * s + 2)))) ||
    (ty == 7 && (fLt (g (LTH.K (8 * s))) 0 || fLt (g (LTH.K (8 * s + 1))) 0))
  let inBad (i : Nat) : Bool :=
    let src := g (LTH.IN_SRC i)
    let idx := g (LTH.IN_IDX i)
    decide (6 < src) || ((src == 1 || src == 2) && decide (15 < idx)) ||
    (src == 5 && (d.isHub || decide (6 < idx))) || (src == 6 && (d.isCell || decide (8 < idx)))
  let outBad (j : Nat) : Bool :=
    let kind := g (LTH.OUT_KIND j)
    let f := g (LTH.OUT_FIELD j)
    let u := g (LTH.OUT_UNIT j)
    decide (2 < kind) || decide (28 < g (LTH.OUT_SEL j)) ||
    (kind == 1 && (decide (6 < u) || decide (7 < f) || (u == 6 && !(f == 3 || f == 4 || f == 5)))) ||
    (kind == 2 && (d.isCell || decide (11 < f)))
  let floats := LTH.TSAMP :: ((List.range 128).map LTH.K ++ (List.range 8).map LTH.ISCL ++ (List.range 8).map LTH.IOFS ++
    (List.range 8).map LTH.OSCL ++ (List.range 8).map LTH.OOFS ++ (List.range 8).map LTH.SAFE ++
    (List.range 4).map LTH.SRATE)
  let clash := (List.range 8).any fun m => m != n &&
    (if d.leState m != 0 then (leDests (d.la m)).any fun x => (leDests g).contains x
     else d.on (pLE m) LTH.STAT_CLOSEARM && (leDests (d.get (pLE m))).any fun x => (leDests g).contains x)
  (List.range ns).any stageBad || (decide (ns < 16) && g (LTH.STAGE_SUB ns) != 0) || (List.range 8).any inBad ||
  (List.range 8).any outBad || (floats.any fun F => !fFinite (g F)) || !fLt 0 (lz (g LTH.TSAMP)) ||
  (g LTH.TRIG_AFTEREN == 1 && g LTH.TRIG_AFTER == n) || clash

/-- LATHE_CLOSE (R359). An engine that the move to the bypass clock has opened closes only by a CLOSE after the return to SYNA: one
before it has no effect (R361). -/
def Dev.latheClose (d : Dev) (n : Nat) : Dev :=
  if d.leState n ≠ 0 ∨ d.closeRefused n then d.err (pLE n) LTH.E_CFG_REJ
  else if (d.leOf n).clkOpen && !d.onSyna then d
  else (d.modLe n fun e => { e with clkOpen := false }).set (pLE n) LTH.STAT_CLOSEARM 1

/-- LATHE_OPEN (R359, R360). -/
def Dev.latheOpen (d : Dev) (n : Nat) : Dev :=
  if d.leState n = 0 then d.set (pLE n) LTH.STAT_CLOSEARM 0 else d.leOpen n

/-- LATHE_CNTCLR (R369). -/
def Dev.latheCntclr (d : Dev) (n : Nat) : Dev :=
  [LTH.CNT_TRIGOVR, LTH.CNT_OVRCNT, LTH.CNT_DISC, LTH.CNT_MERGE].foldl (fun d F => d.clearCnt (pLE n) F) d

/-- LC_WRITE (R4, R366): a write to the shadow bank counts only in LOOP_OPEN and not armed. -/
def Dev.lcWrite (d : Dev) (n off v : Nat) : Dev :=
  let pg := pLE n
  if !(pageFields pg off).any (fun f => f.acc == .lc) then d
  else if d.leState n != 0 || d.on pg LTH.STAT_CLOSEARM then d.err pg HDR.E_ACC_REJ
  else if d.stepSp n && (off == 0x04C || (decide (0x050 ≤ off) && decide (off < 0x060))) then d
  else (pageFields pg off).foldl (fun d f => if f.acc = .lc then d.set pg (f.fld off) (bitsOf v f.lsb f.wid) else d) d

/-- Writes of Lathe registers (R369). -/
def Dev.latheWrite (d : Dev) (n off v : Nat) : Dev :=
  if off = 0x800 then
    let d := if bitAt v 31 then d.latheClose n else d
    let d := if bitAt v 30 then d.latheOpen n else d
    let d := if bitAt v 29 then d.leTrig n else d
    if bitAt v 28 then d.latheCntclr n else d
  else if 0x040 ≤ off ∧ off < 0x400 then d.lcWrite n off v
  else d.writeWord (pLE n) off v

/-- A block reset of an engine (R368): nothing is written to any destination. -/
def Dev.leReset (d : Dev) (n : Nat) : Dev := { d.modLe n fun e => { le0 with eff := e.eff } with act := rfDrop d.act (pLE n) }

end Sys2Proof.Machine
end

