-- ==== Sys2Proof/Machine/TimeBase.lean ====
section
/-! DEFINITION. TIME (chapter 07): the counter, steps, slews and validity, pulse outputs and capture inputs. -/

namespace Sys2Proof.Machine

def Dev.modTb (d : Dev) (f : Tb → Tb) : Dev := { d with tb := f d.tb }

/-- 1 ns and 16 ns in 2^-16 ns. -/
def ns16 : Nat := 65536
def guard16 : Nat := 16 * 65536

/-- The discipline in force (R130). -/
def Dev.timeMode (d : Dev) : Nat := d.get pTIME TIME.STAT_MODE
def Dev.timeValid (d : Dev) : Bool := d.on pTIME TIME.STAT_VALID
def Dev.stepGen (d : Dev) : Nat := d.get pTIME TIME.STAT_STEPGEN

/-- VALID gets a value; a change from 1 to 0 other than by VALIDCTL.CLR sets INVALID (R131). -/
def Dev.setValid (d : Dev) (b : Bool) : Dev :=
  (d.errIf (d.timeValid && !b) pTIME TIME.E_INVALID).set pTIME TIME.STAT_VALID (b2n b)

def Dev.setHoldover (d : Dev) (b : Bool) : Dev := d.set pTIME TIME.STAT_HOLDOVER (b2n b)

/-- TIME plus a signed amount in 2^-40 ns, with the wrap of SEC (R123). -/
def Dev.timePlus (d : Dev) (x : Int) : Dev := { d with time := (((d.time : Int) + x) % (wrap40 : Nat)).toNat }

/-! ### Pulse outputs -/

def Dev.tpo (d : Dev) (n : Nat) : Tpo := d.tb.tpo.getD n ⟨0, none, none, false⟩
def Dev.modTpo (d : Dev) (n : Nat) (f : Tpo → Tpo) : Dev := d.modTb fun t => { t with tpo := modNth t.tpo n f }
def Dev.tpoMode (d : Dev) (n : Nat) : Nat := d.get pTIME (TIME.TPOCFG_MODE n)
def Dev.tpoArmed (d : Dev) (n : Nat) : Bool := d.on pTIME (TIME.TPOCMD_ARMED n)

/-- The pin of an output: high-impedance in mode off, else active during a pulse, inactive otherwise (R136). -/
def Dev.tpoPin (d : Dev) (n : Nat) : Dev :=
  let act := (d.tpo n).stop.isSome
  let lv : PinLevel := if d.tpoMode n = 0 then .hiZ
    else if act != d.on pTIME (TIME.TPOCFG_POL n) then .high else .low
  { d with pins := { d.pins with tpo := modNth d.pins.tpo n fun _ => lv } }

/-- START and PERIOD in 2^-16 ns. -/
def Dev.tpoStart (d : Dev) (n : Nat) : Nat :=
  tripOf (d.get pTIME (TIME.TPONS n)) (d.get pTIME (TIME.TPOSL n)) (d.get pTIME (TIME.TPOSH_FRAC n))
    (d.get pTIME (TIME.TPOSH_SECH n))
def Dev.tpoPer (d : Dev) (n : Nat) : Nat :=
  d.get pTIME (TIME.TPOPERSF_SEC n) * sec16 + d.get pTIME (TIME.TPOPERNS n) * ns16 + d.get pTIME (TIME.TPOPERSF_FRAC n)

/-- A leading edge on the 62.5 ps grid, shifted by OFS (R136). -/
def Dev.tpoEdge (d : Dev) (n t : Nat) : Nat :=
  ((roundUpTie t fine16 : Nat) + toSigned (d.get pTIME (TIME.TPOCFG_OFS n)) 8 * (fine16 : Nat) : Int).toNat

/-- The nominal frequency of REFCLK, 0.1 MHz (R76). -/
def Dev.refclk (d : Dev) : Nat := match d.get pSYSC SYSC.STRAP_REF with | 1 => 500 | 2 => 1000 | _ => 250

/-- The nominal length of a fabric tick in nanoseconds: 4 on SYNA, otherwise the period of the bypass clock (R88). -/
def Dev.tickNs (d : Dev) : Nat :=
  match d.get pCKSW CKSW.CKSTAT_SRC with
  | 0 => 4
  | 1 => 10000 / d.refclk
  | _ => 25

/-- Elapsed time in 2^-16 ns: it passes on a bypass clock too, and no slew or step moves it. -/
def Dev.elapsed16 (d : Dev) : Nat := d.ns * ns16

/-- A pulse starts with its leading edge at `t`, or is suppressed (R137). Its trailing edge comes WIDTH of elapsed time after
the leading edge (R136). -/
def Dev.tpoFire (d : Dev) (n t : Nat) : Dev :=
  if d.on pTIME (TIME.TPOCFG_VALIDONLY n) && !d.timeValid then d
  else
    let stop := ((d.elapsed16 : Int) + t - d.now16 + (d.get pTIME (TIME.TPOWIDTH n) * ns16 : Nat)).toNat
    ((d.modTpo n fun p => { p with stop := some stop }).tpoPin n).irq pTIME (TIME.I_TPO0 + n)

/-- The first pulse of a periodic output that starts at least 16 ns ahead (R137). -/
def Dev.tpoFirst (d : Dev) (n : Nat) : Nat :=
  let s := d.tpoStart n
  let lim := d.now16 + guard16
  if lim ≤ s ∨ d.tpoPer n = 0 then 0 else (lim - s + d.tpoPer n - 1) / d.tpoPer n

/-- The rules of R137 against the present TIME, at ARM and after a step. -/
def Dev.tpoAim (d : Dev) (n : Nat) : Dev :=
  if d.tpoMode n = 1 then
    if (d.tpo n).j = 0 ∧ d.tpoStart n < d.now16 + guard16 then
      (d.set pTIME (TIME.TPOCMD_ARMED n) 0).err pTIME TIME.E_TPO_LATE
    else d
  else if d.tpoMode n = 2 then d.modTpo n fun p => { p with j := d.tpoFirst n }
  else d

/-- R136: ARM is refused. -/
def Dev.tpoRefused (d : Dev) (n : Nat) : Bool :=
  let w := d.get pTIME (TIME.TPOWIDTH n) * ns16
  decide (1000000000 ≤ d.get pTIME (TIME.TPONS n)) || decide (1000000000 ≤ d.get pTIME (TIME.TPOPERNS n)) ||
  decide (w < 4 * ns16) || (d.tpoMode n == 2 && (decide (d.tpoPer n < guard16) || decide (d.tpoPer n < w + 4 * ns16)))

/-- TPO_ARM (R136, R137). -/
def Dev.tpoArm (d : Dev) (n : Nat) : Dev :=
  if d.tpoRefused n then d.err pTIME TIME.E_TPO_REJ
  else
    let d := ((d.clearCnt pTIME (TIME.TPOCMD_TRIGOVR n)).set pTIME (TIME.TPOCMD_ARMED n) 1).modTpo n fun p =>
      { p with j := 0, lead := none, pend := false }
    d.tpoAim n

/-- TPO_DISARM (R137): a pulse in progress completes. -/
def Dev.tpoDisarm (d : Dev) (n : Nat) : Dev :=
  (d.set pTIME (TIME.TPOCMD_ARMED n) 0).modTpo n fun p => { p with lead := none, pend := false }

/-- TPO_PULSE_START (R136, R137): the next start time lies in the present tick or before it. A single pulse that VALIDONLY
suppresses is spent: the output stays armed and does not emit it later, after a backward step either (DESIGN CHOICE, entry
15). -/
def Dev.tpoPulseStart (d : Dev) (n : Nat) : Dev :=
  let p := d.tpo n
  let mode := d.tpoMode n
  if !d.tpoArmed n || p.stop.isSome then d
  else if mode = 3 then
    match p.lead with
    | some t => if d.due t then (d.modTpo n fun p => { p with lead := none }).tpoFire n t else d
    | none => d
  else
    let start := d.tpoStart n + (if mode = 2 then p.j * d.tpoPer n else 0)
    let t := d.tpoEdge n start
    if mode = 0 ∨ (mode = 1 ∧ 0 < p.j) ∨ d.now16 + tick16 ≤ t then d
    else
      let d1 := (d.modTpo n fun p => { p with j := p.j + 1 }).tpoFire n t
      if mode = 1 ∧ (d1.tpo n).stop.isSome then d1.set pTIME (TIME.TPOCMD_ARMED n) 0 else d1

/-- TPO_PULSE_END (R136, R138): the trailing edge lies in the present tick or before it. -/
def Dev.tpoPulseEnd (d : Dev) (n : Nat) : Dev :=
  match (d.tpo n).stop with
  | some t =>
    if d.elapsed16 + d.tickNs * ns16 ≤ t then d
    else
      let pend := (d.tpo n).pend
      let d := (d.modTpo n fun p => { p with stop := none, pend := false }).tpoPin n
      if pend && d.tpoArmed n then d.tpoFire n ((d.now16 : Int) + t - d.elapsed16).toNat else d
  | none => d

/-- A Spindle event at instant `t` routed to the output (R138). -/
def Dev.tpoSpindle (d : Dev) (n t : Nat) : Dev :=
  if !d.tpoArmed n || d.tpoMode n != 3 then d
  else
    let p := d.tpo n
    if p.stop.isSome || p.lead.isSome then
      if p.pend then d.inc pTIME (TIME.TPOCMD_TRIGOVR n) else d.modTpo n fun p => { p with pend := true }
    else d.modTpo n fun p => { p with lead := some (d.tpoEdge n t) }

/-! ### Steps, slews, modes -/

/-- The commit grid of a hub is set up or runs (R127, R234). -/
def Dev.gridUp (d : Dev) : Bool := d.isHub && d.hub.grid

/-- Instants of TIME that count elapsed time move with a step: conversions in progress, leading edges of Spindle pulses, the start
of the present tick (R162), motor legs, and HK, which a step does not stop (R276, R285). -/
def Dev.shiftTimes (d : Dev) (x : Int) : Dev :=
  let w (t : Nat) : Nat := time16 ((t : Int) + x)
  let job (j : AdcJob) : AdcJob := { j with t0 := w j.t0 }
  let d := d.modUnit 6 fun u =>
    { u with vs := w u.vs, ready := w u.ready, edges := u.edges.map fun e => { e with at_ := w e.at_ },
             sEdges := u.sEdges.map fun e => (w e.1, e.2) }
  { d with
    adc := d.adc.map fun a =>
      { a with cur := a.cur.map job, flight := a.flight.map job, back := a.back.map job,
               pend := a.pend.map fun p => (p.1, w p.2), free := if a.free = 0 then 0 else w a.free,
               hold := if a.hold = 0 then 0 else w a.hold }
    tb := { d.tb with tpo := d.tb.tpo.map fun p => { p with lead := p.lead.map w } }
    spd := { d.spd with before := w d.spd.before }
    motr := { d.motr with legs := d.motr.legs.map fun l => { l with upA := l.upA.map w, upB := l.upB.map w } } }

/-- PERIOD and the present due time of time event n, 2^-16 ns (R158). -/
def Dev.tevPer (d : Dev) (n : Nat) : Nat :=
  d.get pSPDL (SPDL.TEVPERSF_SEC n) * sec16 + d.get pSPDL (SPDL.TEVPERNS n) * ns16 + d.get pSPDL (SPDL.TEVPERSF_FRAC n)
def Dev.tevStart (d : Dev) (n : Nat) : Nat :=
  tripOf (d.get pSPDL (SPDL.TEVNS n)) (d.get pSPDL (SPDL.TEVSL n)) (d.get pSPDL (SPDL.TEVSH_FRAC n))
    (d.get pSPDL (SPDL.TEVSH_SECH n))
def Dev.tevDue (d : Dev) (n : Nat) : Nat := (d.tevStart n + d.spd.tevJ.getD n 0 * d.tevPer n) % (wrap40 / 2 ^ 24)

/-- A due time has come by an instant (R158). The grid's own events compare across the wrap of SEC, since their origin can
lie before TIME's zero (R18, R160). -/
def tevBy (n due now : Nat) : Bool := if n < 2 then notAfter due now else decide (due ≤ now)

/-- The time events whose due time lies at or before TIME have been passed (R159). In a tick with a forward step the comparison
follows the step (R129), so a due time that the advance of that tick alone would have reached is passed with those that the step
jumps over (DEDUCED, entry 17). -/
def Dev.tevPassed (d : Dev) : Dev :=
  let late (n : Nat) : Bool := d.on pSPDL (SPDL.TEVCTL_EN n) && tevBy n (d.tevDue n) d.now16
  { d with spd := { d.spd with tevLate := (List.range 32).map fun n => d.spd.tevLate.getD n false || late n } }

/-- The step just made, as timestamps of its tick and of instants before it need it; steps of one tick are one (R129). -/
def Dev.stepNote (d : Dev) (x : Int) : Dev :=
  d.modTb fun b => { b with steps := match b.steps with
    | (k, y, g) :: t => if k = d.ns then (k, y + x, g) :: t else (d.ns, x, d.stepGen) :: b.steps
    | [] => [(d.ns, x, d.stepGen)] }

/-- TIME takes a new value by a step: the time events it jumps over are passed (R159), STEPGEN, running PWM units, pulse
outputs (R127, R137, R276). -/
def Dev.timeStepTo (d : Dev) (t : Nat) : Dev :=
  let was := d.now16
  let d := { (d.adcSync 0).adcSync 1 with time := t % wrap40 }
  let d := d.stepNote ((d.now16 : Int) - was)
  let d := if was < d.now16 then d.tevPassed else d
  let d := d.shiftTimes ((d.now16 : Int) - was)
  let d := (d.incWrap pTIME TIME.STAT_STEPGEN).irq pTIME TIME.I_STEP_DONE
  (List.range 4).foldl (fun d n => if d.tpoArmed n then d.tpoAim n else d) d.pwmTimeStep

/-- The value of the STEP triplet, 2^-40 ns. -/
def Dev.stepVal (d : Dev) : Nat :=
  tripOf (d.get pTIME TIME.STEPNS) (d.get pTIME TIME.STEPSL) (d.get pTIME TIME.STEPSH_FRAC)
    (d.get pTIME TIME.STEPSH_SECH) * 2 ^ 24

/-- TIME_STEP (R127): a write of STEPCTL with GO. -/
def Dev.timeStep (d : Dev) (abs neg : Bool) : Dev :=
  if decide (1000000000 ≤ d.get pTIME TIME.STEPNS) || d.timeMode != 0 || d.gridUp || !d.onSyna then
    d.err pTIME TIME.E_STEP_REJ
  else
    let d := (d.set pTIME TIME.STEPCTL_ABS (b2n abs)).set pTIME TIME.STEPCTL_NEG (b2n neg)
    let v := d.stepVal
    if abs then d.timeStepTo v
    else if neg then d.timeStepTo (d.time + wrap40 - v % wrap40)
    else d.timeStepTo (d.time + v)

/-- RATE_WRITE (R124, R128). -/
def Dev.rateWrite (d : Dev) (v : Nat) : Dev :=
  if d.timeMode != 0 then d.err pTIME TIME.E_RATE_REJ else d.set pTIME TIME.RATE v

/-- SLEW_GO (R128): a write of SLEWCTL with GO. -/
def Dev.slewGo (d : Dev) (spd : Nat) : Dev :=
  if spd % 2048 = 0 ∨ d.timeMode != 0 then d.err pTIME TIME.E_SLEW_REJ
  else
    (((d.set pTIME TIME.SLEWCTL_SPD spd).set pTIME TIME.SLEWCTL_BUSY 1).set pTIME TIME.STAT_SLEWING 1).modTb fun t =>
      { t with slew := toSigned (d.get pTIME TIME.SLEWOFS) 32 * 2 ^ 24 }

/-- SLEW_DONE (R128). -/
def Dev.slewDone (d : Dev) : Dev :=
  if d.on pTIME TIME.SLEWCTL_BUSY && d.tb.slew == 0 then
    ((d.set pTIME TIME.SLEWCTL_BUSY 0).set pTIME TIME.STAT_SLEWING 0).irq pTIME TIME.I_SLEW_DONE
  else d

/-- The slew term of a tick, 2^-40 ns (R128). -/
def Dev.slewTerm (d : Dev) : Int :=
  let s : Int := d.get pTIME TIME.SLEWCTL_SPD * 2 ^ 20
  if d.on pTIME TIME.SLEWCTL_BUSY then clampI d.tb.slew (-s) s else 0

/-- The servo's phase correction in a tick: the part of this tick, with the remainder in the last one, at most ±2 ns
(R216). -/
def Dev.corrTerm (d : Dev) : Int :=
  match d.srv.corr with
  | some (per, left, rem) => clampI (if left ≤ 1 then per + rem else per) (-(2 * 2 ^ 40)) (2 * 2 ^ 40)
  | none => 0

/-- One tick of the correction is done with. -/
def Srv.corrNext (s : Srv) : Srv :=
  match s.corr with
  | some (per, left, rem) => { s with corr := if left ≤ 1 then none else some (per, left - 1, rem) }
  | none => s

/-- How fast TIME runs in the tick that has begun, for timestamps of instants in it (R132). -/
def Dev.pace (d : Dev) (adv : Int) : Dev :=
  if (d.tb.paces.head?.map fun p => p.2) = some (adv, d.tickNs) then d
  else d.modTb fun t => { t with paces := (d.ns - d.tickNs, adv, d.tickNs) :: t.paces }

/-- TIME in a fabric tick on SYNA (R123, R129, R216). -/
def Dev.timeTick (d : Dev) : Dev :=
  let s := d.slewTerm
  let adv : Int := 4 * 2 ^ 40 + toSigned (d.get pTIME TIME.RATE) 32 + s + d.corrTerm
  let d1 := ((d.pace adv).timePlus adv).modTb fun t => { t with slew := t.slew - s }
  { d1 with srv := d1.srv.corrNext }

/-- TIME_MODE_WRITE (R130): the discipline changes at the next tick. -/
def Dev.timeModeWrite (d : Dev) (m : Nat) : Dev :=
  let m := m % 4
  if m = 3 ∨ (d.isCell ∧ m = 2) ∨ (d.isHub ∧ m = 1) then d.err pTIME TIME.E_CFG_REJ else d.set pTIME TIME.CFG_MODE m

/-- The written discipline comes into force at a tick; a follower cancels a slew (R130). A servo's phase correction in progress goes on
being added to TIME in mode 0b00 (DESIGN CHOICE, entry 15: the rule cancels slews only). -/
def Dev.modeTick (d : Dev) : Dev :=
  let m := d.get pTIME TIME.CFG_MODE
  if m = d.timeMode then d
  else
    let d := d.set pTIME TIME.STAT_MODE m
    if m = 0 then d
    else ((d.set pTIME TIME.SLEWCTL_BUSY 0).set pTIME TIME.STAT_SLEWING 0).modTb fun t => { t with slew := 0 }

/-- VALID_SET, VALID_CLR, HOLDOVER_SET and HOLDOVER_CLR act in mode 0b00 (R131). On the bypass clock TIME marks itself not
valid and stays so until its source sets VALID after the return (R90, R125), so a SET there has no effect (DEDUCED, entry 15). -/
def Dev.validSet (d : Dev) : Dev := if d.timeMode = 0 ∧ d.onSyna then d.setValid true else d
def Dev.validClr (d : Dev) : Dev := if d.timeMode = 0 then d.set pTIME TIME.STAT_VALID 0 else d
def Dev.holdSet (d : Dev) : Dev := if d.timeMode = 0 then d.setHoldover true else d
def Dev.holdClr (d : Dev) : Dev := if d.timeMode = 0 then d.setHoldover false else d

/-- A write of VALIDCTL (R131). -/
def Dev.validCtl (d : Dev) (v : Nat) : Dev :=
  if d.timeMode ≠ 0 then d
  else if (bitAt v 0 && bitAt v 1) || (bitAt v 2 && bitAt v 3) then d.err pTIME TIME.E_CFG_REJ
  else
    let d := if bitAt v 0 then d.validSet else d
    let d := if bitAt v 1 then d.validClr else d
    let d := if bitAt v 2 then d.holdSet else d
    if bitAt v 3 then d.holdClr else d

/-- TIME_NOW_READ (R126): the words of NOW are latched from one tick. -/
def Dev.timeNowRead (d : Dev) : Dev := (d.latchTrip pTIME 0x800 d.now16).answer (nsOf d.now16)

/-! ### Capture -/

/-- TCAP_EDGE (R139): an edge on TCAPn at a 62.5 ps position of the present tick. Its timestamp is one from before a step
of this tick (R129); the 16 ns after the captured edge before it are elapsed time. The FIFO's interrupt is raised once for each capture, so a bit that software clears stays clear while
entries remain (DESIGN CHOICE, entry 16). -/
def Dev.tcapEdge (d : Dev) (n : Nat) (rising : Bool) (sub : Nat) : Dev :=
  if !d.bit pTIME (TIME.TCAPCFG_EDGE n) (if rising then 0 else 1) then d
  else
    let (x, g) := d.stepSince 0
    let stamp := roundUpTie (time16 ((d.now16 : Int) - x + (sub * fine16 : Nat))) fine16
    let t := d.elapsed16 + sub * fine16
    let near := match d.tb.capAt.getD n none with
      | some p => decide (t < p + guard16)
      | none => false
    if near || decide (4 ≤ (d.tb.tcap.getD n []).length) || !d.onSyna then
      (d.inc pTIME (TIME.TCAPINFO_MISS n)).err pTIME TIME.E_TCAP_MISS
    else
      (d.modTb fun b => { b with
        tcap := modNth b.tcap n fun l => l ++ [⟨b2n rising * 2 ^ 30 + g * 2 ^ 24, stamp % wrap16⟩]
        capAt := modNth b.capAt n fun _ => some t }).irq pTIME (TIME.I_TCAP0 + n)

/-- TCAP_CFG_WRITE (R139). -/
def Dev.tcapCfg (d : Dev) (n v : Nat) : Dev :=
  (d.set pTIME (TIME.TCAPCFG_EDGE n) v).clearCnt pTIME (TIME.TCAPINFO_MISS n)

/-- A read of TCAPn INFO (R135, R139). -/
def Dev.tcapRead (d : Dev) (n : Nat) : Dev :=
  let miss := d.get pTIME (TIME.TCAPINFO_MISS n)
  let x := 0xA04 + 16 * n
  match d.tb.tcap.getD n [] with
  | [] => (d.latchTrip pTIME x 0 |>.latch pTIME [(x, 0)]).answer miss
  | e :: rest =>
    let fill := rest.length + 1
    let d := d.modTb fun b => { b with tcap := modNth b.tcap n fun _ => rest }
    (d.latchTrip pTIME x e.time |>.latch pTIME [(x, nsOf e.time)]).answer (2 ^ 31 + e.info + fill * 65536 + miss)

/-! ### Register writes -/

/-- Writes of TIME registers (R136, R140). A TPOnCMD
with ARM and DISARM arms and then disarms (DESIGN CHOICE, entry 15: R141 is silent). -/
def Dev.timeWrite (d : Dev) (off v : Nat) : Dev :=
  if off = 0x040 then d.timeModeWrite (bitsOf v 0 2)
  else if 0x100 ≤ off ∧ off < 0x180 then
    let n := (off - 0x100) / 32
    if (pageFields pTIME off).isEmpty then d
    else if d.tpoArmed n then d.err pTIME TIME.E_TPO_REJ else (d.writeWord pTIME off v).tpoPin n
  else if off = 0x200 ∨ off = 0x204 then d.tcapCfg ((off - 0x200) / 4) (bitsOf v 0 2)
  else if off = 0x810 then d.rateWrite v
  else if off = 0x818 then (if bitAt v 31 then d.slewGo (bitsOf v 0 11) else d.writeWord pTIME off v)
  else if off = 0x82C then (if bitAt v 31 then d.timeStep (bitAt v 1) (bitAt v 0) else d.writeWord pTIME off v)
  else if off = 0x830 then d.validCtl v
  else if 0x840 ≤ off ∧ off < 0x850 then
    let n := (off - 0x840) / 4
    let d := if bitAt v 31 then d.tpoArm n else d
    if bitAt v 30 then d.tpoDisarm n else d
  else d.writeWord pTIME off v

end Sys2Proof.Machine
end

