-- ==== Sys2Proof/Machine/Spindle.lean ====
section
/-! DEFINITION. Spindle (chapter 08): the mains angle, its tracker and its follower, angle events and time events, and
the dispatch of their actions. -/

namespace Sys2Proof.Machine

def Dev.modSpd (d : Dev) (f : Spd → Spd) : Dev := { d with spd := f d.spd }


def Dev.spdEn (d : Dev) : Bool := d.on pSPDL SPDL.CFG_EN
def Dev.spdValid (d : Dev) : Bool := d.on pSPDL SPDL.STAT_VALID

/-- VALID gets a value; a change from 1 to 0 sets INVALID (R145). -/
def Dev.setSpdValid (d : Dev) (b : Bool) : Dev :=
  (d.errIf (d.spdValid && !b) pSPDL SPDL.E_INVALID).set pSPDL SPDL.STAT_VALID (b2n b)

/-- The visible angle (R147). -/
def Dev.angle (d : Dev) : Nat := d.angle64 / 2 ^ 32

/-- FNOM as a value of FREQ. -/
def Dev.fnom (d : Dev) : Nat := (if d.on pSPDL SPDL.CFG_FNOM then 60 else 50) * 65536

/-- Δ with its hidden bits: f × 4 ns × 2^32, rounded to the nearest, a tie up (R144). -/
def Dev.delta64 (d : Dev) : Nat := (2 * (d.get pSPDL SPDL.FREQ * 2 ^ 50) + 1000000000) / 2000000000 % 2 ^ 64

/-- θ in a fabric tick on SYNA, after TIME (R144, R163): what the tick begins with is kept. -/
def Dev.spdTick (d : Dev) (before : Nat) : Dev :=
  let a := d.angle
  let step := if d.spdEn then d.delta64 else 0
  d.modSpd fun s =>
    { s with prev := a, prevValid := d.spdValid, before := before, jumped := false, step := step, hit := [],
             theta := (s.theta + step) % 2 ^ 64 }

/-! ### Actions (R161 to R164) -/

/-- A target gets one trigger per tick; a merged one is counted (R164). -/
def Dev.spdOnce (d : Dev) (target : Nat) (f : Dev → Dev) : Dev :=
  if d.spd.hit.contains target then d.inc pSPDL SPDL.MERGECNT_CNT
  else f (d.modSpd fun s => { s with hit := target :: s.hit })

/-- A bit of AEVFLG0, AEVFLG1 or TEVFLG is set; one that became set raises its interrupt (R165). -/
def Dev.spdFlag (d : Dev) (F : Fld) (bit irq : Nat) : Dev :=
  (d.raise pSPDL F bit).irqIf (!d.bit pSPDL F bit) pSPDL irq

/-- Perform an ACT word at instant `t` (R161, R162): `ev` is the identity a marker carries, n for angle event n and
64 + n for time event n. The time of a marker is that instant on the 62.5 ps grid, though markers act on the tick (DESIGN
CHOICE, entry 17). -/
def Dev.spdAct (d : Dev) (act t ev : Nat) : Dev :=
  let d := if bitAt act 31 then
      (if ev < 64 then d.spdFlag (SPDL.AEVFLG (ev / 32)) (ev % 32) SPDL.I_AEV else d.spdFlag SPDL.TEVFLG (ev - 64) SPDL.I_TEV)
    else d
  let d := if bitAt act 16 then d.spdOnce 0 fun d => d.adcTrigger 0 0 (bitsOf act 11 5) t else d
  let d := if bitAt act 10 then d.spdOnce 1 fun d => d.adcTrigger 1 0 (bitsOf act 5 5) t else d
  let d := (List.range 8).foldl (fun d n =>
    if bitAt act (17 + n) then d.spdOnce (2 + n) fun d => d.leTrig n else d) d
  let d := if bitAt act 30 then d.spdOnce 10 fun d => d.loadSoft t else d
  let d := (List.range 4).foldl (fun d n =>
    if bitAt act (25 + n) && d.tpoMode n == 3 then d.spdOnce (11 + n) fun d => d.tpoSpindle n t else d) d
  if bitAt act 29 && d.isHub then d.spdOnce 15 fun d => d.anMark t 1 ev else d

/-! ### Angle events (R155 to R157) -/

def Dev.aevOn (d : Dev) (n : Nat) : Bool := d.bit pSPDL (SPDL.AEVEN (n / 32)) (n % 32)
def Dev.aevArmed (d : Dev) (n : Nat) : Bool := bitAt d.spd.armed n

/-- Arm or disarm an angle event. -/
def Dev.aevArm (d : Dev) (n : Nat) (b : Bool) : Dev :=
  d.modSpd fun s => { s with armed := s.armed - (if bitAt s.armed n then 2 ^ n else 0) + (if b then 2 ^ n else 0) }

/-- How far an angle lies ahead of the angle before the tick. -/
def Dev.ahead (d : Dev) (a : Nat) : Nat := (a + 2 ^ 32 - d.spd.prev % 2 ^ 32) % 2 ^ 32

/-- θ crosses an angle forward in the present tick (R155, R156). -/
def Dev.crossed (d : Dev) (a : Nat) : Bool :=
  let c := d.ahead d.angle
  let x := d.ahead a
  decide (0 < x) && decide (x ≤ c) && decide (c < 2 ^ 31)

/-- The instant of an angle event (R162): the place in the tick of a crossing by the advance of R144, else its start. -/
def Dev.aevAt (d : Dev) (a : Nat) : Nat :=
  let x := d.ahead a * 2 ^ 32
  let p := if d.spd.jumped then 0 else (2 * 64 * x + d.spd.step) / (2 * max 1 d.spd.step)
  d.spd.before + p * fine16

/-- The angle at which event n fires, and that at which it re-arms. -/
def Dev.aevAng (d : Dev) (n : Nat) : Nat := d.get pSPDL (SPDL.AEVANG n)
def Dev.aevBack (d : Dev) (n : Nat) : Nat := (d.aevAng n + 2 ^ 31) % 2 ^ 32

/-- ANGLE_EVENT_FIRE (R155): armed, crossed, with VALID in this tick and in the tick before. -/
def Dev.aevFire (d : Dev) (n : Nat) : Dev :=
  if d.aevOn n && d.aevArmed n && d.spdValid && d.spd.prevValid && d.onSyna && d.crossed (d.aevAng n) then
    (d.aevArm n false).spdAct (d.get pSPDL (SPDL.AEVACT n)) (d.aevAt (d.aevAng n)) n
  else d

/-- ANGLE_EVENT_REARM (R155). -/
def Dev.aevRearm (d : Dev) (n : Nat) : Dev :=
  if d.aevOn n && !d.aevArmed n && d.crossed (d.aevBack n) then d.aevArm n true else d

/-- θ has jumped in this tick. The events it crosses fire and re-arm by their own commands, which the sender places in the
order of R163, behind the time events of the tick; their position is the start of the tick (R156, R162). -/
def Dev.aevJump (d : Dev) : Dev := d.modSpd fun s => { s with jumped := true }

/-- The visible angle jumps to a value, the hidden bits to 0. -/
def Dev.thetaTo (d : Dev) (a : Nat) : Dev :=
  let ofs := if d.isHub then d.get pSPDL SPDL.THOFS else 0
  (d.modSpd fun s => { s with theta := (a + 2 ^ 32 - ofs) % 2 ^ 32 * 2 ^ 32 }).aevJump

/-- THOFS_WRITE (R147, R156): the visible angle jumps by the change. In cell role THOFS is ignored and reads 0 (R153). -/
def Dev.thofsWrite (d : Dev) (v : Nat) : Dev := if d.isCell then d else (d.set pSPDL SPDL.THOFS v).aevJump

/-- A write of AEVEN0 or AEVEN1: an event is armed when it is enabled (R155). -/
def Dev.aevEnWrite (d : Dev) (h v : Nat) : Dev :=
  (List.range 32).foldl (fun d i =>
    if bitAt v i && !d.bit pSPDL (SPDL.AEVEN h) i then (d.setBit pSPDL (SPDL.AEVEN h) i true).aevArm (32 * h + i) true
    else if !bitAt v i then (d.setBit pSPDL (SPDL.AEVEN h) i false).aevArm (32 * h + i) false
    else d) d

/-! ### Time events (R158 to R160) -/

/-- EN of a time event; ARMED follows it. -/
def Dev.tevEnable (d : Dev) (n : Nat) (b : Bool) : Dev :=
  (d.set pSPDL (SPDL.TEVCTL_EN n) (b2n b)).set pSPDL (SPDL.TEVCTL_ARMED n) (b2n b)

/-- `k` due times of event n are done with: the next one, or the end of a one-shot event. A one-shot event whose EN software has
written in this tick keeps it (R101): what is 1 enables it anew, with its due time passed (R159). -/
def Dev.tevNext (d : Dev) (n k : Nat) : Dev :=
  let stays := !d.on pSPDL (SPDL.TEVCTL_PERIODIC n) && d.meets.soft.contains (pSPDL, (SPDL.TEVCTL_EN n).off)
  let d := if d.on pSPDL (SPDL.TEVCTL_PERIODIC n) then
      d.modSpd fun s => { s with tevJ := modNth s.tevJ n (· + k) }
    else if stays then d
    else d.tevEnable n false
  d.modSpd fun s => { s with tevLate := modNth s.tevLate n fun _ => stays }

/-- `k` due times are skipped (R159). -/
def Dev.tevSkip (d : Dev) (n k : Nat) : Dev :=
  if k = 0 then d else (d.incBy pSPDL (SPDL.TEVCTL_SKIPCNT n) k).err pSPDL SPDL.E_TEV_MISSED

/-- How many due times of event n lie at or before TIME. -/
def Dev.tevCount (d : Dev) (n : Nat) : Nat :=
  if !tevBy n (d.tevDue n) d.now16 then 0
  else if d.on pSPDL (SPDL.TEVCTL_PERIODIC n) then time16 ((d.now16 : Int) - d.tevDue n) / max 1 (d.tevPer n) + 1 else 1

/-- The first due time of the grid event n after TIME is next: nothing is passed (R160). -/
def Dev.tevAim (d : Dev) (n : Nat) : Dev :=
  let d := d.modSpd fun s => { s with tevJ := modNth s.tevJ n fun _ => 0, tevLate := modNth s.tevLate n fun _ => false }
  let k := d.tevCount n
  d.modSpd fun s => { s with tevJ := modNth s.tevJ n fun _ => k }

/-- A grid event gets its fields: periodic from `t0` with a period in ticks. -/
def Dev.tevGrid1 (d : Dev) (n t0 ticks : Nat) : Dev :=
  let d := (((d.set pSPDL (SPDL.TEVNS n) (nsOf t0)).set pSPDL (SPDL.TEVSL n) (slOf t0)).set pSPDL (SPDL.TEVSH_FRAC n)
    (fracOf t0)).set pSPDL (SPDL.TEVSH_SECH n) (shOf t0)
  let d := ((d.set pSPDL (SPDL.TEVPERNS n) (4 * ticks)).set pSPDL (SPDL.TEVPERSF_FRAC n) 0).set pSPDL
    (SPDL.TEVPERSF_SEC n) 0
  let d := ((d.set pSPDL (SPDL.TEVCTL_LATEPOL n) 0).set pSPDL (SPDL.TEVCTL_PERIODIC n) 1).tevEnable n true
  d.tevAim n

/-- TEV0 and TEV1 are written from the grid in force and start at their first due times after TIME (R160). -/
def Dev.tevGrid (d : Dev) : Dev :=
  let ticks := d.gridTsf / tick16
  (d.tevGrid1 0 d.gridT0 ticks).tevGrid1 1 (d.gridT0 + d.gridSo) ticks

/-! ### The commit grid, which TEV0 carries (R17, R18, R160) -/

/-- The commit instant C(k) of the grid in force, 2^-16 ns (R17). -/
def Dev.commitAt (d : Dev) (k : Nat) : Nat := (d.gridT0 + k * d.gridTsf) % wrap16

/-- C(k) has come (R158): until its first commit the grid of a hub waits for T0 itself. TEV0 does not run inside a block reset
of SPDL (R160). -/
def Dev.commitDue (d : Dev) (k : Nat) : Bool :=
  notAfter (d.commitAt k) d.now16 && !d.inBlk.contains pSPDL &&
    (d.isCell || d.on pSTRD STRD.STAT_RUN || decide (d.hgT0 ≤ d.now16))

/-- TEV0 has passed its due time, so it carries no commit action there (R159, R160). -/
def Dev.commitPassed (d : Dev) : Bool := d.spd.tevLate.getD 0 false

/-- The index of the first commit instant after TIME (R160). -/
def Dev.firstIdx (d : Dev) : Nat :=
  let x := since d.gridT0 d.now16
  if x < 0 then 0 else x.toNat / max 1 d.gridTsf + 1

/-- An origin such that the commit of index `j` stays where it is under a new period (R17, R18, R236). -/
def rebase (t j ticks : Nat) : Nat := (t + j * (wrap16 - ticks * tick16 % wrap16)) % wrap16

/-- The announced change of the grid of this device: first commit, TSF, t_so (R18). -/
def Dev.gridAnn (d : Dev) : Option (Nat × Nat × Nat) := if d.isCell then d.vn.ann else d.hub.ann

/-- No change of the grid is announced any more. -/
def Dev.gridAnnDone (d : Dev) : Dev :=
  if d.isCell then { d with vn := { d.vn with ann := none } }
  else { d with hub := { d.hub with ann := none } }.set pSTRD STRD.STAT_TSF_PEND 0

/-- A new period and sampling offset from the commit of index `j` on, which keeps its place (R18, R253): the grid registers,
TEV0 and TEV1, whose due times go on under their numbers. -/
def Dev.gridPut (d : Dev) (j tsf tso : Nat) : Dev :=
  let t := rebase (d.commitAt j) j tsf
  let d := if d.isCell then ((d.hwTrip pVANE gt0Trip t).hwSet pVANE VANE.GTSF tsf).hwSet pVANE VANE.GSAMP tso
    else { d with hgT0 := t, hgTsf := tsf, hgSo := tso }
  let (js, late) := (d.spd.tevJ, d.spd.tevLate)
  d.gridAnnDone.tevGrid.modSpd fun s => { s with tevJ := js, tevLate := late }

/-- The announced change of the grid comes with the commit of index `k`. -/
def Dev.gridChange (d : Dev) (k : Nat) : Dev :=
  match d.gridAnn with
  | some (j, tsf, tso) => if k < j then d else if j = k then d.gridPut k tsf tso else d.gridAnnDone
  | none => d

/-- The next commit is the first one after TIME. -/
def Dev.idxAim (d : Dev) : Dev :=
  let k := d.firstIdx
  if d.isCell then
    { d with vn := { d.vn with idx := k, cands := d.vn.cands.filter fun c => decide (k ≤ c.idx) } }
  else { d with hub := { d.hub with idx := k, loopAt := none, teleDone := false } }

/-- The commit instants up to TIME are done with, and take no action (R159); an announced change whose commit is among them
has come. -/
def Dev.commitSkip (d : Dev) : Dev :=
  match d.gridAnn with
  | some (j, tsf, tso) => (if j < d.firstIdx then d.gridPut j tsf tso else d).idxAim
  | none => d.idxAim

/-- TIME_EVENT_FIRE (R158, R159): the due time lies in the tick, or has been passed. Inside a block reset of SPDL nothing
fires (R160). -/
def Dev.tevFire (d : Dev) (n : Nat) : Dev :=
  if !d.on pSPDL (SPDL.TEVCTL_EN n) || d.tevCount n == 0 || !d.onSyna || d.inBlk.contains pSPDL then d
  else
    let act := d.get pSPDL (SPDL.TEVACT n)
    let d := if n = 0 && d.commitPassed then d.commitSkip else d
    let due := d.tevDue n
    if !d.spd.tevLate.getD n false then (d.tevNext n 1).spdAct act (roundUpTie due fine16) (64 + n)
    else
      let k := d.tevCount n
      if d.on pSPDL (SPDL.TEVCTL_LATEPOL n) then
        ((d.tevNext n k).spdAct act (d.spd.before + roundUpTie (due % tick16) fine16) (64 + n)).tevSkip n (k - 1)
      else (d.tevNext n k).tevSkip n k

/-- R158: a write of EN = 1 is refused. -/
def Dev.tevRefused (d : Dev) (n : Nat) (per : Bool) : Bool :=
  decide (1000000000 ≤ d.get pSPDL (SPDL.TEVNS n)) || decide (1000000000 ≤ d.get pSPDL (SPDL.TEVPERNS n)) ||
  (per && decide (d.tevPer n < 1000 * ns16))

/-- TEVCTL_WRITE (R158). -/
def Dev.tevctlWrite (d : Dev) (n v : Nat) : Dev :=
  let en := bitAt v 31
  let per := bitAt v 16
  let was := d.on pSPDL (SPDL.TEVCTL_EN n)
  if n < 2 ∨ 32 ≤ n then d
  else if was && per != d.on pSPDL (SPDL.TEVCTL_PERIODIC n) then d.err pSPDL SPDL.E_CFG_REJ
  else if en && d.tevRefused n per then d.err pSPDL SPDL.E_CFG_REJ
  else
    let d := ((d.tevEnable n en).set pSPDL (SPDL.TEVCTL_LATEPOL n) (b2n (bitAt v 17))).set pSPDL (SPDL.TEVCTL_PERIODIC n)
      (b2n per)
    let d := if en then d.set pSPDL (SPDL.TEVCTL_SKIPCNT n) 0 else d
    if en && !was then
      let d := d.modSpd fun s => { s with tevJ := modNth s.tevJ n fun _ => 0 }
      d.modSpd fun s => { s with tevLate := modNth s.tevLate n fun _ => decide (d.tevDue n ≤ d.now16) }
    else d

/-- The grid stops. -/
def Dev.tevGridStop (d : Dev) : Dev := (d.tevEnable 0 false).tevEnable 1 false

/-! ### The tracker (R146 to R151) -/

/-- LOCK gets a value; a change raises LOCK_CHG. The first LOCK makes the angle valid (R145, R148). -/
def Dev.setLock (d : Dev) (b : Bool) : Dev :=
  if d.on pSPDL SPDL.STAT_LOCK = b then d
  else
    let d := (d.set pSPDL SPDL.STAT_LOCK (b2n b)).irq pSPDL SPDL.I_LOCK_CHG
    if b then d.setSpdValid true else d

/-- Tracking is stopped: f is at FNOM and the tracker starts afresh (R144, R146). -/
def Dev.trkReset (d : Dev) : Dev :=
  let d := ((d.setLock false).set pSPDL SPDL.STAT_FREEWHEEL 0).set pSPDL SPDL.STAT_ROCOF_LIM 0
  let d := if d.isHub then d.set pSPDL SPDL.FREQ d.fnom else d
  d.modSpd fun s =>
    { s with setAt := none, bad := 0, good := 0, fwV := false, fwT := false, calm := none, large := 0, lastE := 0, back := none,
             quadA := (0, 0), quadB := (0, 0), pos := (0, 0), integ := 0, rocRem := 0 }

/-- The tracker starts to freewheel (R150): f and the integral stand, and no limit acts on f. -/
def Dev.trkFree (d : Dev) : Dev :=
  let d := (d.modSpd fun s => { s with calm := none, large := 0 }).set pSPDL SPDL.STAT_ROCOF_LIM 0
  if d.on pSPDL SPDL.STAT_FREEWHEEL then d
  else ((d.setLock false).set pSPDL SPDL.STAT_FREEWHEEL 1).irq pSPDL SPDL.I_GRID_LOW

/-- STAT.FREEWHEEL ends when no reason is left. -/
def Dev.trkResume (d : Dev) : Dev := d.set pSPDL SPDL.STAT_FREEWHEEL (b2n (d.spd.fwV || d.spd.fwT))

/-! The arithmetic of the loop: angles in 2^-64 rad, signals in 2^-32 of a code, e in 2^-30, f in 2^-48 Hz, each rounded to the
nearest (DESIGN CHOICE, entry 17: the spec gives the steps and no number formats). -/

/-- 2π and √3 in 2^-64. -/
def twoPi64 : Nat := twoPi256 / 2 ^ 192
def sqrt3x64 : Nat := isqrt (3 * 2 ^ 128)

/-- Sine and cosine of a part of a cycle given in 2^-64 cycle, in 2^-64. -/
def cycSin (a : Nat) : Int := taylor (a * twoPi64 / 2 ^ 64 : Nat) 24 (a * twoPi64 / 2 ^ 64 : Nat) 1
def cycCos (a : Nat) : Int := taylor (a * twoPi64 / 2 ^ 64 : Nat) 24 (2 ^ 64) 0

/-- The series of the arc tangent at t / 2^64, in 2^-64 rad: `p` is the present odd power and `n` its exponent. -/
def atanSeries (t : Int) : Nat → Int → Nat → Int
  | 0, _, _ => 0
  | fuel + 1, p, n => p / (n : Int) + atanSeries t fuel (-(p * t * t / 2 ^ 128)) (n + 2)

/-- tan of half the angle whose tangent is t / 2^64. -/
def tanHalf (t : Nat) : Nat := t * 2 ^ 64 / (2 ^ 64 + isqrt (2 ^ 128 + t * t))

/-- atan2(y, x) as a part of a cycle in 2^-32. -/
def atan2Cyc (y x : Int) : Nat :=
  let lo := min y.natAbs x.natAbs
  let hi := max y.natAbs x.natAbs
  let t := tanHalf (tanHalf (lo * 2 ^ 64 / max 1 hi))
  let a := divRound (4 * atanSeries t 24 t 1 * 2 ^ 32) twoPi64
  let a := if x.natAbs < y.natAbs then 2 ^ 30 - a else a
  let a := if x < 0 then 2 ^ 31 - a else a
  ((if y < 0 then -a else a) % 2 ^ 32).toNat

/-- A free number below a bound. -/
def Dev.freeBelow (d : Dev) (n : Nat) : Nat × Dev := let (x, d) := d.free; (x % max 1 n, d)

/-- θ jumps to atan2(β+, α+), which no rule gives where both are zero. -/
def Dev.trkSnap (d : Dev) : Dev :=
  let (x, y) := d.spd.pos
  let (a, d) := if x = 0 ∧ y = 0 then d.freeBelow (2 ^ 32) else (atan2Cyc y x, d)
  d.thetaTo ((a + d.get pSPDL SPDL.THOFS) % 2 ^ 32)

/-- The interval of a sample set against TS (R146). -/
def Dev.trkInterval (d : Dev) (dt : Nat) : Dev :=
  let ts := d.get pSPDL SPDL.TRKTS_TS
  let off : Nat := Int.natAbs ((dt : Int) - ts)
  let out := decide (ts < 100 * off)
  let d := d.modSpd fun s => if out then { s with bad := s.bad + 1, good := 0 } else { s with bad := 0, good := s.good + 1 }
  if out ∧ d.spd.bad = 8 then
    (if d.spd.fwT then d
     else ((d.err pSPDL SPDL.E_TS_MISMATCH).modSpd fun s => { s with fwT := true }).trkFree)
  else if !out ∧ 8 ≤ d.spd.good ∧ d.spd.fwT then (d.modSpd fun s => { s with fwT := false }).trkResume
  else d

/-- The loop bandwidth in Hz (R147). -/
def trkBw (bw : Nat) : Nat := 5 * 2 ^ bw

/-- The loop filter on an error `e` in 2^-30: damping 0.707 and natural frequency 2π·BW give Kp = 1.414·BW and Ki = 2π·BW². The
integral stops where f is limited in its direction (R147, R149). `dt` is the interval of the set in ticks. An f outside a newly
written FLIM is clamped at the next set, ROCOF or not (DESIGN CHOICE, entry 17: R149 demands both). -/
def Dev.trkFreq (d : Dev) (e : Int) (dt : Nat) : Dev :=
  let bw := trkBw (d.get pSPDL SPDL.TRKLOOP_BW)
  let grow := divRound (twoPi64 * (bw * bw) * e * (d.get pSPDL SPDL.TRKTS_TS * 4 : Nat)) (2 ^ 46 * 1000000000)
  let raw := d.fnom * 2 ^ 32 + divRound (1414 * bw * e * 2 ^ 18) 1000 + d.spd.integ + grow
  let f0 := d.get pSPDL SPDL.FREQ
  let f := divRound raw (2 ^ 32)
  let rocof := d.get pSPDL SPDL.ROCOF
  let room := rocof * 65536 * 4 * dt + d.spd.rocRem
  let most := room / 100000000000
  let g := if rocof = 0 then f else clampI f (f0 - most) (f0 + most)
  let lo := (d.get pSPDL SPDL.FLIM_FLO * 65536 + 99) / 100
  let hi := d.get pSPDL SPDL.FLIM_FHI * 65536 / 100
  let h := clampI g lo hi
  let stop := decide (h < f) && decide (0 < grow) || decide (f < h) && decide (grow < 0)
  let d := d.modSpd fun s => { s with integ := if stop then s.integ else s.integ + grow,
                                      rocRem := if rocof = 0 then 0 else room % 100000000000 }
  (d.set pSPDL SPDL.FREQ h.toNat).set pSPDL SPDL.STAT_ROCOF_LIM (b2n (h != f))

/-- LOCK after a set with loop error `e`, in 2^-30 (R148). -/
def Dev.trkLock (d : Dev) (e : Nat) : Dev :=
  let small := decide (e * 100000 < 1745 * 2 ^ 30)
  let big := decide (872 * 2 ^ 30 ≤ e * 10000)
  let d := d.modSpd fun s =>
    { s with calm := if small then some (s.calm.getD d.ticks) else none, large := if big then s.large + 1 else 0 }
  let cycles := if d.on pSPDL SPDL.CFG_FNOM then 8333334 else 10000000
  let steady := match d.spd.calm with
    | some t => decide (t + cycles ≤ d.ticks)
    | none => false
  if steady then d.setLock true else if 5 ≤ d.spd.large then d.setLock false else d

/-- The loop error e in 2^-30 of the set measured last, whose amplitude is `mag` (R147); without amplitude no rule gives it. -/
def Dev.trkErr (d : Dev) (mag : Nat) : Int × Dev :=
  let (x, y) := d.spd.pos
  if mag = 0 then let (v, d) := d.freeBelow (2 ^ 31); ((v : Int) - 2 ^ 30, d)
  else (divRound ((y * cycCos d.spd.theta - x * cycSin d.spd.theta) / 2 ^ 34) mag, d)

/-- The threshold of a phase jump in 2^-30: sin(JUMPTH × 2^-8 cycle) (R151). -/
def Dev.jumpSin (d : Dev) : Int := cycSin (d.get pSPDL SPDL.TRKLOOP_JUMPTH * 2 ^ 56) / 2 ^ 34

/-- The loop on one set (R147, R151). The previous set's |e| is that of the last set in which e was computed, 0 after a reset
of the tracker (DESIGN CHOICE, entry 17). A jump that is snapped leaves the integral, and no error for the loop to follow. -/
def Dev.trkLoop (d : Dev) (mag dt : Nat) (had : Bool) : Dev :=
  let (e, d) := d.trkErr mag
  let jump := had && decide ((d.spd.lastE : Int) + d.jumpSin < e.natAbs)
  let d := d.modSpd fun s => { s with lastE := e.natAbs }
  let d := d.irqIf jump pSPDL SPDL.I_PHJUMP
  let snap := jump && d.on pSPDL SPDL.TRKLOOP_JUMPSNAP
  let d := if snap then d.trkSnap else d
  (d.trkFreq (if snap then 0 else e) dt).trkLock e.natAbs

/-- The CNT fields of the three result channels. -/
def Dev.trkCnts (d : Dev) : List Nat :=
  let pg := pADC (d.get pSPDL SPDL.TRKIN_ADC)
  [d.get pg (ADC.RES_CNT (d.get pSPDL SPDL.TRKIN_CHU)), d.get pg (ADC.RES_CNT (d.get pSPDL SPDL.TRKIN_CHV)),
   d.get pg (ADC.RES_CNT (d.get pSPDL SPDL.TRKIN_CHW))]

/-- All three channels hold results newer than those of the previous set. -/
def Dev.trkNew (d : Dev) : Bool := (List.zip d.trkCnts d.spd.cnts).all fun p => p.1 != p.2

/-- A result of the converter that the tracker reads, by its input's code (R325). -/
def Dev.trkRes (d : Dev) (ch : Nat) : Int :=
  let c := d.get pSPDL SPDL.TRKIN_ADC
  let v := d.get (pADC c) (ADC.RES_VALUE ch)
  if bitAt (d.adc.getD c adc0).twos ch then toSigned v 16 else v

/-- 9·α and 3·√3·β of the three results, phase voltages or line-to-line voltages (R147). -/
def Dev.trkAB (d : Dev) : Int × Int :=
  let x1 := d.trkRes (d.get pSPDL SPDL.TRKIN_CHU)
  let x2 := d.trkRes (d.get pSPDL SPDL.TRKIN_CHV)
  let x3 := d.trkRes (d.get pSPDL SPDL.TRKIN_CHW)
  if d.on pSPDL SPDL.TRKIN_LL then (3 * (x1 - x3), 2 * x2 - x1 - x3) else (3 * (2 * x1 - x2 - x3), 3 * (x2 - x3))

/-- One step of a quadrature generator (R147): gain 1.414, tuned to `f` (2^-16 Hz), over `dt` ticks with the input at `u`. Its state
`x`, output and quadrature output, follows v' = ω·(1.414·(u − v) − q), q' = ω·v in steps whose new state has the weight of
`Config.quadForm`, which is the form the spec leaves open (entry 17). -/
def quadStep (x : Int × Int) (u : Int) (f dt : Nat) : Int × Int :=
  let a : Nat := (twoPi64 * f * dt * 4 + 2 ^ 15 * 1000000000) / (2 ^ 16 * 1000000000)
  let sa : Nat := a * (Config.quadForm % 65537) / 65536
  let ra : Nat := a - sa
  let one : Int := 2 ^ 64
  let r1 := 1000 * one * x.1 - ra * (1414 * x.1 + 1000 * x.2) + a * 1414 * u
  let r2 := 1000 * (one * x.2 + ra * x.1)
  let den : Nat := 1000 * 2 ^ 128 + sa * 1414 * 2 ^ 64 + 1000 * sa * sa
  (divRound (one * r1 - sa * r2) den, divRound ((1000 * one + 1414 * sa) * r2 + 1000 * sa * r1) (1000 * den))

/-- The generators take a set; α+ and β+ follow, and VMAG, which reads in whole codes (R147). Answers VMAG and the amplitude
in 2^-33 of a code. VMAG saturates at 65,535 (DESIGN CHOICE, entry 17: no rule names its overflow). -/
def Dev.trkMeasure (d : Dev) (dt : Nat) : (Nat × Nat) × Dev :=
  let (a9, b33) := d.trkAB
  let f := d.get pSPDL SPDL.FREQ
  let qa := quadStep d.spd.quadA (divRound (a9 * 2 ^ 32) 9) f dt
  let qb := quadStep d.spd.quadB (divRound (b33 * sqrt3x64) (9 * 2 ^ 32)) f dt
  let x := qa.1 - qb.2
  let y := qa.2 + qb.1
  let mag := isqrt (x.natAbs * x.natAbs + y.natAbs * y.natAbs)
  let vm := min 65535 (roundUpTie mag (2 ^ 33) / 2 ^ 33)
  ((vm, mag), (d.modSpd fun s => { s with quadA := qa, quadB := qb, pos := (x, y) }).set pSPDL SPDL.VMAG vm)

/-- TRACKER_SAMPLE_SET (R146 to R151). -/
def Dev.trkSet (d : Dev) : Dev :=
  if d.isCell || !d.spdEn || !d.on pSPDL SPDL.TRKIN_TEN || !d.onSyna || !d.trkNew then d
  else
    let had := d.spd.setAt.isSome
    let dt := match d.spd.setAt with
      | some t => d.ticks - t
      | none => d.get pSPDL SPDL.TRKTS_TS
    let d := (d.modSpd fun s => { s with cnts := d.trkCnts, setAt := some d.ticks }).trkInterval dt
    let ((vm, mag), d) := d.trkMeasure dt
    let min := d.get pSPDL SPDL.VLIM_VMIN
    let d := if vm < min then (d.modSpd fun s => { s with fwV := true }).trkFree else d
    if d.spd.fwV then
      d.modSpd fun s =>
        { s with back := if min + d.get pSPDL SPDL.VLIM_VHYS ≤ vm then some (s.back.getD d.ns) else none }
    else if d.spd.fwT then d
    else d.trkLoop mag dt had

/-- FREEWHEEL_END (R150). Where the interval of the sets still makes the tracker freewheel, GRID_OK is raised and JUMPSNAP
snaps θ all the same, while FREEWHEEL stays 1 and tracking waits (DESIGN CHOICE, entry 17). -/
def Dev.trkFreeEnd (d : Dev) : Dev :=
  match d.spd.back with
  | some t =>
    if d.isCell || !d.spd.fwV || decide (d.ns < t + max 1 (d.get pSPDL SPDL.RECOV) * 1000000) then d
    else
      let d := (d.modSpd fun s => { s with fwV := false, back := none }).trkResume
      let d := if d.on pSPDL SPDL.TRKLOOP_JUMPSNAP then d.trkSnap else d
      d.irq pSPDL SPDL.I_GRID_OK
  | none => d

/-- The angle predicted for the next commit instant C, 2^-16 ns, when assembly starts (R152); what is left below 2^-32
cycle is cut off (DESIGN CHOICE, entry 17). -/
def Dev.spdPred (d : Dev) (c : Nat) : Nat :=
  ((d.angle64 * tick16 + d.delta64 * since d.now16 c) / (tick16 * 2 ^ 32 : Nat) % (2 ^ 32 : Nat)).toNat

/-! ### The follower (R153) -/

/-- A command with angle-valid flag, angle and frequency is applied in cell role. -/
def Dev.spdFollow (d : Dev) (flag : Bool) (ang f : Nat) : Dev :=
  if !d.spdEn then d
  else if !flag then d.setSpdValid false
  else
    let j := toSigned (ang + 2 ^ 32 - d.angle) 32
    let m := j.natAbs
    let d := d.set pSPDL SPDL.FJUMP (ofSigned j 32)
    let d := if d.get pSPDL SPDL.FJMAX < m then d.set pSPDL SPDL.FJMAX m else d
    let d := d.errIf (decide (d.get pSPDL SPDL.FJTH < m)) pSPDL SPDL.E_FJUMP
    ((d.set pSPDL SPDL.FREQ f).setSpdValid true).thetaTo ang

/-! ### Writes, reset, the bypass clock -/

/-- SPINDLE_ENABLE_WRITE (R144 to R146): a write of CFG. -/
def Dev.spdCfgWrite (d : Dev) (en fnom : Bool) : Dev :=
  let d := d.set pSPDL SPDL.CFG_FNOM (b2n fnom)
  let d := d.set pSPDL SPDL.CFG_EN (b2n en)
  let d := if en then d else d.trkReset.set pSPDL SPDL.STAT_VALID 0
  if d.isHub && !d.on pSPDL SPDL.TRKIN_TEN then d.set pSPDL SPDL.FREQ d.fnom else d

/-- A write of TRKIN: while TEN = 0, f holds at FNOM and VALID stays 0 (R146). -/
def Dev.trkinWrite (d : Dev) (v : Nat) : Dev :=
  let d := d.writeWord pSPDL 0x044 v
  if d.on pSPDL SPDL.TRKIN_TEN then d else d.trkReset.setSpdValid false

/-- The fabric moves to the bypass clock (R90, R145). -/
def Dev.spdBypass (d : Dev) : Dev :=
  let d := d.setSpdValid false
  if d.isHub then d.trkReset else d

/-- SPDL after a reset of the block: MODE and FREQ by role (R165, R166). -/
def Dev.spdReset (d : Dev) : Dev :=
  let d := { d with spd := spd0 }
  let d := d.set pSPDL SPDL.CFG_MODE (b2n d.isCell)
  d.set pSPDL SPDL.FREQ (if d.isHub then d.fnom else 0)

/-- A write would change a field of an enabled time event (R158). -/
def Dev.tevFixed (d : Dev) (n off v : Nat) : Bool :=
  d.on pSPDL (SPDL.TEVCTL_EN n) &&
    (pageFields pSPDL off).any fun f => bitsOf v f.lsb f.wid != d.get pSPDL (f.fld off)

/-- Writes of SPDL registers (R149, R153, R157, R158, R160, R165, R166). A TRKTS with TS outside 1,250 to 25,000 is stored and tracked
with (DESIGN CHOICE, entry 17: R146 says must and names no effect). -/
def Dev.spdlWrite (d : Dev) (off v : Nat) : Dev :=
  if off = 0x040 then d.spdCfgWrite (bitAt v 0) (bitAt v 2)
  else if 0x044 ≤ off ∧ off ≤ 0x05C ∧ d.isCell then d
  else if off = 0x044 then d.trkinWrite v
  else if off = 0x050 then
    (if bitsOf v 0 16 < 1000 ∨ bitsOf v 16 16 ≤ bitsOf v 0 16 then d.err pSPDL SPDL.E_CFG_REJ else d.writeWord pSPDL off v)
  else if off = 0x060 then d.thofsWrite v
  else if off = 0x068 ∨ off = 0x06C then d.aevEnWrite ((off - 0x068) / 4) v
  else if 0x100 ≤ off ∧ off < 0x300 then
    (if off % 8 = 0 ∧ d.aevOn ((off - 0x100) / 8) then d.err pSPDL SPDL.E_CFG_REJ
     else d.writeWord pSPDL off (if off % 8 = 4 then v - v % 32 else v))
  else if 0x400 ≤ off ∧ off < 0x800 then
    let n := (off - 0x400) / 32
    let r := (off - 0x400) % 32
    if r = 0x18 then d.writeWord pSPDL off (v - v % 32)
    else if n < 2 then d
    else if r = 0 then d.tevctlWrite n v
    else if d.tevFixed n off v then d.err pSPDL SPDL.E_CFG_REJ
    else d.writeWord pSPDL off v
  else if off = 0x82C then (if bitAt v 31 then d.clearCnt pSPDL SPDL.MERGECNT_CNT else d)
  else d.writeWord pSPDL off v

end Sys2Proof.Machine
end

