-- ==== Sys2Proof/Machine/Link.lean ====
section
/-! DEFINITION. The Ronun ports (chapter 09): frames, receiver states, tokens, S frames and delay measurement, sending
under windows and credits, and the registers of the LINK and PEER pages. What a consumed frame does beyond its port
stands with its consumer. -/

namespace Sys2Proof.Machine

/-! ### Frames (R177 to R181) -/

/-- Bytes 0 to 13 of the header. -/
def headBytes (f : Frame) : List Byte :=
  toBE 1 (f.cls.toNat * 16 + f.typ.toNat) ++ toBE 1 (f.ver.toNat * 64 + f.rsv.toNat) ++ toBE 2 f.src.toNat ++
  toBE 2 f.dst.toNat ++ toBE 4 f.mid.toNat ++ toBE 2 f.seq.toNat ++ toBE 2 f.len.toNat

/-- The header check holds (R179). -/
def headOk (f : Frame) : Bool := crc16 (headBytes f) == f.hchk.toNat

/-- The CRC-32 of a payload as a frame carries it (R179). -/
def payCrc (bs : List Byte) : Nat := if bs.isEmpty then 0 else crc32 bs

/-- The payload has the length of LEN and its CRC-32 holds (R183). -/
def payOk (f : Frame) : Bool := f.payload.length == f.len.toNat && payCrc f.payload == f.crc.toNat

/-- LEN obeys the rule of the class (R181). -/
def lenOk (f : Frame) : Bool :=
  let n := f.len.toNat
  match f.cls.toNat with
  | 1 => n == 50
  | 2 => n == 66
  | 3 => if f.typ = 0 then decide (1 ≤ n) && decide (n ≤ 512) else n == 0
  | 4 => decide (8 ≤ n) && decide (n ≤ 256) && n % 8 == 0
  | 5 => n == 26
  | _ => false

/-- A frame with its header check recomputed. -/
def rehead (f : Frame) : Frame := { f with hchk := BitVec.ofNat 16 (crc16 (headBytes f)) }

/-- A frame as this device sends it. -/
def mkFrame (cls typ src dst mid seq : Nat) (pay : List Byte) : Frame :=
  rehead
    { cls := BitVec.ofNat 4 cls, typ := BitVec.ofNat 4 typ, ver := 1, rsv := 0, src := BitVec.ofNat 16 src,
      dst := BitVec.ofNat 16 dst, mid := BitVec.ofNat 32 mid, seq := BitVec.ofNat 16 seq,
      len := BitVec.ofNat 16 pay.length, hchk := 0, payload := pay, crc := BitVec.ofNat 32 (payCrc pay), good := true }

/-- Bytes of a payload as a number, the first the most significant. -/
def fieldBE (bs : List Byte) (at_ n : Nat) : Nat := beNat ((bs.drop at_).take n)

/-- The 12-byte time of R193 at a place of a payload, 2^-16 ns, and its two top bits. -/
def timeAt (bs : List Byte) (i : Nat) : Nat × Nat :=
  let w := fieldBE bs (i + 6) 4
  (fieldBE bs i 6 * sec16 + w % 2 ^ 30 * 65536 + fieldBE bs (i + 10) 2, w / 2 ^ 30)

/-! ### Ports -/

def stream0 : Stream := ⟨0, 0, [], 0, none, 0⟩

def Dev.port (d : Dev) (p : Nat) : Port := d.ports.getD p port0
def Dev.modPort (d : Dev) (p : Nat) (f : Port → Port) : Dev := { d with ports := modNth d.ports p f }
def Dev.linkSt (d : Dev) (p : Nat) : Nat := d.get (pLINK p) LINK.STAT_STATE

/-- Put an element under a number into a list by ascending numbers. -/
def assocPut {α : Type} : List (Nat × α) → Nat → α → List (Nat × α)
  | [], n, x => [(n, x)]
  | (k, y) :: t, n, x => if k < n then (k, y) :: assocPut t n x else if k = n then (n, x) :: t else (n, x) :: (k, y) :: t

def Dev.stream (d : Dev) (p s : Nat) : Stream := ((d.port p).streams.lookup s).getD stream0
def Dev.modStream (d : Dev) (p s : Nat) (f : Stream → Stream) : Dev :=
  d.modPort p fun x => { x with streams := assocPut x.streams s (f ((x.streams.lookup s).getD stream0)) }

/-- The receiver works: the port is enabled and clocked (R90, R168). -/
def Dev.rxRuns (d : Dev) (p : Nat) : Bool :=
  d.onSyna && !d.absent (pLINK p) && !d.inBlk.contains (pLINK p) && d.on (pLINK p) LINK.PCFG_EN

/-- The receiver is in SYNC or UP. -/
def Dev.rxSync (d : Dev) (p : Nat) : Bool := d.rxRuns p && decide (2 ≤ d.linkSt p)

/-- A change of the receiver's state raises LINK_CHG; UP restarts the delay filter (R170, R195). In DOWN and ALIGN, where no
score is kept, it stands at 0, so that it is 0 when SYNC is next entered (DESIGN CHOICE, entry 18). -/
def Dev.linkTo (d : Dev) (p st : Nat) : Dev :=
  if d.linkSt p = st then d
  else
    let d := (d.set (pLINK p) LINK.STAT_STATE st).irq (pLINK p) LINK.I_LINK_CHG
    d.modPort p fun x =>
      { x with score := if st < 2 then 0 else x.score, fresh := x.fresh || st == 3, outl := if st = 3 then 0 else x.outl }

/-- SYNC_FRAC, INTERP_CMD and MGMT_BURST in force on a port (R118, R206). -/
def Dev.linkFeat (d : Dev) (p bit : Nat) : Bool := d.bit (pLINK p) LINK.STAT_FEATF bit

/-- A feature as it was in force when a frame began whose SOF came `back` ticks ago: the frame completes under it (R119). -/
def Dev.featAt (d : Dev) (p bit back : Nat) : Bool :=
  match ((d.port p).featWas.filter fun c => decide (d.ticks < c.1 + back)).getLast? with
  | some c => bitAt c.2 bit
  | none => d.linkFeat p bit

/-- A count of a port, which saturates. -/
def Dev.lcnt (d : Dev) (p : Nat) (F : Fld) : Dev := d.inc (pLINK p) F

def Dev.hdrErr (d : Dev) (p : Nat) : Dev := (d.lcnt p LINK.CNTA_HDRERR).err (pLINK p) LINK.E_HDR_ERR

/-- The other strand port of a cell. -/
def otherPort (p : Nat) : Nat := 1 - p

/-- The cell's position, if it is assigned (R210). -/
def Dev.myPos (d : Dev) : Option Nat := if d.on pVANE VANE.POS_ASSIGNED then some (d.get pVANE VANE.POS_APOS) else none

/-- Standalone hub role, and the B candidate (R44). -/
def Dev.standalone (d : Dev) : Bool := d.get pSYSC SYSC.STRAP_ROLE == 3
def Dev.hubB (d : Dev) : Bool := d.get pSYSC SYSC.STRAP_ROLE == 2

/-- Which end of a strand a hub's port faces: false A, true B (R13, R180). -/
def Dev.portEndB (d : Dev) (p : Nat) : Bool := if d.standalone then p % 2 == 1 else d.hubB

/-- The strand of a hub's port (R208). -/
def Dev.portStrand (d : Dev) (p : Nat) : Nat := if d.standalone then p / 2 else p

/-- The address this device sends with out of a port (R180, R210). The spec gives a peer port none: a free value. -/
def Dev.srcAddr (d : Dev) (p : Nat) : Nat × Dev :=
  if d.isCell then (d.myPos.getD 0x3FFF, d)
  else if p < 8 then (0x8000 + 0x100 * b2n (d.portEndB p) + p, d)
  else let (x, d) := d.free; (x % 65536, d)

/-- What TIME has advanced by, without steps, in the last `back` sixteenths of a nanosecond before the instant `ns`, 2^-40 ns. Before
the first pace it ran at its nominal rate. -/
def advanceIn : List (Nat × Int × Nat) → Nat → Nat → Int
  | [], _, back => (back : Int) * 2 ^ 36
  | (from_, adv, len) :: rest, ns, back =>
    let part := min back (16 * (ns - from_))
    adv * part / (16 * max 1 len : Nat) + advanceIn rest from_ (back - part)

/-- The TIME of an instant `back` steps of 62.5 ps before the present tick, as TIME ran in between, on the 62.5 ps grid, and STEPGEN
then (R129, R132). -/
def Dev.stampBack (d : Dev) (back : Nat) : Int × Nat :=
  let (x, g) := d.stepSince (back * fine16)
  let t := (d.time : Int) - advanceIn d.tb.paces d.ns back - x * 2 ^ 24
  (divRound t (fine16 * 2 ^ 24) * (fine16 : Nat), g)

/-! ### Sending -/

/-- What a port sends goes out of its TX pair, or to its own receiver (R168). -/
def Dev.emit (d : Dev) (p : Nat) (f : Frame) : Dev :=
  if !d.txRuns p then d
  else if d.lpbk p then d.modPort p fun x => { x with loopF := x.loopF ++ [f] }
  else d.send (.frame p f)

/-- The tick from which the output is free of every frame that has its place on it, and of those of this device's own or from
the FIFO; whether the last of these is an own T copy. -/
def Wait.mine (w : Wait) : Bool := match w.kind with
  | .pass _ _ => false
  | _ => true
def Port.outEnd (x : Port) : Nat := x.waits.foldl (fun e w => max e (w.sof + w.len)) x.txEnd
def Port.ownEnd (x : Port) : Nat := x.waits.foldl (fun e w => if w.mine then max e (w.sof + w.len) else e) x.own
def Port.lastT (x : Port) : Bool := x.waits.foldl (fun b w => match w.kind with
  | .pass _ _ => b
  | .own _ t => t
  | _ => false) x.ownT

/-- Put a frame among those that wait, by the tick of its SOF. -/
def waitPut (w : Wait) : List Wait → List Wait
  | [] => [w]
  | x :: t => if x.sof ≤ w.sof then x :: waitPut w t else w :: x :: t

/-- The place in the superframe, the period and the distance to the next S slot, in ticks (R187). -/
def Dev.sfTicks (d : Dev) : Nat := max 1 (d.gridTsf / tick16)
def Dev.sfPos (d : Dev) : Nat :=
  placeIn d.gridT0 (d.sfTicks * tick16) d.now16 / tick16
def Dev.toSlot (d : Dev) (p : Nat) : Nat :=
  if d.gridOn then (d.get (pLINK p) LINK.SLOTCFG_SSLOT + d.sfTicks - d.sfPos) % d.sfTicks
  else 6250 - (d.ticks - (d.port p).enAt) % 6250

/-- The ticks left in an enabled bulk window that is open (R190, R207). Before the commit grid is known an enabled window is
taken by the grid registers as they stand, since R190 names no other (DESIGN CHOICE, entry 18). -/
def Dev.winLeft (d : Dev) (p m : Nat) : Nat :=
  let pg := pLINK p
  let a := d.get pg (LINK.DWIN_START m)
  let b := d.get pg (LINK.DWIN_END m)
  let x := d.sfPos
  if !d.on pg (LINK.DWIN_EN m) then 0
  else if b < a then (if a ≤ x then d.sfTicks - x + b else b - x)
  else if a ≤ x then b - x else 0

/-- The tick at which the next head copy starts out of a port of a cell with THEAD = 1 (R189). -/
def Dev.headTick (d : Dev) (p : Nat) : Option Nat :=
  if d.isCell && p < 2 && d.gridOn && d.on (pLINK p) LINK.SLOTCFG_THEAD then
    let sf := d.sfTicks
    some (d.ticks + (d.gridSo / tick16 % sf + d.get (pLINK p) LINK.SLOTCFG_TSLOT % sf + sf - d.sfPos) % sf)
  else none

/-- `n` code groups from tick `t` on would meet the head copy, its 88 code groups and one idle, on the output (R189). -/
def Dev.headHit (d : Dev) (p t n : Nat) : Bool := (d.headTick p).any fun h => decide (t < h + 89) && decide (h < t + n)

/-- A B or M frame may start now (R189, R190). -/
def Dev.winOk (d : Dev) (p : Nat) (f : Frame) : Bool :=
  let n := groups f + 1
  let any := (List.range 4).any fun m => d.on (pLINK p) (LINK.DWIN_EN m)
  decide (n ≤ d.toSlot p) && (!any || p ≥ 8 || (List.range 4).any fun m => decide (n ≤ d.winLeft p m)) && !d.headHit p d.ticks n

/-- A frame that would be sent or forwarded out of the port is dropped (R171). -/
def Dev.outDown (d : Dev) (p : Nat) : Bool := decide (d.linkSt p < 2)

/-- An own B or M frame is done with: the output is free for it (R186, R190), or it is dropped (R171). -/
def Dev.outFree (d : Dev) (p : Nat) (f : Frame) : Bool :=
  d.onSyna && !d.absent (pLINK p) &&
    (d.outDown p || (d.txRuns p && decide ((d.port p).outEnd ≤ d.ticks) && (d.port p).fifo.isEmpty && d.winOk p f))

/-- The residence of a forwarded frame, `held` ticks longer than 96 ns; what the elastic buffer and the measurement add
is free: ±0.4 ns, or ±2 ns while STAT.ADJ = 1 (R184, R185). The page of the port that received the frame shows it, and RESRNG keeps its
values over an interval in which no frame was forwarded (DESIGN CHOICE, entry 18: R184 says neither). -/
def Dev.residence (d : Dev) (p held : Nat) : Dev :=
  let pg := pLINK p
  let (x, d) := d.free
  let dev : Int := if d.get pSYNA SYN.LOCKSTAT_ACTREF == p + 1 then (x % 13 : Nat) - 6 else (x % 65 : Nat) - 32
  let held' : Int := (held * 64 : Nat) + dev
  let raw : Int := (96 * 65536 + d.get pg LINK.RXLAT + d.get (pLINK (otherPort p)) LINK.TXLAT : Nat) + held' * fine16
  let d := d.set pg LINK.RESID (ofSigned raw 32)
  d.modPort p fun y =>
    { y with res := match y.res with
        | none => some (held', held')
        | some (a, b) => some (if held' < a then held' else a, if b < held' then held' else b) }

/-- Round a timestamp down to whole nanoseconds where SYNC_FRAC is not in force (R196). -/
def cutFrac (frac : Bool) (t : Int) : Int := if frac then t else t / 65536 * 65536

/-- The SOF of the port's S frame leaves now: its transmit timestamp, with a step of this tick not yet made (R129), and what the
port has received last (R193). -/
def Dev.sBegin (d : Dev) (p : Nat) : Dev :=
  let x := d.port p
  let (step, g) := d.stepSince 0
  let tx := roundUpTie (time16 ((d.now16 + d.get (pLINK p) LINK.TXLAT : Nat) - step)) fine16 % wrap16
  let d := d.putTrip (pLINK p) ⟨LINK.STXNS, LINK.STXSL, LINK.STXSH_FRAC, LINK.STXSH_SECH⟩ tx
  let frac := d.linkFeat p 0
  let shown := (cutFrac frac tx).toNat
  let (rt, rf, rr) := match x.srx with
    | some (n, g, t) => ((cutFrac frac (t : Nat)).toNat, 2, g * 4096 + n)
    | none => (0, 0, 0)
  let pay := bytes12 shown d.timeFlags ++ bytes12 rt rf ++ toBE 2 rr
  let (src, d) := d.srcAddr p
  let f := mkFrame 5 0 src 0xFFFE 0 (g * 4096 + x.snum) pay
  (d.modPort p fun x => { x with stx := ((x.snum, g, tx) :: x.stx).take 4, snum := (x.snum + 1) % 4096 }).emit p f

/-- A frame begins on the output of a port. -/
def Dev.txBegin (d : Dev) (p : Nat) (w : Wait) : Dev :=
  let e := w.sof + w.len
  let d := d.modPort p fun x =>
    { x with txEnd := max x.txEnd e, own := if w.mine then max x.own e else x.own
             ownT := match w.kind with
               | .own _ t => t
               | _ => false }
  match w.kind with
  | .own f _ => d.emit p f
  | .slot => d.sBegin p
  | .pass f a => (d.residence (otherPort p) (w.sof - (a + 24))).emit p f
  | .stored f a => (d.residence (otherPort p) (w.sof - (a + 24))).emit p f

/-- A frame begins now, or waits for its place on the output. -/
def Dev.txPlan (d : Dev) (p : Nat) (w : Wait) : Dev :=
  if w.sof ≤ d.ticks then d.txBegin p w else d.modPort p fun x => { x with waits := waitPut w x.waits }

/-- An own frame goes out of a port from tick `t` (R177). -/
def Dev.txFrame (d : Dev) (p t : Nat) (f : Frame) (ownT : Bool) : Dev := d.txPlan p ⟨t, .own f ownT⟩

/-- An own C, B or M frame goes out from tick `t`, or is dropped and counted (R171); on the bypass clock a port sends and counts
nothing (R90). -/
def Dev.ownFrame (d : Dev) (p t : Nat) (f : Frame) : Dev :=
  if !d.onSyna then d
  else if d.outDown p then d.inc (pLINK p) LINK.CNTD_DROP else d.txFrame p t f false

/-! ### Gust tokens (R172 to R176) -/

/-- The trip code of a valid copy (R172). -/
def gustCopy (c : Option Byte) : Option Nat :=
  match c with
  | some b => if b.toNat / 16 + b.toNat % 16 = 15 then some (b.toNat / 16) else none
  | none => none

/-- The code that three copies carry, if the token is accepted (R174). -/
def gustCode (c1 c2 c3 : Option Byte) : Option Nat :=
  match gustCopy c1, gustCopy c2, gustCopy c3 with
  | some a, some b, c => if a = b then some a else if c = some a then some a else if c = some b then some b else none
  | some a, none, c => if c = some a then some a else none
  | none, some b, c => if c = some b then some b else none
  | none, none, _ => none

/-- The port's part of GUST_TOKEN_RX (R174 to R176); `back` is the age of the token's first bit in 62.5 ps. -/
def Dev.gustPort (d : Dev) (p : Nat) (code : Option Nat) (back : Nat) : Dev :=
  match code with
  | none => (d.lcnt p LINK.CNTC_GUSTERR).err (pLINK p) LINK.E_GUST_ERR
  | some c =>
    let d := d.set (pLINK p) LINK.GUSTLAST_CODE c
    let d := d.putTrip (pLINK p) ⟨LINK.GUSTTSNS, LINK.GUSTTSSL, LINK.GUSTTSSH_FRAC, LINK.GUSTTSSH_SECH⟩
      (time16 (d.stampBack back).1)
    let d := (d.lcnt p LINK.CNTC_GUSTRX).irq (pLINK p) LINK.I_GUST_RX
    if d.isCell && p < 2 && d.on (pLINK p) LINK.PCFG_GFWD && d.txRuns (otherPort p) then d.token (otherPort p) c
    else d

/-- GUSTTX_GO (R176): a token from the whole device. -/
def Dev.gustTx (d : Dev) (code : Nat) : Dev := d.gust (code % 16)

/-! ### Forwarding (R182 to R186) -/

/-- Bytes the forward FIFO of a port holds. -/
def Dev.fifoFill (d : Dev) (p : Nat) : Nat := ((d.port p).fifo.map fun e => groups e.1).foldl (· + ·) 0

/-- A frame toward port `o` that arrived on tick `at_` goes into the forward FIFO (R186). -/
def Dev.fifoPut (d : Dev) (o at_ : Nat) (f : Frame) : Dev :=
  let x := d.port o
  if 2048 < d.fifoFill o + groups f then (d.lcnt o LINK.CNTD_DROP).err (pLINK o) LINK.E_FWD_OVF
  else
    let d := d.modPort o fun y => { y with fifo := y.fifo ++ [(f, at_)] }
    let train := f.cls = 1 ∨ f.cls = 2
    let brief := f.cls = 2 ∧ x.lastT ∧ x.fifo.isEmpty ∧ x.ownEnd < at_ + 24 + 8 ∧
      f.seq.toNat = (d.spd.tevJ.getD 1 0 - 1) % 65536
    if train ∧ ¬brief then (d.lcnt o LINK.CNTD_SLIP).err (pLINK o) LINK.E_TRAIN_SLIP else d

/-- A cell forwards a frame that came in at port `p` on tick `at_` (R171, R184, R186): it is in the forwarding pipeline for 24
ticks, and longer for a token or for a frame that a token has moved; it is stored while an own frame is sent, behind stored
frames, and where it would delay the head of the train (R189). -/
def Dev.forward (d : Dev) (p at_ : Nat) (f : Frame) : Dev :=
  let o := otherPort p
  let x := d.port o
  let t := max (at_ + 24) x.outEnd
  if !d.on (pLINK p) LINK.PCFG_FWD then d
  else if d.outDown o then d.lcnt o LINK.CNTD_DROP
  else if decide (x.ownEnd ≤ at_ + 24) && x.fifo.isEmpty && !d.headHit o t (groups f + 1) then d.txPlan o ⟨t, .pass f at_⟩
  else d.fifoPut o at_ f

/-- A stored frame that was to go out stays in the FIFO, before those behind it. -/
def Dev.fifoBack (d : Dev) (p : Nat) (f : Frame) (at_ : Nat) : Dev :=
  d.modPort p fun x =>
    { x with fifo := (f, at_) :: (x.waits.filterMap fun w => match w.kind with
               | .stored g a => some (g, a)
               | _ => none) ++ x.fifo
             waits := x.waits.filter fun w => match w.kind with
               | .stored _ _ => false
               | _ => true }

/-- A waiting frame that a token has moved into the head of the train takes its place behind the head copy (R189). -/
def Dev.behindHead (d : Dev) (p : Nat) (w : Wait) : Dev :=
  d.txPlan p { w with sof := max (max d.ticks (((d.headTick p).getD 0) + 89)) (d.port p).outEnd }

/-- A waiting frame's tick has come: it begins. Where the port has gone down, a T copy is not sent, an S frame is, and every other
frame is dropped and counted (R171, R189). None but a T copy begins where it would meet the head of the train (R189): a frame in the
pipeline is stored, a stored one stays, an own one goes behind it. -/
def Dev.waitBegin (d : Dev) (p : Nat) (w : Wait) : Dev :=
  let hit := d.headHit p w.sof w.len
  let gone := d.lcnt p LINK.CNTD_DROP
  match w.kind with
  | .own _ true => if d.outDown p then d else d.txBegin p w
  | .own _ false => if d.outDown p then gone else if hit then d.behindHead p w else d.txBegin p w
  | .slot => if hit then d.behindHead p w else d.txBegin p w
  | .pass f a => if d.outDown p then gone else if hit then d.fifoPut p a f else d.txBegin p w
  | .stored f a => if d.outDown p then gone else if hit then d.fifoBack p f a else d.txBegin p w

/-- The frames of a port whose tick has come begin; on the bypass clock they are gone (R90). -/
def Dev.portGo (d : Dev) (p : Nat) : Nat → Dev
  | 0 => d
  | n + 1 =>
    match (d.port p).waits with
    | [] => d
    | w :: rest =>
      if d.ticks < w.sof then d
      else
        let d := d.modPort p fun x => { x with waits := rest }
        Dev.portGo (if d.onSyna then d.waitBegin p w else d) p n

/-- What the outputs of the ports do in a tick. -/
def Dev.portsTick (d : Dev) : Dev := (List.range 10).foldl (fun d p => d.portGo p (d.port p).waits.length) d

/-- A stored frame of a port may start at tick `t`: a B or M frame inside a window, and none into the head of the train. -/
def Dev.fifoMay (d : Dev) (p t : Nat) (f : Frame) : Bool :=
  !((f.cls == 3 || f.cls == 4) && !(t == d.ticks && d.winOk p f)) && !d.headHit p t (groups f + 1)

/-- The oldest stored frame of a port goes out from tick `t`. -/
def Dev.fifoOut (d : Dev) (p t : Nat) (f : Frame) (at_ : Nat) : Dev :=
  (d.modPort p fun x => { x with fifo := x.fifo.drop 1 }).txPlan p ⟨t, .stored f at_⟩

/-- Stored frames go out before an own frame, as far as they may (R186). -/
def Dev.fifoDrain (d : Dev) (p : Nat) : List (Frame × Nat) → Dev
  | [] => d
  | (f, at_) :: rest =>
    let t := max d.ticks (d.port p).outEnd
    if d.fifoMay p t f then Dev.fifoDrain (d.fifoOut p t f at_) p rest else d

/-- FORWARD_FIFO_SEND (R186, R190): the oldest stored frame of a port goes out. -/
def Dev.fifoSend (d : Dev) (p : Nat) : Dev :=
  match (d.port p).fifo with
  | [] => d
  | (f, at_) :: rest =>
    if d.isHub || 2 ≤ p || !d.onSyna then d
    else if d.outDown p then (d.modPort p fun x => { x with fifo := rest }).lcnt p LINK.CNTD_DROP
    else if d.ticks < (d.port p).outEnd || !d.fifoMay p d.ticks f then d
    else d.fifoOut p d.ticks f at_

/-- The CRC rules of a received frame (R183): the frame as it is forwarded, and whether a consumer takes it. -/
def Dev.checkPay (d : Dev) (p : Nat) (f : Frame) : Frame × Bool × Dev :=
  if !f.good then (f, false, d.lcnt p LINK.CNTB_EOFBAD)
  else if payOk f then (f, true, d)
  else ({ f with good := false }, false, (d.lcnt p LINK.CNTB_CRCERR).err (pLINK p) LINK.E_CRC_ERR)

/-- What a receiver does with a frame whose header it has checked. -/
inductive Route where
  /-- neither forwarded nor consumed; the error is counted -/
  | bad
  /-- consumed, not forwarded -/
  | take
  /-- consumed, and forwarded as given -/
  | both (f : Frame)
  /-- forwarded as given, not consumed -/
  | pass (f : Frame)

/-- The rules of R182 and R205. -/
def Dev.route (d : Dev) (f : Frame) : Route :=
  let c := f.cls.toNat
  let known := f.ver = 1 ∧ 1 ≤ c ∧ c ≤ 5
  let dst := f.dst.toNat
  if !headOk f then .bad
  else if d.isHub then
    if ¬known then .bad
    else if c = 5 ∧ dst ≠ 0xFFFE then .bad
    else .take
  else if ¬known then .pass f
  else if c = 5 then (if dst = 0xFFFE then .take else .bad)
  else if dst = 0xFFFF then (if c = 4 ∧ f.typ = 0 then .both f else .bad)
  else if d.myPos = some dst then (if c = 1 then .take else .both f)
  else if 0x4000 ≤ dst ∧ dst ≤ 0x403F then
    if dst = 0x4000 then .take else .pass (rehead { f with dst := BitVec.ofNat 16 (dst - 1) })
  else .pass f

/-! ### Receiver states (R168, R170, R171) -/

/-- A frame that is being forwarded is cut off (R171): the part already sent, which lags what has arrived by the 24 code groups of the
forwarding pipeline, ends with K30.7. `part` is what had arrived. A part that a token has kept from starting goes out behind it, one
that meets an own frame, stored frames or the head of the train goes into the FIFO. -/
def Dev.cutForward (d : Dev) (p : Nat) (f : Frame) : Dev :=
  let o := otherPort p
  let x := d.port o
  let n := f.payload.length
  let g := { f with good := false, payload := f.payload.take (n - 24) }
  let at_ := d.ticks - (n + 17)
  let t := max (at_ + 24) x.outEnd
  if n < 7 then d
  else if d.outDown o then d.lcnt o LINK.CNTD_DROP
  else if decide (at_ + 24 < x.ownEnd) || !x.fifo.isEmpty || d.headHit o t (groups g + 1) then d.fifoPut o at_ g
  else if d.ticks ≤ t then d.txPlan o ⟨t, .pass g at_⟩
  else ((d.residence p (t - (at_ + 24))).modPort o fun y => { y with txEnd := max y.txEnd (d.ticks + 2), ownT := false }).emit o g

/-- Where the port forwards, a frame that the receiver would forward is cut off; one that it consumes alone is discarded (R171). -/
def Dev.cutPart (d : Dev) (p : Nat) (fwd : Bool) (part : Option Frame) : Dev :=
  match part with
  | some f =>
    if !(d.isCell && p < 2 && fwd) then d
    else match d.route f with
      | .both g => d.cutForward p g
      | .pass g => d.cutForward p g
      | _ => d
  | none => d

def Dev.cutOff (d : Dev) (p : Nat) (part : Option Frame) : Dev := d.cutPart p (d.on (pLINK p) LINK.PCFG_FWD) part

/-- RX_CLOCK_LOCK. -/
def Dev.rxClockLock (d : Dev) (p : Nat) : Dev := if d.rxRuns p && d.linkSt p == 0 then d.linkTo p 1 else d

/-- COMMA_ALIGNED. -/
def Dev.commaAligned (d : Dev) (p : Nat) : Dev := if d.rxRuns p && d.linkSt p == 1 then d.linkTo p 2 else d

/-- INVALID_CODE_GROUP: after `run` valid code groups since the last invalid one. -/
def Dev.invalidGroup (d : Dev) (p run : Nat) (part : Option Frame) : Dev :=
  if !d.rxRuns p || d.linkSt p == 0 then d
  else
    let d := d.lcnt p LINK.CNTA_CGERR
    if d.linkSt p < 2 then d
    else
      let s := (d.port p).score - run / 4 + 1
      if s < 4 then d.modPort p fun x => { x with score := s }
      else ((d.cutOff p part).err (pLINK p) LINK.E_SYNC_LOST).linkTo p 1

/-- RX_CLOCK_LOSS. -/
def Dev.rxClockLoss (d : Dev) (p : Nat) (part : Option Frame) : Dev :=
  if !d.rxRuns p then d
  else if 2 ≤ d.linkSt p then ((d.cutOff p part).err (pLINK p) LINK.E_SYNC_LOST).linkTo p 0 else d.linkTo p 0

/-- S_FRAME_TIMEOUT. -/
def Dev.sTimeout (d : Dev) (p : Nat) : Dev :=
  if d.rxRuns p && d.linkSt p == 3 then (d.err (pLINK p) LINK.E_S_MISS).linkTo p 2 else d

/-! ### S frames (R187, R193 to R196) -/

/-- A value for a 32-bit register; one that does not fit is a free value (the spec states none). -/
def Dev.fit32 (d : Dev) (x : Int) (signed : Bool) : Nat × Dev :=
  let ok := if signed then decide (-(2 ^ 31 : Int) ≤ x) && decide (x < 2 ^ 31) else decide (0 ≤ x) && decide (x < 2 ^ 32)
  if ok then (ofSigned x 32, d) else let (y, d) := d.free; (y % 2 ^ 32, d)

/-- The interval of the S-frame cadence ends with an S slot: MEASOK and RESRNG show it (R187, R206). -/
def Dev.cadence (d : Dev) (p : Nat) : Dev :=
  let x := d.port p
  let d := d.set (pLINK p) LINK.STAT_MEASOK (b2n x.pair)
  let d := match x.res with
    | some (a, b) =>
      (d.set (pLINK p) LINK.RESRNG_MAX (ofSigned (clampI b (-32768) 32767) 16)).set (pLINK p) LINK.RESRNG_MIN
        (ofSigned (clampI a (-32768) 32767) 16)
    | none => d
  d.modPort p fun x => { x with pair := false, res := none, slots := x.slots + 1 }

/-- S_SLOT (R187, R193): the slot ends an interval of the cadence, and the port sends its S frame, behind stored frames and not
into the head of the train; `wait` is how many code groups longer the output is busy. -/
def Dev.sSlot (d : Dev) (p wait : Nat) : Dev :=
  if !d.onSyna || d.absent (pLINK p) || !d.on (pLINK p) LINK.PCFG_EN then d
  else if !d.txRuns p then d.cadence p
  else
    let d := d.cadence p
    let d := if d.outDown p then d else d.fifoDrain p (d.port p).fifo
    let t := max d.ticks (d.port p).outEnd + wait
    let t := match d.headTick p with
      | some h => if t < h + 89 ∧ h < t + 49 then h + 89 else t
      | none => t
    d.txPlan p ⟨t, .slot⟩

/-- The delay filter (R195): a sample 2·d in 2^-17 ns. -/
def Dev.delayFilter (d : Dev) (p : Nat) (d2 : Int) : Dev :=
  let pg := pLINK p
  let old : Int := d.get pg LINK.FILTD
  let by2 := d2 - 2 * old
  if (d.port p).fresh then
    (d.set pg LINK.FILTD (ofSigned (divRoundEven d2 2) 32)).modPort p fun x => { x with fresh := false, outl := 0 }
  else if (2 * d.get pg LINK.MEASCFG_OUTLIM * fine16 : Nat) < by2.natAbs then
    let d := (d.lcnt p LINK.CNTE_OUTLIER).err pg LINK.E_MEAS_OUTLIER
    d.modPort p fun x => { x with outl := x.outl + 1, fresh := 8 ≤ x.outl + 1 }
  else
    (d.set pg LINK.FILTD (ofSigned (old + divRound by2 (2 * 2 ^ d.get pg LINK.MEASCFG_FILT)) 32)).modPort p fun x =>
      { x with outl := 0 }

/-- The measurement pair of a received S frame (R194 to R196): the offset 2·o − ASYM in 2^-17 ns, if the pair is valid;
`t4` is the receive timestamp, `g4` its STEPGEN, `frac` whether SYNC_FRAC was in force as the frame began. -/
def Dev.sMeasure (d : Dev) (p : Nat) (f : Frame) (t4 g4 : Nat) (frac : Bool) : Option Int × Dev :=
  let pg := pLINK p
  let (t3, _) := timeAt f.payload 0
  let (t2, fl) := timeAt f.payload 12
  let ref := fieldBE f.payload 24 2
  match (d.port p).stx.find? fun e => e.1 == ref % 4096 with
  | none => (none, d)
  | some (_, g1, t1) =>
    if fl < 2 then (none, d)
    else if g1 ≠ g4 ∨ ref / 4096 ≠ f.seq.toNat / 4096 then (none, d.lcnt p LINK.CNTE_SMISS)
    else
      let c := fun t : Nat => cutFrac frac (t : Int)
      let d2 := (c t4 - c t1) - (c t3 - c t2)
      let o2 := (c t2 - c t1) - (c t4 - c t3)
      let delay := divRoundEven d2 2
      let off := o2 - toSigned (d.get pg LINK.ASYM) 32
      let (x, d) := d.fit32 delay false
      let (y, d) := d.fit32 (divRoundEven off 2) true
      let d := (d.set pg LINK.MEASD x).set pg LINK.OFS y
      let d := ((d.set pg LINK.STAT_MEASOK 1).irq pg LINK.I_MEAS).modPort p fun z => { z with pair := true }
      (some off, d.delayFilter p d2)

/-! ### The follower's servo (R215 to R217, R219) -/

def Dev.modSrv (d : Dev) (f : Srv → Srv) : Dev := { d with srv := f d.srv }

/-- The peer port that faces a hub by fewer ring hops, PEER0 on a tie (R15, R219): 0 or 1. The hops are counted on the closed ring, in
a group of two hubs with one link too (DESIGN CHOICE, entry 20). -/
def Dev.towardHub (d : Dev) (h : Nat) : Nat :=
  let n := max 1 (d.get pSTRD STRD.GRPCFG_NHUB)
  let me := d.get pSTRD STRD.GRPCFG_HUBNUM
  if (me + n - h % n) % n ≤ (h + n - me % n) % n then 0 else 1

/-- TIME follows S frames: of the strand in a cell, of a peer port in a hub; which of the two ports (R130, R215). -/
def Dev.follows (d : Dev) : Bool := if d.isCell then d.timeMode == 1 else d.timeMode == 2
def Dev.folPort (d : Dev) : Nat :=
  if d.isCell then d.get pVANE VANE.STAT_FOLPORT else d.towardHub (d.hub.leader.getD 0)

/-- The index among the ports that can be followed. -/
def Dev.folIndex (d : Dev) (p : Nat) : Option Nat :=
  if d.isCell then (if p < 2 then some p else none) else if 8 ≤ p ∧ p < 10 then some (p - 8) else none

/-- The period of the follower's superframe, ticks (R215). -/
def Dev.folTicks (d : Dev) : Nat := if d.gridOn then d.sfTicks else 6250

/-- TIME_SERVO_STEER (R216, R217): the first valid pair of a superframe on the followed port; `o2` is 2·o in 2^-16 ns. -/
def Dev.servoSteer (d : Dev) (o2 : Int) : Dev :=
  let o := divRoundEven o2 2
  let (x, d) := d.fit32 o true
  let d := d.set pVANE VANE.SRVOFS x
  let d := (d.setHoldover false).modSrv fun s => { s with acted := true, hold := 0 }
  if !d.timeValid && decide (d.get pVANE VANE.SRVCFG_STEPTH * 4 * 65536 < o.natAbs) then
    let d := (d.hwSet pTIME TIME.RATE 0).modSrv fun s => { s with corr := none, near := 0 }
    d.timeStepTo (((d.time : Int) + o * 2 ^ 24) % (wrap40 : Nat)).toNat
  else
    let n := d.folTicks
    let rate := toSigned (d.get pTIME TIME.RATE) 32 +
      divRound (o * 2 ^ (42 - d.get pVANE VANE.SRVCFG_KI)) (65536 * 4 * n)
    let d := d.hwSet pTIME TIME.RATE (ofSigned (clampI rate (-(2 ^ 31)) (2 ^ 31 - 1)) 32)
    let c := Int.tdiv (o * 2 ^ 24) (2 ^ d.get pVANE VANE.SRVCFG_KP)
    let per := Int.tdiv c n
    let near := if o.natAbs ≤ d.get pVANE VANE.SRVCFG_VALTH * fine16 then d.srv.near + 1 else 0
    let d := d.modSrv fun s => { s with corr := some (per, n, c - per * n), near := near }
    if 16 ≤ near then d.setValid true else d

/-- A received S frame as the servo sees it: what the neighbour reports, and the offset of a valid pair. -/
def Dev.servoFrame (d : Dev) (p : Nat) (flags : Nat) (o2 : Option Int) : Dev :=
  match d.folIndex p with
  | none => d
  | some i =>
    if !d.follows then d
    else if flags ≠ 2 then
      d.modSrv fun s => { s with bad := modNth s.bad i fun _ => true,
                                 inval := modNth s.inval i fun b => b || flags / 2 == 0 }
    else match o2 with
      | none => d
      | some o =>
        let d := d.modSrv fun s => { s with pair := modNth s.pair i fun _ => true }
        if i = d.folPort ∧ !d.srv.acted then d.servoSteer o else d

/-- The port of a cell that faces the nearer hub end (R215). -/
def Dev.nearPort (d : Dev) : Nat :=
  let ap := d.get pVANE VANE.POS_APORT
  if d.get pVANE VANE.POS_APOS + 1 ≤ d.get pVANE VANE.POS_SLEN - d.get pVANE VANE.POS_APOS then ap else 1 - ap

/-- FOLLOW_PORT_SWITCH (R215) at the end of a superframe. -/
def Dev.folSwitch (d : Dev) : Dev :=
  let f := d.folPort
  let o := 1 - f
  if !d.on pVANE VANE.POS_ASSIGNED then d
  else if (2 ≤ d.srv.noPair.getD f 0 ∨ 2 ≤ d.srv.badRun.getD f 0) ∧ 1 ≤ d.srv.good.getD o 0 then
    d.set pVANE VANE.STAT_FOLPORT o
  else if f ≠ d.nearPort ∧ 64 ≤ d.srv.good.getD d.nearPort 0 then d.set pVANE VANE.STAT_FOLPORT d.nearPort
  else d

/-- The assignment of a position can move the follower to LINK1 at once (R215). -/
def Dev.folAssign (d : Dev) : Dev :=
  if d.isCell && d.folPort != d.nearPort && d.srv.pair.getD d.nearPort false then
    d.set pVANE VANE.STAT_FOLPORT d.nearPort
  else d

/-- SERVO_SUPERFRAME_CHECK (R215, R217). -/
def Dev.servoCheck (d : Dev) : Dev :=
  if !d.follows || !d.onSyna then d
  else
    let s := d.srv
    let run (l : List Nat) (b : Nat → Bool) : List Nat :=
      (List.range 2).map fun i => if b i then l.getD i 0 + 1 else 0
    let d := d.modSrv fun s =>
      { s with noPair := run s.noPair fun i => !s.pair.getD i false
               badRun := run s.badRun fun i => s.bad.getD i false
               invRun := run s.invRun fun i => s.inval.getD i false
               good := run s.good fun i => s.pair.getD i false && !s.bad.getD i false
               pair := [false, false], bad := [false, false], inval := [false, false], acted := false }
    let f := d.folPort
    let d :=
      if s.pair.getD f false then d
      else
        let lasted := if d.on pTIME TIME.STAT_HOLDOVER then d.srv.hold + 1 else 0
        let d := (d.setHoldover true).modSrv fun s => { s with hold := lasted, near := 0 }
        if d.get pVANE VANE.SRVCFG_HOLDMAX ≤ lasted then d.setValid false else d
    let d := if 2 ≤ d.srv.invRun.getD f 0 then d.setValid false else d
    if d.isCell then d.folSwitch else d

/-- A valid S frame arrives at a port: UP, the pair, the servo (R170, R194, R216). `back` is the age of its SOF. -/
def Dev.sFrame (d : Dev) (p : Nat) (f : Frame) (back : Nat) : Dev :=
  let d := if d.linkSt p = 2 then d.linkTo p 3 else d
  let (at_, g4) := d.stampBack back
  let t4 := roundUpTie (time16 (at_ - d.get (pLINK p) LINK.RXLAT)) fine16
  let d := d.putTrip (pLINK p) ⟨LINK.SRXNS, LINK.SRXSL, LINK.SRXSH_FRAC, LINK.SRXSH_SECH⟩ t4
  let (o2, d) := d.sMeasure p f t4 g4 (d.featAt p 0 ((back + 63) / 64))
  let d := d.modPort p fun x => { x with srx := some (f.seq.toNat % 4096, g4, t4) }
  d.servoFrame p (timeAt f.payload 0).2 o2

/-! ### Bulk streams (R197 to R200) -/

def Dev.strEn (d : Dev) (p s : Nat) : Bool := d.on (pLINK p) (LINK.BSTRB_EN s)
def Dev.strOut (d : Dev) (p s : Nat) : Bool := d.on (pLINK p) (LINK.BSTRB_DIR s)
def Dev.strNo (d : Dev) (p s : Nat) : Nat := d.get (pLINK p) (LINK.BSTRA_STREAM s)

/-- The sum of the enabled inbound limits. -/
def Dev.inLimits (d : Dev) (p : Nat) : Nat :=
  (List.range 32).foldl (fun n s => if d.strEn p s && !d.strOut p s then n + d.get (pLINK p) (LINK.BSTRB_LIMIT s) else n) 0

/-- BSTR_WRITE (R197 to R199): word 0 or 1 of an entry. -/
def Dev.bstrWrite (d : Dev) (p s : Nat) (hi : Bool) (v : Nat) : Dev :=
  let pg := pLINK p
  let off := 0x100 + 8 * s + (if hi then 4 else 0)
  let d1 := d.writeWord pg off v
  if 8 ≤ p && 30 ≤ s && d.on pSTRD STRD.CTRL_RUN then d
  else if !hi then d1
  else if 256 < d1.inLimits p ∧ d.inLimits p < d1.inLimits p then d.err pg LINK.E_CFG_REJ
  else if d1.strEn p s = d.strEn p s ∧ d1.strOut p s = d.strOut p s then d1
  else
    let d1 := d1.modStream p s fun _ => stream0
    let g := if d1.strEn p s && !d1.strOut p s then d1.get pg (LINK.BSTRB_LIMIT s) else 0
    (d1.set pg (LINK.BSTAT_G s) g).set pg (LINK.BSTAT_U s) 0

/-- The enabled entry of a stream number in a direction. -/
def Dev.findStr (d : Dev) (p no : Nat) (out : Bool) : Option Nat :=
  (List.range 32).find? fun s => d.strEn p s && d.strOut p s == out && d.strNo p s == no

/-- Credits of a data frame (R199). -/
def credits (n : Nat) : Nat := (n + 63) / 64

/-- The sink has removed data: the grant advances (R198). -/
def Dev.advance (d : Dev) (p s c : Nat) : Dev := d.set (pLINK p) (LINK.BSTAT_G s) (d.get (pLINK p) (LINK.BSTAT_G s) + c)

/-- The Anemograph descriptor that consumes a stream (R445). -/
def Dev.anStream (d : Dev) (p no : Nat) : Option Nat :=
  (d.anWhere fun x => x.kind == 2 && x.port == p && x.stream == no).head?

/-- Descriptor n takes the frames that a stream holds, `took` bytes of the first being gone; where it freezes, what it has not
taken stays in the port buffer and its credits stay withheld (R445). -/
def Dev.drainGo (d : Dev) (n p s : Nat) : List (Nat × List Byte) → Nat → Dev
  | [], _ => d.modStream p s fun x => { x with data := [], took := 0 }
  | (seq, bs) :: rest, took =>
    if !(d.anDesc n).takes then d.modStream p s fun x => { x with data := (seq, bs) :: rest, took := took }
    else
      let (d, left) := d.anBulk n d.stamp.1 seq (took == 0) (bs.drop took)
      if left.isEmpty then Dev.drainGo (d.advance p s (credits bs.length)) n p s rest 0
      else d.modStream p s fun x => { x with data := (seq, bs) :: rest, took := bs.length - left.length }

/-- Anemograph takes the data a stream holds (R445, R450). -/
def Dev.drainAn (d : Dev) (p s : Nat) : Dev :=
  match d.anStream p (d.strNo p s) with
  | some n => d.drainGo n p s (d.stream p s).data (d.stream p s).took
  | none => d

/-- A word of descriptor n is written; one that arms a bulk descriptor makes it take what its stream already holds (R445,
R451). -/
def Dev.anWordWrite (d : Dev) (n w v : Nat) : Dev :=
  let d := d.anWriteWord n w v
  let x := d.anDesc n
  if w = 0 ∧ x.takes ∧ x.kind = 2 ∧ x.port < 10 then
    match d.findStr x.port x.stream false with
    | some s => d.drainAn x.port s
    | none => d
  else d

/-- B_DATA_FRAME_RX (R200, R445): a data frame that its port has accepted as a frame. -/
def Dev.bData (d : Dev) (p : Nat) (f : Frame) : Dev :=
  let no := f.mid.toNat / 65536
  let c := credits f.payload.length
  let drop (d : Dev) : Dev := (d.lcnt p LINK.CNTD_DROP).err (pLINK p) LINK.E_CREDIT_ERR
  match d.findStr p no false with
  | none => drop d
  | some s =>
    let x := d.stream p s
    let free := (d.get (pLINK p) (LINK.BSTAT_G s) + 65536 - x.got) % 65536
    let d := d.modStream p s fun x => { x with rxSeq := (f.seq.toNat + 1) % 65536 }
    if f.seq.toNat ≠ x.rxSeq ∨ free < c ∨ 32768 ≤ free then drop d
    else
      let d := d.modStream p s fun x => { x with got := (x.got + c) % 65536 }
      if 8 ≤ p ∧ no = 0xFFF0 then d.advance p s c
      else (d.modStream p s fun x => { x with data := x.data ++ [(f.seq.toNat, f.payload)] }).drainAn p s

/-- CREDIT_FRAME_RX (R199). -/
def Dev.bCredit (d : Dev) (p : Nat) (f : Frame) : Dev :=
  match d.findStr p (f.mid.toNat / 65536) true with
  | none => d
  | some s =>
    let g := f.mid.toNat % 65536
    if (g + 65536 - d.get (pLINK p) (LINK.BSTAT_G s)) % 65536 < 32768 then d.set (pLINK p) (LINK.BSTAT_G s) g else d

/-- CREDIT_FRAME_SEND (R198). -/
def Dev.creditSend (d : Dev) (p s : Nat) : Dev :=
  let pg := pLINK p
  let x := d.stream p s
  let g := d.get pg (LINK.BSTAT_G s)
  let n := (d.port p).slots
  let due := match x.sent with
    | none => true
    | some (g0, n0) =>
      let adv := (g + 65536 - g0) % 65536
      decide (32 ≤ adv) || (decide (0 < adv) && decide (n0 + 8 ≤ n)) || decide (n0 + 64 ≤ n)
  if !d.strEn p s || d.strOut p s || !due then d
  else
    let (src, d) := d.srcAddr p
    let f := mkFrame 3 1 src (d.get pg (LINK.BSTRA_PEER s)) (d.strNo p s * 65536 + g) x.txSeq []
    if !d.outFree p f then d
    else
      let d := d.modStream p s fun x => { x with sent := some (g, n), txSeq := (x.txSeq + 1) % 65536 }
      d.ownFrame p d.ticks f

/-- A data frame of an outbound stream may go, and goes (R190, R199). -/
def Dev.dataFrame (d : Dev) (p s : Nat) (bs : List Byte) : Frame × Dev :=
  let (src, d) := d.srcAddr p
  (mkFrame 3 0 src (d.get (pLINK p) (LINK.BSTRA_PEER s)) (d.strNo p s * 65536) (d.stream p s).txSeq bs, d)

def Dev.creditOk (d : Dev) (p s n : Nat) : Bool :=
  let pg := pLINK p
  let left := (d.get pg (LINK.BSTAT_G s) + 65536 - d.get pg (LINK.BSTAT_U s)) % 65536
  decide (credits n ≤ left) && decide (left ≤ 32767)

def Dev.dataSend (d : Dev) (p s : Nat) (f : Frame) : Dev :=
  let d := d.set (pLINK p) (LINK.BSTAT_U s) (d.get (pLINK p) (LINK.BSTAT_U s) + credits f.payload.length)
  let d := d.modStream p s fun x => { x with txSeq := (x.txSeq + 1) % 65536 }
  d.ownFrame p d.ticks f

/-! ### Management requests of a hub (R204) -/

/-- The entries of MBUF as payload bytes, the first byte of a word the most significant. -/
def Dev.mbufBytes (d : Dev) (p n : Nat) : List Byte :=
  ((List.range (2 * n)).map fun i => toBE 4 (d.get (pLINK p) (LINK.MBUF i))).flatten

/-- M_REQUEST_GO (R204): a write of MCTL with GO. -/
def Dev.mGo (d : Dev) (p : Nat) (retry : Bool) (count dst : Nat) : Dev :=
  let pg := pLINK p
  if d.isCell then d
  else
    let d := (d.set pg LINK.MCTL_COUNT count).set pg LINK.MCTL_DST dst
    let count := d.get pg LINK.MCTL_COUNT
    if d.on pg LINK.MSTAT_BUSY ∨ count = 0 ∨ 32 < count then d.err pg LINK.E_CFG_REJ
    else
      let d := if retry then d else d.incWrap pg LINK.MSTAT_SEQ
      let (src, d) := d.srcAddr p
      let f := mkFrame 4 0 src (d.get pg LINK.MCTL_DST) (d.get pVANE VANE.EPOCH) (d.get pg LINK.MSTAT_SEQ) (d.mbufBytes p count)
      (((d.set pg LINK.MSTAT_BUSY 1).set pg LINK.MSTAT_DONE 0).set pg LINK.MSTAT_TOUT 0).modPort p fun x =>
        { x with mreq := some f }

/-- A request goes out; a broadcast is done when its EOF leaves. -/
def Dev.mSend (d : Dev) (p : Nat) : Dev :=
  match (d.port p).mgmt, (d.port p).mreq with
  | f :: rest, _ =>
    if d.outFree p f then (d.modPort p fun x => { x with mgmt := rest }).ownFrame p d.ticks f else d
  | [], some f =>
    if d.outFree p f then
      let eof := if f.dst = 0xFFFF ∧ !d.outDown p then some (d.ticks + groups f) else none
      (d.modPort p fun x => { x with mreq := none, bcast := eof }).ownFrame p d.ticks f
    else d
  | [], none => d

/-- The EOF of a broadcast request leaves its port (R204). -/
def Dev.bcastEnd (d : Dev) : Dev :=
  (List.range 10).foldl (fun d p =>
    if (d.port p).bcast.any fun t => decide (t ≤ d.ticks) then
      ((d.set (pLINK p) LINK.MSTAT_BUSY 0).set (pLINK p) LINK.MSTAT_DONE 1).modPort p fun x => { x with bcast := none }
    else d) d

/-- M_RESPONSE_RX (R204). -/
def Dev.mResponse (d : Dev) (p : Nat) (f : Frame) : Dev :=
  let pg := pLINK p
  if d.isHub && d.on pg LINK.MSTAT_BUSY && (d.port p).mreq.isNone && f.seq.toNat == d.get pg LINK.MSTAT_SEQ then
    let d := (List.range (f.payload.length / 4)).foldl (fun d i => d.hwSet pg (LINK.MBUF i) (fieldBE f.payload (4 * i) 4)) d
    ((d.set pg LINK.MSTAT_BUSY 0).set pg LINK.MSTAT_DONE 1).irq pg LINK.I_M_DONE
  else d

/-- M_TIMEOUT (R204): MTO superframes have passed without a response, whether the request could be sent or not. -/
def Dev.mTimeout (d : Dev) (p : Nat) : Dev :=
  let pg := pLINK p
  if d.isHub && d.on pg LINK.MSTAT_BUSY && (d.port p).bcast.isNone then
    ((((d.modPort p fun x => { x with mreq := none }).set pg LINK.MSTAT_BUSY 0).set pg LINK.MSTAT_DONE 1).set pg LINK.MSTAT_TOUT 1).err pg LINK.E_M_TIMEOUT
  else d

/-- M_RESPONSE_SEND (R202): the oldest response that waits goes out when the output allows. -/
def Dev.mRespond (d : Dev) (p : Nat) : Dev :=
  match (d.port p).resp with
  | f :: rest =>
    if d.isCell && d.outFree p f then (d.modPort p fun x => { x with resp := rest }).ownFrame p d.ticks f else d
  | [] => d

/-! ### Registers -/

/-- A waiting frame that counts in DROP where the port does not send it (R171, R189). -/
def Wait.counted (w : Wait) : Bool := match w.kind with
  | .slot => false
  | .own _ t => !t
  | _ => true

/-- PORT_ENABLE_WRITE (R168): EN and TXON of a port. What waits to go out of a port that is disabled is dropped (R171). -/
def Dev.portEnable (d : Dev) (p : Nat) (en txon : Bool) : Dev :=
  let pg := pLINK p
  let was := d.on pg LINK.PCFG_EN
  let d := (d.set pg LINK.PCFG_EN (b2n en)).set pg LINK.PCFG_TXON (b2n txon)
  if en then (if was then d else d.modPort p fun x => { x with enAt := d.ticks })
  else
    let n := ((d.port p).waits.filter fun w => w.counted).length
    ((d.modPort p fun x => { x with waits := [] }).incBy pg LINK.CNTD_DROP n).linkTo p 0

/-- LINK_CNTCLR (R206). -/
def Dev.linkCntclr (d : Dev) (p : Nat) : Dev :=
  [LINK.CNTA_CGERR, LINK.CNTA_HDRERR, LINK.CNTB_CRCERR, LINK.CNTB_EOFBAD, LINK.CNTC_GUSTRX, LINK.CNTC_GUSTERR,
   LINK.CNTD_DROP, LINK.CNTD_SLIP, LINK.CNTD_UNCLAIMED, LINK.CNTE_SMISS, LINK.CNTE_OUTLIER].foldl
    (fun d F => d.clearCnt (pLINK p) F) d

/-- Writes of LINK and PEER registers (R168, R191, R197, R205 to R207). -/
def Dev.linkWrite (d : Dev) (p off v : Nat) : Dev :=
  let pg := pLINK p
  if off = 0x040 then
    let d := (((d.set pg LINK.PCFG_GORIG (bitsOf v 12 1)).set pg LINK.PCFG_RXPOL (bitsOf v 7 1)).set pg LINK.PCFG_TXPOL
      (bitsOf v 6 1)).set pg LINK.PCFG_LPBK (bitsOf v 5 1)
    let d := d.modPort p fun x => { x with loopF := [], loopG := [] }
    let d := if d.isCell && p < 2 then (d.set pg LINK.PCFG_GFWD (bitsOf v 11 1)).set pg LINK.PCFG_FWD (bitsOf v 2 1) else d
    d.portEnable p (bitAt v 0) (bitAt v 1)
  else if off = 0x050 ∧ 13 ≤ v % 16 then d.err pg LINK.E_CFG_REJ
  else if off = 0x054 then
    if 8 ≤ p then d.set pg LINK.SLOTCFG_SSLOT (LINK.SLOTCFG_SSLOT.pick v)
    else if LINK.SLOTCFG_TSLOT.pick v < 125 then d.err pg LINK.E_CFG_REJ
    else d.writeWord pg off v
  else if 0x060 ≤ off ∧ off < 0x070 ∧ 8 ≤ p then d
  else if 0x100 ≤ off ∧ off < 0x200 then d.bstrWrite p ((off - 0x100) / 8) (bitAt off 2) v
  else if off = 0x854 then (if bitAt v 0 then d.linkCntclr p else d)
  else if off = 0x870 then (if bitAt v 31 then d.gustTx (v % 16) else d)
  else if off = 0x880 then
    if d.isCell then d
    else if bitAt v 31 then d.mGo p (bitAt v 30) (LINK.MCTL_COUNT.pick v) (LINK.MCTL_DST.pick v)
    else d.writeWord pg off v
  else if 0xC00 ≤ off ∧ d.isCell then d
  else d.writeWord pg off v

/-- The features of a port come into force (R118, R119). -/
def Dev.linkFeats (d : Dev) (p acc : Nat) : Dev :=
  (d.modPort p fun x => { x with featWas := (d.ticks, d.get (pLINK p) LINK.STAT_FEATF) :: x.featWas }).set (pLINK p)
    LINK.STAT_FEATF acc

end Sys2Proof.Machine
end

