-- ==== Sys2Proof/Machine/Ops.lean ====
section
/-! DEFINITION. The named operations over the memories and over the state: reading and writing bytes in the canonical
form, putting the bytes a command stores into the memories when it ends, and lifting an effect on the device to the
state. A block takes no exception: the errors and interrupts a command raises are flags (`Flags.lean`). -/

namespace Sys2Proof.Machine

/-! ### One memory -/

/-- The canonical form: addresses strictly rising. -/
def Memory.sorted : Memory → Bool
  | [] => true
  | [_] => true
  | a :: b :: t => decide (a.1 < b.1) && Memory.sorted (b :: t)

/-- The byte listed for an address. -/
def memLook : Memory → Nat → Option Byte
  | [], _ => none
  | (k, b) :: t, a => if k = a then some b else if a < k then none else memLook t a

/-- Write one byte. -/
def memPut : Memory → Nat → Byte → Memory
  | [], a, b => [(a, b)]
  | (k, c) :: t, a, b =>
    if k < a then (k, c) :: memPut t a b
    else if k = a then (a, b) :: t
    else (a, b) :: (k, c) :: t

/-- Write bytes at consecutive addresses. -/
def memPuts (m : Memory) (a : Nat) : List Byte → Memory
  | [] => m
  | b :: bs => memPuts (memPut m a b) (a + 1) bs

/-! ### The memories of the device -/

/-- A memory by its name. -/
def Mems.at (m : Mems) : MemId → Memory
  | .tcm0 => m.tcm0
  | .tcm1 => m.tcm1
  | .sram => m.sram
  | .dram => m.dram

/-- The memories with one of them replaced. -/
def Mems.upd (m : Mems) (id : MemId) (f : Memory → Memory) : Mems :=
  match id with
  | .tcm0 => { m with tcm0 := f m.tcm0 }
  | .tcm1 => { m with tcm1 := f m.tcm1 }
  | .sram => { m with sram := f m.sram }
  | .dram => { m with dram := f m.dram }

/-- A memory's number, for the value of its unwritten bytes. -/
def MemId.num : MemId → Nat
  | .tcm0 => 0
  | .tcm1 => 1
  | .sram => 2
  | .dram => 3

/-- How often a memory's contents have become undefined. -/
def Mems.genOf (m : Mems) (id : MemId) : Nat :=
  match id with
  | .dram => m.gen + m.dgen
  | _ => m.gen

/-- The byte a memory reads as: what was written, otherwise a value the spec leaves open (R61, R438). -/
def Mems.byte (m : Mems) (id : MemId) (a : Nat) : Byte :=
  (memLook (m.at id) a).getD (Config.undefByte (m.genOf id) id.num a)

/-- Consecutive bytes of a memory. -/
def Mems.bytes (m : Mems) (id : MemId) (a n : Nat) : List Byte := (List.range n).map fun i => m.byte id (a + i)

/-- Write bytes to a memory. -/
def Mems.put (m : Mems) (id : MemId) (a : Nat) (bs : List Byte) : Mems := m.upd id fun x => memPuts x a bs

/-- Every memory is in the canonical form. -/
def Memory.wf (m : Mems) : Bool := Memory.sorted m.tcm0 && Memory.sorted m.tcm1 && Memory.sorted m.sram && Memory.sorted m.dram

/-- The contents of every memory become undefined (R61). -/
def Mems.lose (m : Mems) : Mems := ⟨[], [], [], [], m.gen + 1, m.dgen⟩

/-- The contents of the DRAM become undefined (R449). -/
def Mems.loseDram (m : Mems) : Mems := { m with dram := [], dgen := m.dgen + 1 }

/-- The size of a memory in bytes (R110). -/
def MemId.size : MemId → Nat
  | .tcm0 => 0x40000
  | .tcm1 => 0x40000
  | .sram => 0x400000
  | .dram => 2 ^ 40

/-! ### The state -/

/-- The contents that a command has made undefined: of every memory, of the DRAM, or of none. -/
def Mems.wipe (m : Mems) : Option Bool → Mems
  | some true => m.lose
  | some false => m.loseDram
  | none => m

/-- Make contents undefined where the command says so, then put the bytes that it stores into the memories, in order. -/
def State.flush (s : State) : State :=
  { s with mems := s.stores.foldl (fun m x => m.put x.1 x.2.1 x.2.2) (s.mems.wipe s.soc.wipe)
           stores := [], soc := { s.soc with wipe := none } }

/-- A command that acts on the device and may store bytes. -/
def State.run (f : Dev → Dev) (s : State) : State := State.flush { s with toDev := f s.toDev }

/-- A command that also reads memory. -/
def State.runM (f : Mems → Dev → Dev) (s : State) : State := State.flush { s with toDev := f s.mems s.toDev }

/-- A command acts only on a device whose straps are latched: in reset, everything but a reset event is without effect
(R46, R59). -/
def Dev.live (f : Dev → Dev) (d : Dev) : Dev := if d.phase = .running then f d else d

end Sys2Proof.Machine
end

