-- ==== Sys2Proof/Machine/Ether.lean ====
section
/-! DEFINITION. The Ethernet ports (chapters 07 and 20, R133 to R135, R142, R460, R461): links, descriptor rings in
shared SRAM, the receive filter, PTP event messages, one-step insertion, timestamp FIFOs and the management interface.
Frames stand without their frame check sequence. -/

namespace Sys2Proof.Machine

def Dev.modSoc (d : Dev) (f : Soc → Soc) : Dev := { d with soc := f d.soc }
def Dev.ethOf (d : Dev) (n : Nat) : Eth := d.soc.eth.getD n eth0
def Dev.modEth (d : Dev) (n : Nat) (f : Eth → Eth) : Dev := d.modSoc fun s => { s with eth := modNth s.eth n f }

/-- The port has a clock: SYNB's outputs are ungated (R95). -/
def Dev.ethClock (d : Dev) : Bool := d.isHub && !d.on pSYNB SYN.LOCKSTAT_GATED

/-! ### Links (R142) -/

/-- The link of a port goes down. -/
def Dev.ethDown (d : Dev) (n : Nat) : Dev :=
  if d.on (pETH n) ETH.PCSCFG_LINKUP then (d.set (pETH n) ETH.PCSCFG_LINKUP 0).irq (pETH n) ETH.I_LINK_CHG else d

/-- ETH_LINK_CHANGE (R142): the link comes up, at the speed of the PHY's word in SGMII, or goes down. -/
def Dev.ethLink (d : Dev) (n : Nat) (up : Bool) (speed : Nat) : Dev :=
  if !up then d.ethDown n
  else if !d.ethClock then d
  else
    let sp := if d.on (pETH n) ETH.PCSCFG_MODE then speed else 2
    let chg := !d.on (pETH n) ETH.PCSCFG_LINKUP || d.get (pETH n) ETH.PCSCFG_SPEED != sp
    ((d.set (pETH n) ETH.PCSCFG_LINKUP 1).set (pETH n) ETH.PCSCFG_SPEED sp).irqIf chg (pETH n) ETH.I_LINK_CHG

/-- PCS_MODE_WRITE (R142): a write of PCSCFG restarts the link. -/
def Dev.pcsWrite (d : Dev) (n v : Nat) : Dev := (d.writeWord (pETH n) 0x040 v).ethDown n

/-! ### PTP event messages (R134) -/

/-- A recognised event message: offset of its UDP header (for IPv4), offset of the PTP header, TRANSP. -/
structure Ptp where
  udp : Nat
  off : Nat
  transp : Nat

/-- The message type, and the other header fields the hardware looks at. -/
def ptpType (fr : List Byte) (p : Ptp) : Nat := fieldBE fr p.off 1 % 16
def ptpSeq (fr : List Byte) (p : Ptp) : Nat := fieldBE fr (p.off + 30) 2
def ptpTwoStep (fr : List Byte) (p : Ptp) : Bool := bitAt (fieldBE fr (p.off + 6) 1) 1

/-- Where a frame with EtherType `ty` and network data at `o` carries PTP, for the transports a port enables. -/
def Dev.ptpAt (d : Dev) (n : Nat) (fr : List Byte) (ty o : Nat) : Option Ptp :=
  let pg := pETH n
  let ihl := o + 4 * (fieldBE fr o 1 % 16)
  if ty = 0x88F7 ∧ d.on pg ETH.PTPCFG_L2EN then some ⟨0, o, 0⟩
  else if ty = 0x0800 ∧ d.on pg ETH.PTPCFG_UDP4EN ∧ fieldBE fr (o + 9) 1 = 17 ∧ fieldBE fr (ihl + 2) 2 = 319 then
    some ⟨ihl, ihl + 8, 1⟩
  else if ty = 0x86DD ∧ d.on pg ETH.PTPCFG_UDP6EN ∧ fieldBE fr (o + 6) 1 = 17 ∧ fieldBE fr (o + 42) 2 = 319 then
    some ⟨o + 40, o + 48, 2⟩
  else none

/-- The PTP event message that a frame carries (R134). -/
def Dev.ptpEvent (d : Dev) (n : Nat) (fr : List Byte) : Option Ptp :=
  let pg := pETH n
  let ty := fieldBE fr 12 2
  let found :=
    if !d.on pg ETH.PTPCFG_TSEN then none
    else if ty = 0x8100 then (if d.on pg ETH.PTPCFG_VLAN then d.ptpAt n fr (fieldBE fr 16 2) 18 else none)
    else d.ptpAt n fr ty 14
  found.filter fun p =>
    decide (p.off + 34 ≤ fr.length) && decide (ptpType fr p ≤ 3) && fieldBE fr (p.off + 4) 1 == d.get pg ETH.PTPCFG_DOMAIN

/-- The distance from the /S/ code group to the message timestamp point (R132), 2^-16 ns. -/
def Dev.ethDist (d : Dev) (n : Nat) : Nat :=
  ns16 * (match d.get (pETH n) ETH.PCSCFG_SPEED with | 0 => 6400 | 1 => 640 | _ => 64)

/-- A timestamp on the 62.5 ps grid, from a signed time. -/
def gridTime (t : Int) : Nat := ((t % (wrap40 / 2 ^ 24 : Nat)).toNat + fine16 / 2) / fine16 * fine16 % (wrap40 / 2 ^ 24)

/-- PTP_EVENT_RX (R134, R135): a timestamp enters the receive or the transmit FIFO, with
the STEPGEN it was taken under, or is dropped. Answers whether it entered. -/
def Dev.tsPut (d : Dev) (n : Nat) (rx : Bool) (fr : List Byte) (p : Ptp) (t gen : Nat) : Bool × Dev :=
  let pg := pETH n
  let l := if rx then (d.ethOf n).rx else (d.ethOf n).tx
  if 16 ≤ l.length then
    (false, (d.inc pg (if rx then ETH.TSSTAT_RXOVF else ETH.TSSTAT_TXOVF)).err pg ETH.E_TS_OVF)
  else
    let e : Ts := ⟨gen * 2 ^ 24 + ptpType fr p * 2 ^ 20 + p.transp * 2 ^ 18 + ptpSeq fr p, t⟩
    (true, (d.modEth n fun x => if rx then { x with rx := x.rx ++ [e] } else { x with tx := x.tx ++ [e] }).irq pg ETH.I_TS)

/-- Replace bytes of a frame. -/
def splice (fr : List Byte) (at_ : Nat) (bs : List Byte) : List Byte := fr.take at_ ++ bs ++ fr.drop (at_ + bs.length)

/-- PTP_ONE_STEP_INSERT (R134): originTimestamp, correctionField and, for IPv4, the UDP checksum. -/
def oneStep (fr : List Byte) (p : Ptp) (t : Nat) : List Byte :=
  let fr := splice fr (p.off + 34) (toBE 6 (t / sec16) ++ toBE 4 (nsOf t))
  let fr := splice fr (p.off + 8) (toBE 8 (fieldBE fr (p.off + 8) 8 + fracOf t))
  if p.transp = 1 then splice fr (p.udp + 6) [0, 0] else fr

/-! ### Rings (R460, R461) -/

/-- An access in shared SRAM by its address of R110: the offset, unless it leaves the memory. -/
def sramAt (a n : Nat) : Option Nat := if 0x20000000 ≤ a ∧ a + n ≤ 0x20400000 then some (a - 0x20000000) else none

/-- A bus error stops a ring (R460). -/
def Dev.ringStop (d : Dev) (n : Nat) (rx : Bool) : Dev :=
  (d.set (pETH n) (if rx then ETH.RXCFG_EN else ETH.TXCFG_EN) 0).err (pETH n) ETH.E_BUS_ERR

/-- The word at an address of shared SRAM lies in a descriptor at `at_`, or in a buffer of `len` bytes at `buf`. -/
def ringMeets (ue : Option Nat) (at_ buf len : Nat) : Bool :=
  ue.any fun a => decide (0x20000000 + at_ ≤ a) && decide (a < 0x20000010 + at_) ||
    decide (0x20000000 + buf ≤ a) && decide (a < 0x20000000 + buf + len)

/-- The number of descriptors of a ring. -/
def Dev.ringLen (d : Dev) (n : Nat) (rx : Bool) : Nat := 2 ^ d.get (pETH n) (if rx then ETH.RXCFG_K else ETH.TXCFG_K)

/-- The descriptor at HEAD: its place in shared SRAM, BUF's place and LEN. -/
def Dev.ringDesc (m : Mems) (d : Dev) (n : Nat) (rx : Bool) : Option (Nat × Nat × Nat) := do
  let pg := pETH n
  let base := 16 * d.get pg (if rx then ETH.RXRING else ETH.TXRING)
  let at_ ← sramAt (base + 16 * d.get pg (if rx then ETH.RXHEAD else ETH.TXHEAD)) 16
  let buf := leNat (m.bytes .sram at_ 4)
  let len := leNat (m.bytes .sram (at_ + 4) 4) % 2048
  let b ← sramAt buf (if rx then 1536 else len)
  if buf % 4 = 0 then some (at_, b, len) else none

/-- Write DONE and PTP of a descriptor, and advance HEAD. -/
def Dev.ringDone (d : Dev) (n : Nat) (rx ptp : Bool) (at_ : Nat) : Dev :=
  let pg := pETH n
  let F := if rx then ETH.RXHEAD else ETH.TXHEAD
  ((d.store .sram (at_ + 8) (toLE 4 (2 ^ 31 + 8 * b2n ptp))).set pg F ((d.get pg F + 1) % d.ringLen n rx)).irq pg
    (if rx then ETH.I_RX_DONE else ETH.I_TX_DONE)

/-- A ring has a descriptor to process. -/
def Dev.ringReady (d : Dev) (n : Nat) (rx : Bool) : Bool :=
  let pg := pETH n
  if rx then d.on pg ETH.RXCFG_EN && d.get pg ETH.RXHEAD != d.get pg ETH.RXTAIL
  else d.on pg ETH.TXCFG_EN && d.get pg ETH.TXHEAD != d.get pg ETH.TXTAIL

/-! ### Receive -/

/-- The port's own address (R461). -/
def Dev.macAddr (d : Dev) (n : Nat) : Nat := d.get (pETH n) ETH.MACHI * 2 ^ 32 + d.get (pETH n) ETH.MACLO

/-- The receive filter (R134, R460). -/
def Dev.ethAccepts (d : Dev) (n : Nat) (fr : List Byte) : Bool :=
  let pg := pETH n
  let dst := fieldBE fr 0 6
  d.on pg ETH.MACCTL_PROMISC ||
  (if dst = 0xFFFFFFFFFFFF then d.on pg ETH.MACCTL_BCAST
   else if bitAt (fieldBE fr 0 1) 0 then
     d.on pg ETH.MACCTL_MCALL || (d.on pg ETH.PTPCFG_MCEN && (dst == 0x011B19000000 || dst == 0x0180C200000E))
   else dst == d.macAddr n)

/-- A PAUSE frame (R133). -/
def isPause (fr : List Byte) : Bool := fieldBE fr 12 2 == 0x8808 && fieldBE fr 14 2 == 1

/-- A frame is dropped and counted (R460). -/
def Dev.ethDrop (d : Dev) (n : Nat) (F : Fld) : Dev := (d.inc (pETH n) F).err (pETH n) ETH.E_RX_DROP

/-- ETH_FRAME_RX (R133, R134, R460): octets without the frame check sequence, whether it holds, and the age of the
start-of-frame code group in 62.5 ps; `ue` is the word whose read met an uncorrectable error, if one did. -/
def Dev.ethRx (m : Mems) (d : Dev) (n : Nat) (fr : List Byte) (fcs : Bool) (back : Nat) (ue : Option Nat) : Dev :=
  let pg := pETH n
  if !d.ethClock || !d.on pg ETH.PCSCFG_LINKUP || !d.on pg ETH.MACCTL_RXEN then d
  else if !fcs || decide (fr.length < 60) || decide (1518 < fr.length) then d.ethDrop n ETH.RXERRCNT_BAD
  else if isPause fr || !d.ethAccepts n fr then d
  else
    let (at_, gen) := d.stampBack back
    let t := gridTime (at_ - (d.get pg ETH.RXLAT_LAT : Nat) + (d.ethDist n : Nat))
    let (ptp, d) := match d.ptpEvent n fr with
      | some p => d.tsPut n true fr p t gen
      | none => (false, d)
    if !d.ringReady n true then d.ethDrop n ETH.RXERRCNT_NODESC
    else match Dev.ringDesc m d n true with
      | none => d.ringStop n true
      | some (at_, buf, _) =>
        if ringMeets ue at_ 0 0 then (d.sramUe (ue.getD 0)).ringStop n true
        else
        let d := (d.store .sram buf fr).store .sram (at_ + 4) (toLE 4 fr.length)
        (d.ringDone n true ptp at_).incWrap pg ETH.RXCNT

/-! ### Transmit -/

/-- ETH_FRAME_TX (R134, R460): the descriptor at HEAD is sent. The pad bytes of a short frame are free. The insertion of
ONESTEP is made only in a Sync message that R134 recognises by TSEN, transport, tag and domain (DESIGN CHOICE, entry 16). -/
def Dev.ethTx (m : Mems) (d : Dev) (n : Nat) (ue : Option Nat) : Dev :=
  let pg := pETH n
  if !d.ethClock || !d.on pg ETH.PCSCFG_LINKUP || !d.on pg ETH.MACCTL_TXEN || !d.ringReady n false then d
  else match Dev.ringDesc m d n false with
    | none => d.ringStop n false
    | some (at_, buf, len) =>
      if ringMeets ue at_ buf len then (d.sramUe (ue.getD 0)).ringStop n false
      else
      let (x, d) := d.free
      let fr := m.bytes .sram buf len
      let fr := fr ++ toLE (60 - fr.length) x
      let (out0, gen) := d.stampBack 0
      let t := gridTime (out0 + (d.get pg ETH.TXLAT_LAT : Nat) + (d.ethDist n : Nat))
      let (ptp, out, d) := match d.ptpEvent n fr with
        | some p =>
          let one := d.on pg ETH.PTPCFG_ONESTEP && ptpType fr p == 0 && !ptpTwoStep fr p && p.transp != 2 &&
            decide (p.off + 44 ≤ fr.length)
          let (ok, d) := d.tsPut n false fr p t gen
          (ok, if one then oneStep fr p t else fr, d)
        | none => (false, fr, d)
      ((d.send (.eth n out)).ringDone n false ptp at_).incWrap pg ETH.TXCNT

/-! ### Register writes -/

/-- ETH_RING_ENABLE (R461): a write of TXCFG or RXCFG. -/
def Dev.ringCfg (d : Dev) (n : Nat) (rx : Bool) (v : Nat) : Dev :=
  let pg := pETH n
  let was := d.on pg (if rx then ETH.RXCFG_EN else ETH.TXCFG_EN)
  let k := bitsOf v 0 4
  if k < 2 ∨ 8 < k ∨ (was = true ∧ bitAt v 31) then d.err pg ETH.E_CFG_REJ
  else
    let d := d.writeWord pg (if rx then 0x06C else 0x064) v
    if bitAt v 31 then
      (d.set pg (if rx then ETH.RXHEAD else ETH.TXHEAD) 0).set pg (if rx then ETH.RXTAIL else ETH.TXTAIL) 0
    else d

/-- ETH_TAIL_WRITE (R460, R461). -/
def Dev.tailWrite (d : Dev) (n : Nat) (rx : Bool) (v : Nat) : Dev :=
  let t := bitsOf v 0 8
  if d.ringLen n rx ≤ t then d.err (pETH n) ETH.E_CFG_REJ
  else d.set (pETH n) (if rx then ETH.RXTAIL else ETH.TXTAIL) t

/-- MDIO_GO (R461): ETH0 only. -/
def Dev.mdioGo (d : Dev) (read : Bool) (phy reg data : Nat) : Dev :=
  if d.on (pETH 0) ETH.MDIOSTAT_BUSY then d.err (pETH 0) ETH.E_CFG_REJ
  else ((d.set (pETH 0) ETH.MDIOSTAT_BUSY 1).modSoc fun s => { s with mdio := some (read, phy, reg, data) }).send
    (.mdio read phy reg data)

/-- MDIO_DONE (R461): the management frame completes; `data` is what the PHY answered. -/
def Dev.mdioDone (d : Dev) (data : Nat) : Dev :=
  match d.soc.mdio with
  | none => d
  | some (read, _, _, _) =>
    let d := (d.modSoc fun s => { s with mdio := none }).set (pETH 0) ETH.MDIOSTAT_BUSY 0
    (if read then d.set (pETH 0) ETH.MDIOSTAT_DATA data else d).irq (pETH 0) ETH.I_MDIO_DONE

/-- TSSTAT_CLROVF (R142). -/
def Dev.tsClrovf (d : Dev) (n : Nat) : Dev := (d.clearCnt (pETH n) ETH.TSSTAT_TXOVF).clearCnt (pETH n) ETH.TSSTAT_RXOVF

/-- A read of TXTS or RXTS INFO (R135, R142). -/
def Dev.ethTsRead (d : Dev) (n : Nat) (rx : Bool) : Dev :=
  let pg := pETH n
  let x := if rx then 0xC14 else 0xC04
  match if rx then (d.ethOf n).rx else (d.ethOf n).tx with
  | [] => (d.latch pg [(x, 0), (x + 4, 0), (x + 8, 0)]).answer 0
  | e :: rest =>
    let d := d.modEth n fun y => if rx then { y with rx := rest } else { y with tx := rest }
    (d.latch pg [(x, nsOf e.time), (x + 4, slOf e.time), (x + 8, fsOf e.time)]).answer (2 ^ 31 + e.info)

/-- Writes of ETH registers (R142, R461). -/
def Dev.ethWrite (d : Dev) (n off v : Nat) : Dev :=
  let pg := pETH n
  if off = 0x040 then d.pcsWrite n v
  else if off = 0x064 then d.ringCfg n false v
  else if off = 0x06C then d.ringCfg n true v
  else if off = 0x060 ∧ d.on pg ETH.TXCFG_EN ∨ off = 0x068 ∧ d.on pg ETH.RXCFG_EN then d.err pg ETH.E_CFG_REJ
  else if off = 0x070 then
    if n = 0 ∧ bitAt v 31 then d.mdioGo (bitAt v 30) (bitsOf v 21 5) (bitsOf v 16 5) (bitsOf v 0 16) else d
  else if off = 0x804 then d.tailWrite n false v
  else if off = 0x80C then d.tailWrite n true v
  else if off = 0xC20 then (if bitAt v 15 then d.tsClrovf n else d)
  else d.writeWord pg off v

end Sys2Proof.Machine
end

