-- ==== Sys2Proof/Machine/Clocks.lean ====
section
/-! DEFINITION. Clock synthesis (chapter 05): the references, the band table, relock and lock, losses, the bypass clock
and the return to SYNA. -/

namespace Sys2Proof.Machine

def Dev.modClk (d : Dev) (f : Clk → Clk) : Dev := { d with clk := f d.clk }

/-- An error of a synthesizer: ERRSTAT and IRQFLG use the same bits (R97). -/
def Dev.synErr (d : Dev) (n bit : Nat) : Dev := (d.err (pSYN n) bit).irq (pSYN n) bit

/-- A reference is present and qualified: 0 REFCLK, 1 LINK0, 2 LINK1. -/
def Dev.refOk (d : Dev) (src : Nat) : Bool := d.clk.refs.getD src false
def Dev.setRef (d : Dev) (src : Nat) (b : Bool) : Dev := d.modClk fun c => { c with refs := modNth c.refs src fun _ => b }

/-- The reference a synthesizer uses, as an index of `refs` (R78). Under automatic selection it is the port in use. -/
def Dev.synRef (d : Dev) (n : Nat) : Nat :=
  if n = 1 then 0
  else
    let r := d.get pSYNA SYN.CFG_REFSEL
    if r = 3 then (if d.get pSYNA SYN.LOCKSTAT_ACTREF = 2 then 2 else 1) else r

/-- SYNA uses its reference: a relock of it is under way, or it is locked. -/
def Dev.synaUses (d : Dev) : Bool := decide (1 ≤ d.get pSYNA SYN.LOCKSTAT_PHASE) && decide (d.get pSYNA SYN.LOCKSTAT_PHASE ≤ 5)

/-- The port that SYNA takes when it chooses anew (R79): LINK0 if it is qualified, otherwise LINK1. It chooses at the start
of a relock (`anew`), and while it uses no qualified port. -/
def Dev.refChoose (d : Dev) (anew : Bool) : Dev :=
  let r := d.get pSYNA SYN.CFG_REFSEL
  if r ≠ 3 then d.set pSYNA SYN.LOCKSTAT_ACTREF r
  else if !anew && d.synaUses && d.refOk (d.synRef 0) && d.on pSYNA SYN.LOCKSTAT_ACTREF then d
  else d.set pSYNA SYN.LOCKSTAT_ACTREF (if d.refOk 1 then 1 else if d.refOk 2 then 2 else 0)

/-- f_TDC in 0.1 MHz for a pre-stage (R76, R84). -/
def Dev.fTdc (d : Dev) (n refsel pre : Nat) : Nat :=
  let f := if n = 0 ∧ refsel ≠ 0 then 250 else d.refclk
  if pre = 1 then 2 * f else if pre = 2 then f / 2 else f

/-! ### The DDR4 controller and Ethernet follow SYNB (R96) -/

/-- The DDR4 controller enters reset: the DRAM contents are undefined (R449, R453). -/
def Dev.ddrReset (d : Dev) : Dev :=
  if d.isCell then d
  else
    let d := ((d.set pDDRC DDRC.STAT_READY 0).set pDDRC DDRC.STAT_TRAINING 0).anInvalid
    { d with pins := { d.pins with ddrRstN := .low, ddrCke := .low } }.modSoc fun s =>
      { s with wipe := s.wipe.or (some false) }

/-- The outputs of SYNB are gated. -/
def Dev.synbOff (d : Dev) : Dev := ((d.ddrReset).ethDown 0).ethDown 1

/-- SYNB_LOSS (R96). -/
def Dev.synbLoss (d : Dev) : Dev := d.synbOff.setHoldover true

/-! ### The clock switch (R88 to R91) -/

/-- The move to the bypass clock (R89, R90). ADC_CLOCK_STOP (R344) lies in it. -/
def Dev.toBypass (d : Dev) : Dev :=
  let d := d.holdAssert PWMC.HOLDSTAT_CKSW
  let d := d.set pCKSW CKSW.CKSTAT_SRC (if d.on pCKSW CKSW.CKSTAT_REFQ then 1 else 2)
  let d := (((d.set pTIME TIME.STAT_ONSYNA 0).setValid false).spdBypass).modClk fun c => { c with bypAt := d.ticks }
  (d.adcClockStop.leClockStop).inc pCKSW CKSW.CKSTAT_SWCNT

/-- The move by R89 where the cores and fabric run on SYNA, flagged. -/
def Dev.switchOff (d : Dev) : Dev := if d.onSyna then (d.toBypass).err pCKSW CKSW.E_BYPASS_ENTERED else d

/-- BYPASS_SWITCH on a loss signalled by SYNA (R89, R90): in cell role it also requests BYPASS. -/
def Dev.synaLoss (d : Dev) : Dev :=
  if d.onSyna then
    let d := d.switchOff
    if d.isCell then d.bypassReq 3 else d
  else d.inc pCKSW CKSW.CKSTAT_SWCNT

/-- The return to SYNA (R91): the hold-off is released, TIME resumes, due times may have been passed (R159). -/
def Dev.toSyna (d : Dev) : Dev :=
  if d.onSyna then d
  else ((((d.set pCKSW CKSW.CKSTAT_SRC 0).set pTIME TIME.STAT_ONSYNA 1).tevPassed).cotReturn).holdRelease PWMC.HOLDSTAT_CKSW

/-- GOBYP (R89, R90): counted, not flagged; a cell requests BYPASS. -/
def Dev.goBypass (d : Dev) : Dev :=
  if d.onSyna then
    let d := d.toBypass
    if d.isCell then d.bypassReq 6 else d
  else d

/-- GOSYN (R91). -/
def Dev.goSyna (d : Dev) : Dev :=
  if d.on pSYNA SYN.LOCKSTAT_FINE_LOCK then d.toSyna else d.err pCKSW CKSW.E_GOSYN_DENY

/-- AUTORET_RETURN (R91): FINE_LOCK has been set for 1 ms. -/
def Dev.autoret (d : Dev) : Dev :=
  if d.on pCKSW CKSW.CKCTL_AUTORET && d.on pSYNA SYN.LOCKSTAT_FINE_LOCK then d.toSyna else d

/-- BYPREF_LOST (R89): REFCLK is lost while it is the bypass clock. -/
def Dev.byprefLost (d : Dev) : Dev :=
  if d.get pCKSW CKSW.CKSTAT_SRC = 1 then
    ((((d.setRef 0 false).set pCKSW CKSW.CKSTAT_REFQ 0).set pCKSW CKSW.CKSTAT_SRC 2).holdAssert PWMC.HOLDSTAT_CKSW).err pCKSW
      CKSW.E_BYPREF_LOST
  else d

/-! ### Gating, relock and lock (R80 to R87) -/

/-- The pin LOCKA or LOCKB (R92). -/
def Dev.lockPin (d : Dev) (n : Nat) (l : PinLevel) : Dev :=
  { d with pins := if n = 0 then { d.pins with lockA := l } else { d.pins with lockB := l } }

/-- The outputs of a synthesizer are gated and its lock flags cleared. -/
def Dev.synGate (d : Dev) (n : Nat) : Dev :=
  (((d.set (pSYN n) SYN.LOCKSTAT_GATED 1).set (pSYN n) SYN.LOCKSTAT_FREQ_OK 0).set (pSYN n) SYN.LOCKSTAT_FINE_LOCK
    0).lockPin n .low

/-- The target in 2^-24 of 0.1 MHz, of the settings in force (R75). -/
def Dev.synTarget (d : Dev) (n : Nat) : Nat :=
  let pg := pSYN n
  d.fTdc n (d.get pg SYN.CFG_REFSEL) (d.inForce pg SYN.CFG_PRE) *
    (d.inForce pg SYN.FBINT_INT * 2 ^ 24 + (if n = 1 then d.inForce pg SYN.FBFRAC_FRAC else 0))

/-- BAND_SELECTION (R81): the valid band within ±0.5 % of the target that is nearest it, a tie taking the lower. -/
def Dev.bandFor (d : Dev) (n : Nat) : Option Nat :=
  let t := d.synTarget n
  let dist (i : Nat) : Nat :=
    let f := d.get (pSYN n) (SYN.BANDTBL_FCTR i) * 2 ^ 24
    if f < t then t - f else f - t
  let cands := (List.range 64).filter fun i => d.on (pSYN n) (SYN.BANDTBL_VALID i) && decide (dist i * 200 ≤ t)
  cands.foldl (fun b i => match b with
    | some j => if dist i < dist j then some i else b
    | none => some i) none

/-- The settings a relock start refuses, of those that it would load (R76). -/
def Dev.relockBad (d : Dev) (n : Nat) : Bool :=
  n == 0 && d.shadow pSYNA SYN.FBINT_INT * d.fTdc 0 (d.get pSYNA SYN.CFG_REFSEL) (d.shadow pSYNA SYN.CFG_PRE) != 50000

/-- A relock starts (R81, R82, R85). It takes the settings of R75 and R95 as they are, also where those rules say what they
must be, and leaves a band measurement running (DESIGN CHOICE, entry 14). -/
def Dev.relock (d : Dev) (n : Nat) : Dev :=
  let pg := pSYN n
  if d.on pSYSC SYSC.STRAP_INV then d
  else if d.relockBad n then d.synErr n SYN.E_CFG_INVALID
  else
    let d := if n = 0 then (if d.onSyna then d.synaLoss else d) else if d.on pg SYN.LOCKSTAT_GATED then d else d.synbOff
    let d := if n = 0 then (d.synGate 0).refChoose true else d.synGate n
    let d := [SYN.CFG_PRE, SYN.FBINT_INT, SYN.FBFRAC_FRAC, SYN.POSTDIV_DDRDIV, SYN.POSTDIV_EODINT, SYN.POSTDIV_EODNUM,
      SYN.POSTDIV_EODDEN].foldl (fun d F => d.load pg F) d
    match d.bandFor n with
    | none => (d.set pg SYN.LOCKSTAT_PHASE 1).synErr n SYN.E_BAND_NONE
    | some i => (d.set pg SYN.LOCKSTAT_BAND i).set pg SYN.LOCKSTAT_PHASE 2

/-- An AUTOREL event (R85). -/
def Dev.autoRelock (d : Dev) (n : Nat) : Dev :=
  if d.on (pSYN n) SYN.CFG_EN && d.on (pSYN n) SYN.CFG_AUTOREL && !d.inBlk.contains (pSYN n) then d.relock n else d

/-- RELOCK_GO (R85). -/
def Dev.relockGo (d : Dev) (n : Nat) : Dev :=
  if d.absent (pSYN n) then d
  else if d.on (pSYN n) SYN.CFG_EN then d.relock n else d.synErr n SYN.E_CFG_INVALID

/-- The pin of a synthesizer in one f_TDC period (R92): high if the output is ungated and the phase error, a free value in
TDC steps, is within PHWIN, where 0 is treated as 1. -/
def Dev.lockJudge (d : Dev) (n : Nat) : Dev :=
  let pg := pSYN n
  if d.absent pg then d
  else if d.on pg SYN.LOCKSTAT_GATED then d.lockPin n .low
  else
    let (e, d) := d.free
    d.lockPin n (if e ≤ max 1 (d.get pg SYN.LOCKWIN_PHWIN) then .high else .low)

/-- What the synthesizers do as time passes: acquisition gives way to qualification at a moment the spec leaves open (R82),
and the pins are judged (R92). -/
def Dev.synTick (d : Dev) : Dev :=
  [0, 1].foldl (fun d n =>
    let pg := pSYN n
    let d := if d.get pg SYN.LOCKSTAT_PHASE = 2 then
        let (b, d) := d.coin
        if b then d.set pg SYN.LOCKSTAT_PHASE 3 else d
      else d
    if d.phase = .running then d.lockJudge n else d) d

/-- FREQ_OK (R82, R86, R92): the output is ungated, but not in a block reset of the synthesizer (R62). -/
def Dev.freqOk (d : Dev) (n : Nat) : Dev :=
  let pg := pSYN n
  if !d.inBlk.contains pg ∧ (d.get pg SYN.LOCKSTAT_PHASE = 2 ∨ d.get pg SYN.LOCKSTAT_PHASE = 3) then
    (((d.set pg SYN.LOCKSTAT_FREQ_OK 1).set pg SYN.LOCKSTAT_GATED 0).set pg SYN.LOCKSTAT_PHASE 4).lockJudge n
  else d

def Dev.romTo (d : Dev) (r : RomClk) : Dev := d.modClk fun c => { c with rom := r }

/-- The boot ROM has done with the clocks: it waits for its image (R67, R74). -/
def Dev.romIdle (d : Dev) : Dev :=
  let d := d.romTo .idle
  if d.get pSYSC SYSC.BOOTSTAT_PHASE = 1 then d.set pSYSC SYSC.BOOTSTAT_PHASE 2 else d

/-- UART0 as the boot ROM sets it for a recovery image: 115,200 Bd from the clock on which the fabric runs (R456, R463). -/
def Dev.romUart (d : Dev) : Dev :=
  if !d.soc.loading then d
  else
    let f := match d.get pCKSW CKSW.CKSTAT_SRC with | 0 => 2500 | 1 => d.refclk | _ => 400
    (d.set (pUART 0) UART.CFG_EN 1).set (pUART 0) UART.CFG_DIV ((2 * f * 100000 + 115200) / (2 * 115200))

/-- FINE_LOCK (R82, R93): the phase error has stayed within PHWIN, so the pin is high. The boot ROM that waits for it moves
the cores and the fabric to SYNA (R83). -/
def Dev.fineLock (d : Dev) (n : Nat) : Dev :=
  let pg := pSYN n
  if !d.inBlk.contains pg ∧ d.get pg SYN.LOCKSTAT_PHASE = 4 then
    let d := (((d.set pg SYN.LOCKSTAT_FINE_LOCK 1).set pg SYN.LOCKSTAT_PHASE 5).lockPin n .high).modClk fun c =>
      { c with tLock := modNth c.tLock n fun _ => d.tDie }
    if n = 0 ∧ d.clk.rom = .lock then (d.romIdle).toSyna.romUart else d
  else d

/-- The fine word as LOCKSTAT shows it once the oscillator tunes (R93): what the loop tracks, a free value, and from
FINE_LOCK on the feed-forward TC × (T − T_lock), rounded to a fine step. T is in 1/16 °C. -/
def Dev.fineWord (d : Dev) (n track : Nat) : Nat :=
  let pg := pSYN n
  let ff := if d.on pg SYN.CFG_TCOMP_EN && d.on pg SYN.LOCKSTAT_FINE_LOCK
    then divRound (toSigned (d.get pg SYN.TCOMP_TC) 16 * (d.tDie - d.clk.tLock.getD n 0)) 16 else 0
  (clampI ((track % 65536 : Nat) + ff) 0 65535).toNat

/-- A loss: gated, flags cleared, signalled (R87). -/
def Dev.synLoss (d : Dev) (n : Nat) : Dev :=
  let d := if d.get (pSYN n) SYN.LOCKSTAT_PHASE = 0 then d else d.set (pSYN n) SYN.LOCKSTAT_PHASE 6
  let d := if n = 0 then d.synaLoss else d.synbLoss
  d.synGate n

/-- LOSS_OF_LOCK (R85, R87): of a synthesizer whose output is ungated. -/
def Dev.lossOfLock (d : Dev) (n : Nat) : Dev :=
  if d.absent (pSYN n) || d.on (pSYN n) SYN.LOCKSTAT_GATED then d
  else ((d.synErr n SYN.E_LOL).synLoss n).autoRelock n

/-- A measurement of BANDCAL aborts (R80); the boot ROM begins again when the reference is back. -/
def Dev.bandAbort (d : Dev) (n : Nat) : Dev :=
  if d.clk.band.getD n false then
    let d := ((d.modClk fun c => { c with band := modNth c.band n fun _ => false }).set (pSYN n) SYN.BANDCAL_DONE 1).synErr n
      SYN.E_BANDCAL_ABORT
    match n, d.clk.rom with
    | 0, .band _ => d.romTo .wait
    | _, _ => d
  else d

/-- A synthesizer loses the reference it uses, with no other to go to (R79, R87). -/
def Dev.synRefLoss (d : Dev) (n : Nat) : Dev :=
  let was := d.clk.lost.getD n false
  let d := d.bandAbort n
  let d := d.modClk fun c => { c with lost := modNth c.lost n fun _ => true }
  if d.on (pSYN n) SYN.CFG_EN && !was then (d.synErr n SYN.E_REFLOSS).synLoss n else d

/-- LOSS_OF_REFERENCE (R79, R87, R88): `src` 0 REFCLK, 1 LINK0, 2 LINK1. -/
def Dev.lossOfRef (d : Dev) (src : Nat) : Dev :=
  let used := d.synRef 0 == src && (src == 0 || d.get pSYNA SYN.LOCKSTAT_ACTREF == src)
  let d := d.setRef src false
  let d := if src = 0 then d.set pCKSW CKSW.CKSTAT_REFQ 0 else d
  let d := if !used then d
    else if d.get pSYNA SYN.CFG_REFSEL = 3 ∧ d.refOk (3 - src) then d.set pSYNA SYN.LOCKSTAT_ACTREF (3 - src)
    else d.synRefLoss 0
  if src = 0 ∧ d.isHub then d.synRefLoss 1 else d

/-- BANDCAL_GO (R80): refused while the synthesizer is enabled and not idle. -/
def Dev.bandGo (d : Dev) (n gate code : Nat) : Dev :=
  let pg := pSYN n
  if d.absent pg then d
  else
    let d := (d.set pg SYN.BANDCAL_GATE gate).set pg SYN.BANDCAL_CODE code
    if d.on pg SYN.CFG_EN ∧ d.get pg SYN.LOCKSTAT_PHASE ≠ 0 then d
    else (d.set pg SYN.BANDCAL_DONE 0).modClk fun c => { c with band := modNth c.band n fun _ => true }

/-- The boot ROM measures band `i` of SYNA, over 128 periods (R80, R83). -/
def Dev.romBand (d : Dev) (i : Nat) : Dev := (d.bandGo 0 0 i).romTo (.band i)

/-- The boot ROM starts to fill SYNA's band table once SYNA's reference is there (R83). -/
def Dev.romGo (d : Dev) : Dev :=
  if d.clk.rom = .wait && d.refOk (d.synRef 0) && !d.on pSYSC SYSC.STRAP_INV then d.romBand 0 else d

/-- The boot ROM takes a count: f = COUNT × 8 × f_TDC / 128, in 0.1 MHz and rounded to the nearest, goes into the table; after
the last band it asks for a relock (R81, R83), which starts while EN = 1 (R85). -/
def Dev.romCount (d : Dev) (c : Nat) : Dev :=
  match d.clk.rom with
  | .band i =>
    let f := roundUpTie (c * 8 * d.fTdc 0 (d.get pSYNA SYN.CFG_REFSEL) (d.inForce pSYNA SYN.CFG_PRE)) 128 / 128
    let d := (d.hwSet pSYNA (SYN.BANDTBL_FCTR i) f).hwSet pSYNA (SYN.BANDTBL_VALID i) 1
    if i < 63 then d.romBand (i + 1) else (d.romTo .lock).relockGo 0
  | _ => d

/-- BANDCAL_DONE (R80): the gate ends with a count, or the reference is lost. -/
def Dev.bandDone (d : Dev) (n : Nat) (count : Option Nat) : Dev :=
  match count with
  | none => d.bandAbort n
  | some c =>
    if d.clk.band.getD n false then
      let d := ((d.modClk fun c => { c with band := modNth c.band n fun _ => false }).set (pSYN n) SYN.BANDCNT_COUNT c).set
        (pSYN n) SYN.BANDCAL_DONE 1
      if n = 0 then d.romCount (c % 2 ^ 20) else d
    else d

/-- A reference is usable: a loss of reference that lasts ends with it (R85). -/
def Dev.refBack (d : Dev) (src : Nat) : Dev :=
  let d := (d.setRef src true).refChoose false
  let d := [0, 1].foldl (fun d n =>
    if d.clk.lost.getD n false && d.synRef n == src then
      (d.modClk fun c => { c with lost := modNth c.lost n fun _ => false }).autoRelock n
    else d) d
  d.romGo

/-- LINK_CLOCK_QUALIFIED (R79): the clock recovered from an enabled port, whose receiver has locked to the code groups and
received 1,000 valid ones; on the bypass clock too. -/
def Dev.linkClock (d : Dev) (p : Nat) : Dev := if d.on (pLINK p) LINK.PCFG_EN then d.refBack (p + 1) else d

/-- REFCLK_QUALIFIED (R88). -/
def Dev.refclkQualified (d : Dev) : Dev :=
  if d.on pSYSC SYSC.STRAP_INV || (d.isCell && d.get pSYSC SYSC.STRAP_REF == 3) || d.on pCKSW CKSW.CKSTAT_REFQ then d
  else
    let d := d.set pCKSW CKSW.CKSTAT_REFQ 1
    let d := if d.get pCKSW CKSW.CKSTAT_SRC = 2 then (d.set pCKSW CKSW.CKSTAT_SRC 1).romUart else d
    d.refBack 0

/-- The loop bandwidths of CFG.BW in kHz (R84). -/
def bwKHz (bw : Nat) : Nat := match bw with | 0 => 10 | 1 => 30 | 2 => 100 | 3 => 300 | _ => 1000

/-- R84: a write of CFG that is refused. -/
def Dev.cfgRefused (d : Dev) (n v : Nat) : Bool :=
  let pg := pSYN n
  let bw := bitsOf v 8 3
  let pre := bitsOf v 4 2
  let wide (f : Nat) : Bool := decide (f * 100 < 20 * bwKHz bw)
  decide (5 ≤ bw) || pre == 3 || wide (d.fTdc n (d.get pg SYN.CFG_REFSEL) (d.inForce pg SYN.CFG_PRE)) ||
    wide (d.fTdc n (bitsOf v 1 2) pre)

/-- SYN_CFG_WRITE (R84, R85, R97). A loss of reference that is recorded stays so when another reference is selected, until
that one comes (DESIGN CHOICE, entry 14). -/
def Dev.synCfg (d : Dev) (n v : Nat) : Dev :=
  let pg := pSYN n
  let v := if n = 1 then v - bitsOf v 1 2 * 2 else v
  if d.cfgRefused n v then d.synErr n SYN.E_CFG_INVALID
  else
    let was := d.on pg SYN.CFG_EN
    let d := if was && !bitAt v 0 then
        let d := if n = 0 then d.switchOff else if d.on pg SYN.LOCKSTAT_GATED then d else d.synbOff
        (d.synGate n).set pg SYN.LOCKSTAT_PHASE 0
      else d
    let r := d.get pSYNA SYN.CFG_REFSEL
    let d := d.writeWord pg 0x040 v
    if n = 0 then d.refChoose (d.get pSYNA SYN.CFG_REFSEL != r) else d

/-- OSC_CHECK (R94): the internal oscillator deviates beyond ±5 %. -/
def Dev.oscCheck (d : Dev) (bad : Bool) : Dev :=
  d.errIf (bad && d.on pSYNA SYN.LOCKSTAT_FINE_LOCK) pCKSW CKSW.E_OSC_FAIL

/-- TUNE_MARGIN (R93): the fine word nears an end of its span while the synthesizer is locked. -/
def Dev.tuneMargin (d : Dev) (n : Nat) : Dev :=
  if d.on (pSYN n) SYN.LOCKSTAT_FREQ_OK then d.synErr n SYN.E_TUNE_MARGIN else d

/-! ### Registers -/

/-- Software takes over what the boot ROM was doing with SYNA. -/
def Dev.romEnd (d : Dev) (n : Nat) : Dev := if n = 0 then d.romIdle else d

/-- Writes of SYN registers (R97). SYNA has no FBFRAC and no POSTDIV. -/
def Dev.synWrite (d : Dev) (n off v : Nat) : Dev :=
  if n = 0 ∧ (off = 0x048 ∨ off = 0x04C) then d
  else if off = 0x040 then d.synCfg n v
  else if off = 0x050 then (if bitAt v 0 then (d.romEnd n).relockGo n else d)
  else if off = 0x060 then
    if bitAt v 31 then (d.romEnd n).bandGo n (bitsOf v 8 2) (bitsOf v 0 6) else d.writeWord (pSYN n) off v
  else d.writeWord (pSYN n) off v

/-- A word written to CKCTL: while THRM has set CPUDIV, the written CPUDIV is only the value to restore (R399), unless the page
is locked. -/
def Dev.cpudivKept (d : Dev) (v : Nat) : Nat × Dev :=
  let F := CKSW.CKCTL_CPUDIV
  if d.thrm.cpudiv.isNone then (v, d)
  else
    (v - F.pick v * 2 ^ F.lsb + d.get pCKSW F * 2 ^ F.lsb,
     if d.locked pCKSW then d else { d with thrm := { d.thrm with cpudiv := some (F.pick v) } })

/-- CKCTL as software that keeps CPUDIV writes it back with a command bit (R89, R91). -/
def Dev.ckctlWith (d : Dev) (bit : Nat) : Nat :=
  let F := CKSW.CKCTL_CPUDIV
  let w := d.wordAt pCKSW 0x044
  (w - F.pick w * 2 ^ F.lsb + (if d.locked pCKSW then d.get pCKSW F else d.thrm.cpudiv.getD (d.get pCKSW F)) * 2 ^ F.lsb) |||
    2 ^ bit

/-- Writes of CKSW registers (R89, R91, R98). -/
def Dev.ckswWrite (d : Dev) (off v : Nat) : Dev :=
  if off = 0x044 then
    if bitAt v 0 ∧ bitAt v 1 then d
    else
      let (v, d) := d.cpudivKept v
      let d := d.writeWord pCKSW off v
      if bitAt v 1 then d.goBypass else if bitAt v 0 then d.goSyna else d
  else d.writeWord pCKSW off v

/-- The trim code of the internal oscillator in force (R94, R469). -/
def Dev.oscTrim (d : Dev) : Nat :=
  match d.calIn 0x5E with
  | none => 0x80
  | some ws =>
    let trim : Int := (bitsOf (calWord ws 1) 0 8 : Nat)
    if !d.on pCKSW CKSW.OSCTRIM_TCEN then trim.toNat
    else
      let dT := d.tDie - toSigned (calWord ws 3) 16
      (clampI (divRound (trim * 4096 + toSigned (calWord ws 2) 16 * dT) 4096) 0 255).toNat

/-- The consequences of a block reset of a synthesizer (R97). -/
def Dev.synOff (d : Dev) (n : Nat) : Dev :=
  let d := if n = 0 then d.switchOff else d.synbLoss
  ((d.synGate n).romEnd n).modClk fun c =>
    { c with band := modNth c.band n fun _ => false, lost := modNth c.lost n fun _ => false }

end Sys2Proof.Machine
end

