-- ==== Sys2Proof/Machine/Thermal.lean ====
section
/-! DEFINITION. THRM (chapter 18, R394 to R405): sensors, levels, throttling, power ceiling, flash record. -/

namespace Sys2Proof.Machine

/-- A sensor reading from its raw value: SLOPE × raw + TOFS (R469), or none where its entry is invalid. -/
def Dev.sensorTrim (d : Dev) (n : Nat) (raw : Int) : Option Int :=
  (d.calIn (0x5A + n)).map fun ws =>
    divRound ((bitsOf (calWord ws 2) 0 16 : Nat) * raw) 32768 + toSigned (calWord ws 1) 16

/-- Insert into an ascending list. -/
def insInt (x : Int) : List Int → List Int
  | [] => [x]
  | y :: t => if x ≤ y then x :: y :: t else y :: insInt x t

/-- Twice the median of a list; the middle two are averaged where the count is even. -/
def median2 (l : List Int) : Option Int :=
  let s := l.foldl (fun a x => insInt x a) []
  if s.isEmpty then none else some (s.getD ((s.length - 1) / 2) 0 + s.getD (s.length / 2) 0)

def Dev.senOn (d : Dev) (n : Nat) : Bool := d.bit pTHRM THRM.CFG_SENSEN n

/-- The reading of a sensor is valid (R395); `rs` are the four readings. -/
def Dev.sensorOk (d : Dev) (rs : List (Option Int)) (n : Nat) : Bool :=
  match rs.getD n none with
  | none => false
  | some r =>
    let others := ((List.range 4).filter fun k => k != n && d.senOn k).filterMap fun k => rs.getD k none
    decide (-880 ≤ r) && decide (r ≤ 2400) &&
    (match median2 others with
     | none => true
     | some m2 => decide ((2 * r - m2).natAbs ≤ 320))

/-- Convert the sensors and form T (R394, R395). -/
def Dev.thrmSense (d : Dev) (raws : List Int) : Dev :=
  let rs := (List.range 4).map fun n => d.sensorTrim n (raws.getD n 0)
  let ok := (List.range 4).map (d.sensorOk rs)
  let d := (List.range 4).foldl (fun d n =>
    let d := (d.set pTHRM (THRM.TSENS_VALID n) (b2n (ok.getD n false))).set pTHRM (THRM.TSENS_T n)
      (ofSigned ((rs.getD n none).getD (raws.getD n 0)) 16)
    d.errIf (!ok.getD n false) pTHRM THRM.E_SENS_FAIL) d
  let good := ((List.range 4).filter fun n => d.senOn n && ok.getD n false).filterMap fun n => rs.getD n none
  if good.length < 2 then d.set pTHRM THRM.TDIE_TVALID 0
  else (d.set pTHRM THRM.TDIE_TVALID 1).set pTHRM THRM.TDIE_T (ofSigned (good.foldl max (good.headD 0)) 16)

/-- The valid points of the conversion table: the first whose code does not exceed its predecessor's ends it (R396). -/
def Dev.ntcPts (d : Dev) : Nat → Nat → List (Int × Int)
  | 0, _ => []
  | n + 1, j =>
    let c := d.get pTHRM (THRM.NTCPT_CODE j)
    let p := ((c : Int), toSigned (d.get pTHRM (THRM.NTCPT_TEMP j)) 16)
    if j ≠ 0 ∧ c ≤ d.get pTHRM (THRM.NTCPT_CODE (j - 1)) then [] else p :: d.ntcPts n (j + 1)

/-- Linear interpolation in the table, rounded to 1/16 °C with a tie toward +∞ (R396). -/
def ntcTemp (v : Int) : List (Int × Int) → Int
  | [] => 0
  | [p] => p.2
  | p :: q :: t =>
    if v ≤ p.1 then p.2
    else if v ≤ q.1 then divRound (p.2 * (q.1 - p.1) + (q.2 - p.2) * (v - p.1)) (q.1 - p.1).toNat
    else ntcTemp v (q :: t)

/-- One external channel (R396). -/
def Dev.thrmExt (d : Dev) (n : Nat) : Dev :=
  if !d.on pTHRM (THRM.EXT_EN n) then
    { d.set pTHRM (THRM.EXTT_VALID n) 0 with thrm := { d.thrm with ext := modNth d.thrm.ext n fun _ => (0, 0) } }
  else
    let pg := pADC (d.get pTHRM (THRM.EXT_ADC n))
    let ch := d.get pTHRM (THRM.EXT_CH n)
    let cnt := d.get pg (ADC.RES_CNT ch)
    let (was, age) := d.thrm.ext.getD n (0, 0)
    let age := if cnt = was then age + 1 else 0
    let d := { d with thrm := { d.thrm with ext := modNth d.thrm.ext n fun _ => (cnt, min age 100) } }
    if d.on pg (ADC.RES_OWF ch) || d.on pg (ADC.RES_CLIP ch) || decide (100 ≤ age) then
      (d.set pTHRM (THRM.EXTT_VALID n) 0).err pTHRM THRM.E_EXT_FAIL
    else
      (d.set pTHRM (THRM.EXTT_VALID n) 1).set pTHRM (THRM.EXTT_T n)
        (ofSigned (ntcTemp (d.get pg (ADC.RES_VALUE ch)) (d.ntcPts 8 0)) 16)

/-- TG and its source: the highest of T and the valid external temperatures, the die first (R397). -/
def Dev.thrmGov (d : Dev) : Dev :=
  let (t, s) := (List.range 4).foldl (fun (a : Int × Nat) n =>
    let x := toSigned (d.get pTHRM (THRM.EXTT_T n)) 16
    if d.on pTHRM (THRM.EXTT_VALID n) ∧ a.1 < x then (x, 4 + n) else a) (d.tDie, 0)
  (d.set pTHRM THRM.TG_T (ofSigned t 16)).set pTHRM THRM.TG_GSRC s

def Dev.tg (d : Dev) : Int := toSigned (d.get pTHRM THRM.TG_T) 16

/-- Threshold and hysteresis of WARN (0), THROTTLE (1) and SHUTDOWN (2). -/
def thField (k : Nat) : Fld := if k = 0 then THRM.THWARN_TH else if k = 1 then THRM.THTHR_TH else THRM.THSHUT_TH
def hysField (k : Nat) : Fld := if k = 0 then THRM.THWARN_HYS else if k = 1 then THRM.THTHR_HYS else THRM.THSHUT_HYS
def levField (k : Nat) : Fld :=
  if k = 0 then THRM.LEVEL_WARN else if k = 1 then THRM.LEVEL_THROTTLE else THRM.LEVEL_SHUTDOWN
def levErr (k : Nat) : Nat := if k = 0 then THRM.E_WARN else if k = 1 then THRM.E_THROTTLE else THRM.E_SHUTDOWN

/-- Count how long TG has stood above or below a level's thresholds (R397). -/
def Dev.thrmCount (d : Dev) (k : Nat) : Dev :=
  let th := toSigned (d.get pTHRM (thField k)) 16
  let hy : Int := d.get pTHRM (hysField k)
  let up (b : Bool) (n : Nat) := if b then min (n + 1) 255 else 0
  { d with thrm := { d.thrm with hi := modNth d.thrm.hi k (up (decide (th ≤ d.tg))),
                                 lo := modNth d.thrm.lo k (up (decide (d.tg < th - hy))) } }

/-- A level by R397; THROTTLE is forced while TOGLATCH is set or T is not valid (R395, R398). -/
def Dev.levelNext (d : Dev) (k : Nat) : Bool :=
  let dw := max 1 (d.get pTHRM THRM.CFG_DWELL)
  let own := if d.on pTHRM (levField k) then decide (d.thrm.lo.getD k 0 < dw) else decide (dw ≤ d.thrm.hi.getD k 0)
  own || (k == 1 && (d.on pTHRM THRM.LEVEL_TOGLATCH || !d.on pTHRM THRM.TDIE_TVALID))

/-! ### Actions -/

/-- The throttle ends: CPUDIV is restored (R399). -/
def Dev.throttleEnd (d : Dev) : Dev :=
  match d.thrm.cpudiv with
  | some v => { d.set pCKSW CKSW.CKCTL_CPUDIV v with thrm := { d.thrm with cpudiv := none } }
  | none => d

/-- The throttle begins (R398, R399). -/
def Dev.throttleBegin (d : Dev) : Dev :=
  let acts := d.thrm.evals :: d.thrm.acts.filter fun e => decide (d.thrm.evals < e + 1000)
  let d := { d with thrm := { d.thrm with acts := acts } }
  let d := if 16 ≤ acts.length then (d.set pTHRM THRM.LEVEL_TOGLATCH 1).err pTHRM THRM.E_TOG_LATCH else d
  if d.on pTHRM THRM.CFG_CPUHALF then
    let d := { d with thrm := { d.thrm with cpudiv := some (d.get pCKSW CKSW.CKCTL_CPUDIV) } }
    d.set pCKSW CKSW.CKCTL_CPUDIV 1
  else d

/-- Ports start no B data frame of their own (R399). -/
def Dev.bulkStopped (d : Dev) : Bool := d.on pTHRM THRM.LEVEL_THROTTLE && d.on pTHRM THRM.CFG_BULKSTOP

/-! ### The flash record (R404, R405) -/

/-- The flash record of an evaluation: `code` 1 SHUTDOWN, 2 CRIT. -/
def Dev.flashRec (d : Dev) (code : Nat) : List Byte :=
  let (t, gen) := d.stamp
  let sens (n : Nat) : Nat := if d.on pTHRM (THRM.TSENS_VALID n) then d.get pTHRM (THRM.TSENS_T n) else 0x8000
  let body := toBE 2 0x5448 ++ toBE 1 code ++
    toBE 1 (gen + 16 * d.get pTHRM THRM.LEVEL_TOGLATCH) ++
    bytes12 t d.timeFlags ++ toBE 2 (sens 0) ++ toBE 2 (sens 1) ++ toBE 2 (sens 2) ++ toBE 2 (sens 3) ++
    toBE 2 (d.get pTHRM THRM.TG_T) ++ toBE 2 (d.get pTHRM THRM.TG_GSRC)
  body ++ toLE 4 (crc32 body)

/-- The record at the front is written as soon as the QSPI bus is free: THRM holds it and sends the Write Enable, the Page
Program and the Read Status that it repeats until the write has ended; one entry stands for all the polls. A full area ends
the record with EV_FULL. -/
def Dev.flashStart (d : Dev) : Dev :=
  match d.thrm.flash with
  | none => d
  | some bytes =>
    if d.on pQSPI QSPI.STAT_BUSY || d.on pQSPI QSPI.STAT_THRMHOLD then d
    else if d.get pTHRM THRM.EVEND < d.get pTHRM THRM.EVNEXT + 32 then
      let d := { d.err pTHRM THRM.E_EV_FULL with thrm := { d.thrm with flash := none, next := none } }
      d.set pTHRM THRM.STAT_EVBUSY 0
    else
      let d := d.set pQSPI QSPI.STAT_THRMHOLD 1
      let x (op : Nat) (addr : Option (Nat × Nat)) (put : List Byte) (get : Nat) : Sent :=
        .qspi ⟨op, 0, d.get pQSPI QSPI.CFG_DIV, 0, addr, put, get⟩
      let a := d.get pTHRM THRM.EVNEXT
      { d with sent := d.sent ++ [x 0x06 none [] 0,
          if d.on pTHRM THRM.EVCFG_A4 then x 0x12 (some (4, a)) bytes 0 else x 0x02 (some (3, a % 2 ^ 24)) bytes 0,
          x 0x05 none [] 1] }

/-- A record is to be written: at once, behind the one being written, or dropped. -/
def Dev.flashPut (d : Dev) (code : Nat) : Dev :=
  if d.isCell || !d.on pTHRM THRM.EVCFG_EN then d
  else
    let r := d.flashRec code
    match d.thrm.flash, d.thrm.next with
    | none, _ => ({ d with thrm := { d.thrm with flash := some r } }.set pTHRM THRM.STAT_EVBUSY 1).flashStart
    | some _, none => { d with thrm := { d.thrm with next := some r } }
    | some _, some _ => d.inc pTHRM THRM.EVCNT_DROPPED

/-- THRM_FLASH_DONE (R404): the write has completed, or its poll has timed out. -/
def Dev.thrmFlashDone (d : Dev) (ok : Bool) : Dev :=
  if !d.on pQSPI QSPI.STAT_THRMHOLD then d
  else
    let d := if ok then
        ((d.hwSet pTHRM THRM.EVNEXT (d.get pTHRM THRM.EVNEXT + 32)).inc pTHRM THRM.EVCNT_WRITTEN).irq pTHRM THRM.I_EV_DONE
      else d.err pTHRM THRM.E_EV_FAIL
    let d := { d.set pQSPI QSPI.STAT_THRMHOLD 0 with thrm := { d.thrm with flash := d.thrm.next, next := none } }
    (d.set pTHRM THRM.STAT_EVBUSY (b2n d.thrm.flash.isSome)).flashStart

/-! ### The evaluation -/

/-- One level changes (R397 to R401). -/
def Dev.levelStep (d : Dev) (k : Nat) : Dev :=
  let was := d.on pTHRM (levField k)
  let now := d.levelNext k
  if was = now then d
  else
    let d := (d.set pTHRM (levField k) (b2n now)).irq pTHRM THRM.I_LEVEL_CHG
    if now then
      let d := d.err pTHRM (levErr k)
      if k = 1 then d.throttleBegin
      else if k = 2 then
        (if d.isCell then d.bypassReq 4 else d.set pTHRM THRM.STAT_HOLDSTBY 1).flashPut 1
      else d
    else if k = 0 then d.set pTHRM THRM.LEVEL_TOGLATCH 0
    else if k = 1 then d.throttleEnd
    else d

/-- CRIT, without dwell (R402). -/
def Dev.critStep (d : Dev) : Dev :=
  let was := d.on pTHRM THRM.LEVEL_CRIT
  let now := decide (toSigned (d.get pTHRM THRM.TCRIT) 16 ≤ d.tg)
  let d := d.set pTHRM THRM.LEVEL_CRIT (b2n now)
  if now && !was then (d.err pTHRM THRM.E_CRIT).flashPut 2 else d

/-- PCEIL in cell role (R403). -/
def Dev.pceil (d : Dev) : Nat :=
  let ds := toSigned (d.get pTHRM THRM.DERATE0_DSTART) 16
  let de := toSigned (d.get pTHRM THRM.DERATE0_DEND) 16
  let dm : Int := d.get pTHRM THRM.DERATE1_DMIN
  let own : Int := if d.tg ≤ ds then 255 else if de ≤ d.tg then dm
    else divRound (255 * (de - ds) - (255 - dm) * (d.tg - ds)) (de - ds).toNat
  if d.on pTHRM THRM.LEVEL_SHUTDOWN then 0 else min own.toNat (d.get pTHRM THRM.DERATE1_PCEILSW)

/-- THRM_EVAL (R394 to R404): `raws` are the conversions of TSENS0 to TSENS3 in 1/16 °C before their trim. Inside its block reset THRM
evaluates nothing (R62, R416). -/
def Dev.thrmEval (d : Dev) (raws : List Int) : Dev :=
  if d.inBlk.contains pTHRM then d
  else
  let d := { d with thrm := { d.thrm with evals := d.thrm.evals + 1 } }
  let d := (List.range 4).foldl Dev.thrmExt (d.thrmSense raws)
  let d := (List.range 3).foldl Dev.thrmCount d.thrmGov
  let d := (((d.levelStep 0).levelStep 1).levelStep 2).critStep
  let d := d.set pTHRM THRM.LEVEL_TOGCNT
    (min 255 (d.thrm.acts.filter fun e => decide (d.thrm.evals < e + 1000)).length)
  if d.isCell then d.set pTHRM THRM.LEVEL_PCEIL d.pceil else d

/-- THRM_RESUME (R401). -/
def Dev.thrmResume (d : Dev) : Dev :=
  if d.on pTHRM THRM.LEVEL_SHUTDOWN then d.err pTHRM THRM.E_CFG_REJ else d.set pTHRM THRM.STAT_HOLDSTBY 0

/-- The order of the thresholds that R397 asks for. -/
def Dev.thrOrder (d : Dev) : Bool :=
  let t (F : Fld) := toSigned (d.get pTHRM F) 16
  decide (t THRM.THWARN_TH ≤ t THRM.THTHR_TH) && decide (t THRM.THTHR_TH ≤ t THRM.THSHUT_TH) &&
  decide (t THRM.THSHUT_TH < t THRM.TCRIT)

/-- Writes of THRM registers (R396, R397, R401, R404, R415). -/
def Dev.thrmWrite (d : Dev) (off v : Nat) : Dev :=
  let rej := d.err pTHRM THRM.E_CFG_REJ
  if off = 0x834 then (if bitAt v 31 then d.thrmResume else d)
  else if 0x044 ≤ off ∧ off ≤ 0x050 then
    let d1 := d.writeWord pTHRM off v
    if d1.thrOrder then d1 else rej
  else if 0x080 ≤ off ∧ off < 0x0A0 ∧ (List.range 4).any (fun n => d.on pTHRM (THRM.EXT_EN n)) then rej
  else if 0x0A0 ≤ off ∧ off ≤ 0x0AC ∧ d.isCell then d
  else if 0x0A4 ≤ off ∧ off ≤ 0x0AC ∧ v % 32 ≠ 0 then rej
  else d.writeWord pTHRM off v

end Sys2Proof.Machine
end

