-- ==== Sys2Proof/Machine/Serial.lean ====
section
/-! DEFINITION. The serial interfaces (chapter 20, R458, R462 to R466): QSPI, UART0 and UART1, I2C0, SPI0 and GPIO. -/

namespace Sys2Proof.Machine

/-- Bytes of a DATA buffer: byte 0 in bits 7:0 of its first word (R100). -/
def Dev.bufBytes (d : Dev) (pg : Nat) (F : Nat → Fld) (n : Nat) : List Byte :=
  (List.range n).map fun i => BitVec.ofNat 8 (d.get pg (F (i / 4)) >>> (8 * (i % 4)))

/-- One byte of a DATA buffer. -/
def Dev.bufByte (d : Dev) (pg : Nat) (F : Nat → Fld) (i : Nat) (b : Byte) : Dev :=
  let w := d.get pg (F (i / 4))
  d.set pg (F (i / 4)) (w - bitsOf w (8 * (i % 4)) 8 * 2 ^ (8 * (i % 4)) + b.toNat * 2 ^ (8 * (i % 4)))

/-- Put bytes into a DATA buffer, from its start. -/
def Dev.bufPut (d : Dev) (pg : Nat) (F : Nat → Fld) (bs : List Byte) : Dev :=
  bs.zipIdx.foldl (fun d x => d.bufByte pg F x.2 x.1) d

/-! ### QSPI (R462) -/

/-- A flash transfer begins. -/
def Dev.qspiBegin (d : Dev) (cmd : Nat) : Dev :=
  let d := (d.set pQSPI QSPI.STAT_BUSY 1).modSoc fun s => { s with qspi := some cmd }
  let a := d.get pQSPI QSPI.ADDR
  let n := bitsOf cmd 0 9
  d.send (.qspi
    { op := bitsOf cmd 16 8, mode := d.get pQSPI QSPI.CFG_MODE, div := d.get pQSPI QSPI.CFG_DIV
      dummy := d.get pQSPI QSPI.CFG_DUMMY
      addr := if !bitAt cmd 29 then none else if d.on pQSPI QSPI.CFG_A4 then some (4, a) else some (3, a % 2 ^ 24)
      put := if bitAt cmd 30 then d.bufBytes pQSPI QSPI.DATA n else []
      get := if bitAt cmd 30 then 0 else n })

/-- The bus may be free: a record of THRM takes it first, then a transfer that waits (R404, R462). -/
def Dev.qspiNext (d : Dev) : Dev :=
  let d := d.flashStart
  if d.on pQSPI QSPI.STAT_BUSY || d.on pQSPI QSPI.STAT_THRMHOLD then d
  else match d.soc.qspiWait with
    | [] => d
    | c :: rest => (d.modSoc fun s => { s with qspiWait := rest }).qspiBegin c

/-- QSPI_GO (R458, R462): a write of CMD with GO. -/
def Dev.qspiGo (d : Dev) (cmd : Nat) : Dev :=
  if 256 < bitsOf cmd 0 9 then d.err pQSPI QSPI.E_CFG_REJ
  else (d.modSoc fun s => { s with qspiWait := s.qspiWait ++ [cmd] }).qspiNext

/-- QSPI_DONE (R462): the transfer completes; `bytes` came from the flash. -/
def Dev.qspiDone (d : Dev) (bytes : List Byte) : Dev :=
  match d.soc.qspi with
  | none => d
  | some cmd =>
    let d := if bitAt cmd 30 then d else d.bufPut pQSPI QSPI.DATA (bytes.take (bitsOf cmd 0 9))
    (((d.modSoc fun s => { s with qspi := none }).set pQSPI QSPI.STAT_BUSY 0).irq pQSPI QSPI.I_DONE).qspiNext

/-- THRM_FLASH_DONE (R404), and the transfer that waited for THRM. -/
def Dev.flashDone (d : Dev) (ok : Bool) : Dev := (d.thrmFlashDone ok).qspiNext

/-- Writes of QSPI registers. -/
def Dev.qspiWrite (d : Dev) (off v : Nat) : Dev :=
  if off = 0x040 then
    if d.on pQSPI QSPI.STAT_BUSY ∨ bitsOf v 8 8 < 4 ∨ bitsOf v 0 2 = 3 then d.err pQSPI QSPI.E_CFG_REJ
    else d.writeWord pQSPI off v
  else if off = 0x800 then (if bitAt v 31 then d.qspiGo v else d)
  else d.writeWord pQSPI off v

/-! ### UART (R463) -/

def Dev.uartOf (d : Dev) (n : Nat) : Uart := d.soc.uart.getD n uart0
def Dev.modUart (d : Dev) (n : Nat) (f : Uart → Uart) : Dev := d.modSoc fun s => { s with uart := modNth s.uart n f }

/-- The fabric ticks of one character: start, eight data bits, parity, stop bits. -/
def Dev.charTicks (d : Dev) (n : Nat) : Nat :=
  let pg := pUART n
  d.get pg UART.CFG_DIV * (10 + b2n (d.on pg UART.CFG_PARITY) + d.get pg UART.CFG_STOP2)

/-- The bytes that have moved from the FIFO to the shifter by now, those that have not, and when the shifter is free. -/
def uartShift (now step : Nat) : List Byte → Nat → List Byte × List Byte × Nat
  | [], free => ([], [], free)
  | b :: t, free =>
    if free ≤ now then
      let r := uartShift now step t (free + step)
      (b :: r.1, r.2)
    else ([], b :: t, free)

/-- Bytes go out of a UART. -/
def Dev.uartOut (d : Dev) (n : Nat) (bs : List Byte) : Dev :=
  if bs.isEmpty then d else { d with sent := d.sent ++ bs.map (Sent.uart n) }.set (pUART n) UART.STAT_TXBUSY 1

/-- The transmit FIFO as it stands now: while the UART is enabled, what its shifter has taken goes out. -/
def Dev.uartSync (d : Dev) (n : Nat) : Dev :=
  if !d.on (pUART n) UART.CFG_EN || (d.uartOf n).tx.isEmpty then d
  else
    let r := uartShift d.ticks (d.charTicks n) (d.uartOf n).tx (d.uartOf n).free
    (d.uartOut n r.1).modUart n fun u => { u with tx := r.2.1, free := r.2.2 }

/-- An enabled UART whose FIFO was empty, or which has just been enabled, sends from now on. -/
def Dev.uartStart (d : Dev) (n : Nat) : Dev :=
  (d.modUart n fun u => { u with free := max u.free d.ticks }).uartSync n

/-- UART_DATA_WRITE (R463). -/
def Dev.uartPush (d : Dev) (n : Nat) (b : Byte) : Dev :=
  let d := d.uartSync n
  let u := d.uartOf n
  if 16 ≤ u.tx.length then d.err (pUART n) UART.E_TX_OVF
  else
    let d := if u.tx.isEmpty then d.modUart n fun u => { u with free := max u.free d.ticks } else d
    (d.modUart n fun u => { u with tx := u.tx ++ [b] }).uartSync n

/-- UART_TX_EMPTY (R463): the last transmit byte has been shifted out. -/
def Dev.uartEmpty (d : Dev) (n : Nat) : Dev :=
  if d.on (pUART n) UART.CFG_EN && (d.on (pUART n) UART.STAT_TXBUSY || !(d.uartOf n).tx.isEmpty) then
    (((d.uartOut n (d.uartOf n).tx).modUart n fun u => { u with tx := [], free := d.ticks }).set (pUART n)
      UART.STAT_TXBUSY 0).irq (pUART n) UART.I_TX_EMPTY
  else d

/-- RX_NE is set while the receive FIFO is not empty. -/
def Dev.uartRxNe (d : Dev) (n : Nat) : Dev := d.setBit (pUART n) HDR.IRQFLG UART.I_RX_NE (!(d.uartOf n).rx.isEmpty)

/-- UART_BYTE_RX (R463): a byte arrives, with its framing and parity errors. -/
def Dev.uartRx (d : Dev) (n : Nat) (b : Byte) (ferr perr : Bool) : Dev :=
  let pg := pUART n
  if !d.on pg UART.CFG_EN then d
  else
    let perr := perr && d.on pg UART.CFG_PARITY
    let d := (d.errIf ferr pg UART.E_FRAME_ERR).errIf perr pg UART.E_PARITY_ERR
    if 16 ≤ (d.uartOf n).rx.length then d.err pg UART.E_RX_OVF
    else (d.modUart n fun u => { u with rx := u.rx ++ [(b, ferr, perr)] }).uartRxNe n

/-- UART_DATA_READ (R463). -/
def Dev.uartRead (d : Dev) (n : Nat) : Dev :=
  match (d.uartOf n).rx with
  | [] => d.answer 0
  | (b, fe, pe) :: rest =>
    ((d.modUart n fun u => { u with rx := rest }).uartRxNe n).answer (2 ^ 31 + 2 ^ 9 * b2n fe + 2 ^ 8 * b2n pe + b.toNat)

/-- Writes of UART registers. -/
def Dev.uartWrite (d : Dev) (n off v : Nat) : Dev :=
  let pg := pUART n
  if off = 0x040 then
    if d.on pg UART.CFG_EN ∨ bitsOf v 0 16 < 20 ∨ bitsOf v 26 2 = 3 then d.err pg UART.E_CFG_REJ
    else (d.writeWord pg off v).uartStart n
  else if off = 0x800 then d.uartPush n (BitVec.ofNat 8 v)
  else d.writeWord pg off v

/-! ### I2C (R464) -/

/-- I2C_GO. -/
def Dev.i2cGo (d : Dev) (cmd : Nat) : Dev :=
  let n := bitsOf cmd 0 6
  if d.on pI2C I2C.STAT_BUSY ∨ n = 0 ∨ 32 < n then d.err pI2C I2C.E_CFG_REJ
  else if !d.on pI2C I2C.CFG_EN then d
  else (((d.set pI2C I2C.STAT_BUSY 1).set pI2C I2C.STAT_NACK 0).modSoc fun s => { s with i2c := some cmd }).send
    (.i2c cmd (if bitAt cmd 30 then [] else d.bufBytes pI2C I2C.DATA n))

/-- I2C_DONE: the transfer ends, after `moved` bytes if it was not acknowledged; `bytes` came from the bus. -/
def Dev.i2cDone (d : Dev) (nack : Bool) (moved : Nat) (bytes : List Byte) : Dev :=
  match d.soc.i2c with
  | none => d
  | some cmd =>
    let n := if nack then min moved (bitsOf cmd 0 6) else bitsOf cmd 0 6
    let d := if bitAt cmd 30 then d.bufPut pI2C I2C.DATA (bytes.take n) else d
    let d := ((d.modSoc fun s => { s with i2c := none }).set pI2C I2C.STAT_BUSY 0).set pI2C I2C.STAT_MOVED n
    let d := if nack then (d.set pI2C I2C.STAT_NACK 1).err pI2C I2C.E_NACK else d
    d.irq pI2C I2C.I_DONE

/-- I2C_BUS_STUCK: SCL or SDA has stayed low for more than 25 ms. -/
def Dev.i2cStuck (d : Dev) : Dev := d.err pI2C I2C.E_BUS_STUCK

/-- Writes of I2C0 registers. -/
def Dev.i2cWrite (d : Dev) (off v : Nat) : Dev :=
  if off = 0x040 then (if bitsOf v 0 2 = 3 then d.err pI2C I2C.E_CFG_REJ else d.writeWord pI2C off v)
  else if off = 0x800 then (if bitAt v 31 then d.i2cGo v else d)
  else d.writeWord pI2C off v

/-! ### SPI (R465) -/

/-- Bytes of the SPI bus, the bit that goes first the most significant: LSBFIRST turns each round. -/
def Dev.spiWire (d : Dev) (bytes : List Byte) : List Byte :=
  if d.on pSPI SPI.CFG_LSBFIRST then bytes.map BitVec.reverse else bytes

/-- SPI_GO. -/
def Dev.spiGo (d : Dev) (cmd : Nat) : Dev :=
  let n := bitsOf cmd 0 9
  if d.on pSPI SPI.STAT_BUSY ∨ n = 0 ∨ 256 < n then d.err pSPI SPI.E_CFG_REJ
  else if !d.on pSPI SPI.CFG_EN then d
  else { (d.set pSPI SPI.STAT_BUSY 1).modSoc fun s => { s with spi := some cmd } with
      pins := { d.pins with spiCsN := .low } }.send
      (.spi (d.get pSPI SPI.CFG_MODE) (d.get pSPI SPI.CFG_DIV) (d.spiWire (d.bufBytes pSPI SPI.DATA n)))

/-- SPI_DONE: the received bytes stand over those sent; `bytes` as the bus carried them. -/
def Dev.spiDone (d : Dev) (bytes : List Byte) : Dev :=
  match d.soc.spi with
  | none => d
  | some cmd =>
    let d := (d.bufPut pSPI SPI.DATA (d.spiWire (bytes.take (bitsOf cmd 0 9)))).modSoc fun s => { s with spi := none }
    { (d.set pSPI SPI.STAT_BUSY 0) with pins := { d.pins with spiCsN := .high } }.irq pSPI SPI.I_DONE

/-- Writes of SPI0 registers. -/
def Dev.spiWrite (d : Dev) (off v : Nat) : Dev :=
  if off = 0x040 then
    if d.on pSPI SPI.STAT_BUSY ∨ bitsOf v 0 12 < 5 then d.err pSPI SPI.E_CFG_REJ else d.writeWord pSPI off v
  else if off = 0x800 then (if bitAt v 31 then d.spiGo v else d)
  else d.writeWord pSPI off v

/-! ### GPIO (R466) -/

/-- The edges selected for a pin. -/
def Dev.gpioSel (d : Dev) (n : Nat) : Nat :=
  if n < 16 then bitsOf (d.get pGPIO GPIO.EDGE0) (2 * n) 2 else bitsOf (d.get pGPIO GPIO.EDGE1) (2 * (n - 16)) 2

/-- ANY is set while any edge flag is set. -/
def Dev.gpioAny (d : Dev) : Dev := d.set pGPIO HDR.IRQFLG (b2n (d.on pGPIO GPIO.EDGEFLG))

/-- GPIO_EDGE: the synchronised input of a pin changes. -/
def Dev.gpioEdge (d : Dev) (n : Nat) (rising : Bool) : Dev :=
  if d.inBlk.contains pGPIO then d
  else
    let d := d.setBit pGPIO GPIO.IN n rising
    if bitAt (d.gpioSel n) (if rising then 0 else 1) then (d.raise pGPIO GPIO.EDGEFLG n).gpioAny else d

/-- GPIO_SET and GPIO_CLR. -/
def Dev.gpioSet (d : Dev) (m : Nat) : Dev := d.set pGPIO GPIO.OUT (d.get pGPIO GPIO.OUT ||| m)
def Dev.gpioClr (d : Dev) (m : Nat) : Dev := d.set pGPIO GPIO.OUT (d.get pGPIO GPIO.OUT - (d.get pGPIO GPIO.OUT &&& m))

/-- The level of a GPIO pin: what it drives, an open drain only low, otherwise what stands on it. -/
def Dev.gpioPin (d : Dev) (n : Nat) : Bool :=
  let out := d.bit pGPIO GPIO.OUT n
  let ext := d.bit pGPIO GPIO.IN n
  if d.bit pGPIO GPIO.DIR n then (if d.bit pGPIO GPIO.OD n then out && ext else out) else ext

/-- Writes of GPIO registers. -/
def Dev.gpioWrite (d : Dev) (off v : Nat) : Dev :=
  if off = 0x808 then d.gpioSet (bitsOf v 0 24)
  else if off = 0x80C then d.gpioClr (bitsOf v 0 24)
  else if off = 0x810 then (d.w1c pGPIO GPIO.EDGEFLG (bitsOf v 0 24)).gpioAny
  else d.writeWord pGPIO off v

end Sys2Proof.Machine
end

