-- ==== Sys2Proof/Machine/Vane.lean ====
section
/-! DEFINITION. Vane in a cell (chapters 02, 04, 10 and 11): commands and their candidates, the commit, the cell states
that commands request, starvation, grid changes, and the telemetry frame. -/

namespace Sys2Proof.Machine

def Dev.modVn (d : Dev) (f : Vn → Vn) : Dev := { d with vn := f d.vn }

/-- A flag of FL1 for the next T copy of each port. -/
def Dev.tFlag (d : Dev) (bit : Nat) : Dev := d.modVn fun v => { v with flags := v.flags.map fun x => x ||| 2 ^ bit }

/-! ### The requested cell state (R71 to R73) -/

/-- V, the VDC of the T frame (R71, R337). -/
def Dev.vdc (d : Dev) : Nat :=
  let pg := pADC 0
  if d.on pg ADC.TLM_EN then d.get (pADC (d.get pg ADC.TLM_VDCADC)) (ADC.RES_VALUE (d.get pg ADC.TLM_VDCCH)) else 0
def Dev.vaux (d : Dev) : Nat :=
  let pg := pADC 0
  if d.on pg ADC.TLM_EN then d.get (pADC (d.get pg ADC.TLM_VAUXADC)) (ADC.RES_VALUE (d.get pg ADC.TLM_VAUXCH)) else 0

/-- V lies in VDCWIN. -/
def Dev.vInWindow (d : Dev) : Bool :=
  decide (d.get pSYSC SYSC.VDCWIN_MIN ≤ d.vdc) && decide (d.vdc < d.get pSYSC SYSC.VDCWIN_MAX)

/-- The table of R71 for requests; SHUTDOWN refuses recovery from BYPASS (R400). -/
def Dev.stateAllowed (d : Dev) (st req : Nat) : Bool :=
  if req = 0 then decide (1 ≤ st) && decide (st ≤ 4)
  else if req = 1 then st == 0
  else if req = 2 then (st == 1 && d.vInWindow) || st == 3 ||
    (st == 4 && d.vInWindow && !d.anyLatch && !d.on pTHRM THRM.LEVEL_SHUTDOWN)
  else if req = 3 then st == 2 && d.vInWindow && d.on pGCH GCH.GDSTAT_GDEN && !d.anyLatch
  else if req = 4 then decide (1 ≤ st) && decide (st ≤ 3)
  else false

/-- A state request of an applied command. -/
def Dev.cellRequest (d : Dev) (req : Nat) : Dev :=
  let st := d.get pSYSC SYSC.CELLSTATE_STATE
  if req = 7 ∨ req = st ∨ d.cellTick.map Prod.fst = some d.ticks then d
  else if !d.stateAllowed st req then
    { (d.inc pSYSC SYSC.CELLSTATE_INVALID_CNT).tFlag 5 with
      cellBad := some (d.ticks, decide (d.get pSYSC SYSC.CELLSTATE_INVALID_CNT < 2 ^ 16 - 1), d.vn.flags.map fun x => !bitAt x 5) }
  else if req = 4 then d.bypassReq 1
  else { (d.cellTo req 1 st).routeSync with cellReq := some (d.ticks, st) }


/-! ### Receiving a command (R29, R30, R225) -/

/-- The rank of a frame: the epoch, then whether the end it names sent it. -/
def rankOf (epoch : Nat) (fromB : Bool) : Nat := 2 * epoch + b2n (decide (epoch % 2 = 1) == fromB)

/-- C_FRAME_RX: a C frame that the cell consumes from port `p`, whose last code group has come, checked now. -/
def Dev.cFrame (d : Dev) (p : Nat) (f : Frame) : Dev :=
  let s := f.seq.toNat
  let i := d.vn.idx
  let k := if s = i % 65536 then some i else if s = (i + 1) % 65536 then some (i + 1) else none
  match (if d.gridOn then k else none) with
  | none => ((d.inc pVANE VANE.OUTWIN_CNT).err pVANE VANE.E_OUTWIN).tFlag 6
  | some k =>
    let left := since d.now16 (d.commitAt k)
    if left < 200 * 65536 then ((d.inc pVANE VANE.LATE_CNT).err pVANE VANE.E_LATE).tFlag 7
    else
      let ep := f.mid.toNat
      if ep / 2 < d.get pVANE VANE.FLOOR then (d.inc pVANE VANE.STALE_CNT).err pVANE VANE.E_STALE
      else
        let b := bitAt f.src.toNat 8
        let new (lose : Nat) : Cand :=
          ⟨k, ep, b, f.payload, left / (tick16 : Nat), d.featAt p 1 (groups f), lose⟩
        match d.vn.cands.find? fun c => c.idx == k with
        | none => d.modVn fun v => { v with cands := v.cands ++ [new 0] }
        | some c =>
          if rankOf c.epoch c.fromB < rankOf ep b then
            let lose := if c.epoch < ep then c.lose + 1 else c.lose
            d.modVn fun v => { v with cands := v.cands.map fun x => if x.idx = k then new lose else x }
          else if ep < c.epoch then
            d.modVn fun v => { v with cands := v.cands.map fun x => if x.idx = k then { x with lose := x.lose + 1 } else x }
          else d

/-! ### The commit (R31, R33, R34, R153, R226, R252, R253) -/

/-- The words of a command that feed the Lathe engines: PREF, VLV, MREF, MSLP, APP0 to APP2 (R363). -/
def Cand.words (c : Cand) : List Nat :=
  [fieldBE c.payload 26 4, fieldBE c.payload 30 4, fieldBE c.payload 18 4, if c.slopes then fieldBE c.payload 22 4 else 0,
   fieldBE c.payload 34 4, fieldBE c.payload 38 4, fieldBE c.payload 42 4]

/-- The features of both ports that wait for an applied command (R119). -/
def Dev.featsNow (d : Dev) : Dev :=
  (List.range 2).foldl (fun d p =>
    match (d.port p).feats with
    | some a => (d.linkFeats p a).modPort p fun x => { x with feats := none }
    | none => d) d

/-- The commit load of a cell in PRECHARGE, STANDBY or RUN (R272, R275). -/
def Dev.commitPwm (d : Dev) (c : Cand) (k t : Nat) : Dev :=
  let w := c.words
  let d := (List.range 6).foldl (fun d m =>
    let pg := pPWMU m
    if d.on pg PWMU.CFG_CMDREF then
      let d := if d.feat pg 0 then d.giveShadow pg PWMU.SLP (w.getD 3 0) else d
      (d.giveShadow pg PWMU.REF (w.getD 2 0)).giveShadow pg PWMU.PHASE (fieldBE c.payload 14 3)
    else d) d
  let d := d.loadCommit t k
  if bitAt (fieldBE c.payload 8 1) 3 then d.dabBlock else d.dabRelease

/-- What a command applies in PRECHARGE, STANDBY and RUN besides its state request (R70): its angle, its references, its
words for the Lathe engines and for software. -/
def Dev.commitLoad (d : Dev) (c : Cand) (k t : Nat) : Dev :=
  let ctl := fieldBE c.payload 8 1
  let d := d.spdFollow (bitAt ctl 7) (fieldBE c.payload 0 4) (fieldBE c.payload 4 4)
  let d := { d with applied := d.applied + 1, cmdIn := c.words }
  let d := d.store .sram 0x3FFFC0 (toLE 4 (c.words.getD 4 0) ++ toLE 4 (c.words.getD 5 0) ++ toLE 4 (c.words.getD 6 0) ++
    toLE 4 k)
  d.commitPwm c k t

/-- A command is applied (R226): it is checked and counted, its references take effect in the states that apply them and are
held in OFF and BYPASS (R31, R34, R70), it triggers the engines in every state that applies it (R354), and its state request is seen
to. -/
def Dev.commitTake (d : Dev) (c : Cand) (k t : Nat) : Dev :=
  let st := d.get pSYSC SYSC.CELLSTATE_STATE
  let d := (d.set pVANE VANE.EPOCH c.epoch).set pVANE VANE.FLOOR (max (d.get pVANE VANE.FLOOR) (c.epoch / 2))
  let d := (d.incBy pVANE VANE.LOSE_CNT c.lose).set pVANE VANE.SLACK (ofSigned c.slack 32)
  let alt := decide (c.epoch % 2 = 1) != c.fromB
  let d := (if alt then d.inc pVANE VANE.ALTUSE_CNT else d).set pVANE VANE.STAT_ALT (b2n alt)
  let d := d.set pVANE VANE.STAT_MISSED 0
  let d := if d.timeValid then d else (d.err pVANE VANE.E_TIME_INVALID).tFlag 0
  let d := d.featsNow
  let d := (if 1 ≤ st ∧ st ≤ 3 then d.commitLoad c k t else d.pwmHoldRef t).leTrigCommit
  let d := d.cellRequest (fieldBE c.payload 8 1 / 16 % 8)
  d.modVn fun v => { v with begun := v.begun || d.on pSYSC SYSC.CELLSTATE_ENUM }

/-- The grid change that an applied command announces (R253), in every state that applies commands, so that every cell changes
at the named commit (R18). -/
def Dev.annTake (d : Dev) (c : Cand) (k : Nat) : Dev :=
  let ann := fieldBE c.payload 8 1 % 4
  if ann = 1 ∨ ann = 2 then
    d.modVn fun v => { v with ann := some (k + ann, fieldBE c.payload 10 2 % 2 ^ 15, fieldBE c.payload 12 2 % 2 ^ 15) }
  else d

/-- The state from which a cause of BYPASS acts: one that has already acted in this tick does not keep the others from it
(R73). -/
def Dev.stateActs (d : Dev) : Nat :=
  let st := d.get pSYSC SYSC.CELLSTATE_STATE
  match d.cellTick with
  | some (t, was) => if st = 4 ∧ t = d.ticks then was else st
  | none => st

/-- A commit instant at which no command is applied (R31, R33, R34). -/
def Dev.commitMiss (d : Dev) (t : Nat) : Dev :=
  let st := d.stateActs
  let d := d.pwmHoldRef t
  if !d.vn.begun || d.get pVANE VANE.STAT_MISSED == 3 then d
  else
    let d := d.inc pVANE VANE.STAT_MISSED
    if d.get pVANE VANE.STAT_MISSED = 3 ∧ 1 ≤ st ∧ st ≤ 3 then
      ((d.bypassReq 2).err pVANE VANE.E_STARVE).irq pVANE VANE.I_STARVE
    else d

/-- COMMIT_APPLY: C(k) arrives in a cell. -/
def Dev.commitApply (d : Dev) : Dev :=
  let k := d.vn.idx
  let t := d.commitAt k
  if d.isHub || !d.gridOn || !d.onSyna || !d.commitDue k then d
  else if d.commitPassed then d.tevFire 0
  else
    let c := d.vn.cands.find? fun c => c.idx == k
    let d := { d with sf := d.sf + 1 }
    let d := d.modVn fun v => { v with idx := k + 1, cands := v.cands.filter fun c => decide (k < c.idx) }
    let st := d.get pSYSC SYSC.CELLSTATE_STATE
    match c with
    | none => (d.commitMiss t).gridChange k
    | some c =>
      if st = 5 then (d.commitMiss t).gridChange k
      else
        ((d.commitTake c k t).gridChange k).annTake c k

/-- VANE_GRID_GO (R160, R236, R278): TEV0 and TEV1 start from the grid registers, and the units that wait for the grid. -/
def Dev.gridGo (d : Dev) : Dev :=
  if d.isHub then d
  else
    let d := (d.set pVANE VANE.GRIDCTL_RUN 1).set pVANE VANE.STAT_GRID 1
    { (d.idxAim.pwmGridStart d.now16).tevGrid with gridAt := d.ticks }

/-! ### The telemetry frame (R189, R254) -/

/-- The values of the T payload as they stand at S(k) (R254), with the words APPT0 to APPT7 of shared SRAM as their bytes, the
first word's lowest byte first; PMEAS has no stated source: a free value. A slack beyond the signed 16 bits of SLACK is sent
modulo 2^16 (DESIGN CHOICE, entry 19). -/
def Dev.tSnap (d : Dev) (appt : List Byte) : Dev :=
  let k := d.spd.tevJ.getD 1 0 - 1
  let st := d.get pSYSC SYSC.CELLSTATE_CAUSE * 16 + d.get pSYSC SYSC.CELLSTATE_STATE
  let (pm, d) := d.free
  let words := ((List.range 8).map fun i => toBE 4 (leNat ((appt.drop (4 * i)).take 4))).flatten
  let rest := toBE 2 (d.get pVANE VANE.SLACK % 65536) ++ toBE 2 (d.get pTHRM THRM.TDIE_T) ++ toBE 4 pm ++
    toBE 4 (d.refAt 0 d.now16) ++ toBE 4 (d.get pFCOL FCOL.FSTATHI) ++ toBE 4 (d.get pFCOL FCOL.FSTATLO) ++ words ++
    toBE 2 (d.get pSYSC SYSC.CELLSTATE_INVALID_CNT)
  d.modVn fun v => { v with snap := some (k, st, toBE 1 (d.get pTHRM THRM.LEVEL_PCEIL), rest) }

/-- TIME_EVENT_FIRE: at S(k), which TEV1 marks, a cell takes the values of its T frame (R160, R254). -/
def Dev.tevGo (d : Dev) (n : Nat) (appt : List Byte) : Dev :=
  let j := d.spd.tevJ.getD 1 0
  let d := d.tevFire n
  if n = 1 ∧ d.isCell ∧ d.gridOn ∧ j < d.spd.tevJ.getD 1 0 then d.tSnap appt else d

/-- FL1 of a port's next copy, and FL2. -/
def Dev.fl1 (d : Dev) (p : Nat) : Nat :=
  d.vn.flags.getD p 0 + 16 * b2n (!d.on pGCH GCH.GDSTAT_GDEN) + 8 * b2n d.timeValid + 4 * d.get pTIME TIME.STAT_HOLDOVER +
    2 * b2n d.spdValid
def Dev.fl2 (d : Dev) : Nat :=
  d.get pVANE VANE.STAT_MISSED + 4 * d.get pVANE VANE.STAT_ALT + 8 * b2n d.anyLatch +
    16 * b2n ((List.range 6).any fun m => d.on pGCH (GCH.LEGSTAT_LEG_SHORT m)) + 32 * d.get pFCOL FCOL.STAT_FNASSERT +
    64 * d.get pTHRM THRM.LEVEL_THROTTLE + 128 * d.get pTHRM THRM.LEVEL_WARN

/-- The instant S(k) + TSLOT of a port (R189, R207), with k the index of the last sampling instant. -/
def Dev.tSlotAt (d : Dev) (p : Nat) : Nat :=
  d.gridT0 + d.gridSo + (d.spd.tevJ.getD 1 0 - 1) * d.gridTsf + d.get (pLINK p) LINK.SLOTCFG_TSLOT % d.sfTicks * tick16

/-- T_SLOT (R189): at its slot the cell sends its T copy out of a port; `wait` is how many code groups longer the output is
busy where THEAD = 0, `appt` the words APPT0 to APPT7 for a cell that has taken no values at S(k). -/
def Dev.tSlot (d : Dev) (p wait : Nat) (appt : List Byte) : Dev :=
  if d.isHub || 2 ≤ p || !d.gridOn || !d.txRuns p || decide (d.linkSt p < 2) || d.spd.tevJ.getD 1 0 == 0 ||
      !notAfter (d.tSlotAt p % wrap16) d.now16 then d
  else
    let d := if d.vn.snap.any fun x => x.1 == d.spd.tevJ.getD 1 0 - 1 then d else d.tSnap appt
    match d.vn.snap with
    | none => d
    | some (k, st, pc, rest) =>
      let pay := toBE 1 st ++ toBE 1 (d.fl1 p) ++ toBE 1 d.fl2 ++ pc ++ toBE 2 d.vdc ++ toBE 2 d.vaux ++ rest ++ toBE 4 0
      let (src, d) := d.srcAddr p
      let f := mkFrame 2 0 src 0x8000 (d.get pVANE VANE.EPOCH) k pay
      let d := d.modVn fun v => { v with flags := modNth v.flags p fun _ => 0 }
      let head := d.on (pLINK p) LINK.SLOTCFG_THEAD
      let d := if head then d else d.fifoDrain p (d.port p).fifo
      let t := if head then d.ticks + min ((d.port p).txEnd - d.ticks) 6 else max d.ticks (d.port p).outEnd + wait
      d.txFrame p t f true

/-! ### Writes -/

/-- VANE_POS_WRITE (R210): a management write that came in at port `p`. -/
def Dev.posWrite (d : Dev) (p v : Nat) : Dev :=
  if d.isHub || decide (VANE.POS_SLEN.pick v ≤ VANE.POS_APOS.pick v) then d
  else
    let fresh := !d.on pVANE VANE.POS_ASSIGNED
    let d := d.setWord pVANE [VANE.POS_WEND, VANE.POS_SLEN, VANE.POS_APOS, VANE.POS_LOGN] v
    let d := d.set pVANE VANE.POS_APORT (if bitAt v 29 then 1 - p else p)
    let d := (d.set pVANE VANE.POS_ASSIGNED 1).set pSYSC SYSC.CELLSTATE_ENUM 1
    if fresh then d.folAssign else d

/-- VANE_CNTCLR (R236). -/
def Dev.vaneCntclr (d : Dev) : Dev :=
  [VANE.OUTWIN_CNT, VANE.LATE_CNT, VANE.LOSE_CNT, VANE.STALE_CNT, VANE.ALTUSE_CNT].foldl (fun d F => d.clearCnt pVANE F) d

end Sys2Proof.Machine
end

