-- ==== Sys2Proof/Machine/Isobar.lean ====
section
/-! DEFINITION. Isobar (chapter 11): the cell table, membership, allocation and its limits, carrier phases, the start and
the end of a run, and the writes of its registers. -/

namespace Sys2Proof.Machine

def Dev.modIso (d : Dev) (f : Iso → Iso) : Dev := { d with iso := f d.iso }
def Dev.modHub (d : Dev) (f : Hub → Hub) : Dev := { d with hub := f d.hub }

/-! ### The map and the cell table (R211, R257) -/

/-- A cell table entry after reset. -/
def cell0 : CellEnt :=
  ⟨0x70000000, fOne, 0, [0, 0, 0], 0x70000000, fOne, 0, [0, 0, 0], 0, 0, 0, 0, 0, 0, 0, 0, false, false⟩

def assocGet {α : Type} (l : List (Nat × α)) (n : Nat) (x : α) : α := (l.lookup n).getD x

def Dev.cell (d : Dev) (n : Nat) : CellEnt := assocGet d.iso.cells n cell0
def Dev.modCell (d : Dev) (n : Nat) (f : CellEnt → CellEnt) : Dev :=
  d.modIso fun i => { i with cells := assocPut i.cells n (f (assocGet i.cells n cell0)) }

/-- The map index 48·s + p of logical cell n. -/
def Dev.mapOf (d : Dev) (n : Nat) : Option Nat :=
  (List.range 384).find? fun m => d.on pSTRD (STRD.MAP_VALID m) && d.get pSTRD (STRD.MAP_N m) == n

/-- The number of valid map entries. -/
def Dev.mapCount (d : Dev) : Nat := ((List.range 384).filter fun m => d.on pSTRD (STRD.MAP_VALID m)).length

/-- The logical cells that are mapped, ascending, each with its map index. -/
def Dev.mapped (d : Dev) : List (Nat × Nat) :=
  (List.range 192).filterMap fun n => (d.mapOf n).map fun m => (n, m)

def Dev.strand (d : Dev) (s : Nat) : Strand := d.hub.strands.getD s strand0
def Dev.posOf (d : Dev) (m : Nat) : Pos := (d.strand (m / 48)).pos.getD (m % 48) pos0

/-- A position is lost (R212). -/
def Dev.posLost (d : Dev) (m : Nat) : Bool := decide (3 ≤ (d.posOf m).gone)

def Dev.tele (d : Dev) (n : Nat) : Tele := assocGet d.iso.tele n ⟨[], none⟩

/-- STATE in the latest telemetry of a cell, if there is one (R253). -/
def Dev.teleState (d : Dev) (n : Nat) : Option Nat :=
  if (d.tele n).payload.isEmpty then none else some (fieldBE (d.tele n).payload 0 1 % 8)

/-- REQST as the strand manager sends it (R222, R253, R401). -/
def Dev.reqst (d : Dev) (n : Nat) : Nat :=
  let want := d.get pTHRM THRM.STAT_HOLDSTBY
  let st := d.teleState n
  let req := if want = 1 ∧ (st = some 2 ∨ st = some 3) then 2 else (d.cell n).ctlF / 2 ^ 28 % 8
  if d.hub.recov.any fun r => r.1 == n then 2
  else if (st = some 4 ∨ st = some 5) ∧ (req = 3 ∨ req = 2) then 7 else req

/-! ### The supervision's requests (R247) -/

def Dev.isoNoexp (d : Dev) : Bool := d.on pISOB ISOB.CTRL_NOEXP || d.on pGCH GCH.CSSTAT_NOEXPREQ
def Dev.isoDabblk (d : Dev) : Bool := d.on pISOB ISOB.CTRL_DABBLK || d.on pGCH GCH.CSSTAT_DABBLKREQ

/-! ### Limits (R246) -/

def fSum (l : List Nat) : Nat := l.foldl fAdd 0

/-- A value with its limits; `cl` says that it was clamped. -/
structure Lim where
  x : Nat
  lo : Nat
  hi : Nat
  cl : Bool
  deriving DecidableEq, Repr

def Lim.clamp (l : Lim) : Lim := { l with x := fClamp l.x l.lo l.hi, cl := fLt l.x l.lo || fLt l.hi l.x }

/-- The part of a value above its upper limit, below its lower limit, or both. -/
def Lim.over (l : Lim) : Nat := if fLt l.hi l.x then fSub l.x l.hi else 0
def Lim.under (l : Lim) : Nat := if fLt l.x l.lo then fSub l.x l.lo else 0

/-- The headroom rule: an excess placed on the values that were not clamped, and what remains of it, signed. No sum is rounded
past a limit, and a full headroom leads to the limit itself. -/
def place (x : Nat) (l : List Lim) : List Lim × Nat :=
  let neg := bitAt x 31
  let room (e : Lim) : Nat := if e.cl then 0 else if neg then fSub e.x e.lo else fSub e.hi e.x
  let h := fSum (l.map room)
  let sign (a : Nat) : Nat := if neg then fNeg a else a
  if fIsZero x then (l, 0)
  else if fLe (fAbs x) h then (l.map fun e => if e.cl then e else { e with x := fClamp (fAdd e.x (fDiv (fMul x (room e)) h)) e.lo e.hi }, 0)
  else (l.map fun e => if e.cl then e else { e with x := if neg then e.lo else e.hi }, sign (fSub (fAbs x) h))

/-- Step 1: the trims of a phase; true when a remainder is left. -/
def limTrim (l : List Lim) : List Lim × Bool :=
  let removed := fSum (l.map fun e => fAdd e.over e.under)
  let (l, r) := place (fNeg removed) (l.map Lim.clamp)
  (l, !fIsZero r)

/-- Step 2: the modulations of a phase. -/
def limMod (l : List Lim) : List Lim × Bool :=
  let x := fSum (l.map fun e => fAdd e.over e.under)
  let (l, r) := place x (l.map Lim.clamp)
  (l, !fIsZero r)

/-- Step 3: the powers of a phase, with the signed remainder. -/
def limDab (l : List Lim) : List Lim × Nat :=
  let up := fSum (l.map Lim.over)
  let down := fSum (l.map Lim.under)
  let (l, r1) := place up (l.map Lim.clamp)
  let (l, r2) := place down l
  (l, fAdd r1 r2)

/-- Step 4: the remainder of phase `p` placed on the two others. -/
def spill (p : Nat) (r : Nat) (ls : List (List Lim)) : List (List Lim) × Nat :=
  let a := ls.getD ((p + 1) % 3) []
  let b := ls.getD ((p + 2) % 3) []
  let (ab, left) := place r (a ++ b)
  (modNth (modNth ls ((p + 1) % 3) fun _ => ab.take a.length) ((p + 2) % 3) fun _ => ab.drop a.length, left)

/-! ### Membership (R241 to R243) -/

/-- What a run takes of a mapped cell: its number, its entry with V_i, Pc_i, STATE, the reject flag and the held count
brought up to date, and whether it is held. -/
structure CellIn where
  n : Nat
  e : CellEnt
  held : Bool
  deriving DecidableEq, Repr

def stState (st : Nat) : Nat := st % 8
def stHeld (st : Nat) : Bool := bitAt st 30
def stHeldCnt (st : Nat) : Nat := bitsOf st 8 8

def Dev.cellIn (d : Dev) (n m : Nat) : CellIn :=
  let e := d.cell n
  match (d.tele n).fresh with
  | some pl =>
    let v := fMul (fOfInt (fieldBE pl 4 2) 0) e.vscaleF
    let pc := fMul (fDiv (fOfInt (fieldBE pl 3 1) 0) (fOfInt 255 0)) (d.inForce pISOB ISOB.PRATED)
    ⟨n, { e with v := v, pc := pc, status := fieldBE pl 0 1 % 8, rej := bitAt (fieldBE pl 1 1) 5 }, false⟩
  | none =>
    let h := min (stHeldCnt e.status + 1) 255
    if d.posLost m then ⟨n, { e with status := stState e.status + stHeldCnt e.status * 256 }, false⟩
    else ⟨n, { e with status := stState e.status + h * 256 + 2 ^ 30 }, true⟩

/-- R242. -/
def Dev.ownMember (d : Dev) (m : Nat) (c : CellIn) : Bool :=
  let st := stState c.e.status
  !bitAt c.e.ctlF 31 && !d.posLost m && d.reqst c.n == 3 && (st == 3 || (st == 2 && !c.e.rej))

/-- A standby of a redundant pair (R243). -/
def Dev.isStandby (d : Dev) : Bool := d.isHub && !d.standalone && !d.on pVANE VANE.STAT_ACTIVE

def Dev.maskHas (d : Dev) (n : Nat) : Bool :=
  match d.iso.masks with
  | some l => bitAt (l.getD (n / 32) 0) (n % 32)
  | none => true

def Dev.member (d : Dev) (m : Nat) (c : CellIn) : Bool := d.ownMember m c && (!d.isStandby || d.maskHas c.n)

/-! ### A run (R237, R240, R245 to R249) -/

/-- The radian measure of an angle in 2^-32 of a cycle, as binary32. -/
def radOf (p : Nat) : Nat := fRound false (p * twoPi256) (-288) (p != 0)

def Dev.isoCoeffs : List Fld :=
  [ISOB.PRATED, ISOB.MMAX, ISOB.TRIMMAX, ISOB.KCD, ISOB.KCT, ISOB.KPH, ISOB.KZ, ISOB.KZI, ISOB.ZMAX, ISOB.IDB]

/-- An input or a coefficient in force is NaN or infinite (R240). -/
def Dev.isoNan (d : Dev) : Bool :=
  ((List.range 12).any fun i => !fFinite (d.get pISOB ⟨0x800 + 4 * i, 0, 32, 0⟩)) ||
  Dev.isoCoeffs.any fun F => !fFinite (d.inForce pISOB F)

/-- Scale a pair of numbers down to a magnitude. -/
def scaleTo (a b lim : Nat) : Nat × Nat :=
  let mag := fSqrt (fAdd (fMul a a) (fMul b b))
  if fLt lim mag then (fMul a (fDiv lim mag), fMul b (fDiv lim mag)) else (a, b)

def ntotFld (p : Nat) : Fld := if p = 0 then ISOB.NTOT_U else if p = 1 then ISOB.NTOT_V else ISOB.NTOT_W
def nminFld (p : Nat) : Fld := if p = 0 then ISOB.NMIN_U else if p = 1 then ISOB.NMIN_V else ISOB.NMIN_W
def nactFld (p : Nat) : Fld := if p = 0 then ISOB.NACT_U else if p = 1 then ISOB.NACT_V else ISOB.NACT_W

/-- The phase and converter level of R245. -/
structure IsoPh where
  nact : Nat
  w : Nat
  cbar : Nat
  vbar : Nat
  pp : Nat
  deriving DecidableEq, Repr

structure IsoLvl where
  ph : List IsoPh
  ia : Nat
  ib : Nat
  zr : Nat
  zi : Nat
  v0 : Nat
  v1 : Nat
  deriving DecidableEq, Repr

/-- The first half of R245 over the members of each phase; `open_` gives Vbar_p of a phase without members, of which the
spec states nothing (R248). -/
def Dev.isoLevel (d : Dev) (ms : List (List CellIn)) (open_ : Nat → Nat) (ang : Nat) : IsoLvl :=
  let on (F : Fld) (x : Fld) : Nat := if d.on pISOB F then d.inForce pISOB x else 0
  let kph := on ISOB.CFG_PHBALEN ISOB.KPH
  let kz := on ISOB.CFG_PHBALEN ISOB.KZ
  let kzi := on ISOB.CFG_PHBALEN ISOB.KZI
  let zmax := d.inForce pISOB ISOB.ZMAX
  let ptot := d.get pISOB ISOB.PTOT
  let ws := ms.map fun l => fSum (l.map fun c => c.e.cestF)
  let cvs := ms.map fun l => fSum (l.map fun c => fMul c.e.cestF c.e.v)
  let ns := ms.map List.length
  let w := fSum ws
  let cbar := fDiv w (fOfInt (ns.foldl (· + ·) 0 : Nat) 0)
  let vb (p : Nat) : Nat := if ns.getD p 0 = 0 then open_ p else fDiv (cvs.getD p 0) (ws.getD p 0)
  let vbar := fDiv (fSum ((List.range 3).map fun p => if ns.getD p 0 = 0 then 0 else fMul (ws.getD p 0) (vb p))) w
  let e (p : Nat) : Nat := if ns.getD p 0 = 0 then open_ p else fSub (vb p) vbar
  let pp (p : Nat) : Nat :=
    if ns.getD p 0 = 0 then 0
    else fAdd (fDiv (fMul ptot (ws.getD p 0)) w) (fMul (fMul kph (fDiv (ws.getD p 0) cbar)) (e p))
  let ea := fDiv (fSub (fSub (fMul fTwo (e 0)) (e 1)) (e 2)) fThree
  let eb := fDiv (fSub (e 1) (e 2)) fSqrt3
  let tsf := fOfRat (d.gridTsf / tick16 * 4 : Nat) 1000000000
  let ia := fAdd (d.get pISOB ISOB.IALPHA) (fMul (fMul kzi ea) tsf)
  let ib := fAdd (d.get pISOB ISOB.IBETA) (fMul (fMul kzi eb) tsf)
  let (ia, ib) := scaleTo ia ib zmax
  let (zr, zi) := scaleTo (fAdd (fMul kz ea) ia) (fAdd (fMul kz eb) ib) zmax
  let psi := fAdd (radOf ang) (d.get pISOB ISOB.IANG)
  let c := lCos psi
  let s := lSin psi
  let f := fOfInt (d.get pSPDL SPDL.FREQ) (-16)
  let zen := d.on pISOB ISOB.CFG_ZSEQEN
  let v0 := if zen then fSub (fMul zr c) (fMul zi s) else 0
  let v1 := if zen then fNeg (fMul (fMul fTwoPi f) (fAdd (fMul zr s) (fMul zi c))) else 0
  ⟨(List.range 3).map fun p =>
      ⟨ns.getD p 0, ws.getD p 0, fDiv (ws.getD p 0) (fOfInt (ns.getD p 0) 0), vb p, pp p⟩, ia, ib, zr, zi, v0, v1⟩

/-- The cell level of R245 and the limits of R246 inside a phase: trims, modulations, slopes and powers, with the marks of
M_SAT and the remainder of the power. -/
structure IsoPhOut where
  t : List Lim
  m : List Lim
  s : List Nat
  p : List Lim
  msat : Bool
  rem : Nat
  deriving DecidableEq, Repr

def Dev.isoPhase (d : Dev) (lv : IsoLvl) (p : Nat) (l : List CellIn) : IsoPhOut :=
  let h := lv.ph.getD p ⟨0, 0, 0, 0, 0⟩
  let kcd := if d.on pISOB ISOB.CFG_CELLBALEN then d.inForce pISOB ISOB.KCD else 0
  let kct := d.inForce pISOB ISOB.KCT
  let idb := d.inForce pISOB ISOB.IDB
  let ip := d.get pISOB (ISOB.IPH p)
  let sg := if fLe idb ip then fOne else if fLe ip (fNeg idb) then fMinusOne else 0
  let tm := d.inForce pISOB ISOB.TRIMMAX
  let mm := d.inForce pISOB ISOB.MMAX
  let nt := fOfInt (d.inForce pISOB (ntotFld p)) 0
  let na := fOfInt h.nact 0
  let dv (c : CellIn) : Nat := fSub c.e.v h.vbar
  let wt (c : CellIn) : Nat := fDiv c.e.cestF h.cbar
  let trim (c : CellIn) : Nat :=
    if d.on pISOB ISOB.CFG_TRIMEN then fMul (fMul (fMul kct sg) (wt c)) (dv c) else 0
  let (ts, b1) := limTrim (l.map fun c => ⟨trim c, fNeg tm, tm, false⟩)
  let base := fDiv (fMul (fAdd (d.get pISOB (ISOB.MPH p)) lv.v0) nt) na
  let slope := fDiv (fMul (fAdd (d.get pISOB (ISOB.MSLP p)) lv.v1) nt) na
  let (mo, b2) := limMod (ts.map fun t => ⟨fAdd base t.x, fNeg mm, mm, false⟩)
  let pow (c : CellIn) : Nat := fAdd (fDiv (fMul h.pp c.e.cestF) h.w) (fMul (fMul kcd (wt c)) (dv c))
  let (ps, r) := limDab (l.map fun c => ⟨pow c, fNeg c.e.pc, if d.isoNoexp then 0 else c.e.pc, false⟩)
  ⟨ts, mo, mo.map fun e => if e.cl then 0 else slope, ps, b1 || b2, r⟩

/-- The carrier phase of slot j of N (R249). -/
def carrierSlot (j n ofs : Nat) : Nat := ((2 * j * 2 ^ 24 + n) / (2 * n) + ofs) % 2 ^ 24

/-- The outputs of a cell that is not a member (R244). -/
def cellOff (c : CellEnt) (n : Nat) (respread : Bool) : CellEnt :=
  { c with pout := 0, mout := 0, trim := 0, slp := 0, slotcph := 0, respread := respread,
           status := c.status + n / 64 * 2 ^ 28 }

def markIf (b : Bool) (n : Nat) : List Nat := if b then [n] else []

/-- What a run that starts now will write: the inputs are read in this tick (R237). -/
def Dev.isoCompute (d : Dev) (open_ : Nat → Nat) : IsoRun :=
  let idx := d.hub.idx
  if d.isoNan then ⟨idx, [(ISOB.RUNSTAT_IDX, idx % 65536)], [], [ISOB.E_INPUT_NAN], [], true, 0⟩
  else
    let all := d.mapped.map fun (n, m) => (m, d.cellIn n m)
    let mem := all.map fun (m, c) => (c, d.member m c)
    let ins (p : Nat) : List CellIn := (mem.filter fun c => c.2 && c.1.n / 64 == p).map Prod.fst
    let ms := (List.range 3).map ins
    let ang := d.spdPred (d.commitAt idx)
    let lv := d.isoLevel ms open_ ang
    let outs := (List.range 3).map fun p => d.isoPhase lv p (ms.getD p [])
    let o0 : IsoPhOut := ⟨[], [], [], [], false, 0⟩
    let rems := outs.map IsoPhOut.rem
    let (ls, left) := (List.range 3).foldl
      (fun (acc : List (List Lim) × Nat) p =>
        let (ls, l) := spill p (rems.getD p 0) acc.1
        (ls, fAdd acc.2 l)) (outs.map IsoPhOut.p, 0)
    let was (n : Nat) : Bool := bitAt (d.get pISOB (ISOB.MASK (n / 32))) (n % 32)
    let isMem (n : Nat) : Bool := mem.any fun c => c.1.n == n && c.2
    let changed (p : Nat) : Bool := (List.range 64).any fun k => was (64 * p + k) != isMem (64 * p + k)
    let entry (c : CellIn) (b : Bool) : Nat × CellEnt :=
      let p := c.n / 64
      if b then
        let j := ((ms.getD p []).findIdx? fun x => x.n == c.n).getD 0
        let o := outs.getD p o0
        let lim (l : List Lim) : Lim := l.getD j ⟨0, 0, 0, false⟩
        let pw := lim (ls.getD p [])
        (c.n, { c.e with
          pout := pw.x, mout := (lim o.m).x, trim := (lim o.t).x, slp := o.s.getD j 0, respread := changed p
          slotcph := j * 2 ^ 24 + carrierSlot j (ms.getD p []).length (d.inForce pISOB (ISOB.PHOFS p))
          status := c.e.status + 2 ^ 31 + p * 2 ^ 28 + b2n pw.cl * 16 + b2n (lim o.m).cl * 8 })
      else (c.n, cellOff c.e c.n false)
    let gone := (d.iso.cells.filter fun c => bitAt c.2.status 31 && !all.any fun x => x.2.n == c.1).map fun c =>
      (c.1, cellOff { c.2 with status := stState c.2.status } c.1 false)
    let msat := outs.any IsoPhOut.msat
    let spills := rems.any fun r => !fIsZero r
    let unalloc := !fIsZero left
    let low := (List.range 3).any fun p => decide ((ms.getD p []).length < d.inForce pISOB (nminFld p))
    let held := mem.any fun c => c.1.held
    let diff := d.isStandby && d.iso.masks.isSome &&
      (List.range 192).any fun n => d.maskHas n && !(all.any fun x => x.2.n == n && d.ownMember x.1 x.2)
    let heldChg := mem.any fun c => c.1.held != stHeld (d.cell c.1.n).status
    let maskWord (j : Nat) : Nat := (List.range 32).foldl (fun w b => if isMem (32 * j + b) then w + 2 ^ b else w) 0
    { idx := idx
      regs :=
        ((List.range 3).map fun p => (nactFld p, (ms.getD p []).length)) ++
        ((List.range 3).map fun p => (ISOB.VBAR p, (lv.ph.getD p ⟨0, 0, 0, 0, 0⟩).vbar)) ++
        ((List.range 3).map fun p => (ISOB.PPH p, fSum ((ls.getD p []).map Lim.x))) ++
        [(ISOB.ZRE, lv.zr), (ISOB.ZIM, lv.zi), (ISOB.PUNALLOC, left), (ISOB.RUNSTAT_IDX, idx % 65536),
         (ISOB.IALPHA, lv.ia), (ISOB.IBETA, lv.ib)] ++
        (List.range 6).map fun j => (ISOB.MASK j, maskWord j)
      cells := (mem.map fun c => entry c.1 c.2) ++ gone
      errs := markIf msat ISOB.E_M_SAT ++ markIf spills ISOB.E_P_SPILL ++ markIf unalloc ISOB.E_P_UNALLOC ++
        markIf low ISOB.E_NACT_LOW ++ markIf diff ISOB.E_MASK_DIFF ++ markIf held ISOB.E_HELD
      irqs := markIf ((List.range 3).any changed) ISOB.I_MEMBER_CHG ++ markIf (msat || spills || unalloc) ISOB.I_SAT ++
        markIf heldChg ISOB.I_HELD_CHG
      still := false
      vlv := d.get pISOB ISOB.VLV }

/-- A run starts. -/
def Dev.isoBegin (d : Dev) : Dev :=
  let (a, d) := d.free
  let (b, d) := d.free
  let (c, d) := d.free
  let r := d.isoCompute fun p => (if p = 0 then a else if p = 1 then b else c) % 2 ^ 32
  (d.set pISOB ISOB.STAT_BUSY 1).modIso fun i => { i with run := some r, began := d.ticks }

/-- A start event (R238). -/
def Dev.isoEvent (d : Dev) : Dev :=
  let d := d.modIso fun i => { i with started := true }
  if !d.on pISOB ISOB.STAT_BUSY then d.isoBegin
  else if d.iso.pend then (d.inc pISOB ISOB.TRIGCNT_TRIGOVR).err pISOB ISOB.E_TRIG_OVR
  else (d.set pISOB ISOB.STAT_PEND 1).modIso fun i => { i with pend := true }

/-- Every engine of LEWAIT has ended the chain of this superframe's loop instant. -/
def Dev.loopsDone (d : Dev) : Bool :=
  (List.range 8).all fun n => !d.bit pISOB ISOB.CFG_LEWAIT n || bitAt d.iso.ended n

/-- ISOBAR_START (R237): the telemetry is complete and the awaited engines have ended. -/
def Dev.isoStart (d : Dev) : Dev :=
  if d.isCell || !d.on pISOB ISOB.CTRL_EN || !d.hub.teleDone || d.iso.started || !d.loopsDone then d else d.isoEvent

/-- ISOBAR_LOOP_LATE (R237): D_T(k) + 800 ns has come and an awaited engine has not ended. -/
def Dev.isoLoopLate (d : Dev) : Dev :=
  if d.isCell || !d.on pISOB ISOB.CTRL_EN || !d.hub.teleDone || d.iso.started || d.loopsDone then d
  else (d.err pISOB ISOB.E_LOOP_LATE).isoEvent

/-- Assembly of the commands for C(k) starts, with Spindle's prediction (R152); C(k) has passed where a run ends late (R238). -/
def Dev.assemble (d : Dev) (k : Nat) : Dev :=
  let p := d.spdPred (d.commitAt k)
  d.modHub fun h => { h with pred := h.pred ++ [(k, p, d.get pSPDL SPDL.FREQ, d.spdValid)] }

/-- The outputs of a run come into an entry; the configuration words stay as they are now. -/
def CellEnt.takeOut (c r : CellEnt) : CellEnt :=
  { c with status := r.status, v := r.v, pc := r.pc, pout := r.pout, mout := r.mout, trim := r.trim, slp := r.slp,
           slotcph := r.slotcph, respread := r.respread, rej := r.rej }

/-- The results of a run are written (R237). -/
def Dev.isoWriteBack (d : Dev) (r : IsoRun) : Dev :=
  let d := r.regs.foldl (fun d x => d.set pISOB x.1 x.2) d
  let d := r.cells.foldl (fun d x => d.modCell x.1 fun c => c.takeOut x.2) d
  let d := r.errs.foldl (fun d b => d.err pISOB b) d
  let d := r.irqs.foldl (fun d b => d.irq pISOB b) d
  if r.still then
    d.modIso fun i => { i with still := true, cells := i.cells.map fun c => (c.1, { c.2 with respread := false }) }
  else d.modIso fun i => { i with still := false, vlv := r.vlv }

/-- The run in progress ends (R237, R238): everything but the peer record's ISOB section. -/
def Dev.isoEnd (d : Dev) : Dev :=
  match d.iso.run with
  | none => d
  | some r =>
    let d := (d.isoWriteBack r).set pISOB ISOB.RUNSTAT_DUR (d.ticks - d.iso.began)
    let d := ((d.set pISOB ISOB.STAT_BUSY 0).irq pISOB ISOB.I_DONE).modIso fun i => { i with run := none }
    let d := { d with isoRuns := d.isoRuns + 1 }
    let d := d.assemble r.idx
    if d.iso.pend then ((d.set pISOB ISOB.STAT_PEND 0).modIso fun i => { i with pend := false }).isoBegin else d

/-! ### Loads and writes (R239, R250, R256, R257) -/

/-- The key of word w of cell entry n among the shadows written in a tick (R102, R250), above the keys of the register pages. -/
def cellKey (n w : Nat) : Nat := 2 ^ 40 + 16 * n + w

/-- Software writes word w of cell entry n, whose value was `old`: a load of this tick takes that (R102, R250). -/
def Dev.setCellWord (d : Dev) (n w old : Nat) (f : CellEnt → CellEnt) : Dev :=
  (d.meet fun m => { m with shadows := if (m.shadows.lookup (cellKey n w)).isSome then m.shadows
                                       else (cellKey n w, old) :: m.shadows }).modCell n f

/-- The configuration words of entry n, as C(k) loads them. -/
def Dev.cellLoad (d : Dev) (n : Nat) (c : CellEnt) : CellEnt :=
  let word (w now : Nat) : Nat := (d.meets.shadows.lookup (cellKey n w)).getD now
  { c with ctlF := word 0 c.ctl, cestF := word 1 c.cest, vscaleF := word 2 c.vscale
           appF := (List.range c.app.length).map fun j => word (10 + j) (c.app.getD j 0) }

/-- C(k) in a hub loads the coefficients and the words of the cell entries. -/
def Dev.isoLoad (d : Dev) : Dev :=
  let flds := Dev.isoCoeffs ++ (List.range 3).map ntotFld ++ (List.range 3).map nminFld ++
    (List.range 3).map ISOB.PHOFS
  let d := flds.foldl (fun d F => d.load pISOB F) d
  d.modIso fun i => { i with cells := i.cells.map fun c => (c.1, d.cellLoad c.1 c.2) }

/-- ISOBAR_ENABLE_WRITE (R239). Where the write takes away the run that the telemetry awaits, one not started or one pending, assembly
starts without it. -/
def Dev.isoEnable (d : Dev) (en : Bool) : Dev :=
  let was := d.on pISOB ISOB.CTRL_EN
  let d := d.set pISOB ISOB.CTRL_EN (b2n en)
  let d := if was && !en && d.hub.teleDone && (!d.iso.started || d.iso.pend) then (d.modIso fun i => { i with started := true }).assemble d.hub.idx else d
  if !en && d.iso.pend then
    ((d.set pISOB ISOB.STAT_PEND 0).inc pISOB ISOB.TRIGCNT_DISC).modIso fun i => { i with pend := false }
  else d

/-- EXCL of a cell in the shadow of CTL (R256). -/
def Dev.exclTo (d : Dev) (n : Nat) (b : Bool) : Dev :=
  if d.isCell then d
  else if 192 ≤ n then d.err pISOB ISOB.E_CFG_REJ
  else d.setCellWord n 0 (d.cell n).ctl fun c => { c with ctl := c.ctl % 2 ^ 31 + b2n b * 2 ^ 31 }

/-- R250: a value that a coefficient register refuses. -/
def Dev.coeffBad (d : Dev) (off v : Nat) : Bool :=
  if off = 0x06C then (List.range 3).any fun p =>
    let x := (ntotFld p).pick v
    x == 0 || decide (64 < x) || decide (x < d.get pISOB (nminFld p))
  else if off = 0x070 then (List.range 3).any fun p => decide (d.get pISOB (ntotFld p) < (nminFld p).pick v)
  else if 0x044 ≤ off ∧ off < 0x06C then
    !fFinite v || (off == 0x048 && (!fLt 0 v || fLt fOne v)) ||
    ((off == 0x044 || off == 0x04C || off == 0x064 || off == 0x068) && fLt v 0)
  else false

/-- Writes of ISOB registers. -/
def Dev.isobWrite (d : Dev) (off v : Nat) : Dev :=
  if off = 0x010 then
    (((d.set pISOB ISOB.CTRL_NOEXP (bitsOf v 2 1)).set pISOB ISOB.CTRL_DABBLK (bitsOf v 1 1)).isoEnable (bitAt v 0))
  else if d.coeffBad off v then d.err pISOB ISOB.E_CFG_REJ
  else if off = 0x8B0 then
    if bitAt v 31 && bitAt v 30 then d
    else if bitAt v 31 then d.exclTo (v % 256) true
    else if bitAt v 30 then d.exclTo (v % 256) false
    else d
  else d.writeWord pISOB off v

/-- A word of the cell and telemetry window (R257). -/
def Dev.isoWinRead (d : Dev) (off : Nat) : Nat :=
  if off < 0x3000 then
    let c := d.cell (off / 64)
    match off % 64 / 4 with
    | 0 => c.ctl | 1 => c.cest | 2 => c.vscale
    | 3 => c.status | 4 => c.v | 5 => c.pc | 6 => c.pout | 7 => c.mout
    | 8 => c.trim | 9 => c.slotcph
    | 10 => c.app.getD 0 0 | 11 => c.app.getD 1 0 | 12 => c.app.getD 2 0
    | _ => 0
  else if 0x4000 ≤ off ∧ off < 0x4000 + 0x80 * 192 then
    leNat (((d.tele ((off - 0x4000) / 0x80)).payload.drop (off % 0x80)).take 4)
  else 0

/-- A word of the window is lost, and reads as `v` (R438). -/
def Dev.isoLose (d : Dev) (off v : Nat) : Dev :=
  let n := off / 64
  if off < 0x3000 then
    match off % 64 / 4 with
    | 0 => d.modCell n fun c => { c with ctl := v } | 1 => d.modCell n fun c => { c with cest := v }
    | 2 => d.modCell n fun c => { c with vscale := v } | 3 => d.modCell n fun c => { c with status := v }
    | 4 => d.modCell n fun c => { c with v := v } | 5 => d.modCell n fun c => { c with pc := v }
    | 6 => d.modCell n fun c => { c with pout := v } | 7 => d.modCell n fun c => { c with mout := v }
    | 8 => d.modCell n fun c => { c with trim := v } | 9 => d.modCell n fun c => { c with slotcph := v }
    | 10 => d.modCell n fun c => { c with app := modNth c.app 0 fun _ => v }
    | 11 => d.modCell n fun c => { c with app := modNth c.app 1 fun _ => v }
    | 12 => d.modCell n fun c => { c with app := modNth c.app 2 fun _ => v }
    | _ => d
  else if 0x4000 ≤ off ∧ off < 0x4000 + 0x80 * 192 then
    let k := (off - 0x4000) / 0x80
    let t := d.tele k
    if t.payload.length ≤ off % 0x80 / 4 * 4 then d
    else d.modIso fun i => { i with tele := assocPut i.tele k { t with
      payload := (t.payload.take (off % 0x80 / 4 * 4) ++ toLE 4 v ++ t.payload.drop (off % 0x80 / 4 * 4 + 4)).take t.payload.length } }
  else d

/-- A write to the window. -/
def Dev.isoWinWrite (d : Dev) (off v : Nat) : Dev :=
  if d.isCell || decide (0x3000 ≤ off) then d
  else
    let n := off / 64
    let c := d.cell n
    let app (j : Nat) : Dev := d.setCellWord n (10 + j) (c.app.getD j 0) fun c => { c with app := modNth c.app j fun _ => v }
    match off % 64 / 4 with
    | 0 => d.setCellWord n 0 c.ctl fun c => { c with ctl := v / 2 ^ 28 * 2 ^ 28 }
    | 1 => if !fFinite v || !fLt 0 v then d.err pISOB ISOB.E_CFG_REJ else d.setCellWord n 1 c.cest fun c => { c with cest := v }
    | 2 => d.setCellWord n 2 c.vscale fun c => { c with vscale := v }
    | 10 => app 0
    | 11 => app 1
    | 12 => app 2
    | _ => d

end Sys2Proof.Machine
end

