-- ==== Sys2Proof/Machine/Strand.lean ====
section
/-! DEFINITION. The strand manager and Vane of a hub (chapters 02 and 10): the grid, enumeration and the map, breaks and
the budget, slots, commands, peer records, leader, claims and takeovers. -/

namespace Sys2Proof.Machine

/-! ### Strands of a hub (R208) -/

def Dev.peer (d : Dev) (i : Nat) : Peer := d.hub.peers.getD i peer0
def Dev.modPeer (d : Dev) (i : Nat) (f : Peer → Peer) : Dev := d.modHub fun h => { h with peers := modNth h.peers i f }
def Dev.modStrand (d : Dev) (s : Nat) (f : Strand → Strand) : Dev :=
  d.modHub fun h => { h with strands := modNth h.strands s f }
def Dev.modPos (d : Dev) (m : Nat) (f : Pos → Pos) : Dev :=
  d.modStrand (m / 48) fun x => { x with pos := modNth x.pos (m % 48) f }

def Dev.slen (d : Dev) (s : Nat) : Nat := d.get pSTRD (STRD.SCFG_SLEN s)
def Dev.strandEn (d : Dev) (s : Nat) : Bool := d.on pSTRD (STRD.SCFG_EN s) && (!d.standalone || decide (s < 4))

/-- The ports a hub holds of a strand, each with the end it faces (true: B). -/
def Dev.strandPorts (d : Dev) (s : Nat) : List (Nat × Bool) :=
  if d.standalone then [(2 * s, false), (2 * s + 1, true)] else [(s, d.hubB)]

/-- A strand port in use is UP. -/
def Dev.strandUp (d : Dev) : Bool :=
  (List.range 8).any fun p => d.strandEn (d.portStrand p) && d.linkSt p == 3

/-- The partner's peer port in a redundant pair (R236). -/
def Dev.partner (d : Dev) : Option Nat :=
  if d.isHub && !d.standalone then some (d.get pVANE VANE.HUBCFG_PPORT) else none

/-- p_A of the cell at hop `h` from an end (R209). -/
def posAt (slen h : Nat) (endB : Bool) : Nat := if endB then slen - 1 - h else h

/-! ### The budget (R22 to R25) -/

/-- t_T and t_C of a train of n cells in 2^-16 ns, with D_0 and D_(n-1) in the same unit. -/
def tTof (d0 dn n : Nat) : Nat := max (d0 + (n - 1) * 356 * ns16) dn + 356 * ns16
def tCof (d0 dn n : Nat) : Nat := max (d0 + (n - 1) * 292 * ns16) dn

/-- The sum of R22 without TSF and t_so, 2^-16 ns. -/
def budgetOf (tT tC cells : Nat) : Nat :=
  500 * ns16 + max tT (600 * ns16) + (500 + 28 * cells) * ns16 + 900 * ns16 + tC + 2000 * ns16

/-- The budget of the single-break case with nominal hops of 96 ns (R24). -/
def Dev.nominalBudget (d : Dev) (n : Nat) : Nat :=
  budgetOf (tTof (96 * ns16) (n * 96 * ns16) n) (tCof (96 * ns16) (n * 96 * ns16) n) d.mapCount

/-- D_0 and D_(n-1) of a strand from an end of it, after one break: all its cells are reached from there. -/
def Dev.hopSums (d : Dev) (s : Nat) (endB : Bool) : Nat × Nat :=
  let l := d.hub.hops.getD s []
  let n := d.slen s
  let fromA := l.take n
  let fromB := (l.drop (l.length - n)).reverse
  let side := if endB then fromB else fromA
  (side.headD 0, side.foldl (· + ·) 0)

/-- The trains of every end the hub holds: t_T and t_C. -/
def Dev.trains (d : Dev) : List (Nat × Nat) :=
  ((List.range 8).filter d.strandEn).flatMap fun s => (d.strandPorts s).map fun e =>
    let (d0, dn) := d.hopSums s e.2
    (tTof d0 dn (d.slen s), tCof d0 dn (d.slen s))

def Dev.worstTT (d : Dev) : Nat := (d.trains.map Prod.fst).foldl max 0
def Dev.worstTC (d : Dev) : Nat := (d.trains.map Prod.snd).foldl max 0

/-- BUDGET_EVAL (R25). -/
def Dev.budgetEval (d : Dev) : Dev :=
  let short := decide (d.gridTsf < d.gridSo + budgetOf d.worstTT d.worstTC d.mapCount)
  (d.set pSTRD STRD.STAT_BUDGET_SHORT (b2n short)).irqIf short pSTRD STRD.I_BUDGET

/-! ### The grid (R17 to R19, R160, R234) -/

def t0Trip : Trip := ⟨STRD.T0NS, STRD.T0SL, STRD.T0SH_FRAC, STRD.T0SH_SECH⟩

/-- Announce the grid values now in the registers: they hold from the second commit after the next one whose commands are
still to be released (R18, R253). A change that commands already name comes first; the new values are announced after it. -/
def Dev.announce (d : Dev) : Dev :=
  let named := match d.hub.ann with
    | some (j, _, _) => decide (j ≤ d.hub.released + 2)
    | none => false
  if d.gridUp && !named then
    let j := max d.hub.idx (d.hub.released + 1) + 2
    (d.set pSTRD STRD.STAT_TSF_PEND 1).modHub fun h =>
      { h with ann := some (j, d.get pSTRD STRD.TSF_PERIOD, d.get pSTRD STRD.SAMPOFS_OFS) }
  else d

/-- The announced change comes with the commit of index `k`; values written since it was named are announced next. -/
def Dev.hubGridChange (d : Dev) (k : Nat) : Dev :=
  let d := d.gridChange k
  if d.hub.ann.isNone && (d.hgTsf != d.get pSTRD STRD.TSF_PERIOD || d.hgSo != d.get pSTRD STRD.SAMPOFS_OFS) then d.announce
  else d

/-- TSF_WRITE (R18, R24). -/
def Dev.tsfWrite (d : Dev) (v : Nat) : Dev :=
  let long := (((List.range 4).filter fun s => d.standalone && d.strandEn s && decide (24 < d.slen s)).map d.slen).foldl max 0
  if v < 2500 ∨ 25000 < v ∨
      (0 < long ∧ v * tick16 < d.nominalBudget long + (if d.gridUp then d.hgSo else d.get pSTRD STRD.SAMPOFS_OFS) * tick16) then
    d.err pSTRD STRD.E_TSF_RANGE
  else (d.set pSTRD STRD.TSF_PERIOD v).announce

/-- The record streams of a peer port are reserved while RUN = 1 (R218). -/
def Dev.reserve (d : Dev) (p : Nat) (on : Bool) : Dev :=
  let pg := pLINK p
  let one (d : Dev) (s : Nat) (out : Bool) (lim : Nat) : Dev :=
    let d := ((d.hwSet pg (LINK.BSTRA_STREAM s) 0xFFF0).hwSet pg (LINK.BSTRB_EN s) (b2n on)).hwSet pg (LINK.BSTRB_DIR s) (b2n out)
    let d := ((d.hwSet pg (LINK.BSTRB_LIMIT s) lim).set pg (LINK.BSTAT_G s) lim).set pg (LINK.BSTAT_U s) 0
    d.modStream p s fun _ => stream0
  one (one d 30 true 0) 31 false 96

/-- GRID_RUN_WRITE (R234). -/
def Dev.gridRun (d : Dev) (run : Bool) : Dev :=
  if !run then
    if d.on pSTRD STRD.CTRL_RUN then
      let d := d.set pSTRD STRD.CTRL_RUN 0
      (d.reserve 8 false).reserve 9 false
    else d
  else if d.on pSTRD STRD.CTRL_RUN then d
  else
    let t0 := d.getTrip pSTRD t0Trip
    let tsf := d.get pSTRD STRD.TSF_PERIOD
    if t0 < d.now16 + 2 * tsf * tick16 then d.err pSTRD STRD.E_CFG_REJ
    else
      let d := ((d.set pSTRD STRD.CTRL_RUN 1).set pSTRD STRD.STAT_RUN 0).set pSTRD STRD.STAT_TSF_PEND 0
      let d := { d with hgT0 := t0, hgTsf := tsf, hgSo := d.get pSTRD STRD.SAMPOFS_OFS }
      let d := d.modHub fun h => { h with grid := true, idx := 0, released := 0, ann := none, loopAt := none, teleDone := false, arrived := [] }
      ((d.reserve 8 true).reserve 9 true).tevGrid

/-- What a hub counts at each commit: the observation of R224, a superframe when it ends with a strand port UP, and the leader of
R219. -/
def Dev.hubCounts (d : Dev) : Dev :=
  let capable := match d.hub.leader with
    | some h => if h = d.get pSTRD STRD.GRPCFG_HUBNUM then d.on pSTRD STRD.GRPCFG_PTPOK
                else d.hub.peers.any fun p => p.hub == h && p.ptpok
    | none => true
  let d := d.modHub fun h =>
    { h with observed := if 1 < h.idx && d.strandUp && !h.decided then h.observed + 1 else h.observed
             leadBad := if capable then 0 else h.leadBad + 1 }
  if d.standalone then d else d.set pVANE VANE.STAT_OBSERVE (b2n (!d.hub.decided))

/-- HUB_COMMIT (R17): C(k) arrives in a hub. -/
def Dev.hubCommit (d : Dev) : Dev :=
  let k := d.hub.idx
  let t := d.commitAt k
  if !d.gridUp || !d.onSyna || !d.commitDue k then d
  else if d.commitPassed then d.tevFire 0
  else
    let began := if d.on pSTRD STRD.STAT_RUN then d.gridAt else d.ticks
    let d := { (d.set pSTRD STRD.STAT_RUN 1).pwmGridStart t with sf := d.sf + 1, gridAt := began }
    let d := (if d.on pSTRD STRD.CTRL_RUN then d.loadCommit t k else d).isoLoad
    let d := d.modHub fun h => { h with idx := k + 1, loopAt := none, teleDone := false, arrived := [] }
    let d := d.modIso fun i =>
      { i with started := false, ended := 0, tele := i.tele.map fun x => (x.1, { x.2 with fresh := none }) }
    let d := (d.hubGridChange k).hubCounts
    if d.on pSTRD STRD.CTRL_RUN then d else ((d.set pSTRD STRD.STAT_RUN 0).modHub fun h => { h with grid := false }).tevGridStop

/-! ### Management frames of the strand manager (R204, R209, R214) -/

/-- An entry of a request: address and operation, and data (R201). -/
def mEntry (addr op data : Nat) : List Byte := toBE 4 (addr + op) ++ toBE 4 data

/-- The address of a register. -/
def regAddr (pg off : Nat) : Nat := 0x40000000 + pg * 4096 + off

/-- Requests queued on a port, one entry each, or up to 32 with MGMT_BURST; their SEQ is free. -/
def Dev.mgmtGo (d : Dev) (p dst : Nat) : List (List Byte) → Dev
  | [] => d
  | e :: rest =>
    let (q, d) := d.free
    let (src, d) := d.srcAddr p
    let f := mkFrame 4 0 src dst (d.get pVANE VANE.EPOCH) (q % 65536) e
    Dev.mgmtGo (d.modPort p fun x => { x with mgmt := x.mgmt ++ [f] }) p dst rest

/-- Entries joined in groups of at most 32. -/
def burst : Nat → List (List Byte) → List (List Byte)
  | 0, _ => []
  | fuel + 1, l => if l.isEmpty then [] else (l.take 32).flatten :: burst fuel (l.drop 32)

def Dev.mgmtReq (d : Dev) (p dst : Nat) (wide : Bool) (es : List (List Byte)) : Dev :=
  d.mgmtGo p dst (if wide then burst es.length es else es)

def wr (pg off v : Nat) : List Byte := mEntry (regAddr pg off) 1 v
def rd (pg off : Nat) : List Byte := mEntry (regAddr pg off) 0 0

/-- The writes that give a cell the hub's grid (R209, R253). -/
def Dev.gridEntries (d : Dev) : List (List Byte) :=
  let run := d.gridUp
  let t0 := if run then d.hgT0 else d.getTrip pSTRD t0Trip
  let tsf := if run then d.hgTsf else d.get pSTRD STRD.TSF_PERIOD
  let so := if run then d.hgSo else d.get pSTRD STRD.SAMPOFS_OFS
  [wr pVANE 0x044 (nsOf t0), wr pVANE 0x048 (slOf t0), wr pVANE 0x04C (fsOf t0), wr pVANE 0x050 tsf, wr pVANE 0x054 so,
   wr pVANE 0x058 (2 ^ 31)]

/-! ### Enumeration and the map (R209, R211, R120) -/

/-- A position becomes known: ENUMFIFO, ENUMD, NCELL, UNMAPPED. -/
def Dev.enumPost (d : Dev) (m uid : Nat) : Dev :=
  let d := d.errIf (!d.on pSTRD (STRD.MAP_VALID m)) pSTRD STRD.E_UNMAPPED
  if d.on pSTRD (STRD.MAP_ENUMD m) then d
  else if 16 ≤ d.hub.enumFifo.length then d.err pSTRD STRD.E_ENUMFIFO_OVF
  else
    let d := (d.modHub fun h => { h with enumFifo := h.enumFifo ++ [(m / 48, m % 48, uid)] }).irq pSTRD STRD.I_ENUM
    (d.set pSTRD (STRD.MAP_ENUMD m) 1).inc pSTRD (STRD.SSTAT_NCELL (m / 48))

/-- What the LINK pages of this device offer (R118). -/
def linkOffer : Nat := 7

/-- The requests that open a turn of the loop: POS, the UID and FEATOFF, one register each (R209). -/
def Dev.enumAsk (d : Dev) (p h : Nat) : Dev :=
  d.mgmtReq p (0x4000 + h) false [rd pVANE 0x040, rd pVANE 0x828, rd pVANE 0x82C, rd (pLINK 0) 0x008]

/-- The offer of the device at hop `h` of an end, where one has been read: before the first cell stands this hub, behind the
last one a hub of the same kind. -/
def Dev.offerAt (d : Dev) (s : Nat) (endB : Bool) (h : Option Nat) : Option Nat :=
  match h with
  | none => some linkOffer
  | some h => if h = d.slen s then some linkOffer else (d.posOf (48 * s + posAt (d.slen s) h endB)).offer

/-- The set that a hub records for a cell (R120). A standby, which hears an active partner, mirrors that one's, whatever its own ports accept (R122); no
rule says how that set reaches it: a free part of the cell's offer (entry 20). -/
def Dev.mirrorSet (d : Dev) (own set : Nat) : Nat × Dev :=
  if !d.on pVANE VANE.STAT_ACTIVE && d.partner.any fun i => (d.peer i).active then
    let (x, d) := d.free
    (x % 8 &&& own, d)
  else (set, d)

/-- One cell of the loop of R209: the cell at hop `h` of port `p`; `behind` is the offer of the device behind it, if the loop
reaches one, else the one read before counts. An offer that nothing has read is taken to be the cell's own, and the LOGN that goes
with VANE.POS is the N of the position's map entry (DESIGN CHOICE, entry 20). The second component is false when this end stops. -/
def Dev.enumCell (d : Dev) (p h : Nat) (a : Answer) (behind : Option Nat) : Dev × Bool :=
  let s := d.portStrand p
  let endB := d.portEndB p
  let n := d.slen s
  let d := d.enumAsk p h
  if n ≤ h then (d.err pSTRD STRD.E_ENUM_ERR, false)
  else
    let pa := posAt n h endB
    let m := 48 * s + pa
    if bitAt a.pos.toNat 31 && VANE.POS_APOS.pick a.pos.toNat != pa then (d.err pSTRD STRD.E_ENUM_ERR, false)
    else
      let acc := if d.on (pLINK p) HDR.FEATACC_DONE then d.get (pLINK p) HDR.FEATACC_ACC else 0
      let own := a.featOff.toNat
      let prev := (d.offerAt s endB (if h = 0 then none else some (h - 1))).getD own
      let next := (behind.orElse fun _ => d.offerAt s endB (some (h + 1))).getD own
      let set := acc &&& own &&& 6
      let near := acc &&& own &&& prev &&& 1
      let far := acc &&& own &&& next &&& 1
      let nearPort := b2n (a.aport != endB)
      let word (pt : Nat) : Nat := 2 ^ 31 + set + (if pt = nearPort then near else far)
      let v := b2n endB * 2 ^ 29 + n * 2 ^ 16 + pa * 256 + d.get pSTRD (STRD.MAP_N m)
      let d := d.mgmtReq p (0x4000 + h) false
        ([wr pVANE 0x040 v, wr (pLINK 0) 0x00C (word 0), wr (pLINK 1) 0x00C (word 1)] ++ d.gridEntries)
      let (mirror, d) := d.mirrorSet own (set + near)
      let d := (d.set pSTRD (STRD.MAP_FEAT m) mirror).modPos m fun x =>
        { x with aport := b2n a.aport, offer := some own }
      let d := d.modStrand s fun x =>
        if endB then { x with reachB := max x.reachB (h + 1) } else { x with reachA := max x.reachA (h + 1) }
      (d.enumPost m (a.uidHi.toNat * 2 ^ 32 + a.uidLo.toNat), true)

/-- The loop over the cells that answer from hop `h` on; the requests to the next hop go out too, and stay without an
answer. -/
def Dev.enumGo (d : Dev) (p h : Nat) : List Answer → Dev
  | [] => d.enumAsk p h
  | a :: rest =>
    let (d, go) := d.enumCell p h a (rest.head?.map fun b => b.featOff.toNat)
    if go then Dev.enumGo d p (h + 1) rest else d

/-- The strand manager enumerates a port (R209), while the port receives (R90). -/
def Dev.enumReady (d : Dev) (p : Nat) : Bool :=
  d.isHub && decide (p < 8) && d.on pSTRD STRD.CTRL_ENUM && d.strandEn (d.portStrand p) && d.linkSt p == 3 && d.rxRuns p

/-- ENUM_PASS (R209): the cells that answer on a port, from the first hop on. -/
def Dev.enumPass (d : Dev) (p : Nat) (as_ : List Answer) : Dev :=
  if !d.enumReady p then d
  else
    let s := d.portStrand p
    let d := d.modStrand s fun x => if d.portEndB p then { x with reachB := 0 } else { x with reachA := 0 }
    d.enumGo p 0 as_

/-- The loop is repeated for the position at hop `h` of a port: it has been enumerated and delivered no T frame in the last
superframe, it has not been posted (R211), or it lies beyond the reach of the end. -/
def Dev.enumAgain (d : Dev) (p h : Nat) : Bool :=
  let s := d.portStrand p
  let endB := d.portEndB p
  let m := 48 * s + posAt (d.slen s) h endB
  let reach := if endB then (d.strand s).reachB else (d.strand s).reachA
  let q := d.posOf m
  decide (reach ≤ h) || !d.on pSTRD (STRD.MAP_ENUMD m) || (!q.a1 && !q.b1)

/-- The loop over the hops to be asked again: it stops for this end at an error, and at the first hop without an answer, which the
end does not reach (R209). -/
def Dev.enumAgainGo (d : Dev) (p : Nat) (as_ : List (Nat × Answer)) : List Nat → Dev
  | [] => d
  | h :: rest =>
    match as_.find? fun a => a.1 == h with
    | some a =>
      let (d, go) := d.enumCell p h a.2 ((as_.find? fun b => b.1 == h + 1).map fun b => b.2.featOff.toNat)
      if go then Dev.enumAgainGo d p as_ rest else d
    | none =>
      (d.enumAsk p h).modStrand (d.portStrand p) fun x => if d.portEndB p then { x with reachB := h } else { x with reachA := h }

/-- ENUM_REPASS (R209): silent and unreached positions are asked; those that answer are given by hop. -/
def Dev.enumRepass (d : Dev) (p : Nat) (as_ : List (Nat × Answer)) : Dev :=
  if !d.enumReady p then d
  else d.enumAgainGo p as_ ((List.range (d.slen (d.portStrand p))).filter fun h => d.enumAgain p h)

/-- MAP_WRITE (R211, R235). An N of 192 to 255 is stored with VALID as it is written, and that position is sent no command (DESIGN
CHOICE, entry 20). -/
def Dev.mapWrite (d : Dev) (m v : Nat) : Dev :=
  let n := (STRD.MAP_N m).pick v
  if bitAt v 31 && (List.range 384).any fun j => j != m && d.on pSTRD (STRD.MAP_VALID j) && d.get pSTRD (STRD.MAP_N j) == n then
    d.err pSTRD STRD.E_CFG_REJ
  else (d.set pSTRD (STRD.MAP_VALID m) (v / 2 ^ 31)).set pSTRD (STRD.MAP_N m) n

/-- ENUMFIFO_READ (R235). -/
def Dev.enumRead (d : Dev) : Dev :=
  match d.hub.enumFifo with
  | [] => (d.latch pSTRD [(0x844, 0), (0x848, 0)]).answer 0
  | (s, p, uid) :: rest =>
    let d := d.modHub fun h => { h with enumFifo := rest }
    (d.latch pSTRD [(0x844, uid % 2 ^ 32), (0x848, uid / 2 ^ 32)]).answer (2 ^ 31 + (rest.length + 1) * 65536 + s * 256 + p)

/-! ### Slots (R214) -/

/-- A cell position is reachable from an end that the hub holds. -/
def Dev.reachable (d : Dev) (s p : Nat) (endB : Bool) : Bool :=
  let x := d.strand s
  let brk := d.on pSTRD (STRD.SSTAT_BRK s)
  let ae := d.get pSTRD (STRD.SSTAT_AEND s)
  let be := d.get pSTRD (STRD.SSTAT_BEND s)
  if endB then decide (d.slen s - 1 - p < x.reachB) && (!brk || (be != 0x3F && decide (be ≤ p)))
  else decide (p < x.reachA) && (!brk || (ae != 0x3F && decide (p ≤ ae)))

/-- The reachable positions toward an end, the nearest first. -/
def Dev.trainOf (d : Dev) (s : Nat) (endB : Bool) : List Nat :=
  ((List.range (d.slen s)).map fun h => posAt (d.slen s) h endB).filter fun p => d.reachable s p endB

/-- The sum of the measured hop delays from a position to an end, 2^-16 ns. -/
def Dev.hopTo (d : Dev) (s p : Nat) (endB : Bool) : Nat :=
  let l := d.hub.hops.getD s []
  (if endB then l.drop (p + 1) else l.take (p + 1)).foldl (· + ·) 0

/-- The positions that a port serves, the nearest first (R213): on an intact closed strand those nearer to it. -/
def Dev.portCells (d : Dev) (s : Nat) (endB : Bool) : List Nat :=
  let tr := d.trainOf s endB
  if d.standalone && d.on pSTRD (STRD.SSTAT_INTACT s)
  then tr.filter fun p => decide (p ≤ (d.slen s - 1) / 2) != endB else tr

/-- The mapped positions that a port serves, the farthest first (R188, R211). -/
def Dev.servedBy (d : Dev) (s : Nat) (endB : Bool) : List Nat :=
  (d.portCells s endB).reverse.filter fun p => d.on pSTRD (STRD.MAP_VALID (48 * s + p))

/-- The ports of the enabled strands: port, strand, the end it faces. -/
def Dev.heldPorts (d : Dev) : List (Nat × Nat × Bool) :=
  ((List.range 8).filter d.strandEn).flatMap fun s => (d.strandPorts s).map fun e => (e.1, s, e.2)

/-- t_samp (R22). -/
def tSamp16 : Nat := 500 * ns16

/-- t_T from the measured hop delays and the T frames that a port expects (R22, R27). -/
def Dev.portTT (d : Dev) (s : Nat) (endB : Bool) : Nat :=
  let l := d.portCells s endB
  match l.head?, l.getLast? with
  | some p0, some pn => tTof (d.hopTo s p0 endB) (d.hopTo s pn endB) l.length
  | _, _ => 0

/-- TSLOT of the cell at train index `i` (R214). -/
def tslotOf (i d0 di : Nat) : Nat :=
  (max 125 ((125 + 89 * i : Nat) - Int.fdiv ((di : Int) - d0) (tick16 : Nat))).toNat

/-- A cell position is cut off from an end: from one that the hub holds as it reaches the cells, from its partner's by the break
that SSTAT shows. -/
def Dev.cutFrom (d : Dev) (s p : Nat) (endB : Bool) : Bool :=
  if (d.strandPorts s).any fun e => e.2 == endB then !d.reachable s p endB
  else
    let end_ := if endB then d.get pSTRD (STRD.SSTAT_BEND s) else d.get pSTRD (STRD.SSTAT_AEND s)
    d.on pSTRD (STRD.SSTAT_BRK s) && (end_ == 0x3F || (if endB then decide (p < end_) else decide (end_ < p)))

/-- The word of a bulk window on a gap of `n` code groups from place `a` on, shortened by 16 at both ends and disabled below 64
(R214). -/
def winOf (sf a n : Nat) : Nat := if n < 64 then 0 else 2 ^ 31 + (a + n - 16) % sf * 2 ^ 16 + (a + 16) % sf

/-- The passage of a C train and of a T train out of a port: place in ticks after C(k), and length in code groups. -/
abbrev Passage := Nat × Nat

/-- DWIN0 and DWIN1 of a port: the gap from the end of the C train to the start of the T train, and the one from the end of both to
the next C train; with one train alone, the one gap that it leaves (R214). -/
def passWins (sf : Nat) (c t : Passage) : Nat × Nat :=
  if c.2 = 0 then (winOf sf (t.1 + t.2) (sf - t.2), 0)
  else if t.2 = 0 then (winOf sf (c.1 + c.2) (sf - c.2), 0)
  else
    let a := (t.1 + sf - c.1 % sf) % sf
    let e := max c.2 (a + t.2)
    (winOf sf (c.1 + c.2) (a - c.2), winOf sf (c.1 + e) (sf - e))

/-- D_T(k) after S(k) + t_samp, the latest over the ports, 2^-16 ns (R27). -/
def Dev.teleTT (d : Dev) : Nat := (d.heldPorts.map fun x => d.portTT x.2.1 x.2.2).foldl max 0

/-- The place at which the first C frame of a superframe is predicted to leave the hubs: the terms of R22 up to its SOF, with t_T as
D_T(k) has it (DEDUCED, entry 20). -/
def Dev.cStart (d : Dev) : Nat :=
  (d.gridSo + tSamp16 + max d.teleTT (600 * ns16) + (500 + 28 * d.mapCount + 900) * ns16) / tick16

/-- A C frame for a position comes from an end of the strand: from an end of this hub as R213 has it, from its partner's where the
position is not cut off from it. -/
def Dev.cComes (d : Dev) (s q : Nat) (endB : Bool) : Bool :=
  d.on pSTRD (STRD.MAP_VALID (48 * s + q)) &&
    (if (d.strandPorts s).any fun e => e.2 == endB then (d.portCells s endB).contains q else !d.cutFrom s q endB)

/-- The C train out of the port of position `p` that faces an end: the frames from the other end for the positions beyond it, 73
code groups each, of which the farthest comes first (R188). -/
def Dev.cPassage (d : Dev) (s p : Nat) (endB : Bool) : Passage :=
  let beyond := (List.range (d.slen s)).filter fun q => (if endB then decide (p < q) else decide (q < p)) && d.cComes s q !endB
  (d.cStart + d.hopTo s p (!endB) / tick16, 73 * beyond.length)

/-- The T train out of a port whose own copy starts at TSLOT = `slot`: that copy and those of `n` cells behind it, 89 code groups
each (R189). -/
def Dev.tPassage (d : Dev) (slot n : Nat) : Passage := (d.gridSo / tick16 + slot, 89 * (n + 1))

/-- The slot word and the windows go to the port of a cell that faces an end of the strand, with `n` cells behind it. -/
def Dev.planWrite (d : Dev) (port s p n : Nat) (endB : Bool) (head slot : Nat) : Dev :=
  let m := 48 * s + p
  let cp := if endB then 1 - (d.posOf m).aport else (d.posOf m).aport
  let (w0, w1) := passWins d.sfTicks (d.cPassage s p endB) (d.tPassage slot n)
  d.mgmtReq port p (bitAt (d.get pSTRD (STRD.MAP_FEAT m)) 2)
    [wr (pLINK cp) 0x054 (head * 2 ^ 31 + slot % 2 ^ 15 * 2 ^ 16), wr (pLINK cp) 0x060 w0, wr (pLINK cp) 0x064 w1,
     wr (pLINK cp) 0x068 0, wr (pLINK cp) 0x06C 0]

/-- The slot registers of the cell at train index `i` of `n` toward an end: of its port that faces this end, and, where the cell is
cut off from the other end, of the other port, whose THEAD is 0 and whose TSLOT R214 does not give: a free value in its range. -/
def Dev.planCell (d : Dev) (port s p i n : Nat) (endB : Bool) (d0 : Nat) : Dev :=
  let d := d.planWrite port s p (n - 1 - i) endB (b2n (i == 0)) (tslotOf i d0 (d.hopTo s p endB))
  if d.cutFrom s p !endB then
    let (x, d) := d.free
    d.planWrite port s p i (!endB) 0 (125 + x % (2 ^ 15 - 125))
  else d

/-- Hardware writes a register: one that software has written in this tick keeps what was written (R101). -/
def Dev.hwWord (d : Dev) (pg off v : Nat) : Dev := if d.meets.soft.contains (pg, off) then d else d.writeWord pg off v

/-- The slot registers of the hub's own port, out of which its C train goes and no T train. -/
def Dev.planPort (d : Dev) (port s : Nat) (endB : Bool) : Dev :=
  let pg := pLINK port
  let (w0, w1) := passWins d.sfTicks (d.cStart, 73 * (d.servedBy s endB).length) (0, 0)
  let d := (d.hwSet pg LINK.SLOTCFG_SSLOT 0).hwSet pg LINK.SLOTCFG_THEAD 0
  (((d.hwWord pg 0x060 w0).hwWord pg 0x064 w1).hwWord pg 0x068 0).hwWord pg 0x06C 0

/-- SLOT_PLAN (R214) for one strand. -/
def Dev.slotPlan (d : Dev) (s : Nat) : Dev :=
  if !d.isHub || !d.on pSTRD STRD.CTRL_PLAN || !d.strandEn s then d
  else (d.strandPorts s).foldl (fun d e =>
    let tr := d.trainOf s e.2
    let d0 := d.hopTo s (tr.headD 0) e.2
    (tr.zipIdx.foldl (fun d x => d.planCell e.1 s x.1 x.2 tr.length e.2 d0) d).planPort e.1 s e.2) d

/-! ### Terms (R223, R224, R230, R231) -/

def Dev.ownTerm (d : Dev) : Nat := d.get pVANE VANE.EPOCH / 2
def Dev.sawTerm (d : Dev) (t : Nat) : Dev := d.set pVANE VANE.FLOOR (max (d.get pVANE VANE.FLOOR) t)

/-- The hub claims a term: the highest it has seen, plus 1; a hub that has seen the last one does not. -/
def Dev.claim (d : Dev) : Dev × Bool :=
  let t := d.get pVANE VANE.FLOOR
  let d := (d.modHub fun h => { h with decided := true }).set pVANE VANE.STAT_OBSERVE 0
  if t = 2 ^ 31 - 1 then (d.err pVANE VANE.E_TERM_EXH, false)
  else
    let d := (d.set pVANE VANE.EPOCH (2 * (t + 1) + b2n d.hubB)).set pVANE VANE.FLOOR (t + 1)
    let d := d.modHub fun h => { h with claimed := true }
    (if d.standalone then d else d.set pVANE VANE.STAT_ACTIVE 1, true)

/-- A takeover (R230). -/
def Dev.takeover (d : Dev) : Dev :=
  let (d, ok) := d.claim
  if ok then (d.inc pVANE VANE.TAKECNT_TAKES).irq pVANE VANE.I_TAKEOVER else d

def Dev.setSynced (d : Dev) (b : Bool) : Dev :=
  if d.on pVANE VANE.STAT_SYNCED = b then d
  else (d.set pVANE VANE.STAT_SYNCED (b2n b)).irq pVANE VANE.I_SYNC_CHG

/-- STEP_DOWN (R231), with the term the hub goes on with. -/
def Dev.stepDown (d : Dev) (t : Nat) : Dev :=
  let d := ((d.set pVANE VANE.STAT_ACTIVE 0).setSynced false).modHub fun h => { h with loaded := 0, wasSynced := false }
  let d := (d.set pVANE VANE.EPOCH (2 * t + b2n d.hubB)).inc pVANE VANE.TAKECNT_STEPDNS
  d.irq pVANE VANE.I_STEPDOWN

/-- The hub of a pair sees an epoch. -/
def Dev.sawEpoch (d : Dev) (e : Nat) : Dev :=
  let d := d.sawTerm (e / 2)
  if d.partner.isSome && decide (d.get pVANE VANE.EPOCH < e) && decide (d.ownTerm < e / 2) then d.stepDown (e / 2) else d

/-- HUB_CLAIM (R224). -/
def Dev.hubClaim (d : Dev) : Dev :=
  if d.isCell || d.hub.decided || !d.on pSTRD STRD.STAT_RUN || decide (d.hub.observed < 8) then d
  else if d.standalone then d.claim.1
  else if d.hub.sawOther then (d.modHub fun h => { h with decided := true }).set pVANE VANE.STAT_OBSERVE 0
  else if d.hubB && decide (d.hub.observed < 64) then d
  else d.claim.1

/-- HUBCTL_FORCE (R230). -/
def Dev.hubForce (d : Dev) : Dev :=
  if d.partner.isNone || d.on pVANE VANE.STAT_ACTIVE then d else d.takeover

/-- HUBCTL_STEPDN (R231). -/
def Dev.hubStepdn (d : Dev) : Dev := if d.partner.isNone then d else d.stepDown d.ownTerm

/-! ### The time leader (R219) -/

/-- The mode of TIME under AUTOLEAD; a mode that software writes in the same tick stays (R101). -/
def Dev.leadMode (d : Dev) : Dev :=
  if !d.on pSTRD STRD.CTRL_AUTOLEAD || d.meets.soft.contains (pTIME, TIME.CFG_MODE.off) then d
  else match d.hub.leader with
    | some h =>
      if h = d.get pSTRD STRD.GRPCFG_HUBNUM then
        if d.get pTIME TIME.CFG_MODE = 0 then d else (d.timeModeWrite 0).setHoldover true
      else if d.get pTIME TIME.CFG_MODE = 2 then d else d.timeModeWrite 2
    | none => d

/-- The candidate with the lowest PRIO, then the lowest hub number: (PRIO, hub). -/
def lowest : List (Nat × Nat) → Option Nat
  | [] => none
  | x :: t => some (t.foldl (fun a b => if b.1 < a.1 ∨ (b.1 = a.1 ∧ b.2 < a.2) then b else a) x).2

/-- LEADER_SELECT. The first leader after a reset is chosen at the first record that comes or is missed, among the hubs heard by then,
and stays as R219 has it for a leader. A hub that becomes leader while no hub is capable sets HOLDOVER where AUTOLEAD gives it
TIME (DESIGN CHOICE, entry 20). -/
def Dev.leaderSelect (d : Dev) : Dev :=
  let me := d.get pSTRD STRD.GRPCFG_HUBNUM
  let own := (d.get pSTRD STRD.GRPCFG_PRIO, me)
  let heard := d.hub.peers.filter fun p => decide (3 ≤ p.heard)
  let capable := (if d.on pSTRD STRD.GRPCFG_PTPOK then [own] else []) ++
    (heard.filter Peer.ptpok).map fun p => (p.prio, p.hub)
  let alive (h : Nat) : Bool := h == me || d.hub.peers.any fun p => p.hub == h && decide (p.missed < 3)
  let keep := match d.hub.leader with
    | some h => alive h && decide (d.hub.leadBad < 8)
    | none => false
  let new : Option Nat := if keep then d.hub.leader
    else match lowest capable, d.hub.leader with
      | some h, _ => some h
      | none, some h => if alive h then some h else lowest (own :: heard.map fun p => (p.prio, p.hub))
      | none, none => lowest (own :: heard.map fun p => (p.prio, p.hub))
  let d : Dev := if new == d.hub.leader then d
    else
      let d := if new == some me && capable.isEmpty && d.on pSTRD STRD.CTRL_AUTOLEAD then d.setHoldover true else d
      (d.modHub fun h => { h with leader := new, leadBad := 0 }).irq pSTRD STRD.I_LEADER_CHG
  let h := d.hub.leader.getD 0
  ((d.set pSTRD STRD.STAT_LEADHUB h).set pSTRD STRD.STAT_LEADER (b2n (d.hub.leader == some me))).leadMode

/-! ### Telemetry (R26, R212, R241, R253) -/

/-- A cell on another grid gets the hub's again (R253). -/
def Dev.offGrid (d : Dev) (p m : Nat) (off : Bool) : Dev :=
  let n := if off then (d.posOf m).offIdx + 1 else 0
  if 2 ≤ n then
    (d.modPos m fun x => { x with offIdx := 0 }).mgmtReq p (m % 48) (bitAt (d.get pSTRD (STRD.MAP_FEAT m)) 2) d.gridEntries
  else d.modPos m fun x => { x with offIdx := n }

/-- The time in which a hub observes before its first claim: its grid runs and a strand port is UP (R224). -/
def Dev.observing (d : Dev) : Bool := !d.hub.decided && d.on pSTRD STRD.STAT_RUN && d.strandUp

/-- T_FRAME_RX (R241): a T frame that a hub has received at port `p`; `offSlot`: it came outside its slot. MINSLACK takes no slack
of a cell that reports epoch 0, which has applied no command, and a negative slack as 0 (DESIGN CHOICE, entry 20). -/
def Dev.tFrame (d : Dev) (p : Nat) (f : Frame) (offSlot : Bool) : Dev :=
  let s := d.portStrand p
  let pa := f.src.toNat
  let m := 48 * s + pa
  if !d.strandEn s || decide (d.slen s ≤ pa) then d
  else
    let q := d.posOf m
    let first := !q.a0 && !q.b0
    let here := decide (f.seq.toNat = (d.hub.idx + 65535) % 65536)
    let d := d.modPos m fun x => if d.portEndB p then { x with b0 := true } else { x with a0 := true }
    let d := if here then d.modHub fun h => { h with arrived := (m, d.portEndB p) :: h.arrived.filter (· != (m, d.portEndB p)) }
      else d
    let e := f.mid.toNat
    let d := d.modHub fun h => { h with sawOther := h.sawOther || (d.observing && decide (e ≠ 0)) }
    let d := if d.standalone then d.sawTerm (e / 2) else d.sawEpoch e
    let slack := (clampI (toSigned (fieldBE f.payload 8 2) 16) 0 0x7FFF).toNat
    let d := if e ≠ 0 ∧ slack < d.get pSTRD (STRD.MINSLACK s) then d.hwSet pSTRD (STRD.MINSLACK s) slack else d
    let d := if first then d.offGrid p m (!here || offSlot) else d
    if !d.on pSTRD (STRD.MAP_VALID m) then d
    else
      let n := d.get pSTRD (STRD.MAP_N m)
      let d := d.modIso fun i =>
        let x := assocGet i.tele n ⟨[], none⟩
        let fresh := if x.fresh.isSome || d.hub.teleDone || !here then x.fresh else some f.payload
        { i with tele := assocPut i.tele n ⟨f.payload, fresh⟩ }
      let d := (d.anWhere fun x => x.kind == 1 && x.stream == n).foldl (fun d a =>
        d.anRecord a d.stamp.1 (toBE 2 f.seq.toNat ++ f.payload)) d
      if (d.hub.recov.any fun r => r.1 == n) && fieldBE f.payload 0 1 % 8 == 2 then
        (d.modHub fun h => { h with recov := h.recov.filter fun r => r.1 != n }).irq pSTRD STRD.I_RECOV_DONE
      else d

/-- The other end of a strand hears a position, as the partner's record tells (R212). -/
def Dev.otherEnd (d : Dev) (s p : Nat) : Bool :=
  match d.partner with
  | some i =>
    let x := d.strand s
    let q := d.peer i
    decide (q.missed < 3) && decide (q.hub < 4) &&
      (if d.hubB then x.peerA != 0x3F && decide (p ≤ x.peerA) else x.peerB != 0x3F && decide (x.peerB ≤ p))
  | none => false

/-- The partner commands the cells that it hears: not where this hub is active and the partner is not synced (R233). -/
def Dev.otherServes (d : Dev) : Bool :=
  match d.partner with
  | some i => !d.on pVANE VANE.STAT_ACTIVE || (d.peer i).synced
  | none => false

/-- Heard at the A end and at the B end, before the flags move on. -/
def Dev.heardAt (d : Dev) (s p : Nat) (endB : Bool) : Bool :=
  let q := d.posOf (48 * s + p)
  if d.standalone || d.hubB == endB then (if endB then q.b0 && q.b1 else q.a0 && q.a1) else d.otherEnd s p

/-- The length of the prefix on which a condition holds. -/
def prefixLen (p : Nat → Bool) : Nat → Nat → Nat
  | 0, k => k
  | fuel + 1, k => if p k then prefixLen p fuel (k + 1) else k

/-- The partner's AEND or BEND of a strand, whichever end it holds, and whether a position is heard there (R212). -/
def Dev.peerEnd (d : Dev) (s : Nat) : Nat := if d.hubB then (d.strand s).peerA else (d.strand s).peerB
def Dev.inPeerEnd (d : Dev) (e p : Nat) : Bool := e != 0x3F && (if d.hubB then decide (p ≤ e) else decide (e ≤ p))

/-- The evaluation of one strand (R212): a loss at the partner's end is one that its record shows, as AEND or BEND shrinks. CELL_LOST is also set for cells beyond a break that only an unsynced partner hears, at
their third superframe in a row (R233; DEDUCED, entry 20). -/
def Dev.strandEval (d : Dev) (s : Nat) : Dev :=
  let n := d.slen s
  let ps := List.range n
  let hA := fun p => d.heardAt s p false
  let hB := fun p => d.heardAt s p true
  let heldA := d.standalone || !d.hubB
  let heldB := d.standalone || d.hubB
  let was (p : Nat) (endB : Bool) : Bool :=
    let q := d.posOf (48 * s + p)
    if endB then q.b1 && q.b2 else q.a1 && q.a2
  let broke := ps.any fun p => (heldA && was p false && !hA p) || (heldB && was p true && !hB p) ||
    (d.partner.isSome && d.inPeerEnd (d.strand s).peerWas p && !d.inPeerEnd (d.peerEnd s) p)
  let whole := decide (0 < n) && ps.all fun p => hA p && hB p
  let la := prefixLen hA n 0
  let lb := prefixLen (fun h => hB (n - 1 - h)) n 0
  let ae := if heldA then (if la = 0 then 0x3F else la - 1) else (d.strand s).peerA
  let be := if heldB then (if lb = 0 then 0x3F else n - lb) else (d.strand s).peerB
  let d := (d.set pSTRD (STRD.SSTAT_AEND s) ae).set pSTRD (STRD.SSTAT_BEND s) be
  let d := if broke then
      (((d.set pSTRD (STRD.SSTAT_BRK s) 1).set pSTRD (STRD.SSTAT_INTACT s) 0).err pSTRD STRD.E_BREAK).irq pSTRD STRD.I_BREAK_CHG
    else d
  let count := if whole then (d.strand s).whole + 1 else 0
  let d := if 16 ≤ count then (d.set pSTRD (STRD.SSTAT_BRK s) 0).set pSTRD (STRD.SSTAT_INTACT s) 1 else d
  let gone (p : Nat) : Nat :=
    if !hA p && !hB p then min ((d.posOf (48 * s + p)).gone + 1) 3 else 0
  let cut (p : Nat) : Nat :=
    let own := if d.standalone then hA p || hB p else if d.hubB then hB p else hA p
    if own || (d.otherServes && d.otherEnd s p) then 0 else min ((d.posOf (48 * s + p)).cut + 1) 3
  let lost := ps.any fun p => (gone p == 3 && (d.posOf (48 * s + p)).gone == 2) || (cut p == 3 && (d.posOf (48 * s + p)).cut == 2)
  let d := ps.foldl (fun d p =>
    let g := gone p
    let c := cut p
    d.modPos (48 * s + p) fun q =>
      { q with gone := g, cut := c, a0 := false, a1 := q.a0, a2 := q.a1, b0 := false, b1 := q.b0, b2 := q.b1
               offIdx := if q.a0 || q.b0 then q.offIdx else 0 }) d
  let d := d.errIf lost pSTRD STRD.E_CELL_LOST
  let end_ := d.peerEnd s
  let d := d.modStrand s fun x => { x with whole := min count 16, peerWas := end_ }
  d.set pSTRD (STRD.SSTAT_LOST s) (ps.filter fun p => d.posLost (48 * s + p)).length

/-- The split condition (R232). -/
def Dev.splitEval (d : Dev) : Dev :=
  let quiet (m : Nat) : Bool := let q := d.posOf m; !q.a0 && !q.b0
  let old := d.hub.silent
  let now := (d.mapped.filter fun x => quiet x.2).map fun x => (x.1, min (assocGet old x.1 0 + 1) 3)
  let d := d.modHub fun h => { h with silent := now }
  let missed := match d.partner with
    | some i => decide (3 ≤ (d.peer i).missed)
    | none => false
  if d.on pVANE VANE.STAT_ACTIVE && missed && now.any fun x => x.2 == 3 then
    (d.err pSTRD STRD.E_SPLIT).set pSTRD STRD.STAT_SPLIT 1
  else d

/-- STRAND_SUPERFRAME_EVAL (R212, R25, R232) with the hop delays measured in this superframe, 2^-16 ns. -/
def Dev.superframeEval (d : Dev) (hops : List (List Nat)) : Dev :=
  if d.isCell || !d.on pSTRD STRD.STAT_RUN then d
  else
    let d := d.modHub fun h => { h with hops := hops }
    let d := d.splitEval
    let d := ((List.range 8).filter d.strandEn).foldl (fun d s => d.strandEval s) d
    d.budgetEval

/-! ### The instants of a superframe (R27, R228, R229) -/

/-- The blocks of the mirrored engines (R367). -/
def Dev.leBlock (d : Dev) (n : Nat) : List Byte :=
  let pg := pLE n
  toBE 4 (d.leState n * 256 + n) ++ toBE 12 0 ++
  ((List.range 64).map fun i => toBE 4 (d.get pg (LTH.STATEW i))).flatten ++
  ((List.range 16).map fun s => toBE 4 (d.get pg (LTH.SOUT s))).flatten ++
  ((List.range 4).map fun j => toBE 4 (d.get pg (LTH.SPEFF j))).flatten

def Dev.mirrored (d : Dev) : List Nat := (List.range 8).filter fun n => d.on (pLE n) LTH.CFG_MIRROR

/-- The ISOB section (R251). -/
def Dev.isoSection (d : Dev) : List Byte :=
  toBE 4 (d.get pISOB ISOB.IALPHA) ++ toBE 4 (d.get pISOB ISOB.IBETA) ++
  ((List.range 6).map fun j => toBE 4 (d.get pISOB (ISOB.MASK j))).flatten

/-- A standby takes a block of an engine that is CLOSED and mirrored in both hubs (R367). -/
def Dev.leLoad (d : Dev) (b : List Byte) : Dev :=
  let n := fieldBE b 0 4 % 8
  let pg := pLE n
  if d.leState n = 1 ∧ d.la n LTH.CFG_MIRROR = 1 ∧ fieldBE b 0 4 / 256 % 4 = 1 then
    let d := (List.range 64).foldl (fun d i => d.set pg (LTH.STATEW i) (fieldBE b (16 + 4 * i) 4)) d
    let d := (List.range 16).foldl (fun d s => d.set pg (LTH.SOUT s) (fieldBE b (272 + 4 * s) 4)) d
    (List.range 4).foldl (fun d j => d.set pg (LTH.SPEFF j) (fieldBE b (336 + 4 * j) 4)) d
  else d

/-- A standby loads a state section. -/
def Dev.sectionLoad (d : Dev) (sec : List Byte) : Dev :=
  let blocks := (sec.length - 32) / 352
  let iso := sec.drop (blocks * 352)
  let d := (List.range blocks).foldl (fun d b => d.leLoad ((sec.drop (352 * b)).take 352)) d
  let d := (d.set pISOB ISOB.IALPHA (fieldBE iso 0 4)).set pISOB ISOB.IBETA (fieldBE iso 4 4)
  let d := d.modIso fun i => { i with masks := some ((List.range 6).map fun j => fieldBE iso (8 + 4 * j) 4) }
  let d := d.modHub fun h => { h with loaded := h.loaded + 1 }
  if 4 ≤ d.hub.loaded then d.setSynced true else d

/-- The sampling instant of the superframe in progress, 2^-16 ns (R19). -/
def Dev.sampleAt (d : Dev) : Nat := d.gridT0 + (d.hub.idx - 1) * d.gridTsf + d.gridSo

/-- The loop instant D_L(k) (R27). -/
def Dev.loopDue (d : Dev) : Bool := notAfter ((d.sampleAt + tSamp16) % wrap16) d.now16

/-- Every T frame of this superframe that the hub expects on its ports has arrived, and there is one. -/
def Dev.teleComplete (d : Dev) : Bool :=
  let l := d.heldPorts.flatMap fun x => (d.portCells x.2.1 x.2.2).map fun p => d.hub.arrived.contains (48 * x.2.1 + p, x.2.2)
  !l.isEmpty && l.all id

/-- The telemetry deadline D_T(k) has come, the latest over the ports, or the frames are all in (R27). -/
def Dev.teleDue (d : Dev) : Bool :=
  d.teleComplete || notAfter ((d.sampleAt + tSamp16 + d.teleTT) % wrap16) d.now16

/-- LOOP_INSTANT (R27, R228): D_L(k). -/
def Dev.loopInstant (d : Dev) : Dev :=
  if d.isCell || !d.on pSTRD STRD.STAT_RUN || d.hub.loopAt.isSome || !d.loopDue then d
  else
    let d := match d.partner with
      | some i =>
        match (d.peer i).section_ with
        | some sec =>
          let d := d.modPeer i fun p => { p with section_ := none }
          if d.on pVANE VANE.STAT_ACTIVE then d else d.sectionLoad sec
        | none => d
      | none => d
    let d := (d.modHub fun h => { h with loopAt := some d.ticks }).modIso fun i => { i with ended := 0 }
    d.leTrigLoop

/-- TELEMETRY_DEADLINE (R27, R239): D_T(k), or the last expected T frame is in. Without Isobar, assembly starts. -/
def Dev.telemetryDeadline (d : Dev) : Dev :=
  if d.isCell || !d.on pSTRD STRD.STAT_RUN || d.hub.teleDone || !d.teleDue then d
  else
    let d := d.modHub fun h => { h with teleDone := true }
    if d.on pISOB ISOB.CTRL_EN then d else d.assemble d.hub.idx

/-- LATHE_CHAIN_END: the chain ends (R355), and the loops that Isobar awaits are noted (R237). -/
def Dev.chainEnd (d : Dev) (n : Nat) : Dev :=
  let le := d.leOf n
  let d := d.latheChainEnd n
  if le.run.isSome && le.loop == 3 then
    (d.modLe n fun e => { e with loop := 0 }).modIso fun i => { i with ended := i.ended ||| 2 ^ n }
  else d

/-! ### Commands (R32, R188, R213, R227, R252, R253) -/

/-- The epoch with which this hub sends commands, if it sends any. -/
def Dev.cmdEpoch (d : Dev) : Option Nat :=
  if !d.hub.sending then none
  else match d.partner with
    | none => if d.hub.claimed then some (d.get pVANE VANE.EPOCH) else none
    | some i =>
      if d.on pVANE VANE.STAT_ACTIVE then some (d.get pVANE VANE.EPOCH)
      else if d.on pVANE VANE.STAT_SYNCED then some (d.peer i).epoch else none

/-- The payload of a C frame for the cell at map index `m` (R252). -/
def Dev.cPayload (d : Dev) (m n k ang f : Nat) (valid : Bool) : List Byte :=
  let c := d.cell n
  let dab := d.isoDabblk
  let live := d.on pISOB ISOB.CTRL_EN && !d.iso.still
  let (ann, tsf, so) := match d.hub.ann with
    | some (j, tsf, so) => if k + 2 = j then (2, tsf, so) else if k + 1 = j then (1, tsf, so) else (0, 0, 0)
    | none => (0, 0, 0)
  let ctl := b2n valid * 128 + d.reqst n * 16 + b2n dab * 8 + b2n d.isoNoexp * 4 + ann
  let cfl := b2n (c.respread && live) * 128 + b2n (bitAt c.status 31) * 64 + b2n (bitAt c.status 3) * 32 +
    b2n (bitAt c.status 4) * 16
  let slp := if live && bitAt (d.get pSTRD (STRD.MAP_FEAT m)) 1 then c.slp else 0
  toBE 4 ang ++ toBE 4 f ++ toBE 1 ctl ++ toBE 1 (d.get pISOB (nactFld (n / 64))) ++ toBE 2 tsf ++ toBE 2 so ++
  toBE 3 (c.slotcph % 2 ^ 24) ++ toBE 1 cfl ++ toBE 4 c.mout ++ toBE 4 slp ++ toBE 4 (if dab then 0 else c.pout) ++
  toBE 4 d.iso.vlv ++ (c.appF.map (toBE 4)).flatten ++ toBE 4 0

/-- The C train of one port. -/
def Dev.cTrain (d : Dev) (port s : Nat) (endB : Bool) (ep k ang f : Nat) (valid : Bool) : Dev :=
  (d.servedBy s endB).foldl (fun d p =>
    let m := 48 * s + p
    let n := d.get pSTRD (STRD.MAP_N m)
    if 192 ≤ n then d
    else
      let (src, d) := d.srcAddr port
      let fr := mkFrame 1 0 src p ep (k % 65536) (d.cPayload m n k ang f valid)
      d.ownFrame port (max d.ticks (d.port port).outEnd) fr) d

/-- A recovery goes on for one more commit, or has failed (R222). -/
def Dev.recovStep (d : Dev) : Dev :=
  let failed := d.hub.recov.any fun r => r.2 == 0
  let d := d.modHub fun h => { h with recov := h.recov.filter fun r => r.2 != 0 }
  d.errIf failed pSTRD STRD.E_RECOV_FAIL

/-- The SOF of a command for C(k) leaves a port later than C(k) − t_guard − t_C (R32): the limit takes the longest train after one
break over the ends that the hub holds (DESIGN CHOICE, entry 20). -/
def Dev.sendsLate (d : Dev) (k : Nat) : Bool :=
  d.heldPorts.any fun x =>
    !(d.servedBy x.2.1 x.2.2).isEmpty && !d.outDown x.1 &&
      decide (since (d.commitAt k) (d.now16 + ((d.port x.1).outEnd - d.ticks) * tick16) + (2000 * ns16 + d.worstTC : Nat) > 0)

/-- A C frame really goes out of a port. -/
def Dev.cGoes (d : Dev) : Bool :=
  d.onSyna && d.heldPorts.any fun x => !d.outDown x.1 && d.txRuns x.1 &&
    (d.servedBy x.2.1 x.2.2).any fun p => decide (d.get pSTRD (STRD.MAP_N (48 * x.2.1 + p)) < 192)

/-- COMMAND_RELEASE (R32): the oldest assembly has ended. PRED holds the angle where a command carries it (R152). -/
def Dev.commandRelease (d : Dev) : Dev :=
  match d.hub.pred with
  | [] => d
  | (k, ang, f, valid) :: rest =>
    if d.isCell then d
    else
      let d := (d.modHub fun h => { h with pred := rest, released := max h.released k }).recovStep
      match d.cmdEpoch with
      | none => d.set pSTRD STRD.STAT_SEND_LATE 0
      | some ep =>
        let late := d.sendsLate k
        let d := (d.set pSTRD STRD.STAT_SEND_LATE (b2n late)).irqIf late pSTRD STRD.I_SENDLATE
        let d := if d.cGoes then d.set pSPDL SPDL.PRED ang else d
        let d := d.heldPorts.foldl (fun d x => d.cTrain x.1 x.2.1 x.2.2 ep k ang f valid) d
        d.modHub fun h => { h with recov := h.recov.map fun r => (r.1, r.2 - 1) }

/-- RECOVER_GO (R222). -/
def Dev.recoverGo (d : Dev) (n : Nat) : Dev :=
  if d.isCell then d
  else if (d.mapOf n).isNone then d.err pSTRD STRD.E_CFG_REJ
  else d.modHub fun h => { h with recov := (h.recov.filter fun r => r.1 != n) ++ [(n, 8)] }

/-! ### Peer records (R218 to R220, R228 to R230) -/

/-- The header of this hub's record (R218). -/
def Dev.recordHead (d : Dev) (len : Nat) : List Byte :=
  toBE 4 (d.get pVANE VANE.EPOCH) ++ toBE 4 (d.get pVANE VANE.FLOOR) ++
  toBE 1 (d.get pSTRD STRD.GRPCFG_HUBNUM * 64 + d.get pVANE VANE.STAT_ACTIVE * 32 + d.get pVANE VANE.STAT_SYNCED * 16 +
    b2n d.partner.isSome * 8 + d.get pSTRD STRD.GRPCFG_PTPOK * 4 + d.hub.leader.getD 0 % 4) ++
  toBE 1 (d.get pSTRD STRD.GRPCFG_PRIO) ++ toBE 2 ((d.hub.idx + 65535) % 65536) ++ toBE 2 len ++
  bytes12 d.hgT0 d.timeFlags ++ toBE 4 (d.hgTsf * 65536 + d.hgSo) ++
  ((List.range 8).map fun s => toBE 1 (d.get pSTRD (STRD.SSTAT_AEND s)) ++ toBE 1 (d.get pSTRD (STRD.SSTAT_BEND s))).flatten ++
  toBE 18 0

/-- Bytes cut into payloads of at most 512. -/
def chunks : Nat → List Byte → List (List Byte)
  | 0, _ => []
  | fuel + 1, l => if l.isEmpty then [] else l.take 512 :: chunks fuel (l.drop 512)

/-- The next waiting payload of the record goes out of a peer port, if credit and output allow (R190, R199). -/
def Dev.recordPump (d : Dev) (i : Nat) : Dev :=
  match (d.peer i).out with
  | [] => d
  | bs :: rest =>
    let (f, d) := d.dataFrame (8 + i) 30 bs
    if d.hub.sending && d.strEn (8 + i) 30 && d.creditOk (8 + i) 30 bs.length && d.outFree (8 + i) f then
      (d.modPeer i fun p => { p with out := rest }).dataSend (8 + i) 30 f
    else d

/-- This hub adds the state section on a port (R218). -/
def Dev.addsSection (d : Dev) (i : Nat) : Bool := d.partner == some i && d.on pVANE VANE.STAT_ACTIVE

/-- PEER_RECORD_SEND (R218): D_L(k) + 1 µs. -/
def Dev.recordSend (d : Dev) : Dev :=
  if d.isCell || !d.on pSTRD STRD.STAT_RUN || !d.hub.sending then d
  else
    (List.range 2).foldl (fun d i =>
      if d.linkSt (8 + i) < 2 then d
      else
        let blocks := if d.addsSection i then (d.mirrored.map d.leBlock).flatten else []
        let len := if d.addsSection i then blocks.length + 32 else 0
        let body := d.recordHead len ++ blocks
        let tail := if d.addsSection i && !d.on pISOB ISOB.CTRL_EN then [d.isoSection] else []
        (d.modPeer i fun p => { p with out := p.out ++ chunks 6 body ++ tail }).recordPump i) d

/-- ISOBAR_RUN_END: the run ends and its section of the record is sent (R237, R251). -/
def Dev.isobarRunEnd (d : Dev) : Dev :=
  if d.iso.run.isNone then d
  else
    let d := d.isoEnd
    match d.partner with
    | some i =>
      if d.addsSection i && d.hub.sending && decide (2 ≤ d.linkSt (8 + i)) then
        (d.modPeer i fun p => { p with out := p.out ++ [d.isoSection] }).recordPump i
      else d
    | none => d

/-- The superframe whose record this hub's next loop instant asks for, modulo 2^16 (R218). -/
def Dev.recordDue (d : Dev) : Nat := (d.hub.idx + (if d.hub.loopAt.isSome then 65535 else 65534)) % 65536

/-- PEER_RECORD_RX (R218 to R220): a complete record has arrived on peer port `i`. One of another superframe than the next loop
instant asks for is a record already counted as missed, or one of a hub on another grid: it makes up for no miss and brings
no state section. -/
def Dev.recordRx (d : Dev) (i : Nat) (bs : List Byte) : Dev :=
  if d.isCell || 2 ≤ i || !d.rxRuns (8 + i) || decide (bs.length < 64) then d
  else
    let ep := fieldBE bs 0 4
    let b8 := fieldBE bs 8 1
    let mine := d.partner == some i
    let d := d.sawTerm (fieldBE bs 4 4 % 2 ^ 31)
    let d := d.sawEpoch ep
    let grid := fieldBE bs 26 4
    let differs := d.gridUp &&
      ((timeAt bs 14).1 != d.hgT0 || grid / 65536 % 2 ^ 15 != d.hgTsf || grid % 2 ^ 15 != d.hgSo)
    let d := d.errIf differs pSTRD STRD.E_GRID_MISMATCH
    let len := fieldBE bs 12 2
    let active := bitAt b8 5
    let now := !d.on pSTRD STRD.STAT_RUN || fieldBE bs 10 2 == d.recordDue
    let d := d.modPeer i fun p =>
      { p with
        epoch := ep, term := fieldBE bs 4 4 % 2 ^ 31, hub := b8 / 64, active := active, synced := bitAt b8 4
        pairM := bitAt b8 3, ptpok := bitAt b8 2, leader := b8 % 4, prio := fieldBE bs 9 1 % 16
        came := if now then some (fieldBE bs 10 2) else p.came, missed := if now then 0 else p.missed
        heard := if now then min (p.heard + 1) 3 else p.heard
        section_ := if !now then p.section_
          else if mine && active && decide (32 ≤ len) && bs.length == 64 + len then some (bs.drop 64) else none }
    let d :=
      if mine then
        let d := (List.range 8).foldl (fun d s => d.modStrand s fun x =>
          { x with peerA := fieldBE bs (30 + 2 * s) 1 % 64, peerB := fieldBE bs (31 + 2 * s) 1 % 64 }) d
        (if now then d.set pVANE VANE.STAT_HBMISS 0 else d).modHub fun h =>
          { h with sawOther := h.sawOther || (d.observing && active) }
      else d
    d.leaderSelect

/-- A strand port that is UP delivered a T frame of a mapped cell in the last superframe (R230). -/
def Dev.strandAlive (d : Dev) : Bool :=
  d.mapped.any fun x => (d.strandPorts (x.2 / 48)).any fun e =>
    d.linkSt e.1 == 3 && (if e.2 then (d.posOf x.2).b1 else (d.posOf x.2).a1)

/-- PEER_RECORD_MISS (R218, R230): the record of the last superframe is not complete on a peer port by the loop instant. -/
def Dev.recordMiss (d : Dev) (i : Nat) : Dev :=
  let k := (d.hub.idx + 65534) % 65536
  if d.isCell || 2 ≤ i || !d.on pSTRD STRD.STAT_RUN || !d.loopDue || (d.peer i).came == some k then d
  else
    let d := d.modPeer i fun p => { p with came := some k, missed := p.missed + 1, heard := 0, section_ := none }
    let d :=
      if d.partner = some i then
        let n := (d.peer i).missed
        let d := (d.set pVANE VANE.STAT_HBMISS (min n 3)).modHub fun h =>
          { h with loaded := 0, wasSynced := if n = 1 then d.on pVANE VANE.STAT_SYNCED else h.wasSynced }
        if n ≠ 3 then d
        else if d.on pVANE VANE.STAT_ACTIVE then d.err pSTRD STRD.E_PEER_LOST
        else if d.hub.wasSynced && d.on pVANE VANE.HUBCFG_AUTOTAKE && d.strandAlive then d.takeover
        else d
      else d
    d.leaderSelect

/-! ### Writes -/

/-- Writes of STRD registers (R234, R235). -/
def Dev.strdWrite (d : Dev) (off v : Nat) : Dev :=
  if off = 0x010 then
    let d := ((d.set pSTRD STRD.CTRL_AUTOLEAD (bitsOf v 3 1)).set pSTRD STRD.CTRL_PLAN (bitsOf v 2 1)).set pSTRD
      STRD.CTRL_ENUM (bitsOf v 1 1)
    d.gridRun (bitAt v 0)
  else if off = 0x040 then d.tsfWrite (v % 2 ^ 15)
  else if off = 0x044 then
    let was := d.get pSTRD STRD.SAMPOFS_OFS
    let d := d.set pSTRD STRD.SAMPOFS_OFS v
    if d.get pSTRD STRD.SAMPOFS_OFS = was then d else d.announce
  else if 0x048 ≤ off ∧ off < 0x054 then
    if d.on pSTRD STRD.CTRL_RUN then d.err pSTRD STRD.E_CFG_REJ else d.writeWord pSTRD off v
  else if off = 0x058 then (if bitAt v 31 then d.recoverGo (v % 256) else d)
  else if 0x060 ≤ off ∧ off < 0x080 then
    let n := v % 64
    if n = 0 ∨ (if d.standalone then 48 else 24) < n then d.err pSTRD STRD.E_CFG_REJ else d.writeWord pSTRD off v
  else if 0x800 ≤ off ∧ off < 0x820 then
    if v % 2 ^ 15 = 0 then d.set pSTRD (STRD.MINSLACK ((off - 0x800) / 4)) 0x7FFF else d.writeWord pSTRD off v
  else if 0x900 ≤ off ∧ off < 0xF00 then d.mapWrite ((off - 0x900) / 4) v
  else d.writeWord pSTRD off v

/-- A write of HUBCTL (R236). -/
def Dev.hubctl (d : Dev) (v : Nat) : Dev :=
  let d := if bitAt v 0 then d.hubForce else d
  if bitAt v 1 then d.hubStepdn else d

/-- Writes of VANE registers (R236); POS comes only from management frames (R210). -/
def Dev.vaneWrite (d : Dev) (off v : Nat) : Dev :=
  if off = 0x040 then d
  else if 0x044 ≤ off ∧ off < 0x058 then (if d.isHub then d else d.writeWord pVANE off v)
  else if off = 0x058 then (if bitAt v 31 then d.gridGo else d)
  else if off = 0x070 then (if d.partner.isNone then d else d.writeWord pVANE off v)
  else if off = 0x074 then d.hubctl v
  else if off = 0x830 then (if d.isCell && bitAt v 0 then d.vaneCntclr else d)
  else d.writeWord pVANE off v

end Sys2Proof.Machine
end

