-- ==== Sys2Proof/Machine/Cores.lean ====
section
/-! DEFINITION. What the processors' side does as a block (chapter 20): the interrupt controller (R440, R441), sleep
(R439), lockstep and memory errors (R438), the DDR4 controller and its window (R112, R447 to R449) and debug access
(R457). The instructions of the cores are not commands of this block. -/

namespace Sys2Proof.Machine

/-! ### Interrupts (R440, R441) -/

/-- The pages whose lines are the sources 0 to 55, in order. -/
def irqPages : List Nat :=
  [pSYSC, pSYNA, pSYNB, pCKSW, pFCOL, pTHRM, pTSTK, pINTC, pDMA, pCALS, pTIME, pSPDL] ++
  (List.range 10).map pLINK ++ [pSTRD, pVANE, pISOB, pPWMC] ++ (List.range 7).map pPWMU ++
  [pGCH, pMOTR, pSQL, pADC 0, pADC 1] ++ (List.range 8).map pLE ++
  [pETH 0, pETH 1, pDDRC, pANMG, pQSPI, pUART 0, pUART 1, pI2C, pSPI, pGPIO]

/-- A source is pending (R440). -/
def Dev.irqPending (d : Dev) (s : Nat) : Bool :=
  if s < 56 then
    match irqPages[s]? with
    | some pg => d.get pg HDR.IRQFLG &&& d.get pg HDR.IRQEN != 0
    | none => false
  else if s < 80 then d.bit pGPIO GPIO.EDGEFLG (s - 56)
  else if s < 88 then d.bit pINTC INTC.SWI (s - 80)
  else if s < 104 then bitAt d.soc.dmaIrq (s - 88)
  else false

/-- A source is enabled for a pair. -/
def Dev.irqFor (d : Dev) (p s : Nat) : Bool :=
  d.on pINTC (if p = 0 then INTC.SRCCFG_TGT0 s else INTC.SRCCFG_TGT1 s)

/-- The sources that interrupt a pair: pending, enabled for it, above its threshold, not masked. -/
def Dev.irqActive (d : Dev) (p s : Nat) : Bool :=
  d.irqFor p s && decide (d.get pINTC (INTC.THRESH p) < d.get pINTC (INTC.SRCCFG_PRIO s)) &&
  !bitAt (d.soc.masked.getD p 0) s && d.irqPending s

/-- The source a claim returns: the highest priority, the lower number winning a tie. -/
def Dev.irqBest (d : Dev) (p : Nat) : Option Nat :=
  ((List.range 104).filter (d.irqActive p)).foldl (fun b s => match b with
    | some t => if d.get pINTC (INTC.SRCCFG_PRIO t) < d.get pINTC (INTC.SRCCFG_PRIO s) then some s else b
    | none => some s) none

/-- INTC_CLAIM (R441): a read of CLAIMp. -/
def Dev.claimRead (d : Dev) (p : Nat) : Dev :=
  let d := d.modSoc fun x => { x with wfi := modNth x.wfi p fun _ => false }
  match d.irqBest p with
  | none => d.answer 0x100
  | some s => (d.modSoc fun x => { x with masked := modNth x.masked p fun m => m ||| 2 ^ s }).answer s

/-- INTC_COMPLETE (R441): a write of CLAIMp. -/
def Dev.claimWrite (d : Dev) (p s : Nat) : Dev :=
  if 256 ≤ s then d
  else d.modSoc fun x => { x with masked := modNth x.masked p fun m => m - (if bitAt m s then 2 ^ s else 0) }

/-- A word of PEND. -/
def Dev.pendWord (d : Dev) (w : Nat) : Nat :=
  (List.range 32).foldl (fun a j => if d.irqPending (32 * w + j) then a + 2 ^ j else a) 0

/-! ### Sleep (R439) -/

/-- An interrupt enabled for a pair is pending, or the non-maskable one is. -/
def Dev.wakes (d : Dev) (p : Nat) : Bool :=
  d.bit pFCOL HDR.IRQFLG FCOL.I_FATAL || (List.range 104).any fun s => d.irqFor p s && d.irqPending s

/-- STOP is refused: a port is enabled, or a cell is in PRECHARGE, STANDBY or RUN. -/
def Dev.stopRefused (d : Dev) : Bool :=
  (List.range 10).any (fun p => !d.absent (pLINK p) && d.on (pLINK p) LINK.PCFG_EN) ||
  (d.isHub && [0, 1].any fun n => d.on (pETH n) ETH.MACCTL_RXEN || d.on (pETH n) ETH.MACCTL_TXEN) ||
  (d.isCell && decide (1 ≤ d.get pSYSC SYSC.CELLSTATE_STATE) && decide (d.get pSYSC SYSC.CELLSTATE_STATE ≤ 3))

/-- A synthesizer is disabled. -/
def Dev.synDisable (d : Dev) (n : Nat) : Dev :=
  if d.absent (pSYN n) then d
  else
    let d := if n = 1 ∧ !d.on pSYNB SYN.LOCKSTAT_GATED then d.synbOff else d
    ((d.synGate n).set (pSYN n) SYN.CFG_EN 0).set (pSYN n) SYN.LOCKSTAT_PHASE 0

/-- STOP is entered; what requested a wake before that is past. -/
def Dev.stopEnter (d : Dev) : Dev :=
  let d := (d.goBypass).set pCKSW CKSW.CKSTAT_SRC 2
  ({ (d.synDisable 0).synDisable 1 with wake := false }).modSoc fun x => { x with stop := true }

/-- With both pairs in WFI and SLEEPCFG.STOP = 1, STOP is entered or refused. -/
def Dev.stopTry (d : Dev) : Dev :=
  if d.soc.wfi.all id && !d.wakes 0 && !d.wakes 1 && d.on pINTC INTC.SLEEPCFG_STOP then
    if d.stopRefused then d.raise pINTC INTC.SLEEPCFG_REJ 0 else d.stopEnter
  else d

/-- WFI (R439): a core pair waits. -/
def Dev.wfi (d : Dev) (p : Nat) : Dev :=
  if d.soc.stop || d.wakes p || (p == 1 && !d.on pSYSC SYSC.RELEASE_CPU1) then d
  else (d.modSoc fun x => { x with wfi := modNth x.wfi p fun _ => true }).stopTry

/-- A pair that waits in WFI goes on when an interrupt enabled for it is pending. -/
def Dev.pairsWake (d : Dev) : Dev :=
  if d.soc.stop || !d.soc.wfi.any id then d
  else d.modSoc fun x => { x with wfi := [0, 1].map fun p => x.wfi.getD p false && !d.wakes p }

/-- STOP_WAKE (R439): by a Squall wake (0), a TCAP edge (1) or an enabled GPIO interrupt (2). -/
def Dev.stopWake (d : Dev) (cause : Nat) : Dev :=
  let real := match cause with
    | 0 => d.wake
    | 1 => true
    | _ => (List.range 25).any fun k =>
        let s := if k = 24 then 55 else 56 + k
        (d.irqFor 0 s || d.irqFor 1 s) && d.irqPending s
  if !d.soc.stop || !real then d
  else
    let d := { d with wake := false }.modSoc fun x => { x with stop := false, wfi := [false, false] }
    (d.set pSYNA SYN.CFG_EN 1).relock 0

/-- Writes of INTC registers (R459). -/
def Dev.intcWrite (d : Dev) (off v : Nat) : Dev :=
  if off = 0x804 then d.claimWrite 0 (bitsOf v 0 9)
  else if off = 0x80C then d.claimWrite 1 (bitsOf v 0 9)
  else
    let d := d.writeWord pINTC off v
    if off = INTC.SLEEPCFG_STOP.off then d.stopTry else d

/-! ### Lockstep and memory errors (R438) -/

/-- LOCKSTEP_ERROR. -/
def Dev.lockstep (d : Dev) (p : Nat) : Dev := if p = 0 then d.coreErr 6 0 3 else d.coreErr 7 0 2

/-- MEMORY_ECC_ERROR in the TCM of a pair. -/
def Dev.tcmEcc (d : Dev) (p : Nat) (double : Bool) : Dev :=
  let d := if p = 0 then d.romUe double else d
  if p = 0 then (if double then d.coreErr 6 2 3 else d.coreErr 6 1 1)
  else if double then d.coreErr 7 2 2 else d.coreErr 7 1 1

/-- A word of a block memory is lost (R438): a free value stands in it. An entry of CALSTORE has lost its word, and one of
the record ring too. -/
def Dev.blkLose (d : Dev) (addr : Nat) : Dev :=
  let (x, d) := d.free
  let v := x % 2 ^ 32
  let off := addr % 65536
  match (addr - 0x48000000) / 65536 with
  | 0 => if d.isCell then d else d.isoLose off v
  | 1 => { d with fcol := { d.fcol with lost := (off / 4, v) :: d.fcol.lost.filter fun x => x.1 != off / 4 } }
  | 2 => if d.isCell || decide (0x8000 ≤ off) then d else d.anLose (off / 64) (off % 64 / 4) v
  | _ =>
    let e := off % 4096 / 32
    let lose (st : List (Nat × List Nat)) : List (Nat × List Nat) :=
      calPut st e (modNth (calEntry st e) (off % 32 / 4) fun _ => v)
    { d with calstore := lose d.calstore }

/-- MEMORY_ECC_ERROR in shared SRAM or in a block memory. -/
def Dev.memEcc (d : Dev) (blk double : Bool) (addr : Nat) : Dev :=
  if double && !blk then (d.sramUe addr).busErr
  else
    let d := (d.coreErr 8 (2 * b2n blk + b2n double) (if double then 2 else 1)).set pINTC INTC.MEMADDR addr
    if double && decide (0x48000000 ≤ addr) && decide (addr < 0x48040000) then d.blkLose addr else d

/-! ### The DDR4 controller (R112, R447 to R449) -/

/-- DDR_INIT_GO: the reset and initialisation sequence begins; without SYNB's clock nothing runs (R95). -/
def Dev.ddrInit (d : Dev) : Dev :=
  if !d.ethClock then d
  else { (d.set pDDRC DDRC.STAT_READY 0).set pDDRC DDRC.STAT_TRAINING 1 with
    pins := { d.pins with ddrRstN := .high, ddrCke := .high } }.modSoc fun s => { s with wipe := some false }

/-- DDR_INIT_DONE. -/
def Dev.ddrDone (d : Dev) (ok : Bool) : Dev :=
  if !d.on pDDRC DDRC.STAT_TRAINING then d
  else
    let d := d.set pDDRC DDRC.STAT_TRAINING 0
    if ok then d.set pDDRC DDRC.STAT_READY 1 else d.err pDDRC DDRC.E_TRAIN_FAIL

/-- An error that the DRAM's check bits show at an address (R448); answers whether the data is lost. -/
def Dev.ddrEcc (d : Dev) (addr : Nat) (ecc : Option Bool) : Bool × Dev :=
  match ecc with
  | some double =>
    if !d.on pDDRC DDRC.CFG_ECCEN then (false, d)
    else
      let d := (d.set pDDRC DDRC.ECCADDRLO addr).set pDDRC DDRC.ECCADDRHI (addr / 2 ^ 32)
      if double then (true, d.err pDDRC DDRC.E_ECC_UE)
      else (false, (d.inc pDDRC DDRC.CECNT).err pDDRC DDRC.E_ECC_CE)
  | none => (false, d)

/-- DDR_PATROL_SCRUB (R448): a burst is read; `ecc` says whether it shows a double-bit error or a single-bit one. -/
def Dev.ddrScrub (d : Dev) (addr : Nat) (ecc : Option Bool) : Dev :=
  if d.on pDDRC DDRC.STAT_READY && d.on pDDRC DDRC.CFG_ECCEN && d.on pDDRC DDRC.SCRUB_IVL then (d.ddrEcc addr ecc).2 else d

/-- The DRAM byte that a window address reaches (R112). -/
def Dev.windowAt (d : Dev) (addr : Nat) : Nat := d.get pDDRC DDRC.WINBASE_BASE * 2 ^ 28 + (addr - 0x80000000)

/-- DDR_WINDOW_ACCESS (R112, R114, R448): `len` bytes at a window address, read or written. -/
def Dev.ddrWindow (m : Mems) (d : Dev) (addr len : Nat) (write : Option Nat) (ecc : Option Bool) : Dev :=
  let a := d.windowAt addr
  if d.isCell then d.busErr
  else if d.dramSize < a + len then (d.err pDDRC DDRC.E_WIN_RANGE).busErr
  else if !d.on pDDRC DDRC.STAT_READY then d.busErr
  else
    let (lost, d) := d.ddrEcc a ecc
    if lost then d.busErr
    else match write with
      | some v => { d.store .dram a (toLE len v) with reply := none }
      | none => d.answer (leNat (m.bytes .dram a len))

/-- PAR_ALERT (R447, R459). -/
def Dev.parAlert (d : Dev) : Dev := if d.on pDDRC DDRC.CFG_PAREN then d.err pDDRC DDRC.E_PAR_ALERT else d

/-- Writes of DDRC registers (R112, R449, R459). -/
def Dev.ddrcWrite (d : Dev) (off v : Nat) : Dev :=
  if off = 0x800 then (if bitAt v 31 then d.ddrInit else d) else d.writeWord pDDRC off v

/-! ### Debug access (R457) -/

/-- What the TAP does with an instruction (R457). -/
inductive TapInstr where
  | extest | idcode | sample | challenge | response | debug | bypass
  deriving DecidableEq, Repr

/-- The instruction that acts for a word of the 5-bit instruction register: EXTEST and DEBUG only once unlocked, any other
word as BYPASS. -/
def Dev.tapInstr (d : Dev) (ir : Nat) : TapInstr :=
  match ir with
  | 0x01 => .idcode
  | 0x02 => .sample
  | 0x10 => .challenge
  | 0x11 => if 3 ≤ d.soc.tapFails then .bypass else .response
  | 0x00 => if d.soc.unlocked then .extest else .bypass
  | 0x12 => if d.soc.unlocked then .debug else .bypass
  | _ => .bypass

/-- TAP_RESET: the TAP controller alone; its instruction is IDCODE. -/
def Dev.tapReset (d : Dev) : Dev := d.modSoc fun x => { x with tapIr := 0x01 }

/-- TAP_CHALLENGE: 32 fresh bytes. -/
def Dev.tapChallenge (d : Dev) : Dev :=
  let (x, d) := d.free
  let bs := toLE 32 x
  (d.modSoc fun s => { s with tapIr := 0x10, challenge := some bs }).send (.challenge bs)

/-- A scan of an instruction of the register. IDCODE shifts out the identity code and BYPASS one bit. The boundary cells that
SAMPLE/PRELOAD and EXTEST shift out are listed nowhere: a free value of a free length (entry 37). What DEBUG reaches arrives as
accesses, and what RESPONSE takes comes with its key. -/
def Dev.tapScan (d : Dev) (ir : Nat) : Dev :=
  let d := d.modSoc fun s => { s with tapIr := ir }
  match d.tapInstr ir with
  | .idcode => d.send (.tap 0x101924C5 32)
  | .bypass => d.send (.tap 0 1)
  | .sample | .extest =>
    let (x, d) := d.free
    let (n, d) := d.free
    d.send (.tap x n)
  | .challenge => d.tapChallenge
  | .response | .debug => d

/-- TAP_RESPONSE: a public key and a signature over SHA-256 of the challenge and the UID. -/
def Dev.tapResponse (d : Dev) (key sig : List Byte) : Dev :=
  if 3 ≤ d.soc.tapFails then d
  else
    let ok := match d.soc.challenge with
      | some c => Config.trustedKey key && Config.ecdsaOk key (Config.sha256 (c ++ toBE 8 Config.uid.toNat)) sig
      | none => false
    d.modSoc fun s => { s with tapIr := 0x11, challenge := none, unlocked := s.unlocked || ok
                               tapFails := if ok then s.tapFails else s.tapFails + 1 }

end Sys2Proof.Machine
end

