-- ==== Sys2Proof/Machine/Motor.lean ====
section
/-! DEFINITION. MOTR (chapter 18, R406 to R418): six-step commutation of legs 3 to 5 without a position sensor. -/

namespace Sys2Proof.Machine

def Dev.modMotr (d : Dev) (f : Motr → Motr) : Dev := { d with motr := f d.motr }
def Dev.motrState (d : Dev) : Nat := d.get pMOTR MOTR.MSTAT_STATE

/-- The phases in DRIVE, LOWON and OFF in a step; phases a, b, c are 0, 1, 2 (R407). -/
def stepLegs (s : Nat) : Nat × Nat × Nat :=
  if s = 0 then (0, 1, 2) else if s = 1 then (0, 2, 1) else if s = 2 then (1, 2, 0)
  else if s = 3 then (1, 0, 2) else if s = 4 then (2, 0, 1) else (2, 1, 0)

/-- The floating phase of a step. -/
def floating (s : Nat) : Nat := (stepLegs s).2.2

/-- The step in whose floating phase the back-EMF crosses upward (or downward) in a direction: the phase rises where
the next step drives it. -/
def stepOf (phase : Nat) (rising reverse : Bool) : Nat :=
  let next (s : Nat) := if reverse then (s + 5) % 6 else (s + 1) % 6
  ((List.range 6).find? fun s => floating s == phase && ((stepLegs (next s)).1 == phase) == rising).getD 0

/-- The mode of a motor phase in the present state (R406, R414). -/
def Dev.legWant (d : Dev) (ph : Nat) : LegMode :=
  if !d.on pMOTR MOTR.CTRL_EN then .drive
  else if d.motr.susp then .off
  else
    let st := d.motrState
    let (a, b, _) := stepLegs (d.get pMOTR MOTR.MSTAT_STEP)
    if st = 2 ∨ st = 3 ∨ st = 4 then (if ph = a then .drive else if ph = b then .lowOn else .off)
    else if st = 5 then (if d.motr.obs then .off else .lowOn)
    else .off

/-- Set one leg: an output that the change raises rises after the dead time of its unit, the others fall (R406). -/
def Dev.legSet (d : Dev) (ph : Nat) : Dev :=
  let m := 3 + ph
  let l := d.motr.legs.getD ph leg0
  let mode := d.legWant ph
  if l.mode = mode then d
  else
    let a0 := d.outSeen m false
    let b0 := d.outSeen m true
    let a1 := mode == .drive && (d.unit m).outA
    let b1 := (mode == .drive && (d.unit m).outB) || mode == .lowOn
    let up (was now : Bool) (dt : Nat) : Option Nat := if now && !was then some (d.now16 + dt * fine16) else none
    let l' : Leg := ⟨mode, up a0 a1 (d.dta m), up b0 b1 (d.dtb m)⟩
    (d.modMotr fun t => { t with legs := modNth t.legs ph fun _ => l' }).gateSeeOut m

/-- The legs follow the state and the step. -/
def Dev.legsSet (d : Dev) : Dev := (List.range 3).foldl Dev.legSet d

/-- BRKTIME while MOTR brakes: the ms that the ticks have counted since BRAKE was entered, and at least those of the phases
that have ended (R410). -/
def Dev.brakeNow (d : Dev) : Nat := max d.motr.brk ((d.ns - d.motr.brkAt) / 1000000)

/-- BRKTIME takes the present count, up to BRKMAX. -/
def Dev.brakeStore (d : Dev) : Dev := d.set pMOTR MOTR.BRKTIME (min (min (d.get pMOTR MOTR.BRAKE_BRKMAX * 100) d.brakeNow) 65535)

/-- BRAKE is left, or suspended: BRKTIME keeps what it has counted (R410, R414). -/
def Dev.brakeKeep (d : Dev) : Dev := if d.motrState = 5 ∧ !d.motr.susp then d.brakeStore else d

/-- Enter a state of the R414 table. -/
def Dev.motrTo (d : Dev) (st : Nat) : Dev :=
  let d := d.brakeKeep
  let d := (d.irqIf (st != d.motrState) pMOTR MOTR.I_STATE_CHG).set pMOTR MOTR.MSTAT_STATE st
  let d := d.modMotr fun t => { t with obs := false, sched := false, misses := 0 }
  let d := if st = 1 then d.modMotr fun t => { t with last := none, run := (false, 0, 0), best := none } else d
  let d := if st = 5 then ((d.inc pMOTR MOTR.CNT_BRAKES).set pMOTR MOTR.BRKTIME 0).modMotr fun t =>
      { t with brk := 0, brkAt := d.ns }
    else d
  d.legsSet

/-- FAULT with its error. -/
def Dev.motrFault (d : Dev) (bit : Nat) : Dev := (d.err pMOTR bit).motrTo 6

/-- The DUTY of PWMU3 to PWMU5 with a load under R271 (R411, R412). -/
def Dev.motrDuty (d : Dev) (f : Nat → Nat) : Dev :=
  (List.range 3).foldl (fun d k =>
    let d := d.giveShadow (pPWMU (3 + k)) PWMU.DUTY (f (d.inForce (pPWMU (3 + k)) PWMU.PER))
    d.pwmLoad (3 + k) (d.now16 / tick16 * tick16) none) d

/-- The Squall channel of a phase. -/
def Dev.phaseSq (d : Dev) (ph : Nat) : Nat :=
  d.get pMOTR (if ph = 0 then MOTR.CFG_SQA else if ph = 1 then MOTR.CFG_SQB else MOTR.CFG_SQC)

/-- A leg of the motor holds a fault latch (R303). -/
def Dev.motrLatched (d : Dev) : Bool :=
  (List.range 3).any fun k => d.legLatched (3 + k) || d.chLatched (6 + 2 * k) || d.chLatched (7 + 2 * k)

/-- R408: a START is refused. -/
def Dev.startRefused (d : Dev) : Bool :=
  let sq := (List.range 3).map d.phaseSq
  !d.on pMOTR MOTR.CTRL_EN ||
  ((List.range 3).any fun k => !d.on (pPWMU (3 + k)) PWMU.CTRL_EN || d.pwmMode (3 + k) != 1) ||
  ((List.range 6).any fun k => d.get pGCH (GCH.CHCFG_SRC (6 + k)) != 6 + k) ||
  sq.getD 0 0 == sq.getD 1 0 || sq.getD 0 0 == sq.getD 2 0 || sq.getD 1 0 == sq.getD 2 0 ||
  (sq.any fun q => d.get pSQL (SQL.SQCFG_FUNC q) != 1) ||
  d.get pMOTR MOTR.RATED == 0 || d.get pMOTR MOTR.RAMPF_FSTART == 0 ||
  decide (d.get pMOTR MOTR.RAMPF_FHAND < d.get pMOTR MOTR.RAMPF_FSTART) || d.motrLatched

/-- MOTR_START (R408, R413). -/
def Dev.motrStart (d : Dev) (dir : Nat) : Dev :=
  if d.isCell then d
  else if d.startRefused then d.err pMOTR MOTR.E_CFG_REJ
  else
    let turn := d.get pMOTR MOTR.MSTAT_TDIR != dir % 2
    let d := ((d.set pMOTR MOTR.MSTAT_TDIR dir).set pMOTR MOTR.MSTAT_TRUN 1).inc pMOTR MOTR.CNT_STARTS
    let st := d.motrState
    if st = 0 ∨ st = 6 then d.motrTo 1
    else if turn ∧ 2 ≤ st ∧ st ≤ 4 then d.motrTo 5
    else d

/-- MOTR_STOP (R413). -/
def Dev.motrStop (d : Dev) : Dev :=
  if d.isCell then d
  else
    let d := d.set pMOTR MOTR.MSTAT_TRUN 0
    let st := d.motrState
    if st = 1 then d.motrTo 0 else if 2 ≤ st ∧ st ≤ 4 then d.motrTo 5 else d

/-- The frequency of `n` intervals in `us` µs is at least `pct` percent of RATED. -/
def Dev.fAtLeast (d : Dev) (n us pct : Nat) : Bool :=
  decide (6 * us * d.get pMOTR MOTR.RATED * pct ≤ 10000000 * n * 100)

/-- f in 0.1 Hz of `n` step intervals in `us` µs, rounded to nearest. -/
def freqOf (n us : Nat) : Nat := min 65535 ((10000000 * n + 3 * us) / max 1 (6 * us))

/-- A phase of `ms` ends in BRAKE; true when BRKMAX is reached (R410). -/
def Dev.brakeTime (d : Dev) (ms : Nat) : Dev × Bool :=
  let lim := d.get pMOTR MOTR.BRAKE_BRKMAX * 100
  let d := d.modMotr fun t => { t with brk := t.brk + ms }
  (d.brakeStore, decide (lim ≤ d.brakeNow))

/-- What the window has observed, into ODIR, OVALID and SPEED. -/
def Dev.motrObserve (d : Dev) : Dev :=
  match d.motr.best with
  | some (dir, n, us) =>
    ((d.set pMOTR MOTR.MSTAT_ODIR (b2n dir)).set pMOTR MOTR.MSTAT_OVALID 1).set pMOTR MOTR.SPEED (freqOf (n - 1) us)
  | none => d.set pMOTR MOTR.MSTAT_OVALID 0

/-- Enter ALIGN (R411). -/
def Dev.motrAlign (d : Dev) : Dev :=
  ((d.set pMOTR MOTR.MSTAT_STEP 0).motrTo 2).motrDuty fun per => d.get pMOTR MOTR.ALIGN_ADUTY * per / 65536

/-- RUN by catching a rotation of `n` intervals in `us` µs (R412). -/
def Dev.motrCatch (d : Dev) (dir : Bool) (n us : Nat) : Dev :=
  let step := match d.motr.last with
    | some (ph, rising) => stepOf ph rising dir
    | none => 0
  let d := ((d.set pMOTR MOTR.MSTAT_STEP step).set pMOTR MOTR.STEPIVL (min (us / n) (2 ^ 20 - 1))).motrTo 4
  let d := (d.inc pMOTR MOTR.CNT_CATCH).modMotr fun t => { t with sched := true }
  let den := 6 * us * d.get pMOTR MOTR.RATED
  d.motrDuty fun per => if den = 0 then per else min per ((2 * per * 10000000 * n + den) / (2 * den))

/-- MOTR_WATCH_END: the observation window of WATCH, or of BRAKE, ends (R409, R410). -/
def Dev.motrWatchEnd (d : Dev) : Dev :=
  let st := d.motrState
  if d.motr.susp then d
  else if st = 1 then
    let d := d.motrObserve
    let tdir := d.on pMOTR MOTR.MSTAT_TDIR
    match d.motr.best with
    | some (dir, n, us) =>
      if dir = tdir ∧ d.fAtLeast (n - 1) us 5 then d.motrCatch dir (n - 1) us
      else if d.fAtLeast (n - 1) us 2 then d.motrTo 5
      else d.motrAlign
    | none => d.motrAlign
  else if st = 5 ∧ d.motr.obs then
    let (d, late) := (d.motrObserve).brakeTime (d.get pMOTR MOTR.OBSWIN)
    if late then d.motrFault MOTR.E_BRAKE_TMO
    else
      let fast := match d.motr.best with
        | some (_, n, us) => d.fAtLeast (n - 1) us 2
        | none => false
      if fast then (d.modMotr fun t => { t with obs := false }).legsSet
      else if d.on pMOTR MOTR.MSTAT_TRUN then d.motrAlign else d.motrTo 0
  else d

/-- MOTR_BRAKE_END: BRKON expires, or BRKMAX is reached (R410). -/
def Dev.motrBrakeEnd (d : Dev) : Dev :=
  if d.motr.susp || d.motrState != 5 then d
  else if d.motr.obs then
    let (d1, late) := d.brakeTime 0
    if late then d1.motrFault MOTR.E_BRAKE_TMO else d
  else
    let (d, late) := d.brakeTime (d.get pMOTR MOTR.BRAKE_BRKON)
    if late then d.motrFault MOTR.E_BRAKE_TMO
    else (d.modMotr fun t => { t with obs := true, last := none, run := (false, 0, 0), best := none }).legsSet

/-- MOTR_ALIGN_END (R411). -/
def Dev.motrAlignEnd (d : Dev) : Dev :=
  if d.motr.susp || d.motrState != 2 then d
  else
    let d := (d.motrTo 3).modMotr fun t => { t with ramp := 0, streak := 0, crossed := false }
    d.motrDuty fun per => d.get pMOTR MOTR.RAMPT_RDUTY * per / 65536

/-- The step interval of the ramp in µs (R411). -/
def Dev.rampIvl (d : Dev) : Nat :=
  let f0 := d.get pMOTR MOTR.RAMPF_FSTART
  let f1 := d.get pMOTR MOTR.RAMPF_FHAND
  let t := d.get pMOTR MOTR.RAMPT_RAMPT * 1000
  let f := if t ≤ d.motr.ramp then f1 else f0 + (f1 - f0) * d.motr.ramp / t
  10000000 / max 1 (6 * f)

/-- The next step in the direction of the target. -/
def Dev.motrNext (d : Dev) : Dev :=
  let s := d.get pMOTR MOTR.MSTAT_STEP
  let s := if d.on pMOTR MOTR.MSTAT_TDIR then (s + 5) % 6 else (s + 1) % 6
  ((d.set pMOTR MOTR.MSTAT_STEP s).modMotr fun t => { t with crossed := false, sched := false }).legsSet

/-- MOTR_COMMUTATE: a commutation instant, `us` µs after the last (R411, R412). -/
def Dev.motrCommutate (d : Dev) (us : Nat) : Dev :=
  if d.motr.susp then d
  else if d.motrState = 3 then
    (d.modMotr fun t => { t with ramp := t.ramp + us, streak := if t.crossed then t.streak + 1 else 0 }).motrNext
  else if d.motrState = 4 ∧ d.motr.sched then d.motrNext
  else d

/-- A measured step interval. -/
def Dev.motrIvl (d : Dev) (us : Nat) : Dev :=
  (d.set pMOTR MOTR.STEPIVL (min us (2 ^ 20 - 1))).set pMOTR MOTR.SPEED (freqOf 1 us)

/-- A crossing in an observation window (R409). -/
def Dev.motrRecord (d : Dev) (ph us : Nat) : Dev :=
  let rising := d.sqOut (d.phaseSq ph)
  d.modMotr fun t =>
    let fwd := t.last.any fun p => ph == (p.1 + 2) % 3
    let rev := t.last.any fun p => ph == (p.1 + 1) % 3
    let run := if !fwd && !rev then (false, 1, 0)
      else if 2 ≤ t.run.2.1 && t.run.1 == rev then (rev, t.run.2.1 + 1, t.run.2.2 + us)
      else (rev, 2, us)
    { t with last := some (ph, rising), run := run, best := if 3 ≤ run.2.1 then some run else t.best }

/-- MOTR_ZERO_CROSSING: phase, µs since the last crossing, µs since the last commutation (R407, R409, R411, R412). -/
def Dev.motrCrossing (d : Dev) (ph us inStep : Nat) : Dev :=
  let st := d.motrState
  let fl := floating (d.get pMOTR MOTR.MSTAT_STEP) == ph
  let within (ivl : Nat) : Bool := decide (ivl ≤ 4 * inStep) && decide (4 * inStep ≤ 3 * ivl)
  if d.motr.susp || !d.on pMOTR MOTR.CTRL_EN then d
  else if st = 1 ∨ (st = 5 ∧ d.motr.obs) then d.motrRecord ph us
  else if st = 3 ∧ fl ∧ within d.rampIvl then
    let d := d.motrIvl us
    if 6 ≤ d.motr.streak then (d.motrTo 4).modMotr fun t => { t with sched := true }
    else d.modMotr fun t => { t with crossed := true }
  else if st = 4 ∧ fl ∧ !d.motr.sched ∧ within (d.get pMOTR MOTR.STEPIVL) then
    (d.motrIvl us).modMotr fun t => { t with sched := true, misses := 0 }
  else d

/-- MOTR_CROSSING_TIMEOUT (R412). -/
def Dev.motrMiss (d : Dev) : Dev :=
  if d.motr.susp || d.motrState != 4 || d.motr.sched then d
  else
    let n := d.motr.misses + 1
    let d := d.modMotr fun t => { t with misses := n }
    if 3 ≤ n then ((d.err pMOTR MOTR.E_LOST_SYNC).inc pMOTR MOTR.CNT_RESYNC).motrTo 1 else d.motrNext

/-- MOTR_STALL (R411). -/
def Dev.motrStall (d : Dev) : Dev :=
  if d.motr.susp || d.motrState != 3 then d else d.motrFault MOTR.E_STALL

/-- MOTR_ENABLE_WRITE (R406, R417). -/
def Dev.motrEnable (d : Dev) (v : Nat) : Dev :=
  if d.isCell then d
  else
    let d := d.set pMOTR MOTR.CTRL_EN (MOTR.CTRL_EN.pick v)
    if d.on pMOTR MOTR.CTRL_EN then d.legsSet else (d.motrTo 0).modMotr fun t => { t with susp := false }

/-- A leg of bridge 1 latches a fault that it did not hold in `d0` (R414). -/
def Dev.bridge1New (d0 d : Dev) : Bool :=
  (d.bridgeLegs 1).any fun m => (d.legLatched m && !d0.legLatched m) ||
    (d.chLatched (2 * m) && !d0.chLatched (2 * m)) || (d.chLatched (2 * m + 1) && !d0.chLatched (2 * m + 1))

/-- MOTR follows the hold-off, GDEN and the latches of bridge 1 (R414); `d0` is the device before the change. -/
def Dev.motrSync (d0 d : Dev) : Dev :=
  if d.isCell || !d.on pMOTR MOTR.CTRL_EN then d
  else
    let d := if d0.bridge1New d then d.motrFault MOTR.E_BRIDGE_FAULT else d
    let hold := d.holdOff || !d.on pGCH GCH.GDSTAT_GDEN
    if hold && !d.motr.susp then (d.brakeKeep.modMotr fun t => { t with susp := true }).legsSet
    else if !hold && d.motr.susp then
      let d := if d.motrState = 6 then d else if d.on pMOTR MOTR.MSTAT_TRUN then d.motrTo 1 else d.motrTo 0
      (d.modMotr fun t => { t with susp := false }).legsSet
    else d

/-- Writes of MOTR registers (R417). -/
def Dev.motrWrite (d : Dev) (off v : Nat) : Dev :=
  if off = 0x010 then d.motrEnable v
  else if off = 0x800 then
    let d := if bitAt v 31 then d.motrStart (bitsOf v 0 1) else d
    if bitAt v 30 then d.motrStop else d
  else if 0x040 ≤ off ∧ off ≤ 0x058 ∧ d.motrState ≠ 0 ∧ d.motrState ≠ 6 then d.err pMOTR MOTR.E_CFG_REJ
  else if off = 0x048 ∧ (MOTR.OBSWIN.pick v < 10 ∨ 500 < MOTR.OBSWIN.pick v) then d.err pMOTR MOTR.E_CFG_REJ
  else d.writeWord pMOTR off v

end Sys2Proof.Machine
end

