-- ==== Sys2Proof/Machine/Tailstock.lean ====
section
/-! DEFINITION. Tailstock (chapter 19): the safe coil output. -/

namespace Sys2Proof.Machine

def Dev.modTstk (d : Dev) (f : Tstk → Tstk) : Dev := { d with tstk := f d.tstk }
def Dev.tstkState (d : Dev) : Nat := d.get pTSTK TSTK.TSTAT_STATE

/-- Tailstock stands in reset: in a cell until software releases it (R420). -/
def Dev.tstkHeld (d : Dev) : Bool := d.isCell && !d.on pSYSC SYSC.RELEASE_TSTK

/-- The outputs SCO_HS and SCO_LS; after an invalid strap combination they stay low (R45). -/
def Dev.tstkOut (d : Dev) (hs ls : Bool) : Dev :=
  let free := !d.on pSYSC SYSC.STRAP_INV
  let hs := hs && free
  let ls := ls && free
  let lv (b : Bool) : PinLevel := if b then .high else .low
  { (d.set pTSTK TSTK.RBSTAT_HS (b2n hs)).set pTSTK TSTK.RBSTAT_LS (b2n ls) with
    pins := { d.pins with scoHs := lv hs, scoLs := lv ls } }

/-- Enter a state. -/
def Dev.tstkTo (d : Dev) (st : Nat) : Dev :=
  (d.irqIf (st != d.tstkState) pTSTK TSTK.I_STATE_CHG).set pTSTK TSTK.TSTAT_STATE st

/-- The coil may carry current: STARTUP, ENERGISED or TEST. -/
def Dev.tstkRuns (d : Dev) : Bool := decide (2 ≤ d.tstkState) && decide (d.tstkState ≤ 4)

/-- A demand or a trip request de-energises (R427). One in the tick of an accepted ENERGISE wins: the ENERGISE is refused (R430). -/
def Dev.tstkDemand (d : Dev) (cause : Nat) : Dev :=
  if !d.tstkRuns then d
  else match d.meets.energised with
  | some changed =>
    let d := ((d.tstkOut false false).set pTSTK TSTK.TSTAT_STATE 1).setBit pTSTK HDR.IRQFLG TSTK.I_STATE_CHG changed
    (d.meet fun m => { m with energised := none }).err pTSTK TSTK.E_ENERG_REJ
  | none =>
    let was : Demanded := ⟨d.on pTSTK TSTK.RBSTAT_HS, d.on pTSTK TSTK.RBSTAT_LS, d.tstkState,
      d.get pTSTK TSTK.COUNTS_TRIPCNT, d.bit pTSTK HDR.IRQFLG TSTK.I_DEMAND⟩
    let d := (((d.meet fun m => { m with demanded := some was }).tstkOut false false).tstkTo 1).set pTSTK TSTK.TSTAT_CAUSE cause
    (d.inc pTSTK TSTK.COUNTS_TRIPCNT).irq pTSTK TSTK.I_DEMAND

/-- RELEASE_TSTK (R420): Tailstock moves to SAFE. -/
def Dev.releaseTstk (d : Dev) : Dev :=
  let d := d.set pSYSC SYSC.RELEASE_TSTK 1
  if d.tstkState = 0 then (d.tstkOut false false).tstkTo 1 else d

/-! ### Inputs -/

/-- An accepted channel level; channels 0 to 3 are SFI0A, SFI0B, SFI1A, SFI1B. -/
def Dev.sfi (d : Dev) (ch : Nat) : Bool := d.bit pTSTK TSTK.INSTAT_ACC ch

def Dev.inEn (d : Dev) (j : Nat) : Bool := d.on pTSTK (if j = 0 then TSTK.CFG_IN0EN else TSTK.CFG_IN1EN)

/-- An enabled input demands while either of its channels is accepted low (R421). -/
def Dev.inDemand (d : Dev) (j : Nat) : Bool := d.inEn j && !(d.sfi (2 * j) && d.sfi (2 * j + 1))

/-- TSTK_INPUT_CHANGE (R421). -/
def Dev.tstkInput (d : Dev) (ch : Nat) (lvl : Bool) : Dev :=
  if d.tstkHeld then d
  else
    let j := ch / 2
    let d := (d.setBit pTSTK TSTK.INSTAT_ACC ch lvl).setBit pTSTK TSTK.INSTAT_SYNC ch lvl
    let both := d.sfi (2 * j) && d.sfi (2 * j + 1)
    let since (h : Option Nat) : Option Nat := if both then some (h.getD d.ns) else none
    let d := d.modTstk fun t => { t with high := modNth t.high j since }
    if d.inDemand j then d.tstkDemand (1 + j) else d

/-- TSTK_DISCREPANCY (R422): the channels of an enabled input have differed for longer than DISC. -/
def Dev.tstkDiscrepancy (d : Dev) (j : Nat) : Dev :=
  if d.tstkHeld || !d.inEn j || d.sfi (2 * j) == d.sfi (2 * j + 1) then d
  else (d.setBit pTSTK TSTK.TSTAT_DLOCK j true).err pTSTK (if j = 0 then TSTK.E_DISCREP0 else TSTK.E_DISCREP1)

/-- TSTK_CLRDISC (R422): each enabled input must have been accepted high on both channels for 10 ms. -/
def Dev.tstkClrdisc (d : Dev) : Dev :=
  if d.tstkHeld then d
  else if (List.range 2).all (fun j => !d.inEn j || (d.tstk.high.getD j none).any fun t => decide (t + 10000000 ≤ d.ns))
  then d.set pTSTK TSTK.TSTAT_DLOCK 0
  else d.err pTSTK TSTK.E_ENERG_REJ

/-! ### Readback -/

/-- The ERRSTAT bit and the FLT bit of a wrong level of HSFB or LSFB (R424). -/
def Dev.tstkFlt (d : Dev) (bit flt : Nat) : Dev := (d.err pTSTK bit).setBit pTSTK TSTK.TSTAT_FLT flt true

/-- FAULT takes precedence over the SAFE of a demand of the same tick, which then de-energised nothing (R430). -/
def Dev.tstkUndemand (d : Dev) : Dev :=
  match d.meets.demanded with
  | some b =>
    if d.tstkState = 1 then
      ((d.set pTSTK TSTK.TSTAT_STATE b.state).set pTSTK TSTK.COUNTS_TRIPCNT b.trips).setBit pTSTK HDR.IRQFLG TSTK.I_DEMAND b.flag
    else d
  | none => d

/-- Enter FAULT (R431). -/
def Dev.tstkFault (d : Dev) : Dev :=
  let d := d.tstkUndemand
  let d := if d.tstkRuns then d.set pTSTK TSTK.TSTAT_CAUSE 7 else d
  (d.tstkOut false false).tstkTo 5

/-- The accepted readback pair; a level that is not the one of R424 latches its fault. In the tick of a demand the outputs before it
tell which is right (R430). True: the pattern is right. -/
def Dev.tstkRead (d : Dev) (hs ls : Bool) : Dev × Bool :=
  let oh := (d.meets.demanded.map Demanded.hs).getD (d.on pTSTK TSTK.RBSTAT_HS)
  let ol := (d.meets.demanded.map Demanded.ls).getD (d.on pTSTK TSTK.RBSTAT_LS)
  let d := (d.set pTSTK TSTK.RBSTAT_HSFB (b2n hs)).set pTSTK TSTK.RBSTAT_LSFB (b2n ls)
  let badH := hs != oh
  let badL := ls == ol
  let d := if badH then (if oh then d.tstkFlt TSTK.E_HS_OPEN 1 else d.tstkFlt TSTK.E_HS_STUCK 3) else d
  let d := if badL then (if ol then d.tstkFlt TSTK.E_LS_OPEN 0 else d.tstkFlt TSTK.E_LS_STUCK 2) else d
  if badH || badL then (d.tstkFault, false) else (d, true)

/-- TSTK_READBACK_FAULT (R424, R431): the pair accepted when a pattern must hold. -/
def Dev.tstkReadback (d : Dev) (hs ls : Bool) : Dev := if d.tstkHeld then d else (d.tstkRead hs ls).1

/-! ### Energising -/

/-- TSTK_ENERGISE (R425). -/
def Dev.tstkEnergise (d : Dev) (key : Nat) : Dev :=
  if d.tstkHeld then d
  else if key = 0x3E6A ∧ d.tstkState = 1 ∧ d.locked pTSTK ∧ !d.inDemand 0 ∧ !d.inDemand 1 ∧
    d.get pTSTK TSTK.TSTAT_DLOCK = 0 ∧ !d.on pTSTK TSTK.TSTAT_TRIPREQ ∧ !d.on pTSTK TSTK.RBSTAT_HSFB ∧
    d.on pTSTK TSTK.RBSTAT_LSFB
  then ((((d.set pTSTK TSTK.TSTAT_TRIPREQ 0).tstkOut true false).tstkTo 2).modTstk fun t => { t with step := 0 }).meet
    fun m => { m with energised := some (d.bit pTSTK HDR.IRQFLG TSTK.I_STATE_CHG) }
  else d.err pTSTK TSTK.E_ENERG_REJ

/-- Enter ENERGISED; the test interval starts (R429). -/
def Dev.tstkOn (d : Dev) : Dev := (d.tstkTo 3).modTstk fun t => { t with onAt := d.ns }

/-- Seconds until the next test, whole seconds begun (R435). -/
def Dev.nextTest (d : Dev) : Nat :=
  (d.tstk.onAt + d.get pTSTK TSTK.TESTCFG_TIVL * 1000000000 - d.ns + 999999999) / 1000000000

/-- A demand of this tick has abandoned a check or a test in the state given: the pattern that it found is still read (R430). -/
def Dev.tstkAbandoned (d : Dev) (st : Nat) (hs ls : Bool) : Dev :=
  if d.tstkState = 1 ∧ d.meets.demanded.map Demanded.state = some st then (d.tstkRead hs ls).1 else d

/-- TSTK_STARTUP_STEP (R425): the pattern of the step that ends is the pair given. -/
def Dev.tstkStartup (d : Dev) (hs ls : Bool) : Dev :=
  if d.tstkHeld then d
  else if d.tstkState != 2 then d.tstkAbandoned 2 hs ls
  else
    let (d, ok) := d.tstkRead hs ls
    if !ok then d
    else
      let k := d.tstk.step
      let d := d.modTstk fun t => { t with step := k + 1 }
      if k = 1 then d.tstkOut false true
      else if k = 3 then d.tstkOut true true
      else if 4 ≤ k then d.tstkOn
      else d.tstkOut false false

/-! ### Trip requests -/

/-- A trip request of a CAUSE code arrives: latched where its source is enabled (R426). -/
def Dev.tstkTrip (d : Dev) (cause : Nat) : Dev :=
  let en := if cause = 3 then d.on pTSTK TSTK.CFG_TRFCOL else if cause = 4 then d.on pTSTK TSTK.CFG_TRFATAL
    else if cause = 5 then d.on pTSTK TSTK.CFG_TROV3 else true
  if en then (d.set pTSTK TSTK.TSTAT_TRIPREQ 1).tstkDemand cause else d

/-- TSTK_TRIP_REQUEST (R426): a request of the fault collector (3), of its fatal state (4) or of OV3 (5) arrives. -/
def Dev.tstkTripRequest (d : Dev) (cause : Nat) : Dev :=
  if d.tstkHeld then d.modTstk fun t => { t with req := [] }
  else if cause = 4 then (if d.on pFCOL FCOL.STAT_FATAL then d.tstkTrip 4 else d)
  else if d.tstk.req.contains cause then
    (d.modTstk fun t => { t with req := t.req.filter fun c => c != cause }).tstkTrip cause
  else d

/-- TSTK_DEENERGISE (R426). -/
def Dev.tstkDeenergise (d : Dev) : Dev := if d.tstkHeld then d else d.tstkTrip 6

/-! ### OFF-pulse tests -/

/-- A test begins: the high-side switch turns off (R429). -/
def Dev.tstkTest (d : Dev) : Dev := ((d.tstkOut false true).tstkTo 4).modTstk fun t => { t with step := 0 }

/-- TSTK_TESTNOW (R429). -/
def Dev.tstkTestnow (d : Dev) : Dev :=
  if d.tstkHeld then d else if d.tstkState = 3 then d.tstkTest else d.err pTSTK TSTK.E_ENERG_REJ

/-- TSTK_TEST_DUE (R429, R430). -/
def Dev.tstkTestDue (d : Dev) : Dev := if d.tstkState = 3 ∧ d.on pTSTK TSTK.CFG_TESTEN then d.tstkTest else d

/-- TSTK_TEST_STEP (R429): the pattern of the step that ends is the pair given. -/
def Dev.tstkTestStep (d : Dev) (hs ls : Bool) : Dev :=
  if d.tstkState != 4 then d.tstkAbandoned 4 hs ls
  else
    let (d, ok) := d.tstkRead hs ls
    if !ok then d
    else
      let k := d.tstk.step
      let d := d.modTstk fun t => { t with step := k + 1 }
      if k = 0 ∨ k = 3 then d.tstkOut true true
      else if k = 2 then d.tstkOut true false
      else if 4 ≤ k then ((d.inc pTSTK TSTK.COUNTS_TESTCNT).irq pTSTK TSTK.I_TEST_DONE).tstkOn
      else d

/-- TSTK_OSC_FAIL (R432). -/
def Dev.tstkOscFail (d : Dev) : Dev :=
  if d.tstkHeld then d else ((d.set pTSTK TSTK.TSTAT_OSCF 1).err pTSTK TSTK.E_OSC_FAIL).tstkFault

/-! ### Lock and register writes -/

/-- CFGCRC (R433). -/
def Dev.tstkCrc (d : Dev) : Nat :=
  crc16 (toBE 4 (d.wordAt pTSTK 0x040) ++ toBE 4 (d.wordAt pTSTK 0x044) ++ toBE 4 (d.wordAt pTSTK 0x048))

/-- TSTK_LOCK_KEY (R433). -/
def Dev.tstkLock (d : Dev) (key : Nat) : Dev :=
  if d.tstkHeld then d
  else
    let waiting := d.unlock.contains pTSTK
    let d := { d with unlock := d.unlock.filter (· != pTSTK) }
    if waiting ∧ key = d.tstkCrc then d.set pTSTK HDR.LOCK_LOCKED 1
    else if !waiting ∧ key = 0x7A5C then { d with unlock := pTSTK :: d.unlock }
    else d.err pTSTK HDR.E_LOCK_ERR

/-- Writes of TSTK registers (R435, R436). -/
def Dev.tstkWrite (d : Dev) (off v : Nat) : Dev :=
  let rej := d.err pTSTK TSTK.E_CFG_REJ
  if d.tstkHeld then d
  else if off = 0x800 then
    match (List.range 4).filter fun k => bitAt v (28 + k) with
    | [] => d
    | [3] => d.tstkEnergise (bitsOf v 0 16)
    | [2] => d.tstkDeenergise
    | [1] => d.tstkTestnow
    | [_] => d.tstkClrdisc
    | _ => d.err pTSTK TSTK.E_ENERG_REJ
  else if off = 0x044 then
    let bad (x : Nat) : Bool := decide (x < 10) || decide (500 < x)
    if bad (TSTK.INCFG_DISC0.pick v) || bad (TSTK.INCFG_DISC1.pick v) then rej else d.writeWord pTSTK off v
  else if off = 0x048 then
    let t := TSTK.TESTCFG_TIVL.pick v
    let p := TSTK.TESTCFG_TPULSE.pick v
    let w := TSTK.TESTCFG_TSW.pick v
    if t < 1 ∨ 3600 < t ∨ p < 50 ∨ 400 < p ∨ w < 20 ∨ p < w then rej else d.writeWord pTSTK off v
  else d.writeWord pTSTK off v

end Sys2Proof.Machine
end

