-- ==== Sys2Proof/Machine/Reset.lean ====
section
/-! DEFINITION. Power, reset and start-up (chapters 03 and 04): power-on reset, the reset pin, the straps, what the role
gives every page at reset, block resets, and the boot of an Olielm image from flash or UART (chapter 20). -/

namespace Sys2Proof.Machine

/-! ### Reset values that the role or the straps give -/

/-- A field of a page with a value in the shadow and in force. -/
def Dev.setBoth (d : Dev) (pg : Nat) (F : Fld) (v : Nat) : Dev := (d.set pg F v).setForce pg F v

/-- The dependents of a source besides itself (R383). -/
def dependents (n : Nat) : List Nat :=
  if n = 2 then [10, 45, 46] else if n = 7 ∨ n = 46 then [9] else if n = 9 then [8]
  else if n = 11 then [25, 26, 27, 28, 29, 30, 35, 36, 37, 38, 39, 40, 41, 42, 43, 44]
  else if 12 ≤ n ∧ n ≤ 19 then [10, 11, 21, 22, 23] else if n = 20 then [10, 21, 22]
  else if n = 24 then [25, 26, 27, 28, 29, 30, 32, 33, 34] else if 25 ≤ n ∧ n ≤ 30 then [32, 33, 34]
  else if n = 35 ∨ n = 36 then [11, 23, 32, 37, 38, 39, 40, 41, 42, 43, 44]
  else if 37 ≤ n ∧ n ≤ 44 then [23, 25, 26, 27, 28, 29, 30] else []

/-- Bits as a mask. -/
def maskOf (l : List Nat) : Nat := l.foldl (fun m i => m ||| 2 ^ i) 0

/-- The reset values of FCOL that a table gives (R383, R390). -/
def Dev.fcolInit (d : Dev) : Dev :=
  let d := (List.range 48).foldl (fun d n =>
    let m := maskOf (n :: dependents n)
    (d.set pFCOL (FCOL.DEPLO n) m).set pFCOL (FCOL.DEPHI n) (m / 2 ^ 32)) d
  let l : List (Nat × Nat) := if d.isCell then [(3, 0x005), (4, 0x201), (14, 0x001)]
    else [(1, 0x103), (2, 0x103), (3, 0x003), (4, 0x003), (5, 0x103), (14, 0x003)]
  l.foldl (fun d x => d.set pFCOL (FCOL.GRCT x.1) x.2) d

/-- The reset values of a page that depend on the role, on the straps or on CALSTORE. -/
def Dev.pageInit (d : Dev) (pg : Nat) : Dev :=
  match pageKind pg with
  | some (.syn, n) =>
    if d.absent pg then d
    else
      let f := d.refclk
      let auto := n == 0 && d.isCell && d.get pSYSC SYSC.STRAP_REF == 3
      let d := (d.set pg SYN.CFG_EN 1).set pg SYN.CFG_REFSEL (if auto then 3 else 0)
      d.setBoth pg SYN.FBINT_INT (if n = 0 then 50000 / (if auto then 250 else f) else 48000 / f)
  | some (.fcol, _) => d.fcolInit
  | some (.time, _) => if d.isCell then (d.set pg TIME.CFG_MODE 1).set pg TIME.STAT_MODE 1 else d
  | some (.spdl, _) =>
    if d.isCell then
      [SPDL.TRKTS_TS, SPDL.TRKLOOP_JUMPTH, SPDL.TRKLOOP_BW, SPDL.FLIM_FHI, SPDL.FLIM_FLO, SPDL.ROCOF, SPDL.VLIM_VHYS,
       SPDL.VLIM_VMIN, SPDL.RECOV].foldl (fun d F => d.set pg F 0) d.spdReset
    else d.spdReset
  | some (.link, n) =>
    if d.absent pg then d
    else
      let d := d.set pg LINK.PCFG_EN 1
      let d := if 8 ≤ n then d.set pg LINK.SLOTCFG_TSLOT 0 else d
      if d.isCell then ((d.set pg LINK.PCFG_GFWD 1).set pg LINK.PCFG_FWD 1).set pg LINK.MCTL_COUNT 0 else d
  | some (.vane, _) =>
    if d.isCell then d.set pg VANE.HUBCFG_AUTOTAKE 0
    else (((d.set pg VANE.GTSF 0).set pg VANE.EPOCH (b2n d.hubB)).set pg VANE.HUBCFG_ID (b2n d.hubB)).set pg VANE.HUBCFG_AUTOTAKE (b2n !d.standalone)
  | some (.gch, _) =>
    let d := (List.range 12).foldl (fun d n =>
      d.set pg (GCH.CHCFG_SRC n) (if d.isHub && (n == 4 || n == 5) then 0xF else n)) d
    (List.range 6).foldl (fun d m =>
      d.set pg (GCH.LEGCFG_BRG m) (if d.isCell then m / 2 else if m < 3 then 3 else 1)) d
  | some (.pwmu, m) =>
    let d := d.set pg PWMU.STAT_HOLDOFF (b2n d.holdOff)
    if d.isCell then
      ((((d.set pg PWMU.CFG_DABGRP (b2n (decide (2 ≤ m)))).set pg PWMU.CFG_CMDREF (b2n (decide (m < 2)))).set pg
        PWMU.CFG_REFSRC (b2n (decide (m < 2)))).set pg PWMU.CFG_RNEG (b2n (m == 1))).set pg PWMU.CFG_SYNC 1
    else d
  | some (.hk, _) =>
    let d := ((d.set pg PWMU.CFG_MODE 2).set pg PWMU.EVCFG_ENDSQ 15).set pg PWMU.EVCFG_STARTSQ 14
    ((d.setBoth pg PWMU.PER 0).setBoth pg PWMU.DTA 0).setBoth pg PWMU.DTB 0
  | some (.adc, c) => d.adcLoadCal c
  | some (.sql, _) => d.sqLoadCal
  | _ => d

/-! ### Entering reset (R46, R61 to R64) -/

/-- RSTCAUSE as one word. -/
def Dev.rstCause (d : Dev) : List (Fld × Nat) :=
  [SYSC.RSTCAUSE_BOR_RAIL, SYSC.RSTCAUSE_DBG, SYSC.RSTCAUSE_SW, SYSC.RSTCAUSE_PIN, SYSC.RSTCAUSE_BOR,
   SYSC.RSTCAUSE_POR].map fun F => (F, d.get pSYSC F)

/-- A write of CALSTORE is cut off: the entry is invalid, and otherwise unknown (R472). -/
def Dev.calCutOff (d : Dev) : Dev :=
  match d.calBusy with
  | some (e, _) =>
    if d.get pCALS CALS.STAT_OP = 1 then
      let (ws, d) := d.calGarbage
      { d with calstore := calPut d.calstore e ws }
    else d
  | none => d

/-- A system-level reset: everything but RSTCAUSE, the rail flags and CALSTORE returns to its reset state, and the
contents of every memory are undefined. The inputs, the counter of free values and the log of outputs go on. -/
def Dev.enterReset (d : Dev) (ph : Phase) : Dev :=
  let d := d.calCutOff
  let keep := d.rstCause ++ [(SYSC.PWRSTAT_VDDQ_OK, d.get pSYSC SYSC.PWRSTAT_VDDQ_OK),
    (SYSC.PWRSTAT_RAIL_OK, d.get pSYSC SYSC.PWRSTAT_RAIL_OK)]
  let d1 := { Dev.fresh0 with phase := ph, rstN := d.rstN, gdenPin := d.gdenPin, fresh := d.fresh, calstore := d.calstore,
                              causes := d.causes, sent := d.sent, soc := { soc0 with wipe := some true } }
  keep.foldl (fun d x => d.set pSYSC x.1 x.2) d1

/-- A cause of the reset just entered, recorded so that a brown-out that coincides with it keeps it (R64). -/
def Dev.cause (d : Dev) (F : Fld) : Dev := { d.set pSYSC F 1 with causes := F.lsb :: d.causes }

/-- PIN_RESET (R58): RST_N has been low for `ns` nanoseconds. -/
def Dev.pinReset (d : Dev) (ns : Nat) : Dev :=
  if d.phase = .rails ∨ d.phase = .interval ∨ ns < 100 then d
  else
    let (b, d) := if ns < 1000 then d.coin else (true, d)
    if b then ({ d with rstN := false }.enterReset .held).cause SYSC.RSTCAUSE_PIN else d

/-- BROWN_OUT_RESET (R53, R55, R64): a monitored rail has been below its falling threshold for 1 µs. Causes that came in the
reset that it meets stay recorded. A full loss of power is the brown-out of its first rail; POR is what `State.reset` shows
(DESIGN CHOICE, entry 9). -/
def Dev.brownOut (d : Dev) (rail : Nat) : Dev :=
  let was := d.phase
  let d := d.setBit pSYSC SYSC.PWRSTAT_RAIL_OK rail false
  let d := d.enterReset .rails
  if was = .rails ∨ was = .interval then d
  else
    let d := [SYSC.RSTCAUSE_DBG, SYSC.RSTCAUSE_SW, SYSC.RSTCAUSE_PIN, SYSC.RSTCAUSE_POR].foldl
      (fun d F => if d.causes.contains F.lsb then d else d.set pSYSC F 0) d
    (d.set pSYSC SYSC.RSTCAUSE_BOR 1).set pSYSC SYSC.RSTCAUSE_BOR_RAIL rail

/-- RAIL_GOOD (R53, R56): with the last rail the interval starts. -/
def Dev.railGood (d : Dev) (rail : Nat) : Dev :=
  let d := { d.setBit pSYSC SYSC.PWRSTAT_RAIL_OK rail true with causes := [] }
  if d.phase = .rails ∧ d.get pSYSC SYSC.PWRSTAT_RAIL_OK = 0x3F then { d with phase := .interval } else d

/-- VDDQ_OK_CHANGE (R53). -/
def Dev.vddqOk (d : Dev) (ok : Bool) : Dev := d.set pSYSC SYSC.PWRSTAT_VDDQ_OK (b2n ok)

/-- The word written to SWRST starts a reset (R65). -/
def swKey (v : Nat) : Bool := bitsOf v 16 16 == 0xD1E5 && bitAt v 0

/-- SOFTWARE_SYSTEM_RESET (R65): a write of SWRST. -/
def Dev.swReset (d : Dev) (v : Nat) : Dev :=
  if swKey v then (d.enterReset .held).cause SYSC.RSTCAUSE_SW
  else d.err pSYSC SYSC.E_KEY_ERR

/-- DEBUGGER_SYSTEM_RESET (R61): only an unlocked debug port can request it. -/
def Dev.dbgReset (d : Dev) : Dev :=
  if d.soc.unlocked then (d.enterReset .held).cause SYSC.RSTCAUSE_DBG else d

/-- A write of SWRST that coincides with a debugger's reset: the reset has been entered, and both causes are recorded
(R64). -/
def Dev.swCoincides (d : Dev) (v : Nat) : Dev :=
  if d.phase = .held && d.causes.contains SYSC.RSTCAUSE_DBG.lsb && swKey v then d.cause SYSC.RSTCAUSE_SW else d

/-! ### Images (R454, R455) -/

/-- A field of an image header, least significant byte first. -/
def hdr (bs : List Byte) (at_ n : Nat) : Nat := leNat ((bs.drop at_).take n)

/-- The memory and the offset of a payload that starts at LOAD, if LOAD is a place for it. -/
def Dev.imagePlace (d : Dev) (load len : Nat) : Option (MemId × Nat) :=
  let sramEnd := if d.isCell then 0x203FFFC0 else 0x20400000
  if 0x100 ≤ load ∧ load + len ≤ 0x40000 then some (.tcm0, load)
  else if 0x20000100 ≤ load ∧ load + len ≤ sramEnd then some (.sram, load - 0x20000000) else none

/-- ROLES includes the strapped role (R454). -/
def Dev.roleOk (d : Dev) (roles : Nat) : Bool :=
  bitAt roles (match d.get pSYSC SYSC.STRAP_ROLE with | 0 => 0 | 3 => 2 | _ => 1)

/-- LEN, LOAD and ENTRY are as R455 asks. -/
def Dev.imageFits (d : Dev) (h : List Byte) : Option (MemId × Nat) :=
  let len := hdr h 8 4
  let load := hdr h 12 4
  let entry := hdr h 16 4
  if len % 16 = 0 ∧ load ≤ entry ∧ entry < load + len then d.imagePlace load len else none

/-- The checks of the header alone (R455), which come before anything is placed. -/
def Dev.headCheck (d : Dev) (h : List Byte) : Nat :=
  if hdr h 0 4 ≠ 0x314D4C4F then 1
  else if hdr h 4 2 ≠ 1 then 2
  else if !d.roleOk (hdr h 6 1) then 3
  else if (d.imageFits h).isNone then 4 else 0

/-- IMAGE_CHECK (R455): the code of the first check that fails, or 0. -/
def Dev.imageCheck (d : Dev) (h pay : List Byte) (ecc : Bool) : Nat :=
  let key := (h.drop 64).take 64
  if d.headCheck h ≠ 0 then d.headCheck h
  else if !Config.trustedKey key then 5
  else if !Config.ecdsaOk key (Config.sha256 (h.take 192)) ((h.drop 192).take 64) then 6
  else if Config.sha256 pay ≠ (h.drop 32).take 32 then 7
  else if ecc then 9 else 0

/-- The boot ROM's report. -/
def Dev.bootPhase (d : Dev) (ph code : Nat) : Dev :=
  (d.set pSYSC SYSC.BOOTSTAT_PHASE ph).set pSYSC SYSC.BOOTSTAT_CODE code

/-- An image as a boot path delivers it: it is placed where its header asks, and checked; it starts, or fails. -/
def Dev.bootImage (d : Dev) (src : Source) : Dev × Bool :=
  match src with
  | .failed => (d.bootPhase 0xF 8, false)
  | .image bs ecc =>
    let h := bs.take 256
    let pay := (bs.drop 256).take (hdr h 8 4)
    if bs.length < 256 ∨ pay.length < hdr h 8 4 ∧ d.headCheck h = 0 then (d.bootPhase 0xF 8, false)
    else if d.headCheck h ≠ 0 then (d.bootPhase 0xF (d.headCheck h), false)
    else
      let d := match d.imageFits h with
        | some (m, a) => d.store m (a - 256) (h ++ pay)
        | none => d
      let code := d.imageCheck h pay ecc
      if code = 0 then (d.bootPhase 5 0, true) else (d.bootPhase 0xF code, false)

/-- The opcode of a payload read by QSPIMODE (R454, R456): its mode and whether addresses have 4 bytes. Of the pairs that the
spec names no command for it is a free value. -/
def Dev.flashOp (d : Dev) (mode : Nat) (a4 : Bool) : Nat × Dev :=
  match mode, a4 with
  | 0, false => (0x03, d)
  | 0, true => (0x13, d)
  | 1, false => (0x6B, d)
  | 2, false => (0xEB, d)
  | 2, true => (0xEC, d)
  | _, _ =>
    let (x, d) := d.free
    (x % 256, d)

/-- The boot ROM reads an image from the flash at `at_` (R456): the header with 0x03 in 1-1-1 mode at 25 MHz, and, if its
checks let it, the payload as QSPIMODE selects. -/
def Dev.flashRead (d : Dev) (at_ : Nat) (src : Source) : Dev :=
  let d := d.send (.qspi ⟨0x03, 0, 19, 0, some (3, at_), [], 256⟩)
  match src with
  | .failed => d
  | .image bs _ =>
    let q := hdr bs 20 4
    if bs.length < 256 ∨ d.headCheck (bs.take 256) ≠ 0 then d
    else
      let (op, d) := d.flashOp (bitsOf q 0 2) (bitAt q 16)
      d.send (.qspi ⟨op, bitsOf q 0 2, bitsOf q 8 8, bitsOf q 4 4, some (if bitAt q 16 then 4 else 3, at_ + 256), [], hdr bs 8 4⟩)

/-- FLASH_BOOT (R456): the first image, then the second copy. -/
def Dev.flashBoot (d : Dev) (a b : Source) : Dev :=
  let (d, ok) := (d.flashRead 0 a).bootImage a
  if ok then d else ((d.flashRead 0x400000 b).bootImage b).1

/-- UART_BOOT_BLOCK (R456): a block and its CRC-32 arrive in UART recovery. Header and payload come as one string of
blocks. -/
def Dev.uartBlock (d : Dev) (bs : List Byte) (crc : Nat) : Dev :=
  if !d.soc.loading then d
  else
    let d := d.set pSYSC SYSC.BOOTSTAT_PHASE 3
    if bs.isEmpty ∨ 1024 < bs.length ∨ crc32 bs ≠ crc then
      let d := (d.modSoc fun s => { s with fails := s.fails + 1 }).send (.uart 0 0x15)
      if 16 ≤ d.soc.fails then (d.modSoc fun s => { s with fails := 0, upload := [], romEcc := false }).bootPhase 0xF 8 else d
    else
      let d := (d.modSoc fun s => { s with fails := 0, upload := s.upload ++ bs }).send (.uart 0 0x06)
      let up := d.soc.upload
      if up.length < 256 ∨ up.length < 256 + hdr up 8 4 then d
      else
        let (d, ok) := (d.modSoc fun s => { s with upload := [], romEcc := false }).bootImage (.image up d.soc.romEcc)
        if ok then
          ((d.modSoc fun s => { s with loading := false }).set (pUART 0) UART.CFG_EN 0).set (pUART 0) UART.CFG_DIV 0x87A
        else d

/-! ### The strap latch and the release (R7, R42 to R46, R50, R60, R66) -/

/-- An invalid hub combination (R45). -/
def strapInv (straps : Nat) : Bool := bitsOf straps 0 2 != 0 && (bitsOf straps 2 2 == 1 || bitsOf straps 4 2 == 3)

/-- The output and IO pins whose level `Pins` does not hold: the transmitters of the links and of Ethernet, and the pins of
the serial interfaces, of GPIO and of the TAP (R36). -/
inductive IoPin where
  | linkTx (p : Nat)
  | ethTx (n : Nat)
  | qspi | i2c | spi | mdc | mdio | tdo
  | uartTx (n : Nat)
  | gpio (n : Nat)
  deriving DecidableEq, Repr

/-- Whether the device drives such a pin (R46, R60): none does outside operation; where the spec does not say what an
interface drives between its transfers, none. -/
def Dev.drives (d : Dev) (x : IoPin) : Option Bool :=
  let while_ (b : Bool) : Option Bool := if b then some true else none
  if d.phase ≠ .running then some false
  else match x with
    | .linkTx p => if d.absent (pLINK p) then some false else while_ (d.txRuns p)
    | .ethTx n => if d.isCell then some false else while_ (d.on (pETH n) ETH.PCSCFG_LINKUP)
    | .qspi => while_ (d.on pQSPI QSPI.STAT_BUSY || d.on pQSPI QSPI.STAT_THRMHOLD)
    | .i2c => while_ (d.on pI2C I2C.STAT_BUSY)
    | .spi => while_ (d.on pSPI SPI.STAT_BUSY)
    | .mdc => if d.isCell then some false else while_ d.soc.mdio.isSome
    | .mdio => if d.isCell then some false else while_ (d.soc.mdio.any fun x => !x.1)
    | .tdo => none
    | .uartTx n => while_ (d.on (pUART n) UART.STAT_TXBUSY)
    | .gpio n => some (d.bit pGPIO GPIO.DIR n && !(d.bit pGPIO GPIO.OD n && d.bit pGPIO GPIO.OUT n))

/-- The outputs at their safe levels (R46, R60, R92). -/
def Dev.safePins (d : Dev) : Dev :=
  let cell := d.isCell
  { d with pins := { Pins.off with
      cbyp := if cell then .high else .hiZ, faultN := .low, alive := .low, curtN := if cell then .hiZ else .low,
      scoHs := .low, scoLs := .low, hkG := .low, qspiCsN := .high, ddrRstN := if cell then .hiZ else .low,
      ddrCke := if cell then .hiZ else .low, lockA := .low, lockB := .low } }

/-- What every page holds after the latch: the values the role and the straps give, the entries of CALSTORE loaded
(R470), the fabric on the internal oscillator with the gate hold-off (R60, R90). -/
def Dev.release (d : Dev) : Dev :=
  let d := ((d.set pCKSW CKSW.CKSTAT_SRC 2).set pPWMC PWMC.HOLDSTAT_CKSW 1).set pPWMC PWMC.HOLDSTAT_ACTIVE 1
  let d := { d with calUse := d.calstore }
  (irqPages.foldl Dev.pageInit d.safePins).calMap

/-- The straps are latched, and the device starts (STRAP_LATCH, R42). Bits 5:4 of `straps` are STRAP_REF, 3:2
STRAP_BOOT, 1:0 STRAP_ROLE; `a` and `b` are what the serial flash holds at its two places. -/
def Dev.strapLatch (d : Dev) (straps : Nat) (a b : Source) : Dev :=
  let inv := strapInv straps
  let d := (((d.set pSYSC SYSC.STRAP_ROLE (bitsOf straps 0 2)).set pSYSC SYSC.STRAP_BOOT (bitsOf straps 2 2)).set pSYSC
    SYSC.STRAP_REF (bitsOf straps 4 2)).set pSYSC SYSC.STRAP_INV (b2n inv)
  let boot := bitsOf straps 2 2
  let d := { d with phase := .running, rstN := true, causes := [],
                    clk := { d.clk with rom := if inv then .idle else if boot = 3 then .halted else .wait } }.release
  if inv || boot == 2 then ((d.bootPhase (if inv then 2 else 1) 0).modSoc fun s => { s with loading := true }).romUart
  else if boot = 0 then d.flashBoot a b
  else if boot = 1 then d.bootPhase 1 0
  else d.holdAssert PWMC.HOLDSTAT_DBG0

/-- STRAP_LATCH: only a device held in reset latches. -/
def Dev.strapEdge (d : Dev) (straps : Nat) (a b : Source) : Dev := if d.phase = .held then d.strapLatch straps a b else d

/-- POWER_ON_RESET_END (R56, R57): `rstN` is the level of RST_N at that moment. -/
def Dev.porEnd (d : Dev) (rstN : Bool) (straps : Nat) (a b : Source) : Dev :=
  if d.phase ≠ .interval then d
  else
    let d := { d with phase := .held, rstN := rstN, causes := [] }
    if rstN then d.strapLatch straps a b else d

/-! ### Block resets (R62) -/

/-- What a block does when its reset starts: its outputs go to their safe levels. -/
def Dev.blkStop (d : Dev) (pg : Nat) : Dev :=
  match pageKind pg with
  | some (.syn, n) => d.synOff n
  | some (.pwmu, m) => d.pwmEnable m 0
  | some (.hk, _) => d.pwmEnable 6 0
  | some (.gch, _) =>
    let d := (List.range 12).foldl (fun d n => d.gateTo n 0 false false) d
    let d := { d with gates := Dev.fresh0.gates, chop := Dev.fresh0.chop }
    if d.isHub then { d with pins := { d.pins with curtN := .low } } else d
  | some (.motr, _) => d.motrEnable 0
  | some (.lth, n) => d.modLe n fun e => { le0 with eff := e.eff }
  | some (.sql, _) => (List.range 16).foldl (fun d q =>
      if d.legsc q then d else ((d.set pSQL (SQL.SQCFG_FUNC q) 0).set pSQL (SQL.SQCFG_INIT q) 0).sqStop q) d
  | some (.link, n) => if d.linkSt n = 0 then d else d.linkTo n 0
  | some (.eth, n) => d.ethDown n
  | some (.ddrc, _) => d.ddrReset
  | some (.thrm, _) => { d.throttleEnd.set pQSPI QSPI.STAT_THRMHOLD 0 with
      thrm := { thrm0 with evals := d.thrm.evals } }.qspiNext
  | some (.strd, _) => (d.tevGridStop).modHub fun h =>
      { h with strands := hub0.strands, enumFifo := [], recov := [], hops := [], silent := [], ann := none, grid := false }
  | some (.vane, _) => if d.isCell then d.tevGridStop else d
  | _ => d

/-- What a block holds behind its registers after its reset. -/
def Dev.blkClear (d : Dev) (pg : Nat) : Dev :=
  match pageKind pg with
  | some (.intc, _) => d.modSoc fun s => { s with masked := [0, 0] }
  | some (.dma, _) => d.modSoc fun s => { s with dma := soc0.dma, dmaIrq := 0, bootDma := false }
  | some (.pwmu, m) => d.modUnit m fun _ => pwm0
  | some (.hk, _) => d.modUnit 6 fun _ => pwm0
  | some (.gch, _) => { d with gates := Dev.fresh0.gates, chop := Dev.fresh0.chop }
  | some (.motr, _) => { d with motr := motr0 }
  | some (.adc, c) => d.modAdc c fun _ => adc0
  | some (.lth, n) => d.leReset n
  | some (.link, n) => d.modPort n fun _ => { port0 with enAt := d.ticks }
  | some (.vane, _) =>
    { d with srv := srv0, vn := if d.isCell then vn0 else d.vn }.modHub fun h =>
      if d.isCell then h
      else { h with peers := hub0.peers, observed := 0, sawOther := false, claimed := false, decided := false,
                    wasSynced := false, loaded := 0, leader := none, leadBad := 0 }
  | some (.isob, _) => { d with iso := iso0 }
  | some (.eth, n) => (d.modEth n fun _ => eth0).modSoc fun s => { s with mdio := if n = 0 then none else s.mdio }
  | some (.anmg, _) => { d with an := [] }
  | some (.qspi, _) => d.modSoc fun s => { s with qspi := none, qspiWait := [] }
  | some (.uart, n) => d.modUart n fun _ => uart0
  | some (.i2c, _) => d.modSoc fun s => { s with i2c := none }
  | some (.spi, _) => { d with pins := { d.pins with spiCsN := .high } }.modSoc fun s => { s with spi := none }
  | _ => d

/-- The fields that keep their values through a block reset: fault latches and input levels of GCH (R303), the bound
channels of SQL (R318), the clock source (R98), the causes of a hold-off, FLOOR and SYNCED. -/
def Dev.blkKeep (d : Dev) (pg : Nat) : List Fld :=
  match pageKind pg with
  | some (.gch, _) =>
    ((List.range 12).flatMap fun n => [GCH.CHSTAT_ILTMO n, GCH.CHSTAT_ONFAIL n, GCH.CHSTAT_OFFFAIL n, GCH.CHSTAT_FBFAULT n,
      GCH.CHSTAT_FB n]) ++
    ((List.range 6).flatMap fun m => [GCH.LEGSTAT_LEG_SHORT m, GCH.LEGSTAT_SRC m, GCH.LEGSTAT_ESC m]) ++
    [GCH.GDSTAT_GDEN, GCH.GDSTAT_CLRARM]
  | some (.sql, _) => (List.range 16).flatMap fun q => if d.legsc q then
      [SQL.SQTHR_HYS q, SQL.SQTHR_HI q, SQL.SQTHR_LO q, SQL.SQCFG_MODE q] else []
  | some (.cksw, _) => [CKSW.CKSTAT_SRC]
  | some (.pwmc, _) => [PWMC.HOLDSTAT_ACTIVE, PWMC.HOLDSTAT_CKMON, PWMC.HOLDSTAT_CKSW, PWMC.HOLDSTAT_DBG1, PWMC.HOLDSTAT_DBG0]
  | some (.vane, _) => [VANE.FLOOR, VANE.STAT_SYNCED, VANE.UIDLO, VANE.UIDHI]
  | some (.qspi, _) => [QSPI.STAT_THRMHOLD]
  | some (.gpio, _) => [GPIO.IN]
  | _ => []

/-- The outputs, results, settling and resolution of the Squall channels that a leg binds go on through a reset of SQL (R318). -/
def Dev.sqKeep (d0 d : Dev) : Dev :=
  (List.range 16).foldl (fun d q =>
    if d0.legsc q then
      let d := (d.setBit pSQL SQL.OUT_LVL q (d0.bit pSQL SQL.OUT_LVL q)).setBit pSQL SQL.RAW q (d0.bit pSQL SQL.RAW q)
      (d.setBit pSQL SQL.OUT_UNRES q (d0.bit pSQL SQL.OUT_UNRES q)).setBit pSQL SQL.SETL q (d0.bit pSQL SQL.SETL q)
    else d) d

/-- Every register of a page takes its reset value. -/
def Dev.blkRegs (d : Dev) (pg : Nat) : Dev :=
  let keep := (d.blkKeep pg).map fun F => (F, d.get pg F)
  let d1 := { d with regs := rfDrop d.regs pg, act := rfDrop d.act pg,
                     unlock := d.unlock.filter (· != pg), latched := d.latched.filter fun x => x.1 / 4096 != pg }
  keep.foldl (fun d x => d.set pg x.1 x.2) d1

/-- A block reset of a page starts (R62, R382): its consequence window opens. -/
def Dev.blkStart (d : Dev) (pg : Nat) : Dev :=
  if d.absent pg || d.inBlk.contains pg then d
  else
    let d := d.blkStop pg
    let src := (pageSource pg).1
    let d := { d with inBlk := pg :: d.inBlk, fcol := { d.fcol with windows := src :: d.fcol.windows.filter (· != src) } }
    d.set pFCOL FCOL.STAT_WINDOW 1

/-- BLOCK_RESET (R62): a write of BLKRST with GO. -/
def Dev.blkGo (d : Dev) (pg : Nat) : Dev :=
  match pageKind pg with
  | none => d.err pSYSC SYSC.E_BLKRST_DENY
  | some (k, _) =>
    if k = .sysc ∨ k = .fcol ∨ k = .tstk ∨ k = .time then d.err pSYSC SYSC.E_BLKRST_DENY else d.blkStart pg

/-- BLOCK_RESET_END (R62): the registers hold their reset values. CALS waits for a write in progress (R472). -/
def Dev.blkEnd (d : Dev) (pg : Nat) : Dev :=
  if !d.inBlk.contains pg || (pg == pCALS && d.calBusy.isSome && d.get pCALS CALS.STAT_OP == 1) then d
  else
    let d0 := d
    let d := (d.blkRegs pg).blkClear pg
    let d := { d with inBlk := d.inBlk.filter (· != pg) }
    let d := if pg = pSQL then d else d.pageInit pg
    if pg = pSQL then d0.sqKeep d
    else if pg = pGCH then (d0.sqRebind d).curtSync
    else if pg = pCALS then d0.sqFreed d.calsPageReset
    else if pg = pSPDL then (if d.gridOn || d.gridUp then d.idxAim.tevGrid else d)
    else d

/-- The block reset of a fault source (R371, R374); of source 7 it holds CPU pair 1 in reset (R438). -/
def Dev.blkSource (d : Dev) (src : Nat) : Dev :=
  if src = 7 then
    let d := { d.set pSYSC SYSC.RELEASE_CPU1 0 with
      fcol := { d.fcol with windows := 7 :: d.fcol.windows.filter (· != 7) } }
    (d.modSoc fun s => { s with wfi := modNth s.wfi 1 fun _ => false }).set pFCOL FCOL.STAT_WINDOW 1
  else (sourcePages src).foldl Dev.blkStart d

/-- CONSEQ_WINDOW_END (R382): 100 µs after the end of the reset, that of source 7 being the release of CPU pair 1 (R438). -/
def Dev.windowEnd (d : Dev) (src : Nat) : Dev :=
  if (sourcePages src).any d.inBlk.contains || (src == 7 && d.cpu1Held) then d
  else
    let w := d.fcol.windows.filter (· != src)
    { d with fcol := { d.fcol with windows := w } }.set pFCOL FCOL.STAT_WINDOW (b2n !w.isEmpty)

/-! ### SYSC registers (R74) -/

/-- RELEASE_CPU1 (R74, R437): CPU pair 1 runs, or is held in reset. -/
def Dev.releaseCpu1 (d : Dev) (run : Bool) : Dev :=
  let d := d.set pSYSC SYSC.RELEASE_CPU1 (b2n run)
  if run then d else d.modSoc fun s => { s with wfi := modNth s.wfi 1 fun _ => false }

/-- Writes of SYSC registers. -/
def Dev.syscWrite (d : Dev) (off v : Nat) : Dev :=
  if off = 0x04C then d.swReset v
  else if off = 0x050 then
    let d := d.releaseCpu1 (bitAt v 0)
    if bitAt v 1 then d.releaseTstk else d
  else if off = 0x054 then (if bitAt v 31 then d.blkGo (bitsOf v 0 16) else d)
  else if off = 0x060 then
    let d := if bitAt v 1 then d.cellcmdClrcnt else d
    if bitAt v 0 then d.cellcmdBypass else d
  else d.writeWord pSYSC off v

end Sys2Proof.Machine
end

