-- ==== Sys2Proof/Machine/Fault.lean ====
section
/-! DEFINITION. Fault collection and reaction (chapter 17): events and their merging (R380), records and the record ring
(R381, R393), reactions (R374 to R378), consequence windows (R382), ALIVE and FAULT_N (R386 to R389), Gust records
(R390), and the writes of the FCOL page. -/

namespace Sys2Proof.Machine

/-! ### ALIVE and FAULT_N (R386 to R389) -/

/-- ALIVE holds the level it has, and FAULT_N is driven low (R387, R389). -/
def Dev.aliveStop (d : Dev) : Dev :=
  let d := (d.set pFCOL FCOL.STAT_ALIVERUN 0).set pFCOL FCOL.STAT_FNASSERT 1
  { d with pins := { d.pins with faultN := .low }, fcol := { d.fcol with kickAt := none } }

/-- A kick interval begins, where one is asked for (R388). -/
def Dev.kickStart (d : Dev) : Dev :=
  { d with fcol := { d.fcol with
      kickAt := if d.on pFCOL FCOL.STAT_ALIVERUN && d.on pFCOL FCOL.ALIVECFG_KICKTO then some d.ticks else none } }

/-- An open record has ALIVESTOP in REACT (R386). -/
def Dev.stopRecord (d : Dev) : Bool := d.fcol.opened.any fun r => bitAt r.2.react 7

/-- FAULT_N_RELEASE (R386, R387). -/
def Dev.faultRelease (d : Dev) : Dev :=
  if d.on pFCOL FCOL.STAT_FATAL || d.stopRecord || d.on pSYSC SYSC.STRAP_INV then d.err pFCOL FCOL.E_CFG_REJ
  else if !d.on pFCOL FCOL.STAT_FNASSERT && d.on pFCOL FCOL.STAT_ALIVERUN then d
  else
    let alive := if d.on pFCOL FCOL.STAT_ALIVERUN then d.pins.alive else .high
    let d := (d.set pFCOL FCOL.STAT_FNASSERT 0).set pFCOL FCOL.STAT_ALIVERUN 1
    { d with pins := { d.pins with faultN := .hiZ, alive := alive } }.kickStart

/-- ALIVE_TOGGLE (R387): a half-period has ended. -/
def Dev.aliveToggle (d : Dev) : Dev :=
  if d.on pFCOL FCOL.STAT_ALIVERUN
  then { d with pins := { d.pins with alive := if d.pins.alive = .high then .low else .high } } else d

/-- ALIVE_KICK (R388): the kick interval starts again. -/
def Dev.aliveKick (d : Dev) : Dev := if d.fcol.kickAt.isSome then d.kickStart else d

/-- KICK_MISS (R387, R388): a kick interval has ended without a kick, which cannot be in the tick that began it. -/
def Dev.kickMiss (d : Dev) : Dev :=
  match d.fcol.kickAt with
  | some t =>
    if t < d.ticks then
      { (d.set pFCOL FCOL.STAT_ALIVERUN 0) with fcol := { d.fcol with kickAt := none } }.err pFCOL FCOL.E_KICK_MISS
    else d
  | none => d

/-- ALIVECFG_WRITE (R387): refused as a whole unless HALF lies from 50 to 5,000. -/
def Dev.alivecfgWrite (d : Dev) (v : Nat) : Dev :=
  let half := FCOL.ALIVECFG_HALF.pick v
  if half < 50 ∨ 5000 < half then d.err pFCOL FCOL.E_CFG_REJ
  else
    let d := d.writeWord pFCOL 0x048 v
    if d.fcol.kickAt.isSome && d.on pFCOL FCOL.ALIVECFG_KICKTO then d else d.kickStart

/-- FABRIC_CLOCK_STOP (R279, R387): the hold-off, and ALIVE and FAULT_N with it; no event, no record. -/
def Dev.clockStop (d : Dev) : Dev := (d.holdBegin PWMC.HOLDSTAT_CKMON false).aliveStop

/-! ### Records (R379, R381, R393) -/

/-- The eight words of a record (R393). -/
def Rec.words (r : Rec) : List Nat :=
  [2 ^ 31 + 2 ^ 30 * b2n r.isOpen + 2 ^ 29 * b2n r.real + 2 ^ 28 * b2n r.inj + 2 ^ 27 * b2n r.conseq +
     2 ^ 26 * b2n r.upg + 2 ^ 24 * r.cls + 2 ^ 18 * r.src + 2 ^ 14 * r.gcode,
   r.bits, nsOf r.time, slOf r.time, fsOf r.time, 2 ^ 16 * r.merge + r.seq, r.lastm,
   2 ^ 20 * r.inst + 2 ^ 12 * r.gen + r.react]

/-- A ring with an entry written, indices rising. -/
def ringSet : List (Nat × Rec) → Nat → Rec → List (Nat × Rec)
  | [], i, r => [(i, r)]
  | (j, x) :: t, i, r => if j < i then (j, x) :: ringSet t i r else if j = i then (i, r) :: t else (i, r) :: (j, x) :: t

/-- The lost words that are left when a ring entry is written. -/
def lostKeep (l : List (Nat × Nat)) (i : Nat) : List (Nat × Nat) := l.filter fun x => x.1 / 8 != i

/-- Two records are records of one source, or of one Gust code. -/
def Rec.same (r : Rec) (src gcode : Nat) : Bool := r.src == src && r.gcode == gcode

/-- The open record of a source or a Gust code, with its ring index. -/
def Dev.openRec (d : Dev) (src gcode : Nat) : Option (Option Nat × Rec) := d.fcol.opened.find? fun e => e.2.same src gcode

/-- FSTAT or GSTAT follows a record that opens or closes (R379). -/
def Dev.fstat (d : Dev) (src gcode : Nat) (b : Bool) : Dev :=
  if src < 32 then d.setBit pFCOL FCOL.FSTATLO src b
  else if src < 48 then d.setBit pFCOL FCOL.FSTATHI (src - 32) b
  else d.setBit pFCOL FCOL.GSTAT gcode b

/-- A record as it now stands goes into its ring entry and, while the copy is open, into FATALREC (R376, R381). -/
def Dev.recUpdate (d : Dev) (at_ : Option Nat) (r : Rec) : Dev :=
  let f := d.fcol
  let f := match at_ with
    | some i => { f with ring := ringSet f.ring i r, lost := lostKeep f.lost i }
    | none => f
  let f := match f.fatal with
    | some c => if c.isOpen && c.same r.src r.gcode then { f with fatal := some r } else f
    | none => f
  { d with fcol := { f with opened := (f.opened.filter fun e => !e.2.same r.src r.gcode) ++
                                        (if r.isOpen then [(at_, r)] else []) } }

/-- A new record: it takes the next number and, if the ring has room, the next entry; an open record that stood in that
entry is no longer copied there (R381). -/
def Dev.recNew (d : Dev) (r : Rec) : Option Nat × Rec × Dev :=
  let r := { r with seq := d.fcol.seq % 65536 }
  let d := { d with fcol := { d.fcol with seq := d.fcol.seq + 1 } }
  let wr := d.get pFCOL FCOL.RECWR
  if (wr + 1) % 2048 = d.get pFCOL FCOL.RECRD then
    (none, r, ((d.inc pFCOL FCOL.RECCNT_RECOVF).err pFCOL FCOL.E_REC_OVF).irq pFCOL FCOL.I_OVF)
  else
    let d := (d.set pFCOL FCOL.RECWR (wr + 1)).incWrap pFCOL FCOL.RECCNT_WRITTEN
    let f := d.fcol
    (some wr, r, { d with fcol := { f with
      opened := f.opened.map fun e => if e.1 = some wr then (none, e.2) else e
      ring := ringSet f.ring wr r, lost := lostKeep f.lost wr } })

/-- FCOL_ACK (R379): the record of a source, or of a Gust code, closes. -/
def Dev.fcolAck (d : Dev) (gust : Bool) (n : Nat) : Dev :=
  let src := if gust then 63 else n
  let gc := if gust then n % 16 else 0
  match (if gust || decide (n < 48) then d.openRec src gc else none) with
  | some (at_, r) => (d.recUpdate at_ { r with isOpen := false }).fstat src gc false
  | none => d

/-! ### Reactions (R374 to R378) -/

/-- The reaction of a source's class (R374, R375), cut to INJCFG.ACT and with REC for an event that is injected only
(R384, R385). -/
def Dev.classReact (d : Dev) (src cls : Nat) (injOnly : Bool) : Nat :=
  let f := (if cls = 1 then d.get pFCOL (FCOL.RCT_COR src) else if cls = 2 then d.get pFCOL (FCOL.RCT_UNC src)
    else d.get pFCOL (FCOL.RCT_FAT src)) % 512
  let f := if injOnly then (f &&& d.get pFCOL FCOL.INJCFG_ACT) ||| 1 else f
  if f = 0 then 0 else f ||| 1

/-- The reactions of R376, once since reset. -/
def Dev.fatalReact (d : Dev) : Dev :=
  if d.fcol.fatalDone then d
  else
    let d := { d with fcol := { d.fcol with fatalDone := true } }.aliveStop
    let d := (d.set pFCOL FCOL.STAT_FATAL 1).gateSafe
    if d.isCell then d.faultReq.gust 2
    else { d.gust 5 with hub := { d.hub with sending := false } }

/-- A trigger for Anemograph, the first of its tick (R374, R452). -/
def Dev.markTrig (d : Dev) (r : Rec) : Dev :=
  if d.isCell || d.anTrig.any (fun x => x.tick == d.ticks) || d.anPast.any (fun x => x.tick == d.ticks) then d
  else { d with anTrig := d.anTrig ++ [⟨d.ticks, r.time, r.seq, if d.anSoft.map Prod.fst = some d.ticks then 2 else 0⟩] }

/-- Perform reactions for a record and an event of class `cls` (R374). The fixed reactions of R376 stand for GATESAFE, GUST and ALIVESTOP of a fatal
event. -/
def Dev.perform (d : Dev) (r : Rec) (cls bits : Nat) (fixed : Bool) : Dev :=
  let d := if bitAt bits 1 then
      let d := d.irq pFCOL FCOL.I_REC
      let d := d.irqIf (cls == 3) pFCOL FCOL.I_FATAL
      d.irqIf (r.src == 63) pFCOL FCOL.I_GUST
    else d
  let d := if bitAt bits 2 && !fixed then d.gateSafe else d
  let d := if bitAt bits 3 then d.bypassReq 3 else d
  let d := if bitAt bits 4 && !fixed then d.gust (if d.isCell then 1 else d.get pFCOL FCOL.CFG_HUBCODE) else d
  let d := if bitAt bits 5 && r.src != 63 then d.blkSource r.src else d
  let d := if bitAt bits 6 && !d.tstk.req.contains 3 then { d with tstk := { d.tstk with req := d.tstk.req ++ [3] } } else d
  let d := if bitAt bits 7 && !fixed then d.aliveStop else d
  let d := if bitAt bits 8 then d.markTrig r else d
  if bitAt bits 9 && r.src == 63 then d.dabBlock else d

/-! ### Events (R372, R380) -/

/-- The source lies in an open consequence window (R382). -/
def Dev.inWindow (d : Dev) (src : Nat) : Bool :=
  d.fcol.windows.any fun w => bitAt (d.get pFCOL (FCOL.DEPLO w) + d.get pFCOL (FCOL.DEPHI w) * 2 ^ 32) src

/-- A record of an event, before it has a number. -/
def recOf (src gcode cls bits time gen inst : Nat) (real inj : Bool) : Rec :=
  { isOpen := true, real := real, inj := inj, conseq := false, upg := false, cls := cls, src := src, gcode := gcode,
    bits := bits, time := time, merge := 0, seq := 0, lastm := 0, inst := inst, gen := gen, react := 0 }

/-- An event joins an open record: the count, the bits, the time of the merge, the tags (R380). -/
def Rec.join (r e : Rec) : Rec :=
  { r with merge := min (r.merge + 1) 65535, bits := r.bits ||| e.bits, lastm := stamp62 e.time,
           real := r.real || e.real, inj := r.inj || e.inj }

/-- A record raised to a higher class (R380). -/
def Rec.raise (r : Rec) (cls : Nat) : Rec := if r.cls < cls then { r with cls := cls, upg := true } else r

/-- The interrupts of an upgrade to a class whose reaction holds IRQ (R391). -/
def Dev.upgradeIrq (d : Dev) (r : Rec) (react : Nat) : Dev :=
  if bitAt react 1 then (d.irq pFCOL FCOL.I_REC).irqIf (r.cls == 3) pFCOL FCOL.I_FATAL else d

/-- The bits of a reaction that a record has not performed. -/
def newBits (react done_ : Nat) : Nat := react - (react &&& done_)

/-- The first fatal record is copied (R376). -/
def Dev.fatalCopy (d : Dev) (r : Rec) (fixed : Bool) : Dev :=
  if fixed && d.fcol.fatal.isNone then { d with fcol := { d.fcol with fatal := some r } } else d

/-- An event `e` merges into the open record `r` (R380); `done_` are the reactions of R376 that it has performed. -/
def Dev.mergeEvent (d : Dev) (at_ : Option Nat) (r e : Rec) (react done_ : Nat) (fixed : Bool) : Dev :=
  let injOnly := e.inj && !e.real
  let up := decide (r.cls < e.cls)
  let j := (r.join e).raise e.cls
  let bits := if (r.real || injOnly) && !up then 0 else newBits react r.react
  let j := { j with react := j.react ||| bits ||| done_ }
  let d := (d.recUpdate at_ j).fatalCopy j fixed
  let d := if up then d.upgradeIrq j react else d
  d.perform j e.cls bits fixed

/-- An event opens a record and performs its reaction (R380). -/
def Dev.openEvent (d : Dev) (e : Rec) (react : Nat) (fixed : Bool) : Dev :=
  let (at_, r, d) := d.recNew { e with react := react }
  let d := ((d.recUpdate at_ r).fstat r.src r.gcode true).fatalCopy r fixed
  d.perform r r.cls react fixed

/-- One event of a source (R380). The fixed reactions of R376 stand in REACT of every record that performs them. -/
def Dev.fcolEvent (d : Dev) (e : Rec) : Dev :=
  let injOnly := e.inj && !e.real
  let fixed := e.cls == 3 && (!injOnly || d.on pFCOL FCOL.INJCFG_FATAL)
  let done_ := if fixed && !d.fcol.fatalDone then 0x095 else 0
  let d := if fixed then d.fatalReact else d
  let react := d.classReact e.src e.cls injOnly ||| (if fixed then 0x095 else 0)
  if e.cls != 3 && d.inWindow e.src then
    if react = 0 then d else (d.recNew { e with isOpen := false, conseq := true, react := 1 }).2.2
  else
    match d.openRec e.src 0 with
    | some (at_, r) => d.mergeEvent at_ r e react done_ fixed
    | none =>
      if react ≠ 0 then d.openEvent e react fixed else d.inc pFCOL (FCOL.CORCNT e.src)

/-- The order of events: tick, then source (R380). -/
def eventLe (a b : Nat × Nat) : Bool := decide (a.1 < b.1) || (a.1 == b.1 && decide (a.2 ≤ b.2))

/-- An event among those in order, by its tick and its source. -/
def eventIn (l : List (Nat × Nat)) (k : Nat × Nat) : List (Nat × Nat) :=
  match l with
  | [] => [k]
  | x :: t => if x = k then x :: t else if eventLe x k then x :: eventIn t k else k :: x :: t

/-- The events that wait, in the order in which they are handled: what one source has raised in one tick is one (R372, R380). -/
def Dev.eventsDue (d : Dev) : List (Nat × Nat) := d.reports.foldl (fun l r => eventIn l (r.tick, r.src)) []

/-- The event of a tick and a source (R372). -/
def Dev.oneEvent (d : Dev) (k : Nat × Nat) : Dev :=
  let src := k.2
  let mine := fun (r : Report) => r.src == src && r.tick == k.1
  match d.reports.find? mine with
  | none => d
  | some x =>
    let l := d.reports.filter mine
    let d := { d with reports := d.reports.filter fun r => !mine r }
    d.fcolEvent (recOf src 0 (l.foldl (fun m r => max m r.cls) 0) (maskOf (l.map (·.bit))) x.time x.gen x.inst
      (l.any fun r => !r.inj) (l.any (·.inj)))

/-- FAULT_EVENT (R372, R380): what a source has raised in the oldest tick of which something has not been handled. What has its turn
before it is handled first. -/
def Dev.faultEvent (d : Dev) (src : Nat) : Dev :=
  match d.reports.find? (fun r => r.src == src) with
  | none => d
  | some x => (d.eventsDue.filter fun k => eventLe k (x.tick, src)).foldl Dev.oneEvent d

/-- GUST_EVENT (R372, R390): an accepted token of a code, once per tick, after the sources that have raised something (R380). -/
def Dev.gustEvent (d : Dev) (code : Nat) : Dev :=
  if d.fcol.tokens.contains code then d
  else
    let d := d.eventsDue.foldl Dev.oneEvent d
    let d := { d with fcol := { d.fcol with tokens := code :: d.fcol.tokens } }
    let e := recOf 63 code 0 0 d.stamp.1 d.stamp.2 0 true false
    let react := d.get pFCOL (FCOL.GRCT code)
    match d.openRec 63 code with
    | some (at_, r) => d.mergeEvent at_ r e 0 0 false
    | none => if react = 0 then d else d.openEvent e (react ||| 1) false

/-! ### Register writes of FCOL (R375, R390 to R392) -/

/-- The sources that the table of R371 refuses a block reset. -/
def blkRefused (n : Nat) : Bool := [0, 5, 6, 8, 10].contains n

/-- RCT_WRITE (R375). -/
def Dev.rctWrite (d : Dev) (n v : Nat) : Dev :=
  if blkRefused n && (bitAt v 5 || bitAt v 15) then d.err pFCOL FCOL.E_CFG_REJ
  else
    let d := (d.set pFCOL (FCOL.RCT_COR n) v).set pFCOL (FCOL.RCT_UNC n) (v / 1024)
    d.set pFCOL (FCOL.RCT_FAT n) (0x095 ||| (v / 2 ^ 20 &&& 0x142))

/-- GRCT_WRITE (R390). -/
def Dev.grctWrite (d : Dev) (n v : Nat) : Dev :=
  if bitAt v 4 || bitAt v 5 then d.err pFCOL FCOL.E_CFG_REJ else d.set pFCOL (FCOL.GRCT n) v

/-- FCOL_CNTCLR (R391). -/
def Dev.fcolCntclr (d : Dev) : Dev :=
  (List.range 48).foldl (fun d n => d.clearCnt pFCOL (FCOL.CORCNT n)) (d.clearCnt pFCOL FCOL.RECCNT_RECOVF)

/-- Writes of FCOL registers. -/
def Dev.fcolWrite (d : Dev) (off v : Nat) : Dev :=
  if off = 0x044 then
    (d.set pFCOL FCOL.INJCFG_FATAL (v / 2 ^ 31)).set pFCOL FCOL.INJCFG_ACT (v % 1024 ||| 1)
  else if off = 0x048 then d.alivecfgWrite v
  else if 0x100 ≤ off ∧ off < 0x1C0 then d.rctWrite ((off - 0x100) / 4) v
  else if 0x400 ≤ off ∧ off < 0x440 then d.grctWrite ((off - 0x400) / 4) v
  else if off = 0x80C then (if bitAt v 31 then d.faultRelease else d)
  else if off = 0x810 then (if bitAt v 31 then d.aliveKick else d)
  else if off = 0x814 then (if bitAt v 31 then d.fcolAck (bitAt v 6) (bitsOf v 0 6) else d)
  else if off = 0x824 then (if bitAt v 0 then d.fcolCntclr else d)
  else d.writeWord pFCOL off v

/-- A word of the record ring window (R381), for an entry that has been written: any other reads undefined (R61). -/
def Dev.ringWord (d : Dev) (off : Nat) : Nat :=
  match d.fcol.ring.lookup (off / 32) with
  | some r => nth r.words (off % 32 / 4) 0
  | none => 0

/-- A word of FATALREC (R376): zero before the first fatal record. -/
def Dev.fatalWord (d : Dev) (n : Nat) : Nat :=
  match d.fcol.fatal with
  | some r => nth r.words n 0
  | none => 0

end Sys2Proof.Machine
end

