-- ==== Sys2Proof/Machine/Access.lean ====
section
/-! DEFINITION. Register pages as the bus sees them (chapter 06): the header (R103 to R108), feature negotiation (R115 to
R119), the lock keys (R107), what every register reads as, wide reads (R100), the writes of every page, and the address
map (R110, R111). -/

namespace Sys2Proof.Machine

/-! ### Features (R115 to R119) -/

/-- The features a page offers (R118). -/
def featOffer (pg : Nat) : Nat :=
  match pageKind pg with
  | some (.lth, _) => 1 | some (.pwmu, _) => 3 | some (.hk, _) => 2 | some (.adc, _) => 1
  | some (.link, n) => if n < 8 then 7 else 1
  | _ => 0

/-- The quiescent condition of a page (R116, R118). -/
def Dev.quiescent (d : Dev) (pg : Nat) (mgmt : Bool) : Bool :=
  match pageKind pg with
  | some (.lth, n) => d.leState n == 0
  | some (.pwmu, m) => !d.on (pPWMU m) PWMU.CTRL_EN
  | some (.hk, _) => !d.on (pPWMU 6) PWMU.CTRL_EN
  | some (.adc, c) => (d.adcSync c).adcIdle c
  | some (.link, _) => mgmt || !d.on pg LINK.PCFG_EN
  | _ => true

/-- Accepted features take effect (R115, R119). -/
def Dev.featApply (d : Dev) (pg acc : Nat) : Dev :=
  match pageKind pg with
  | some (.link, n) =>
    if d.isCell && d.gridOn then d.modPort n fun x => { x with feats := some acc } else d.linkFeats n acc
  | _ => d

/-- FEATACC_WRITE (R115, R116, R119); `mgmt` says that a management frame writes. -/
def Dev.featWrite (d : Dev) (pg v : Nat) (mgmt : Bool) : Dev :=
  let d := d.dropKey pg
  let now := d.get pg HDR.FEATACC_DONE * 2 ^ 31 + d.get pg HDR.FEATACC_ACC
  let strand := d.isCell && (pg == pLINK 0 || pg == pLINK 1)
  let acc := v % 2 ^ 31 &&& featOffer pg
  if d.locked pg then d.errIf (v != now) pg HDR.E_LOCK_ERR
  else if strand && !mgmt then d.err pg HDR.E_FEAT_ERR
  else if d.on pg HDR.FEATACC_DONE then d.err pg HDR.E_FEAT_ERR
  else if bitAt v 31 && !d.quiescent pg (strand && mgmt) then d.err pg HDR.E_FEAT_ERR
  else
    let d := d.errIf (acc != v % 2 ^ 31) pg HDR.E_FEAT_ERR
    let d := d.set pg HDR.FEATACC_ACC acc
    if bitAt v 31 then (d.set pg HDR.FEATACC_DONE 1).featApply pg acc else d

/-! ### The lock keys (R107) and error injection (R106) -/

/-- LOCK_KEY_WRITE (R107). A second key with no first key waiting counts as any other wrong value (DESIGN CHOICE, entry
13). -/
def Dev.lockKey (d : Dev) (pg key : Nat) : Dev :=
  let waiting := d.unlock.contains pg
  let d := { d with unlock := d.unlock.filter (· != pg) }
  let sticky := d.on pg HDR.LOCK_STICKY
  if key = 0x3C5A ∧ waiting then d.set pg HDR.LOCK_LOCKED 0
  else
    let d := d.errIf (waiting && d.locked pg) pg HDR.E_LOCK_ERR
    if key = 0x5A5A then d.set pg HDR.LOCK_LOCKED 1
    else if key = 0xC0DE then (d.set pg HDR.LOCK_LOCKED 1).set pg HDR.LOCK_STICKY 1
    else if key = 0xA5C3 ∧ !sticky then { d with unlock := pg :: d.unlock }
    else d.err pg HDR.E_LOCK_ERR

/-- UNLOCK_KEY_TIMEOUT (R107): 64 ticks have passed since the first key. -/
def Dev.keyTimeout (d : Dev) (pg : Nat) : Dev := if pg = pTSTK then d else d.dropKey pg

/-- ERRINJ_WRITE (R106): on a locked page, bits that are 1 are refused (R108), reserved bits aside (R3). TSTK changes nothing of its own (R433). -/
def Dev.injWrite (d : Dev) (pg v : Nat) : Dev :=
  let d := d.dropKey pg
  if d.locked pg then d.errIf ((definedErrs pg).any (bitAt v)) pg HDR.E_LOCK_ERR
  else
    (definedErrs pg).foldl (fun d b =>
      if bitAt v b then
        (if pg = pTSTK then d.occurrence (pageSource pg).1 (pageSource pg).2 b (d.errClass pg b) true else d.inject pg b)
      else d) d

/-! ### What registers read as -/

/-- The block type code and the instance of a page (R109). -/
def pageId (pg : Nat) : Nat :=
  let id (t n : Nat) : Nat := t * 65536 + n
  match pageKind pg with
  | some (.sysc, n) => id 0x01 n | some (.syn, n) => id 0x02 n | some (.cksw, n) => id 0x03 n
  | some (.fcol, n) => id 0x04 n | some (.thrm, n) => id 0x05 n | some (.tstk, n) => id 0x06 n
  | some (.intc, n) => id 0x07 n | some (.dma, n) => id 0x08 n | some (.cals, n) => id 0x09 n
  | some (.time, n) => id 0x10 n | some (.spdl, n) => id 0x11 n
  | some (.link, n) => if n < 8 then id 0x20 n else id 0x21 (n - 8)
  | some (.strd, n) => id 0x22 n | some (.vane, n) => id 0x23 n | some (.isob, n) => id 0x30 n
  | some (.pwmc, n) => id 0x40 n | some (.pwmu, n) => id 0x41 n | some (.hk, n) => id 0x42 n
  | some (.gch, n) => id 0x43 n | some (.motr, n) => id 0x44 n | some (.sql, n) => id 0x45 n
  | some (.adc, n) => id 0x50 n | some (.lth, n) => id 0x60 n | some (.eth, n) => id 0x70 n
  | some (.ddrc, n) => id 0x71 n | some (.anmg, n) => id 0x72 n | some (.qspi, n) => id 0x73 n
  | some (.uart, n) => id 0x74 n | some (.i2c, n) => id 0x75 n | some (.spi, n) => id 0x76 n
  | some (.gpio, n) => id 0x77 n | none => 0

/-- PAGEREV (R103): COMPAT, MAJOR and MINOR. -/
def pageRev (pg : Nat) : Nat := (if featOffer pg = 0 then 0 else 0x030000) + 0x0200

/-- The status fields of a page that follow from other state, brought up to date for a read. A value the spec leaves
open is free. -/
def Dev.refresh (d : Dev) (pg off : Nat) : Dev :=
  match pageKind pg with
  | some (.syn, n) =>
    let d := d.set pg SYN.LOCKSTAT_REFOK (b2n (d.refOk (d.synRef n)))
    if off = 0x054 ∧ 2 ≤ d.get pg SYN.LOCKSTAT_PHASE then
      let (x, d) := d.free
      d.set pg SYN.LOCKSTAT_FINE (d.fineWord n x)
    else d
  | some (.cksw, _) => d.set pg CKSW.OSCTRIM_TRIM d.oscTrim
  | some (.tstk, _) =>
    let d := d.set pg TSTK.CFGCRC d.tstkCrc
    if off ≠ 0x818 then d
    else if d.tstkState ≠ 3 then d.set pg TSTK.NEXTTEST 0
    else if d.on pg TSTK.CFG_TESTEN then d.set pg TSTK.NEXTTEST d.nextTest
    else
      let (x, d) := d.free
      d.set pg TSTK.NEXTTEST (x % 4096)
  | some (.motr, _) =>
    if d.motrState = 5 ∧ !d.motr.susp then
      d.brakeStore
    else d
  | some (.time, _) => if off < 0x80C then d.putTrip pg ⟨TIME.NOWNS, TIME.NOWSL, TIME.NOWSH_FRAC, TIME.NOWSH_SECH⟩ d.now16 else d
  | some (.spdl, _) => d.set pg SPDL.ANGLE d.angle
  | some (.lth, _) =>
    d.set pg LTH.STAT_RAMP (b2n ((List.range 4).any fun j => d.get pg (LTH.SPEFF j) != d.get pg (LTH.SP j)))
  | some (.link, n) =>
    let ref := decide (n < 2) && d.get pSYNA SYN.LOCKSTAT_ACTREF == n + 1
    ((d.set pg LINK.STAT_REFCLK (b2n ref)).set pg LINK.STAT_GRID (b2n d.gridOn)).set pg LINK.STAT_ADJ
      (b2n (decide (2 ≤ d.linkSt n) && !ref))
  | some (.vane, _) => (d.set pg VANE.UIDLO Config.uid.toNat).set pg VANE.UIDHI (Config.uid.toNat / 2 ^ 32)
  | some (.isob, _) => (d.set pg ISOB.STAT_NOEXP (b2n d.isoNoexp)).set pg ISOB.STAT_DABBLK (b2n d.isoDabblk)
  | some (.pwmu, m) =>
    (d.set pg PWMU.STAT_FINEFB (b2n (bitsOf (d.get pPWMC PWMC.DLSTAT_FB) (2 * m) 2 != 0))).set pg PWMU.PSTAT_CNT
      (if (d.unit m).run then d.ticks - (d.unit m).tick0 else 0)
  | some (.hk, _) =>
    (d.set pg PWMU.STAT_FINEFB (b2n (d.bit pPWMC PWMC.DLSTAT_FB 12))).set pg PWMU.PSTAT_CNT
      (if (d.unit 6).run then d.ticks - (d.unit 6).tick0 else 0)
  | some (.gch, _) =>
    let cs := [GCH.CSSTAT_CH1F, GCH.CSSTAT_CH2F, GCH.CSSTAT_NOEXPREQ, GCH.CSSTAT_DABBLKREQ].any (d.on pg)
    let d := if 0x800 ≤ off ∧ off < 0x830 then
        d.set pg (GCH.CHSTAT_REQ ((off - 0x800) / 4)) (b2n (d.effReq ((off - 0x800) / 4))) else d
    ((d.set pg GCH.STAT_GDEN (d.get pg GCH.GDSTAT_GDEN)).set pg GCH.STAT_LATCHED (b2n d.anyLatch)).set pg GCH.STAT_CSACT (b2n cs)
  | some (.sql, _) =>
    let q := (off - 0x880) / 4
    let d := if 0x880 ≤ off ∧ off < 0x8C0 then
        (d.set pg (SQL.THRACT_HI q) (d.sqLevel q (d.get pg (SQL.SQTHR_HI q)))).set pg (SQL.THRACT_LO q)
          (d.sqLevel q (d.get pg (SQL.SQTHR_LO q))) else d
    ((d.set pg SQL.STAT_LSC (maskOf ((List.range 16).filter d.legsc))).set pg SQL.STAT_SETTLE (b2n (d.on pg SQL.SETL))).set pg
      SQL.STAT_UNRES (b2n (d.on pg SQL.OUT_UNRES))
  | some (.adc, c) =>
    let d := d.adcSync c
    let a := d.adcOf c
    let d := (d.set pg ADC.STAT_BUSY (b2n (!a.back.isEmpty || a.cur.any fun j => j.urg.isNone))).set pg ADC.STAT_PEND (b2n a.pend.isSome)
    let d := (d.set pg ADC.STAT_URGACT (b2n (d.urgBusy c))).set pg ADC.STAT_REFRDY (d.get pg ADC.REFCTL_REFRDY)
    let d := d.set pg ADC.STAT_ANCHACT (b2n (a.cur.any (·.win) || a.back.any (·.win)))
    d.set pg ADC.STAT_SLOT ((a.cur.map (·.slot)).getD 0)
  | some (.eth, n) => (d.set pg ETH.TSSTAT_TXFILL (d.ethOf n).tx.length).set pg ETH.TSSTAT_RXFILL (d.ethOf n).rx.length
  | some (.uart, n) =>
    let d := d.uartSync n
    (d.set pg UART.STAT_TXFILL (d.uartOf n).tx.length).set pg UART.STAT_RXFILL (d.uartOf n).rx.length
  | some (.gpio, _) => d.set pg GPIO.IN (maskOf ((List.range 24).filter d.gpioPin))
  | _ => d

/-- The word of a block register as the tables give it, with the registers whose contents stand elsewhere. -/
def Dev.blockWord (d : Dev) (pg off : Nat) : Nat :=
  match pageKind pg with
  | some (.syn, 0) => if off = 0x048 ∨ off = 0x04C then 0 else d.wordAt pg off
  | some (.tstk, _) => if off = 0x014 then d.tstkState else d.wordAt pg off
  | some (.fcol, _) => if 0x840 ≤ off ∧ off < 0x860 then d.fatalWord ((off - 0x840) / 4) else d.wordAt pg off
  | some (.intc, _) => if 0x900 ≤ off ∧ off < 0x920 then d.pendWord ((off - 0x900) / 4) else d.wordAt pg off
  | some (.gch, _) => if d.isCell ∧ (off = 0x0C0 ∨ off = 0x0C4 ∨ off = 0x864) then 0 else d.wordAt pg off
  | some (.link, _) => if d.isCell ∧ (off = 0x880 ∨ off = 0x884 ∨ 0xC00 ≤ off ∧ off < 0xD00) then 0 else d.wordAt pg off
  | some (.pwmu, m) =>
    if (off = 0x828 ∨ off = 0x8A8) ∧ !d.interpRef m then 0
    else if 0x880 ≤ off ∧ off ≤ 0x8A8 then
      (pageFields pg (off - 0x80)).foldl (fun w f => w + d.inForce pg (f.fld (off - 0x80)) <<< f.lsb) 0
    else d.wordAt pg off
  | some (.hk, _) =>
    if 0x880 ≤ off ∧ off ≤ 0x8A8 then
      (pageFields pg (off - 0x80)).foldl (fun w f => w + d.inForce pg (f.fld (off - 0x80)) <<< f.lsb) 0
    else d.wordAt pg off
  | some (.adc, c) =>
    let ow := d.feat (pADC c) 0
    if (off = 0x050 ∨ off = 0x824) ∧ !ow then 0
    else if 0x840 ≤ off ∧ off < 0x880 then d.wordAt pg off + 65536 * ((off - 0x840) / 4)
    else if 0x100 ≤ off ∧ off < 0x180 ∧ !ow then d.wordAt pg off - d.get pg (ADC.SLOT_OW ((off - 0x100) / 4)) * 2 ^ 28
    else d.wordAt pg off
  | some (.lth, n) => if d.stepSp n ∧ (0x04C ≤ off ∧ off < 0x060) then 0 else d.wordAt pg off
  | _ => d.wordAt pg off

/-- The word at an offset of a page, without the side effect of a read. -/
def Dev.readWord (d : Dev) (pg off : Nat) : Nat :=
  if off = 0x000 then pageId pg
  else if off = 0x004 then pageRev pg
  else if d.gone pg then 0
  else if off = 0x008 then featOffer pg
  else if off = 0x00C then d.get pg HDR.FEATACC_DONE * 2 ^ 31 + d.get pg HDR.FEATACC_ACC
  else if off = 0x014 then
    d.get pg HDR.FEATACC_DONE * 2 ^ 31 + d.get pg HDR.LOCK_LOCKED * 2 ^ 30 + d.blockWord pg off
  else if off = 0x018 then d.get pg HDR.IRQEN
  else if off = 0x01C then d.get pg HDR.IRQFLG
  else if off = 0x020 then d.get pg HDR.ERRSTAT
  else if off = 0x024 then 0
  else if off = 0x028 then d.get pg HDR.FIRST * 256 + d.maxCls pg
  else if off = 0x02C then d.get pg HDR.LOCK_LOCKED * 2 ^ 31 + d.get pg HDR.LOCK_STICKY * 2 ^ 30
  else d.blockWord pg off

/-- The offsets whose words a read of the lowest word of a wide value latches (R100, R140). -/
def wideRest (k : Kind) (off : Nat) : List Nat :=
  let trip := [off + 4, off + 8]
  let two := [off + 4]
  let inRow (base stride cnt : Nat) : Bool :=
    decide (base ≤ off) && (off - base) % stride == 0 && decide ((off - base) / stride < cnt)
  match k with
  | .time => if off = 0x820 ∨ inRow 0x104 0x20 4 then trip else if inRow 0x110 0x20 4 then two else []
  | .spdl => if inRow 0x404 0x20 32 then trip else if inRow 0x410 0x20 32 then two else []
  | .link => if off = 0x820 ∨ off = 0x830 ∨ off = 0x864 then trip else []
  | .strd => if off = 0x048 then trip else []
  | .vane => if off = 0x044 then trip else if off = 0x828 then two else []
  | .gch => if inRow 0x880 0x10 6 then trip else []
  | .fcol => if off = 0x800 ∨ inRow 0x200 8 48 then two else []
  | .ddrc => if off = 0x80C then two else []
  | .eth => if off = 0x048 then two else []
  | _ => []

/-- A 32-bit read of a register of a page whose block runs. A latched word serves one read of its own offset; after it the
offset reads live again (DESIGN CHOICE, entry 12). -/
def Dev.liveRead (d : Dev) (k : Kind) (n pg off : Nat) : Dev :=
  match d.latched.lookup (pg * 4096 + off) with
  | some w => { d with latched := d.latched.filter fun x => x.1 != pg * 4096 + off }.answer w
  | none =>
    if k = .intc ∧ off = 0x804 then d.claimRead 0
    else if k = .intc ∧ off = 0x80C then d.claimRead 1
    else if k = .time ∧ off = 0x800 then d.timeNowRead
    else if k = .time ∧ off = 0xA00 then d.tcapRead 0
    else if k = .time ∧ off = 0xA10 then d.tcapRead 1
    else if k = .eth ∧ off = 0xC00 then d.ethTsRead n false
    else if k = .eth ∧ off = 0xC10 then d.ethTsRead n true
    else if k = .strd ∧ off = 0x840 then d.enumRead
    else if k = .uart ∧ off = 0x800 then d.uartRead n
    else
      let d1 := d.refresh pg off
      let d := { d with fresh := d1.fresh }
      (d.latch pg ((wideRest k off).map fun o => (o, d1.readWord pg o))).answer (d1.readWord pg off)

/-- A 32-bit read of a register (R8, R100). A page inside its block reset answers zero. A page of a block that is held in reset but
not absent (LINK2 to LINK7 and PEER0 to PEER1 of a cell) reads its reset values and ignores writes without a flag, as R420 says of
Tailstock (DESIGN CHOICE, entry 12: R7 does not say). -/
def Dev.pageRead (d : Dev) (pg off : Nat) : Dev :=
  match pageKind pg with
  | none => d.busErr
  | some (k, n) =>
    if d.absent pg then d.answer (d.readWord pg off)
    else if d.inBlk.contains pg then d.answer 0
    else d.liveRead k n pg off

/-! ### DMA registers (R442, R443, R459) -/

def Dev.dmaCh (d : Dev) (c : Nat) : Dma := d.soc.dma.getD c dma0
def Dev.modDma (d : Dev) (c : Nat) (f : Dma → Dma) : Dev := d.modSoc fun s => { s with dma := modNth s.dma c f }

/-- A channel's source is raised (R440). -/
def Dev.dmaRaise (d : Dev) (c : Nat) : Dev := d.modSoc fun s => { s with dmaIrq := s.dmaIrq ||| 2 ^ c }

/-- The memory and offset at an address of the 32-bit map, with DMA access rights (R110, R442). -/
def dmaMem (addr : Nat) : Option (MemId × Nat) :=
  if 0x01000000 ≤ addr ∧ addr < 0x01040000 then some (.tcm0, addr - 0x01000000)
  else if 0x01040000 ≤ addr ∧ addr < 0x01080000 then some (.tcm1, addr - 0x01040000)
  else if 0x20000000 ≤ addr ∧ addr < 0x20400000 then some (.sram, addr - 0x20000000)
  else none

/-- Word 6 of the descriptor in progress (R444), which a channel has read, or at which software stops it (`begun`); the boot
ROM's own descriptors have none in memory. -/
def Dev.dmaWord6 (d : Dev) (c : Nat) (done begun : Bool) : Dev :=
  let x := d.dmaCh c
  if (x.words.isEmpty && !(begun && x.at_ % 32 == 0)) || (d.soc.bootDma && c == 0) then d
  else match dmaMem x.at_ with
    | some (m, a) => d.store m (a + 24) (toLE 4 (2 ^ 31 * b2n done + x.moved))
    | none => d

/-- A channel stops with a code (R443). -/
def Dev.dmaStop (d : Dev) (c code : Nat) : Dev :=
  let pg := pDMA
  let d := d.dmaWord6 c false (code == 5)
  (((d.set pg (DMA.CHSTAT_BUSY c) 0).set pg (DMA.CHSTAT_ERR c) 1).set pg (DMA.CHSTAT_CODE c) code).dmaRaise c

/-- The link boot waits for an image (R456). -/
def Dev.linkBoot (d : Dev) : Bool :=
  d.isCell && d.get pSYSC SYSC.STRAP_BOOT == 1 && d.get pSYSC SYSC.BOOTSTAT_PHASE != 5

/-- DMA_GO (R442, R456). -/
def Dev.dmaGo (d : Dev) (c : Nat) : Dev :=
  let pg := pDMA
  let boot := d.linkBoot && c == 0 && d.get pg (DMA.CHCTL_KIND 0) == 2
  let d := (((d.set pg (DMA.CHSTAT_BUSY c) 1).set pg (DMA.CHSTAT_DONE c) 0).set pg (DMA.CHSTAT_ERR c) 0).set pg (DMA.CHSTAT_CODE c) 0
  let d := d.modDma c fun _ => ⟨d.get pg (DMA.CHDESC c), [], 0⟩
  if boot then
    ((d.modSoc fun s => { s with bootDma := true }).modDma 0 fun _ =>
      ⟨0, [256, 0, 0, 0x203FFE00, 0, 0], 0⟩).bootPhase 3 0
  else d

/-- A write of CHCTLc. -/
def Dev.chctlWrite (d : Dev) (c v : Nat) : Dev :=
  let d := d.modSoc fun s => { s with dmaIrq := s.dmaIrq - (s.dmaIrq &&& 2 ^ c) }
  if d.on pDMA (DMA.CHSTAT_BUSY c) then
    if bitAt v 30 then d.dmaStop c 5 else d.err pDMA DMA.E_CFG_REJ
  else
    let d := d.writeWord pDMA (0x800 + 0x20 * c) v
    if bitAt v 31 then d.dmaGo c else d

/-- Writes of DMA registers. -/
def Dev.dmaWrite (d : Dev) (off v : Nat) : Dev :=
  if 0x800 ≤ off ∧ off < 0xA00 ∧ (off - 0x800) % 32 = 0 then d.chctlWrite ((off - 0x800) / 32) v else d.writeWord pDMA off v

/-! ### Writes of pages -/

/-- A write of a block register by its page. `mgmt` names the port at which a management frame came in (R210). -/
def Dev.blockWrite (d : Dev) (mgmt : Option Nat) (pg off v : Nat) : Dev :=
  match pageKind pg with
  | some (.sysc, _) => d.syscWrite off v
  | some (.syn, n) => d.synWrite n off v
  | some (.cksw, _) => d.ckswWrite off v
  | some (.fcol, _) => d.fcolWrite off v
  | some (.thrm, _) => d.thrmWrite off v
  | some (.tstk, _) => d.tstkWrite off v
  | some (.intc, _) => d.intcWrite off v
  | some (.dma, _) => d.dmaWrite off v
  | some (.cals, _) => d.calsWriteReg off v
  | some (.time, _) => d.timeWrite off v
  | some (.spdl, _) => d.spdlWrite off v
  | some (.link, n) => d.linkWrite n off v
  | some (.strd, _) => d.strdWrite off v
  | some (.vane, _) =>
    match mgmt with
    | some p => if off = 0x040 then d.posWrite p v else d.vaneWrite off v
    | none => d.vaneWrite off v
  | some (.isob, _) => d.isobWrite off v
  | some (.pwmc, _) => d.pwmcWrite off v
  | some (.pwmu, m) =>
    d.pwmuWrite m off v
  | some (.hk, _) => d.pwmuWrite 6 off v
  | some (.gch, _) => d.gchWriteBind off v
  | some (.motr, _) => d.motrWrite off v
  | some (.sql, _) => d.sqlWrite off v
  | some (.adc, c) => d.adcWrite c off v
  | some (.lth, n) => d.latheWrite n off v
  | some (.eth, n) => d.ethWrite n off v
  | some (.ddrc, _) => d.ddrcWrite off v
  | some (.anmg, _) => d.anmgWrite off v
  | some (.qspi, _) => d.qspiWrite off v
  | some (.uart, n) => d.uartWrite n off v
  | some (.i2c, _) => d.i2cWrite off v
  | some (.spi, _) => d.spiWrite off v
  | some (.gpio, _) => d.gpioWrite off v
  | none => d

/-- A register that software has written, and that now holds what was written, keeps it against the hardware in this tick
(R101). -/
def Dev.noteSoft (d : Dev) (pg off v : Nat) : Dev :=
  if (pageFields pg off).all fun f => (f.acc != .rw && f.acc != .sh) || d.get pg (f.fld off) == bitsOf v f.lsb f.wid then
    d.meet fun m => { m with soft := (pg, off) :: m.soft }
  else d

/-- The IRQFLG bits that a page defines (R3, R103). -/
def irqDefined (pg : Nat) : Nat :=
  match pageKind pg with
  | some (k, _) => k.irqMask
  | none => 0

/-- A first key of the TSTK lock is dropped by any other write to the page, without an error (R433). -/
def Dev.tstkKey (d : Dev) (pg off : Nat) : Dev :=
  if pg = pTSTK ∧ off ≠ 0x02C then { d with unlock := d.unlock.filter (· != pTSTK) } else d

/-- A page that takes no write: its block is absent, or inside its block reset, or Tailstock is not released (R420). -/
def Dev.deaf (d : Dev) (pg : Nat) : Bool := d.absent pg || d.inBlk.contains pg || (pg == pTSTK && d.tstkHeld)

/-- A 32-bit write to a register (R4, R8, R103 to R108). -/
def Dev.pageWrite (d : Dev) (mgmt : Option Nat) (pg off v : Nat) : Dev :=
  let d := { d with reply := none }
  if d.deaf pg then d
  else
    let d := d.tstkKey pg off
    if off = 0x00C then d.featWrite pg v mgmt.isSome
    else if off = 0x024 then d.injWrite pg v
    else if off = 0x02C then (if pg = pTSTK then d.tstkLock (v % 65536) else d.lockKey pg (v % 65536))
    else if off = 0x01C then
      let d := (d.dropKey pg).w1c pg HDR.IRQFLG v
      if pg = pGPIO then d.gpioAny else if pg = pUART 0 then d.uartRxNe 0 else if pg = pUART 1 then d.uartRxNe 1 else d
    else if off = 0x020 then (d.dropKey pg).clearErrs pg v
    else if off = 0x018 then d.guard pg off v fun d v => d.writeWord pg off (v &&& irqDefined pg)
    else if (off < 0x040 ∧ off ≠ 0x010) ∨ (pg = pVANE ∧ off = 0x040 ∧ mgmt.isNone) then d.dropKey pg
    else d.guard pg off v fun d v => (d.blockWrite mgmt pg off v).noteSoft pg off v

/-- An 8-bit or 16-bit write to a page is ignored, with ACC_REJ (R100). -/
def Dev.subWrite (d : Dev) (pg off : Nat) : Dev :=
  let d := { d with reply := none }
  if d.deaf pg then d else ((d.tstkKey pg off).dropKey pg).err pg HDR.E_ACC_REJ

/-! ### The address map (R109 to R111) -/

/-- What an address reaches. -/
inductive Place where
  | mem (m : MemId) (off : Nat)
  | rom
  | page (pg off : Nat)
  | win (w off : Nat)
  | ddr
  | nothing

/-- The table of R110 for an initiator. -/
def place_ (who : Who) (addr : Nat) : Place :=
  let core := decide (who = .cpu0) || decide (who = .cpu1)
  let mgmt := match who with
    | .mgmt _ => true
    | _ => false
  if 0x40000000 ≤ addr ∧ addr < 0x48000000 then
    (if (pageKind ((addr - 0x40000000) / 4096)).isSome then .page ((addr - 0x40000000) / 4096) (addr % 4096) else .nothing)
  else if 0x48000000 ≤ addr ∧ addr < 0x48040000 then .win ((addr - 0x48000000) / 65536) (addr % 65536)
  else if mgmt then .nothing
  else if addr < 0x40000 then
    (if core then .mem (if who = .cpu0 then .tcm0 else .tcm1) addr else .nothing)
  else if 0x01000000 ≤ addr ∧ addr < 0x01040000 then (if who = .cpu0 then .nothing else .mem .tcm0 (addr - 0x01000000))
  else if 0x01040000 ≤ addr ∧ addr < 0x01080000 then (if who = .cpu1 then .nothing else .mem .tcm1 (addr - 0x01040000))
  else if 0x10000000 ≤ addr ∧ addr < 0x10010000 then .rom
  else if 0x20000000 ≤ addr ∧ addr < 0x20400000 then .mem .sram (addr - 0x20000000)
  else if 0x80000000 ≤ addr ∧ addr < 0x100000000 then .ddr
  else .nothing

/-- A word of a block memory window (R111). An FCOL ring entry that nothing has written is undefined (R61). -/
def Dev.winWord (m : Mems) (d : Dev) (w off : Nat) : Nat :=
  match w with
  | 0 => if d.isCell then 0 else d.isoWinRead off
  | 1 =>
    if (d.fcol.lost.lookup (off / 4)).isSome then (d.fcol.lost.lookup (off / 4)).getD 0
    else if (d.fcol.ring.lookup (off / 32)).isSome then d.ringWord off
    else leNat ((List.range 4).map fun i => Config.undefByte m.gen 4 (off + i))
  | 2 => if d.isCell || decide (0x8000 ≤ off) then 0 else (d.anDesc (off / 64)).word (off % 64 / 4)
  | _ =>
    let e := off % 4096 / 32
    match d.calBusy with
    | some (b, _) =>
      if b = e ∧ d.get pCALS CALS.STAT_OP = 1 then 0 else (calEntry d.calstore e).getD (off % 32 / 4) 0
    | none => (calEntry d.calstore e).getD (off % 32 / 4) 0

/-- A word written to a block memory window. -/
def Dev.winWrite (d : Dev) (w off v : Nat) : Dev :=
  match w with
  | 0 => d.isoWinWrite off v
  | 2 => if off < 0x8000 then d.anWordWrite (off / 64) (off % 64 / 4) v else d
  | _ => d

/-- The initiator can reach the bus: the debug port only unlocked and through its instruction DEBUG (R457), core pair 1 only released, management frames
only in a cell, and nobody in STOP. -/
def Dev.onBus (d : Dev) (who : Who) : Bool :=
  !d.soc.stop &&
  match who with
  | .cpu0 => true
  | .cpu1 => d.on pSYSC SYSC.RELEASE_CPU1
  | .debug => decide (d.tapInstr d.soc.tapIr = .debug)
  | .dma => true
  | .mgmt _ => d.isCell

/-- The port of a management frame. -/
def mgmtPort : Who → Option Nat
  | .mgmt p => some p.val
  | _ => none

/-- The addressed bytes of a register word. -/
def partOf (w at_ len : Nat) : Nat := bitsOf w (8 * at_) (8 * len)

/-- A read keeps only the addressed bytes of the word it answered. -/
def Dev.answerPart (d : Dev) (at_ len : Nat) : Dev :=
  match d.reply with
  | some (some w) => d.answer (partOf w at_ len)
  | _ => d

/-- A read of `len` bytes (1, 2 or 4) at an address (R100, R110). -/
def Dev.busRead (m : Mems) (d : Dev) (who : Who) (addr len : Nat) : Dev :=
  match place_ who addr with
  | .mem id off => if id.size < off + len then d.busErr else d.answer (leNat (m.bytes id off len))
  | .rom =>
    let (x, d) := d.free
    d.answer (x % 2 ^ (8 * len))
  | .page pg off => if off % len ≠ 0 then d.busErr else (d.pageRead pg (off / 4 * 4)).answerPart (off % 4) len
  | .win w off => if off % len ≠ 0 then d.busErr else d.answer (partOf (d.winWord m w (off / 4 * 4)) (off % 4) len)
  | .ddr => Dev.ddrWindow m d addr len none none
  | .nothing => d.busErr

/-- A write of `len` bytes at an address (R100, R110). -/
def Dev.busWrite (m : Mems) (d : Dev) (who : Who) (addr len v : Nat) : Dev :=
  match place_ who addr with
  | .mem id off => if id.size < off + len then d.busErr else { d.store id off (toLE len v) with reply := none }
  | .rom => d.busErr
  | .page pg off =>
    if off % len ≠ 0 then d.busErr
    else if len ≠ 4 then d.subWrite pg off
    else d.pageWrite (mgmtPort who) pg off v
  | .win w off =>
    if off % len ≠ 0 ∨ w = 1 ∨ w = 3 then d.busErr
    else if len ≠ 4 then { d with reply := none }
    else { d.winWrite w off v with reply := none }
  | .ddr => Dev.ddrWindow m d addr len (some v) none
  | .nothing => d.busErr

end Sys2Proof.Machine
end

