-- ==== Sys2Proof/Machine/Dma.lean ====
section
/-! DEFINITION. The DMA channels (R442 to R445) over the whole state: descriptors in memory, the bytes a channel moves, its
completion and its errors, and the link boot on channel 0 (R456). -/

namespace Sys2Proof.Machine

/-- How far a channel comes now. -/
inductive DmaEnd where
  /-- the descriptor's bytes are moved -/
  | done
  /-- it waits for data, credit or its port -/
  | wait
  /-- it stops with a CODE -/
  | err (code : Nat)
  deriving DecidableEq, Repr

/-! ### Single accesses -/

/-- A direct DRAM access (R113) cannot be made: no DRAM at the address, or the controller is not ready. -/
def Dev.dramBad (d : Dev) (addr len : Nat) : Bool := decide (d.dramSize < addr + len) || !d.on pDDRC DDRC.STAT_READY

/-- A DMA read in the space that a space bit names: the value, or a bus error. What the last access of an initiator
answered stays as it was. -/
def State.dmaRead (s : State) (dram : Bool) (addr len : Nat) : State × Option Nat :=
  if dram then (s, if s.dramBad addr len then none else some (leNat (s.mems.bytes .dram addr len)))
  else
    let r := s.runM fun m d => Dev.busRead m d .dma addr len
    ({ r with reply := s.reply }, r.reply.getD none)

/-- A DMA write, and whether it was accepted. -/
def State.dmaWrite1 (s : State) (dram : Bool) (addr len v : Nat) : State × Bool :=
  if dram then
    (if s.dramBad addr len then (s, false) else (s.run fun d => d.store .dram addr (toLE len v), true))
  else
    let r := s.runM fun m d => Dev.busWrite m d .dma addr len v
    ({ r with reply := s.reply }, r.reply != some none)

/-! ### Descriptors (R444) -/

/-- The words 0 to 5 of a descriptor with word 7 behind them. -/
def descWords (m : Mems) (at_ : Nat) : Option (List Nat) :=
  match dmaMem at_ with
  | some (id, off) => some ([0, 1, 2, 3, 4, 5, 7].map fun i => leNat (m.bytes id (off + 4 * i) 4))
  | none => none

def descLast (ws : List Nat) : Bool := bitAt (ws.getD 0 0) 31
def descLen (ws : List Nat) : Nat := bitsOf (ws.getD 0 0) 0 24
def descSrcDram (ws : List Nat) : Bool := bitAt (ws.getD 0 0) 30
def descDstDram (ws : List Nat) : Bool := bitAt (ws.getD 0 0) 29
def descSrc (ws : List Nat) : Nat := ws.getD 1 0 + (if descSrcDram ws then bitsOf (ws.getD 2 0) 0 8 * 2 ^ 32 else 0)
def descDst (ws : List Nat) : Nat := ws.getD 3 0 + (if descDstDram ws then bitsOf (ws.getD 4 0) 0 8 * 2 ^ 32 else 0)

/-- A descriptor that R444 calls invalid. -/
def Dev.descBad (d : Dev) (ws : List Nat) : Bool :=
  let w0 := ws.getD 0 0
  descLen ws == 0 || bitsOf w0 24 4 != 0 || decide (256 ≤ ws.getD 2 0) || decide (256 ≤ ws.getD 4 0) || ws.getD 6 0 != 0 ||
  (!descLast ws && ws.getD 5 0 % 32 != 0) || (d.isCell && (bitAt w0 30 || bitAt w0 29))

/-- A running channel has read its descriptor, or stops on it. -/
def State.dmaFetch (s : State) (c : Nat) : State × Option Nat :=
  let x := s.dmaCh c
  if !x.words.isEmpty then (s, none)
  else if x.at_ % 32 ≠ 0 then (s, some 3)
  else match descWords s.mems x.at_ with
    | none => (s, some 1)
    | some ws => if s.descBad ws then (s, some 3) else (s.run fun d => d.modDma c fun y => { y with words := ws }, none)

/-! ### Moving bytes -/

/-- A channel runs: the device is out of reset, the block is in no reset of its own, and STOP mode does not stop it (R62, R439). -/
def State.dmaRuns (s : State) (c : Nat) : Bool :=
  s.phase == .running && !s.inBlk.contains pDMA && !s.soc.stop && s.on pDMA (DMA.CHSTAT_BUSY c)

/-- The bytes that a channel has moved. -/
def State.dmaMoved (s : State) (c n : Nat) : State := { s with toDev := s.toDev.modDma c fun y => { y with moved := n } }

/-- Memory to memory, from the byte `moved` of the descriptor on: by words where both addresses allow it, otherwise by
bytes. The first number bounds the accesses left. A word that the channel itself writes may stop it, or reset the device (R61). -/
def State.dmaCopy (ws : List Nat) (c : Nat) : Nat → State → Nat → State × DmaEnd
  | 0, s, _ => (s, .done)
  | fuel + 1, s, moved =>
    let left := descLen ws - moved
    if left = 0 then (s, .done)
    else
      let a := descSrc ws + moved
      let b := descDst ws + moved
      let n := if a % 4 = 0 ∧ b % 4 = 0 ∧ 4 ≤ left then 4 else 1
      match s.dmaRead (descSrcDram ws) a n with
      | (s, none) => (s, .err 1)
      | (s, some v) =>
        match (s.dmaMoved c (moved + n)).dmaWrite1 (descDstDram ws) b n v with
        | (s, false) => (s.dmaMoved c moved, .err 2)
        | (s, true) => if s.dmaRuns c then State.dmaCopy ws c fuel s (moved + n) else (s, .wait)

/-- Bytes written one after the other to a destination; answers how many a failing write leaves unwritten. -/
def State.dmaPut (dram : Bool) : List Byte → State → Nat → State × Nat
  | [], s, _ => (s, 0)
  | b :: bs, s, a =>
    match s.dmaWrite1 dram a 1 b.toNat with
    | (s, false) => (s, bs.length + 1)
    | (s, true) => State.dmaPut dram bs s (a + 1)

/-- Bytes read one after the other from a source. -/
def State.dmaGet (dram : Bool) : Nat → State → Nat → State × Option (List Byte)
  | 0, s, _ => (s, some [])
  | n + 1, s, a =>
    match s.dmaRead dram a 1 with
    | (s, none) => (s, none)
    | (s, some v) =>
      match State.dmaGet dram n s (a + 1) with
      | (s, none) => (s, none)
      | (s, some l) => (s, some (BitVec.ofNat 8 v :: l))

/-- The enabled table entry that a bulk channel names (R442). -/
def Dev.dmaEntry (d : Dev) (c : Nat) (out : Bool) : Option (Nat × Nat) :=
  let p := d.get pDMA (DMA.CHCTL_PORT c)
  let s := d.get pDMA (DMA.CHCTL_BSTR c)
  if p < 10 ∧ !d.absent (pLINK p) ∧ d.strEn p s ∧ d.strOut p s = out then some (p, s) else none

/-- BULK_RX: held frames go to the destination until the descriptor is full or no data is left; a frame that is taken
whole advances the grant (R198, R444, R445). What lies before a write that fails has moved (R443). -/
def State.dmaDrain (ws : List Nat) (c p e : Nat) : Nat → State → Nat → State × DmaEnd
  | 0, s, _ => (s, .wait)
  | fuel + 1, s, moved =>
    let left := descLen ws - moved
    if left = 0 then (s, .done)
    else
      let x := s.stream p e
      match x.data with
      | [] => (s, .wait)
      | (_, bs) :: rest =>
        let part := (bs.drop x.took).take left
        let r := State.dmaPut (descDstDram ws) part s (descDst ws + moved)
        let n := part.length - r.2
        let s := (r.1.run fun d =>
          if x.took + n < bs.length then d.modStream p e fun y => { y with took := x.took + n }
          else (d.modStream p e fun y => { y with data := rest, took := 0 }).advance p e (credits bs.length)).dmaMoved c (moved + n)
        if r.2 = 0 then State.dmaDrain ws c p e fuel s (moved + n) else (s, .err 2)

/-- A running channel moves what it can of its descriptor. -/
def State.dmaMove (s : State) (c : Nat) : State × DmaEnd :=
  if !s.dmaRuns c then (s, .wait)
  else match s.dmaFetch c with
    | (s, some code) => (s, .err code)
    | (s, none) =>
      let x := s.dmaCh c
      let kind := s.get pDMA (DMA.CHCTL_KIND c)
      if kind = 0 then State.dmaCopy x.words c (descLen x.words) s x.moved
      else if kind = 1 then
        match s.dmaEntry c true with
        | none => (s, .err 4)
        | some _ =>
          if x.moved = descLen x.words then (s, .done)
          else
            let n := min 512 (descLen x.words - x.moved)
            match State.dmaGet (descSrcDram x.words) n s (descSrc x.words + x.moved) with
            | (_, none) => (s, .err 1)
            | (_, some _) => (s, .wait)
      else if kind = 2 then
        match s.dmaEntry c false with
        | none => (s, .err 4)
        | some (p, e) =>
          if (s.anStream p (s.strNo p e)).isSome then (s, .wait)
          else State.dmaDrain x.words c p e ((s.stream p e).data.length + 1) s x.moved
      else (s, .err 3)

/-! ### Completion (R442, R444, R456) -/

/-- The boot ROM goes on after a descriptor of its own (R456): after the header it copies it and receives the payload
where the header asks; a header that asks for no place ends the load. -/
def Dev.bootNext (m : Mems) (d : Dev) : Dev :=
  let stop (d : Dev) : Dev := ((d.set pDMA (DMA.CHSTAT_BUSY 0) 0).set pDMA (DMA.CHSTAT_DONE 0) 1).dmaRaise 0
  if (d.dmaCh 0).at_ ≠ 0 then stop d
  else
    let h := m.bytes .sram 0x3FFE00 256
    match d.imageFits h with
    | none => stop d
    | some (id, off) =>
      if hdr h 8 4 = 0 then stop d
      else
        let load := hdr h 12 4
        let dst := match id with
          | .tcm0 => 0x01000000 + load
          | _ => load
        (d.store id (off - 256) h).modDma 0 fun _ => ⟨1, [2 ^ 31 + hdr h 8 4 % 2 ^ 24, 0, 0, dst, 0, 0], 0⟩

/-- DMA_DESCRIPTOR_DONE (R444): word 6, the source where the descriptor asks for it, and the next descriptor or the
end. -/
def Dev.dmaFinish (m : Mems) (d : Dev) (c : Nat) : Dev :=
  if d.soc.bootDma && c == 0 then d.bootNext m
  else
    let x := d.dmaCh c
    let d := d.dmaWord6 c true true
    if descLast x.words then
      ((d.set pDMA (DMA.CHSTAT_BUSY c) 0).set pDMA (DMA.CHSTAT_DONE c) 1).dmaRaise c
    else
      let d := if bitAt (x.words.getD 0 0) 28 then d.dmaRaise c else d
      d.modDma c fun _ => ⟨x.words.getD 5 0, [], 0⟩

/-- An access of a channel meets an error that the check bits of its memory show (R438, R448): in the DRAM, at the address, or in
shared SRAM. Answers whether the access completes with a bus error. -/
def Dev.dmaEcc (d : Dev) (dram : Bool) (addr : Nat) (double : Bool) : Bool × Dev :=
  if dram then d.ddrEcc addr (some double)
  else match place_ .dma addr with
    | .ddr => d.ddrEcc (d.windowAt addr) (some double)
    | .mem .sram _ => if double then (true, d.sramUe addr) else (false, d)
    | _ => (false, d)

/-- The address at which a transfer meets an error at its byte `n`, reading or (`w`) writing, and whether it lies in the direct DRAM
space. -/
def descSide (ws : List Nat) (w : Bool) (n : Nat) : Bool × Nat :=
  if w then (descDstDram ws, descDst ws + n) else (descSrcDram ws, descSrc ws + n)

/-- A kind of channel that reads memory, or (`w`) writes it (R442). -/
def dmaTouches (kind : Nat) (w : Bool) : Bool := kind == 0 || (w && kind == 2) || (!w && kind == 1)

/-- An address of the DRAM, direct or through the window. -/
def inDram (dram : Bool) (addr : Nat) : Bool :=
  dram || (match place_ .dma addr with
    | .ddr => true
    | _ => false)

/-- DMA_DESCRIPTOR_DONE: the channel moves what is left of its descriptor and completes it, if it can; `ce` are the bytes at which
its reads, and its merged writes of the DRAM, showed a corrected error, each counted (R448). A channel that would stop with an error
is left to DMA_ERROR. -/
def State.dmaDone (s : State) (c : Nat) (ce : List (Bool × Nat)) : State :=
  match s.dmaMove c with
  | (s', .done) =>
    let ws := (s'.dmaCh c).words
    let meets (x : Bool × Nat) : Bool := decide (x.2 < descLen ws) && dmaTouches (s.get pDMA (DMA.CHCTL_KIND c)) x.1
    (s'.run fun d => (ce.filter meets).foldl
        (fun d x => (d.dmaEcc (descSide ws x.1 x.2).1 (descSide ws x.1 x.2).2 false).2) d).runM fun m d => d.dmaFinish m c
  | (s', .wait) => s'
  | (_, .err _) => s

/-- A channel stops on an uncorrectable error, of its descriptor, of a byte that it reads or of a byte that it merges into the DRAM:
what lies before that access has moved (R443, R448). -/
def State.dmaUe (s : State) (c : Nat) (hit : EccHit) : State :=
  let stop (s : State) (dram : Bool) (addr code : Nat) : State :=
    match s.dmaEcc dram addr true with
    | (true, d) => { s with toDev := d }.run fun d => d.dmaStop c code
    | (false, _) => s
  let x := s.dmaCh c
  let data (w : Bool) (at_ : Nat) : State :=
    match s.dmaFetch c with
    | (_, some _) => s
    | (s1, none) =>
      let ws := (s1.dmaCh c).words
      let kind := s.get pDMA (DMA.CHCTL_KIND c)
      let n := if kind = 0 ∧ descSrc ws % 4 = 0 ∧ descDst ws % 4 = 0 ∧ at_ / 4 * 4 + 4 ≤ descLen ws then at_ / 4 * 4 else at_
      let e := descSide ws w n
      let code := if w then 2 else 1
      let upTo := modNth ws 0 fun x => x - x % 2 ^ 24 + n
      if !s.dmaRuns c || decide (descLen ws ≤ n) || decide (n < x.moved) || !dmaTouches kind w || (w && !inDram e.1 e.2) then s
      else if kind = 0 then
        match State.dmaCopy upTo c (descLen ws) s1 x.moved with
        | (s2, .done) => stop s2 e.1 e.2 code
        | _ => s
      else if kind = 1 then (if n < x.moved + 512 then stop s1 e.1 e.2 code else s)
      else match s1.dmaEntry c false with
        | none => s
        | some (p, q) =>
          if (s1.anStream p (s1.strNo p q)).isSome then s
          else match State.dmaDrain upTo c p q ((s1.stream p q).data.length + 1) s1 x.moved with
            | (s2, .done) => if (s2.stream p q).data.isEmpty then s else stop s2 e.1 e.2 code
            | _ => s
  match hit with
  | .desc => if !s.dmaRuns c || !x.words.isEmpty || x.at_ % 32 != 0 then s else stop s false x.at_ 1
  | .data at_ => data false at_.toNat
  | .dest at_ => data true at_.toNat

/-- DMA_ERROR (R443): a channel that meets a bus error, an invalid descriptor or a disabled entry stops after what it has
moved; so does one that meets an uncorrectable error. -/
def State.dmaError (s : State) (c : Nat) (hit : Option EccHit) : State :=
  match s.dmaMove c with
  | (s', .err code) => s'.run fun d => d.dmaStop c code
  | _ =>
    match hit with
    | some h => s.dmaUe c h
    | none => s

/-- Running BULK_RX channels take the data that has come for them. -/
def State.dmaPump (s : State) : State :=
  (List.range 16).foldl (fun s c => if s.get pDMA (DMA.CHCTL_KIND c) = 2 then
      (match s.dmaMove c with
       | (_, .err _) => s
       | (s', _) => s')
    else s) s

/-- BULK_FRAME_SEND for a stream that a running BULK_TX channel feeds (R190, R199, R399, R442). -/
def State.bulkTx (s : State) (p e : Nat) : State :=
  let mine (c : Nat) : Bool :=
    s.dmaRuns c && s.get pDMA (DMA.CHCTL_KIND c) == 1 && s.dmaEntry c true == some (p, e)
  match (List.range 16).find? mine with
  | none => s
  | some c =>
    match s.dmaFetch c with
    | (_, some _) => s
    | (s1, none) =>
      let x := s1.dmaCh c
      let n := min 512 (descLen x.words - x.moved)
      match State.dmaGet (descSrcDram x.words) n s1 (descSrc x.words + x.moved) with
      | (_, none) => s
      | (s2, some bs) =>
        let (f, d) := s2.dataFrame p e bs
        if n = 0 || s.bulkStopped || !d.creditOk p e n || !d.outFree p f then s
        else s2.run fun _ => (d.dataSend p e f).modDma c fun y => { y with moved := x.moved + n }

/-! ### Link boot (R456) -/

/-- The header at 0x203F_FE00 and the payload that it places (R456). -/
def Dev.linkImage (m : Mems) (d : Dev) : List Byte × List Byte :=
  let h := m.bytes .sram 0x3FFE00 256
  (h, match d.imageFits h with
    | some (id, off) => m.bytes id off (hdr h 8 4)
    | none => [])

/-- LINK_BOOT_LOAD_DONE: channel 0 has stopped after an image from the hub; `ecc` says that an uncorrectable ECC error
fell in the load. -/
def Dev.linkLoaded (m : Mems) (d : Dev) (ecc : Bool) : Dev :=
  if !d.linkBoot || !d.soc.bootDma || d.on pDMA (DMA.CHSTAT_BUSY 0) then d
  else
    let d := d.modSoc fun s => { s with bootDma := false }
    if d.on pDMA (DMA.CHSTAT_ERR 0) then d.bootPhase 0xF 8
    else
      let code := d.imageCheck (Dev.linkImage m d).1 (Dev.linkImage m d).2 ecc
      if code = 0 then d.bootPhase 5 0 else d.bootPhase 0xF code

end Sys2Proof.Machine
end

