-- ==== Sys2Proof/Machine/Manage.lean ====
section
/-! DEFINITION. Frames that arrive at a port (R182, R183, R205), the execution of management requests in a cell (R201 to
R203), frames and tokens that reach more than one block, and the fabric tick (R123, R144, R163). -/

namespace Sys2Proof.Machine

/-! ### Frames that arrive (R180 to R186, R205) -/

/-- A block of this device takes frames of this class and type. R181 gives the classes C, T and S one TYPE each; a frame of these with
another TYPE is taken as one of its class (DESIGN CHOICE, entry 18). -/
def Dev.hasTaker (d : Dev) (f : Frame) : Bool :=
  match f.cls.toNat, f.typ.toNat with
  | 1, _ => d.isCell
  | 2, _ => d.isHub
  | 3, t => decide (t ≤ 1)
  | 4, 0 => d.isCell
  | 4, 1 => d.isHub
  | 5, _ => true
  | _, _ => false

/-- A frame that its device consumes: its CRC and length are checked, and it goes to its taker if it has one. -/
def Dev.consume (d : Dev) (p : Nat) (f : Frame) (ok : Bool) : Option Frame × Dev :=
  if !ok then (none, d)
  else if !lenOk f then (none, d.lcnt p LINK.CNTA_HDRERR)
  else if d.hasTaker f then (some f, d) else (none, d)

/-- A peer port takes S, B and M frames for itself (R205). -/
def peerRoute (f : Frame) : Route :=
  let c := f.cls.toNat
  if !headOk f ∨ f.ver ≠ 1 ∨ c < 3 ∨ 5 < c ∨ (c = 5 ∧ f.dst ≠ 0xFFFE) then .bad else .take

/-- A C frame that reaches a hub (R182). -/
def Dev.unclaimed (d : Dev) (p : Nat) (f : Frame) : Dev :=
  if d.isHub && f.cls == 1 then (d.lcnt p LINK.CNTD_UNCLAIMED).err (pLINK p) LINK.E_UNCLAIMED else d

/-- What a port receives: in loopback only what it has sent, oldest first (R168). -/
def Dev.heard (d : Dev) (p : Nat) (f : Frame) : Bool := !d.lpbk p || (d.port p).loopF.head? == some f
def Dev.heardGust (d : Dev) (p : Nat) (code : Option Nat) : Bool :=
  !d.lpbk p || (code.isSome && (d.port p).loopG.head? == code)

/-- A frame arrives at a port in SYNC or UP: what the port counts and forwards, and the frame that a block takes. -/
def Dev.arrive (d : Dev) (p : Nat) (f : Frame) : Option Frame × Dev :=
  if !d.rxSync p || !d.heard p f then (none, d)
  else
    let d := d.modPort p fun x => { x with loopF := x.loopF.drop 1 }
    match if p < 8 then d.route f else peerRoute f with
    | .bad => (none, if 8 ≤ p && headOk f && f.ver == 1 && (f.cls == 1 || f.cls == 2) then d.lcnt p LINK.CNTA_HDRERR else d.hdrErr p)
    | .take =>
      let (_, ok, d) := (d.unclaimed p f).checkPay p f
      d.consume p f ok
    | .both g =>
      let (g, ok, d) := d.checkPay p g
      (d.forward p d.ticks g).consume p f ok
    | .pass g =>
      let (g, _, d) := d.checkPay p g
      (none, d.forward p d.ticks g)

/-- A frame of one class arrives and its taker acts; a frame that this taker does not get is CUT_THROUGH_FRAME's. -/
def Dev.onFrame (d : Dev) (p : Nat) (f : Frame) (cls typ : Nat) (act : Dev → Frame → Dev) : Dev :=
  match d.arrive p f with
  | (some g, d') => if g.cls.toNat = cls ∧ (cls ≠ 3 ∧ cls ≠ 4 ∨ g.typ.toNat = typ) then act d' g else d
  | (none, _) => d

/-- CUT_THROUGH_FRAME: a frame that no taker gets. -/
def Dev.cutThrough (d : Dev) (p : Nat) (f : Frame) : Dev :=
  match d.arrive p f with
  | (none, d') => d'
  | (some _, _) => d

/-- GUST_TOKEN_RX (R174 to R176, R390). -/
def Dev.gustRx (d : Dev) (p : Nat) (c1 c2 c3 : Option Byte) (back : Nat) : Dev :=
  let code := gustCode c1 c2 c3
  if !d.rxSync p || !d.heardGust p code then d
  else
    let d := d.modPort p fun x => { x with loopG := x.loopG.drop 1 }
    let d := d.gustPort p code back
    match code with
    | some c => d.gustEvent c
    | none => d

/-! ### Management requests in a cell (R201 to R203) -/

/-- The entries of an M payload: address and operation, and data. -/
def mEntries (bs : List Byte) : List (Nat × Nat) :=
  (List.range (bs.length / 8)).map fun i => (fieldBE bs (8 * i) 4, fieldBE bs (8 * i + 4) 4)

/-- One entry as a 32-bit access: the state after it, its STATUS and the data of the answer. -/
def State.mAccess (s : State) (port : Fin 2) (w data : Nat) : State × Nat × Nat :=
  let a := w / 4 * 4
  let back (r : State) : State := { r with reply := s.reply }
  match w % 4 with
  | 0 =>
    let r := s.runM fun m d => Dev.busRead m d (.mgmt port) a 4
    match r.reply with
    | some (some v) => (back r, 0, v)
    | _ => (back r, 1, 0)
  | 1 =>
    let r := s.runM fun m d => Dev.busWrite m d (.mgmt port) a 4 data
    match r.reply with
    | some none => (back r, 1, 0)
    | _ => (back r, 0, 0)
  | _ => (s, 1, 0)

/-- The entries in order: after a refused one, and after the first where only one may be executed, the rest are answered
with 0b10. An entry that resets the device is the last. -/
def State.mRun (port : Fin 2) (burst : Bool) : List (Nat × Nat) → State → Bool → State × List Byte
  | [], s, _ => (s, [])
  | (w, data) :: rest, s, go =>
    if go && s.phase == .running then
      let (s, st, v) := s.mAccess port w data
      let (s, bs) := State.mRun port burst rest s (burst && st == 0)
      (s, toBE 4 (w / 4 * 4 + st) ++ toBE 4 v ++ bs)
    else
      let (s, bs) := State.mRun port burst rest s false
      (s, toBE 4 (w / 4 * 4 + 2) ++ toBE 4 0 ++ bs)

/-- M_REQUEST_RX (R202, R203): a request that the cell consumes from port `p`. -/
def State.mRequest (s : State) (p : Fin 2) (f : Frame) : State :=
  let src := f.src.toNat
  let seq := f.seq.toNat
  let wide := s.featAt p.val 2 (groups f)
  let kept := (s.port p.val).kept.find? fun k => k.1 == src && k.2.1 == seq
  if f.dst = 0xFFFF then (State.mRun p wide (mEntries f.payload) s true).1
  else match kept with
    | some k => s.run fun d => d.modPort p.val fun x => { x with resp := x.resp ++ [k.2.2] }
    | none =>
      let (s, bs) := State.mRun p wide (mEntries f.payload) s true
      if s.phase ≠ .running then s
      else s.run fun d =>
        let (own, d) := d.srcAddr p.val
        let g := mkFrame 4 1 own 0x8000 f.mid.toNat seq bs
        d.modPort p.val fun x => { x with kept := (x.kept.filter fun k => k.1 != src) ++ [(src, seq, g)], resp := x.resp ++ [g] }

/-- M_REQUEST_RX as a command: the frame arrives, and a request is executed. -/
def State.mArrive (s : State) (p : Fin 2) (f : Frame) : State :=
  match s.arrive p.val f with
  | (some g, d') => if g.cls = 4 ∧ g.typ = 0 then State.mRequest { s with toDev := d' } p g else s
  | (none, _) => s

/-- B_DATA_FRAME_RX as a command: the frame arrives, and running BULK_RX channels take what they can. -/
def State.bArrive (s : State) (p : Nat) (f : Frame) : State :=
  State.dmaPump (s.run fun d => d.onFrame p f 3 0 fun d g => d.bData p g)

/-- BULK_FRAME_SEND (R190, R199, R204, R218): a management frame, the peer record, or a data frame of a stream. -/
def State.bulkSend (s : State) (p : Nat) (stream : Option Nat) : State :=
  match stream with
  | none => s.run fun d => d.mSend p
  | some e => if 8 ≤ p ∧ e = 30 ∧ s.on pSTRD STRD.CTRL_RUN then s.run fun d => d.recordPump (p - 8) else s.bulkTx p e

/-! ### The fabric tick (R123, R144, R163) -/

/-- FABRIC_TICK: the next tick begins. -/
def Dev.fabricTick (d : Dev) : Dev :=
  let before := d.now16
  let d := { d with told := [], meets := meets0, loadedT := [], ticks := d.ticks + 1, ns := d.ns + d.tickNs,
                    fcol := { d.fcol with tokens := [] } }
  let d := (d.pairsWake.uartSync 0).uartSync 1
  let d := d.synTick.modeTick
  let d := d.bcastEnd
  let d := if d.onSyna then (d.timeTick).spdTick before else d.pace 0
  d.portsTick

/-- HOLDOFF_END (R279): a cause of the hold-off ends: a pair runs again (0, 1), or the clock monitor sees edges (2), which
reports the hold-off of the stop (R387). A pair 0 that was halted before its first instruction (R66) starts the boot ROM. -/
def Dev.holdoffEnd (d : Dev) (cause : Nat) : Dev :=
  let d := if cause = 0 ∧ d.clk.rom = .halted then ((d.set pSYSC SYSC.BOOTSTAT_PHASE 1).romTo .wait).romGo else d
  let d := if cause = 2 ∧ d.clk.tell then (d.modClk fun c => { c with tell := false }).err pPWMC PWMC.E_HOLDOFF else d
  let lost := d.clockLost
  let d := d.holdRelease (if cause = 0 then PWMC.HOLDSTAT_DBG0 else if cause = 1 then PWMC.HOLDSTAT_DBG1 else PWMC.HOLDSTAT_CKMON)
  if lost && !d.clockLost then d.sqResume else d

end Sys2Proof.Machine
end

