-- ==== Sys2Proof/Machine/Exec.lean ====
section
/-! DEFINITION. What the commands share: a command acts on a device whose straps are latched, a write or a read of a
register as software makes it, an access of any initiator, and what a conversion stores. -/

namespace Sys2Proof.Machine

/-- The part of a command on a running device, after which MOTR follows the hold-off, GDEN and the latches (R414). In
reset nothing but a reset event acts (R46, R59). -/
def Dev.acting (f : Dev → Dev) (d : Dev) : Dev := if d.phase = .running then Dev.motrSync d (f d) else d

/-- A command that acts on the device. -/
def State.does (s : State) (f : Dev → Dev) : Host.Outcome State Fault Refusal := .next (s.run (Dev.acting f))

/-- A command that acts on the device and reads its memories. -/
def State.doesM (s : State) (f : Mems → Dev → Dev) : Host.Outcome State Fault Refusal :=
  .next (s.runM fun m d => Dev.acting (f m) d)

/-- A command that works through the memories step by step. -/
def State.doesS (s : State) (f : State → State) : Host.Outcome State Fault Refusal :=
  .next (if s.phase = .running then (f s).run (Dev.motrSync s.toDev) else s)

/-- A command of the power and reset circuits, which also acts in reset. -/
def State.always (s : State) (f : Dev → Dev) : Host.Outcome State Fault Refusal := .next (s.run f)

/-- Software writes a register (R4). In STOP no core runs (R439). -/
def Dev.regWrite (d : Dev) (pg off v : Nat) : Dev := if d.soc.stop then d else d.pageWrite none pg off v

/-- Software reads a register. -/
def Dev.regRead (d : Dev) (pg off : Nat) : Dev := if d.soc.stop then d else d.pageRead pg off

/-- The bytes of an access. -/
def sizeLen : Size → Nat
  | .byte => 1
  | .half => 2
  | .word => 4

/-- The address of a register of a page (R99). -/
def pageAddr (page : BitVec 15) (off : Nat) : BitVec 32 := BitVec.ofNat 32 (0x40000000 + page.toNat * 4096 + off)

/-- An access of an initiator, a read or a write (R100, R101, R110). -/
def Dev.access (m : Mems) (d : Dev) (who : Who) (addr : BitVec 32) (size : Size) (write : Option Word) : Dev :=
  if !d.onBus who then d
  else match write with
    | none => Dev.busRead m d who addr.toNat (sizeLen size)
    | some v => Dev.busWrite m d who addr.toNat (sizeLen size) (v.toNat % 2 ^ (8 * sizeLen size))

/-- An access to the DRAM window at an offset (R112); a management frame does not reach it (R110). -/
def Dev.windowAccess (m : Mems) (d : Dev) (who : Who) (off : Nat) (size : Size) (write : Option Word)
    (ecc : Option Bool) : Dev :=
  if !d.onBus who then d
  else if (mgmtPort who).isSome then d.busErr
  else Dev.ddrWindow m d (0x80000000 + off) (sizeLen size) (write.map fun v => v.toNat % 2 ^ (8 * sizeLen size)) ecc

/-- A read of a timestamp FIFO's INFO word (R135). -/
def Dev.fifoRead (d : Dev) : TsFifo → Dev
  | .tcap n => d.regRead pTIME (0xA00 + 16 * n.val)
  | .eth n rx => d.regRead (pETH n.val) (0xC00 + 16 * b2n rx)

/-- Words that a conversion writes to shared SRAM (R330, R342). -/
def Dev.stored (r : Dev × List (Nat × Nat)) : Dev :=
  r.2.foldl (fun d w => match sramAt w.1 4 with
    | some a => d.store .sram a (toLE 4 w.2)
    | none => d) r.1

/-- MEMORY_ECC_ERROR (R438) at a place. -/
def Dev.eccError (d : Dev) (at_ : EccAt) (double : Bool) : Dev :=
  match at_ with
  | .tcm p => d.tcmEcc p.val double
  | .sram a => d.memEcc false double a.toNat
  | .block a => d.memEcc true double a.toNat

/-- A write of word 0 of an Anemograph descriptor (R451), in block memory window 2 (R111). -/
def Dev.descWrite (d : Dev) (n v : Nat) : Dev := if d.soc.stop then d else { d.anWordWrite n 0 v with reply := none }

end Sys2Proof.Machine
end

