-- ==== Sys2Proof/Machine/ExecAdc.lean ====
section
/-! DEFINITION. The meanings of the commands of converters. -/

namespace Sys2Proof.Machine

/-- ADC_REFEN_WRITE (R327): A write of REFCTL.REFEN starts the reference buffer, or clears REFRDY and discards work.
-/
def execAdcRefenWrite (c : Fin 2) (en : Bool) (s : State) : Host.Outcome State Fault Refusal :=
  s.does fun d => d.regWrite (pADC c.val) 0x040 (b2n en)

/-- ADC_REF_READY (R327): VREF has stayed within ±0.5 % for 2.0 ms; REFRDY is set. -/
def execAdcRefReady (c : Fin 2) (s : State) : Host.Outcome State Fault Refusal := s.does fun d => d.adcRefReady c.val

/-- ADC_REF_FAULT (R327): VREF leaves ±2 % for 1 µs; REFRDY clears, REF_FAULT is set and work is discarded. -/
def execAdcRefFault (c : Fin 2) (s : State) : Host.Outcome State Fault Refusal := s.does fun d => d.adcRefFault c.val

/-- ADC_ENABLE_WRITE (R343): A write of CTRL.EN enables the converter, or completes the current slot and discards the
rest. -/
def execAdcEnableWrite (c : Fin 2) (en : Bool) (s : State) : Host.Outcome State Fault Refusal :=
  s.does fun d => d.regWrite (pADC c.val) 0x010 (b2n en)

/-- ADC_READY (R328): EN has been set for 10 µs with REFRDY; READY is set. -/
def execAdcReady (c : Fin 2) (s : State) : Host.Outcome State Fault Refusal := s.does fun d => d.adcMakeReady c.val

/-- ADC_SLOT_WRITE (R331): A write of a slot word is accepted only while the converter is idle. -/
def execAdcSlotWrite (c : Fin 2) (k : Fin 32) (v : Word) (s : State) : Host.Outcome State Fault Refusal :=
  s.does fun d => d.regWrite (pADC c.val) (0x100 + 4 * k.val) v.toNat

/-- ADC_SWTRIG (R332): A write of SWTRIG.GO triggers the sequence at SLOT. -/
def execAdcSwtrig (c : Fin 2) (slot : Fin 32) (s : State) : Host.Outcome State Fault Refusal :=
  s.does fun d => d.regWrite (pADC c.val) 0x800 (2 ^ 31 + slot.val)

/-- ADC_PENDING_START (R334): The converter becomes free and the pending trigger's sequence starts, marked LATE. -/
def execAdcPendingStart (c : Fin 2) (s : State) : Host.Outcome State Fault Refusal :=
  s.does fun d => d.adcPendingStart c.val

/-- ADC_WINDOW_START (R335): The converter starts its window sequence so that the first slot's last sample falls at
S(k). -/
def execAdcWindowStart (c : Fin 2) (s : State) : Host.Outcome State Fault Refusal := s.does fun d => d.adcWindow c.val

/-- ADC_SLOT_RESULT (R330): A slot's last conversion is ready; its averaged, calibrated result is written with
timestamp and ring entry. -/
def execAdcSlotResult (c : Fin 2) (codes : List Int) (s : State) : Host.Outcome State Fault Refusal :=
  s.does fun d => Dev.stored (d.adcSlotResult c.val codes)

/-- ADC_OPEN_WIRE_SAMPLE (R340): OWSET elapses with the open-wire current on; the converter samples and judges the
input open or not. -/
def execAdcOpenWireSample (c : Fin 2) (code : Int) (s : State) : Host.Outcome State Fault Refusal :=
  s.does fun d => Dev.stored (d.adcOpenWire c.val code)

/-- ADC_URGENT (R338): A write of URGCTL.GO requests an urgent conversion, aborting a running slot, or is refused. -/
def execAdcUrgent (c : Fin 2) (v : Word) (s : State) : Host.Outcome State Fault Refusal :=
  s.does fun d => d.regWrite (pADC c.val) 0x804 (v.toNat ||| 2 ^ 31)

/-- ADC_URGENT_RESULT (R338): An urgent conversion completes and is written to DEST and URGRES. -/
def execAdcUrgentResult (c : Fin 2) (codes : List Int) (s : State) : Host.Outcome State Fault Refusal :=
  s.does fun d => Dev.stored (d.adcUrgentResult c.val codes)

/-- ADC_RINGCFG_WRITE (R342): A write of RINGCFG enables the result ring resetting its offsets, or is refused. -/
def execAdcRingcfgWrite (c : Fin 2) (v : Word) (s : State) : Host.Outcome State Fault Refusal :=
  s.does fun d => d.regWrite (pADC c.val) 0x058 v.toNat

/-- ADC_RINGRD_WRITE (R342): A write of RINGRD consumes ring entries, or is refused when invalid. -/
def execAdcRingrdWrite (c : Fin 2) (v : Word) (s : State) : Host.Outcome State Fault Refusal :=
  s.does fun d => d.regWrite (pADC c.val) 0x81C v.toNat

/-- ADC_CNTCLR (R346): A write of ADC CNTCLR clears TRGCNT, TRIGOVR and RINGOVF. -/
def execAdcCntclr (c : Fin 2) (s : State) : Host.Outcome State Fault Refusal :=
  s.does fun d => d.regWrite (pADC c.val) 0x814 1

end Sys2Proof.Machine
end

