-- ==== Sys2Proof/Machine/ExecCalib.lean ====
section
/-! DEFINITION. The meanings of the commands of calibration. -/

namespace Sys2Proof.Machine

/-- CALS_WRITE (R471): A keyed write of CALS.CMD.WRITE writes the staged entry into CALSTORE, or is refused. -/
def execCalsWrite (key : BitVec 16) (s : State) : Host.Outcome State Fault Refusal :=
  s.does fun d => d.regWrite pCALS 0x800 (2 ^ 31 + key.toNat)

/-- CALS_WRITE_DONE (R471): A CALSTORE write completes and is read back, setting WR_FAIL if it differs. -/
def execCalsWriteDone (same : Bool) (s : State) : Host.Outcome State Fault Refusal :=
  s.does fun d => d.calsWriteDone same

/-- CALS_RELOAD (R470): A write of CMD.RELOAD reloads the calibration targets in RLMASK. -/
def execCalsReload (mask : BitVec 5) (s : State) : Host.Outcome State Fault Refusal :=
  s.does fun d => d.regWrite pCALS 0x800 (2 ^ 30 + 2 ^ 16 * mask.toNat)

/-- CALS_APT1 (R474): A write of CMD.APT1 measures the ADC zero point. -/
def execCalsApt1 (s : State) : Host.Outcome State Fault Refusal := s.does fun d => d.regWrite pCALS 0x800 (2 ^ 29)

/-- CALS_APT2 (R474): A write of CMD.APT2 measures the ADC span point. -/
def execCalsApt2 (s : State) : Host.Outcome State Fault Refusal := s.does fun d => d.regWrite pCALS 0x800 (2 ^ 28)

/-- CALS_POINT_DONE (R474): An ADC calibration point measurement completes, storing the mean and temperature or
setting MEAS_FAIL. -/
def execCalsPointDone (codes : List Int) (s : State) : Host.Outcome State Fault Refusal :=
  s.does fun d => d.calsPointDone codes

/-- CALS_ACOMP (R474): A write of CMD.ACOMP computes and stages GAIN and OFS, or sets MEAS_FAIL. -/
def execCalsAcomp (s : State) : Host.Outcome State Fault Refusal := s.does fun d => d.regWrite pCALS 0x800 (2 ^ 27)

/-- CALS_SQMEAS (R475): A write of CMD.SQMEAS starts a Squall offset search, or is refused. -/
def execCalsSqmeas (s : State) : Host.Outcome State Fault Refusal := s.does fun d => d.regWrite pCALS 0x800 (2 ^ 26)

/-- CALS_SQMEAS_DONE (R475): The Squall offset search completes and stages O_m, or sets MEAS_FAIL. -/
def execCalsSqmeasDone (lvl : BitVec 12) (s : State) : Host.Outcome State Fault Refusal :=
  s.does fun d => d.calsSqmeasDone lvl.toNat

/-- CALS_TSMEAS (R476): A write of CMD.TSMEAS starts averaging 16 sensor readings. -/
def execCalsTsmeas (s : State) : Host.Outcome State Fault Refusal := s.does fun d => d.regWrite pCALS 0x800 (2 ^ 25)

/-- CALS_TSMEAS_DONE (R476): The sensor trim measurement completes and stages TOFS, or sets MEAS_FAIL. -/
def execCalsTsmeasDone (sum : Int) (s : State) : Host.Outcome State Fault Refusal :=
  s.does fun d => d.calsTsmeasDone sum

end Sys2Proof.Machine
end

