-- ==== Sys2Proof/Machine/ExecClock.lean ====
section
/-! DEFINITION. The meanings of the commands of clock synthesis. -/

namespace Sys2Proof.Machine

/-- REFCLK_QUALIFIED (R88): The 10 µs REFCLK measurement passes; REFQ is set and the bypass clock moves from the
internal oscillator to REFCLK. -/
def execRefclkQualified (s : State) : Host.Outcome State Fault Refusal := s.does fun d => d.refclkQualified

/-- BANDCAL_GO (R80): A write of BANDCAL.GO starts the open-loop measurement of one oscillator band, or is refused. -/
def execBandcalGo (n : Fin 2) (gate : BitVec 2) (code : BitVec 6) (s : State) : Host.Outcome State Fault Refusal :=
  s.does fun d => d.regWrite (pSYN n.val) 0x060 (2 ^ 31 + 256 * gate.toNat + code.toNat)

/-- BANDCAL_DONE (R80): The band measurement gate ends; COUNT is stored and DONE set, or the measurement aborts on
reference loss. -/
def execBandcalDone (n : Fin 2) (count : Option Nat) (s : State) : Host.Outcome State Fault Refusal :=
  s.does fun d => d.bandDone n.val count

/-- RELOCK_GO (R85): A write of RELOCK.GO = 1 gates the outputs, loads the shadows and starts band selection, or is
refused while EN = 0. -/
def execRelockGo (n : Fin 2) (s : State) : Host.Outcome State Fault Refusal :=
  s.does fun d => d.regWrite (pSYN n.val) 0x050 1

/-- FREQ_OK (R82): The oscillator has stayed within ±0.5 % of target for 64 periods; the output is ungated and FREQ_OK
set. -/
def execFreqOk (n : Fin 2) (s : State) : Host.Outcome State Fault Refusal := s.does fun d => d.freqOk n.val

/-- FINE_LOCK (R82): The phase error has stayed within PHWIN for 1,024 periods; FINE_LOCK is set and the tuning clamp
released. -/
def execFineLock (n : Fin 2) (s : State) : Host.Outcome State Fault Refusal := s.does fun d => d.fineLock n.val

/-- LOSS_OF_LOCK (R87): A synthesizer's frequency or phase leaves its window; it gates its outputs, clears its lock
flags and signals the clock switch. -/
def execLossOfLock (n : Fin 2) (s : State) : Host.Outcome State Fault Refusal := s.does fun d => d.lossOfLock n.val

/-- LOSS_OF_REFERENCE (R79): Four reference periods pass without an edge, or a recovered clock loses alignment; the
synthesizer switches port or gates its outputs. -/
def execLossOfReference (src : Fin 3) (s : State) : Host.Outcome State Fault Refusal :=
  s.does fun d => d.lossOfRef src.val

/-- LINK_CLOCK_QUALIFIED (R79): A recovered link clock meets its qualification conditions and becomes usable as SYNA
reference. -/
def execLinkClockQualified (p : Fin 2) (s : State) : Host.Outcome State Fault Refusal :=
  s.does fun d => d.linkClock p.val

/-- BYPREF_LOST (R89): REFCLK is lost while it is the bypass clock; the switch moves to the internal oscillator and
sets BYPREF_LOST. -/
def execByprefLost (s : State) : Host.Outcome State Fault Refusal := s.does fun d => d.byprefLost

/-- GOBYP (R89): A write of CKSW.CKCTL.GOBYP = 1 moves cores and fabric to the bypass clock with the gate hold-off. -/
def execGobyp (s : State) : Host.Outcome State Fault Refusal :=
  s.does fun d => d.regWrite pCKSW 0x044 (d.ckctlWith 1)

/-- GOSYN (R91): A write of CKSW.CKCTL.GOSYN = 1 returns cores and fabric to SYNA, or is refused while FINE_LOCK = 0.
-/
def execGosyn (s : State) : Host.Outcome State Fault Refusal :=
  s.does fun d => d.regWrite pCKSW 0x044 (d.ckctlWith 0)

/-- AUTORET_RETURN (R91): FINE_LOCK has held for 1 ms with AUTORET = 1; cores and fabric return to SYNA and the
hold-off is released. -/
def execAutoretReturn (s : State) : Host.Outcome State Fault Refusal := s.does fun d => d.autoret

/-- SYN_CFG_WRITE (R84): A write of SYNn.CFG is checked as a whole and either applied or refused with CFG_INVALID. -/
def execSynCfgWrite (n : Fin 2) (v : Word) (s : State) : Host.Outcome State Fault Refusal :=
  s.does fun d => d.regWrite (pSYN n.val) 0x040 v.toNat

/-- OSC_CHECK (R94): Every 1 ms the internal oscillator is compared with the fabric clock; a deviation beyond ±5 %
sets OSC_FAIL. -/
def execOscCheck (bad : Bool) (s : State) : Host.Outcome State Fault Refusal := s.does fun d => d.oscCheck bad

/-- FABRIC_CLOCK_STOP (R279): The fabric clock monitor sees no edge for 100 ns; it asserts the gate hold-off and stops
ALIVE with FAULT_N. -/
def execFabricClockStop (s : State) : Host.Outcome State Fault Refusal := s.does fun d => d.clockStop

/-- TUNE_MARGIN (R93): The synthesizer's fine word comes within 5 % of either end of its span; TUNE_MARGIN is set and
reported as a corrected error. -/
def execTuneMargin (n : Fin 2) (s : State) : Host.Outcome State Fault Refusal := s.does fun d => d.tuneMargin n.val

/-- REFERENCE_RESTORED (R85): A lost synthesizer reference returns, ending the loss of reference, and with AUTOREL = 1
a relock starts. -/
def execReferenceRestored (src : Fin 3) (s : State) : Host.Outcome State Fault Refusal :=
  s.does fun d => d.refBack src.val

end Sys2Proof.Machine
end

