-- ==== Sys2Proof/Machine/ExecCores.lean ====
section
/-! DEFINITION. The meanings of the commands of processors, DMA, DRAM, the recorder, debug. -/

namespace Sys2Proof.Machine

/-- WFI (R439): A core executes WFI and waits; with both pairs waiting and STOP set the device enters STOP, or STOP is
refused. -/
def execWfi (pair : Fin 2) (s : State) : Host.Outcome State Fault Refusal := s.does fun d => d.wfi pair.val

/-- STOP_WAKE (R439): A wake source ends STOP; SYNA is re-enabled and the cores return to it. -/
def execStopWake (cause : Fin 3) (s : State) : Host.Outcome State Fault Refusal :=
  s.does fun d => d.stopWake cause.val

/-- LOCKSTEP_ERROR (R438): The cores of a pair disagree; LOCKSTEP is set and reported. -/
def execLockstepError (pair : Fin 2) (s : State) : Host.Outcome State Fault Refusal :=
  s.does fun d => d.lockstep pair.val

/-- MEMORY_ECC_ERROR (R438): An ECC error in TCM, SRAM or block memory is corrected or reported. -/
def execMemoryEccError (at_ : EccAt) (double : Bool) (s : State) : Host.Outcome State Fault Refusal :=
  s.does fun d => d.eccError at_ double

/-- INTC_CLAIM (R441): A read of CLAIMp returns the highest-priority pending source and masks it. -/
def execIntcClaim (pair : Fin 2) (s : State) : Host.Outcome State Fault Refusal :=
  s.does fun d => d.regRead pINTC (0x804 + 8 * pair.val)

/-- INTC_COMPLETE (R441): A write of CLAIMp with a source number unmasks that source. -/
def execIntcComplete (pair : Fin 2) (src : BitVec 9) (s : State) : Host.Outcome State Fault Refusal :=
  s.does fun d => d.regWrite pINTC (0x804 + 8 * pair.val) src.toNat

/-- DMA_GO (R442): A write of CHCTLc.GO starts a DMA channel on its descriptor chain. -/
def execDmaGo (c : Fin 16) (v : Word) (s : State) : Host.Outcome State Fault Refusal :=
  s.does fun d => d.regWrite pDMA (0x800 + 32 * c.val) (v.toNat ||| 2 ^ 31)

/-- DMA_STOP (R443): A write of CHCTLc.STOP stops the channel with CODE 0x5. -/
def execDmaStop (c : Fin 16) (s : State) : Host.Outcome State Fault Refusal :=
  s.does fun d => d.regWrite pDMA (0x800 + 32 * c.val) (d.wordAt pDMA (0x800 + 32 * c.val) ||| 2 ^ 30)

/-- DMA_DESCRIPTOR_DONE (R444): A descriptor completes; the channel writes word 6 and moves on or stops. -/
def execDmaDescriptorDone (c : Fin 16 × List (Bool × BitVec 24)) (s : State) : Host.Outcome State Fault Refusal :=
  s.doesS fun s => s.dmaDone c.1.val (c.2.map fun x => (x.1, x.2.toNat))

/-- DMA_ERROR (R443): A bus error, invalid descriptor or disabled stream stops the channel with ERR. -/
def execDmaError (c : Fin 16 × Option EccHit) (s : State) : Host.Outcome State Fault Refusal :=
  s.doesS fun s => s.dmaError c.1.val c.2

/-- DDR_INIT_GO (R449): A write of DDRC.INIT.GO starts DRAM initialisation and training. -/
def execDdrInitGo (s : State) : Host.Outcome State Fault Refusal := s.does fun d => d.regWrite pDDRC 0x800 (2 ^ 31)

/-- DDR_INIT_DONE (R449): Training ends; READY is set or TRAIN_FAIL. -/
def execDdrInitDone (ok : Bool) (s : State) : Host.Outcome State Fault Refusal := s.does fun d => d.ddrDone ok

/-- DDR_PATROL_SCRUB (R448): Every IVL µs the scrubber reads and corrects one burst. -/
def execDdrPatrolScrub (addr : BitVec 40) (ecc : Option Bool) (s : State) : Host.Outcome State Fault Refusal :=
  s.does fun d => d.ddrScrub addr.toNat ecc

/-- ANMG_DESCRIPTOR_ENABLE (R451): A write of descriptor EN arms it at block 0, or disables it, or is refused. -/
def execAnmgDescriptorEnable (n : Fin 512) (v : Word) (s : State) : Host.Outcome State Fault Refusal :=
  s.does fun d => d.descWrite n.val v.toNat

/-- ANMG_TRIGGER (R452): A MARK reaction or TRIG.GO reaches descriptors, which enter POST or count the trigger. -/
def execAnmgTrigger (soft : Bool) (s : State) : Host.Outcome State Fault Refusal :=
  s.does fun d => if soft then d.regWrite pANMG 0x800 (2 ^ 31) else d.anmgTrigger false

/-- ANMG_MARK (R453): A write of ANMG.MARK or a Spindle MARK adds a marker entry. -/
def execAnmgMark (ev : BitVec 8) (s : State) : Host.Outcome State Fault Refusal :=
  s.does fun d => d.regWrite pANMG 0x804 (2 ^ 31 + ev.toNat)

/-- ANMG_BLOCK_CLOSE (R450): A buffer block closes when full or at FLUSH; in POST a descriptor may freeze. -/
def execAnmgBlockClose (n : Fin 512) (s : State) : Host.Outcome State Fault Refusal :=
  s.does fun d => d.anmgBlockClose n.val

/-- ANMG_RECORD_DROP (R453): A record cannot reach DRAM within 64 µs and is dropped. -/
def execAnmgRecordDrop (n : Fin 512) (s : State) : Host.Outcome State Fault Refusal :=
  s.does fun d => d.anmgDrop n.val

/-- TAP_CHALLENGE (R457): The CHALLENGE instruction shifts out 32 fresh random bytes. -/
def execTapChallenge (s : State) : Host.Outcome State Fault Refusal := s.does fun d => d.tapChallenge

/-- TAP_RESPONSE (R457): The RESPONSE instruction verifies a key and signature and unlocks debug, or counts a failure. Another word
of the instruction register is scanned (DESIGN CHOICE, entry 37: the table has no row for it). -/
def execTapResponse (scan : TapScan) (sig : List Byte) (s : State) : Host.Outcome State Fault Refusal :=
  s.does fun d => match scan with
    | .key key => d.tapResponse key sig
    | .ir w => d.tapScan w.toNat

/-- PAR_ALERT (R459): The DRAM asserts DDR_ALERT_N on a command/address parity error; DDRC sets PAR_ALERT. -/
def execParAlert (s : State) : Host.Outcome State Fault Refusal := s.does fun d => d.parAlert

end Sys2Proof.Machine
end

