-- ==== Sys2Proof/Machine/ExecEther.lean ====
section
/-! DEFINITION. The meanings of the commands of Ethernet. -/

namespace Sys2Proof.Machine

/-- ETH_FRAME_RX (R460): A frame arrives on an Ethernet port; it is filtered, written to the receive ring or dropped,
and timestamped if a PTP event message. -/
def execEthFrameRx (n : Fin 2) (bytes : List Byte) (fcsOk : Bool) (back : Nat × Option Word) (s : State) :
    Host.Outcome State Fault Refusal :=
  s.doesM fun m d => Dev.ethRx m d n.val bytes fcsOk back.1 (back.2.map (·.toNat))

/-- ETH_FRAME_TX (R460): A ready transmit descriptor is sent with padding and FCS, DONE is written and HEAD advances.
-/
def execEthFrameTx (n : Fin 2 × Option Word) (s : State) : Host.Outcome State Fault Refusal :=
  s.doesM fun m d => Dev.ethTx m d n.1.val (n.2.map (·.toNat))

/-- ETH_RING_ENABLE (R461): A write of an Ethernet ring's EN starts the ring with HEAD and TAIL at 0, or stops it
after the frame in progress. -/
def execEthRingEnable (n : Fin 2) (rx : Bool) (v : Word) (s : State) : Host.Outcome State Fault Refusal :=
  s.does fun d => d.regWrite (pETH n.val) (0x064 + 8 * b2n rx) v.toNat

/-- ETH_TAIL_WRITE (R460): A write of TXTAIL or RXTAIL hands descriptors to the port. -/
def execEthTailWrite (n : Fin 2) (rx : Bool) (tail : Word) (s : State) : Host.Outcome State Fault Refusal :=
  s.does fun d => d.regWrite (pETH n.val) (0x804 + 8 * b2n rx) tail.toNat

/-- MDIO_GO (R461): A write of MDIOCMD.GO starts a clause 22 management frame, or is refused while BUSY. -/
def execMdioGo (read : Bool) (phy reg : BitVec 5) (data : BitVec 16) (s : State) : Host.Outcome State Fault Refusal :=
  s.does fun d => d.regWrite (pETH 0) 0x070 (2 ^ 31 + 2 ^ 30 * b2n read + 2 ^ 21 * phy.toNat + 2 ^ 16 * reg.toNat + data.toNat)

/-- MDIO_DONE (R461): A management frame on MDC/MDIO completes; read data is stored and MDIO_DONE raised. -/
def execMdioDone (data : BitVec 16) (s : State) : Host.Outcome State Fault Refusal :=
  s.does fun d => d.mdioDone data.toNat

/-- PCS_MODE_WRITE (R142): A write of ETHn.PCSCFG.MODE selects 1000BASE-X or SGMII and restarts the link. -/
def execPcsModeWrite (n : Fin 2) (v : Word) (s : State) : Host.Outcome State Fault Refusal :=
  s.does fun d => d.regWrite (pETH n.val) 0x040 v.toNat

/-- TSSTAT_CLROVF (R142): A write of ETHn.TSSTAT.CLROVF clears the timestamp overflow counters. -/
def execTsstatClrovf (n : Fin 2) (s : State) : Host.Outcome State Fault Refusal :=
  s.does fun d => d.regWrite (pETH n.val) 0xC20 (2 ^ 15)

/-- ETH_LINK_CHANGE (R142): An Ethernet port's PCS link comes up or goes down (auto-negotiation complete or signal
lost); LINKUP and SPEED update and LINK_CHG is raised. -/
def execEthLinkChange (n : Fin 2) (up : Bool) (speed : BitVec 2) (s : State) : Host.Outcome State Fault Refusal :=
  s.does fun d => d.ethLink n.val up speed.toNat

end Sys2Proof.Machine
end

