-- ==== Sys2Proof/Machine/ExecFault.lean ====
section
/-! DEFINITION. The meanings of the commands of the fault collector. -/

namespace Sys2Proof.Machine

/-- FAULT_EVENT (R380): A source raises errors in a tick; the collector merges, records and performs reactions. -/
def execFaultEvent (src : Fin 48) (s : State) : Host.Outcome State Fault Refusal :=
  s.does fun d => d.faultEvent src.val

/-- FCOL_ACK (R379): A write of FCOL.ACK closes the open record of a source or Gust code. -/
def execFcolAck (gust : Bool) (n : BitVec 6) (s : State) : Host.Outcome State Fault Refusal :=
  s.does fun d => d.regWrite pFCOL 0x814 (2 ^ 31 + 64 * b2n gust + n.toNat)

/-- CONSEQ_WINDOW_END (R382): 100 µs after a block reset ends the consequence window closes. -/
def execConseqWindowEnd (src : Fin 48) (s : State) : Host.Outcome State Fault Refusal :=
  s.does fun d => d.windowEnd src.val

/-- FAULT_N_RELEASE (R386): A write of FNCTL.RELEASE deasserts FAULT_N and starts ALIVE, or is refused. -/
def execFaultNRelease (s : State) : Host.Outcome State Fault Refusal :=
  s.does fun d => d.regWrite pFCOL 0x80C (2 ^ 31)

/-- ALIVE_TOGGLE (R387): An ALIVE half-period expires and the pin toggles. -/
def execAliveToggle (s : State) : Host.Outcome State Fault Refusal := s.does fun d => d.aliveToggle

/-- ALIVE_KICK (R388): A write of ALIVEKICK.KICK restarts the kick interval. -/
def execAliveKick (s : State) : Host.Outcome State Fault Refusal := s.does fun d => d.regWrite pFCOL 0x810 (2 ^ 31)

/-- KICK_MISS (R388): A kick interval ends without a kick; KICK_MISS, a fatal error, is set. -/
def execKickMiss (s : State) : Host.Outcome State Fault Refusal := s.does fun d => d.kickMiss

/-- ALIVECFG_WRITE (R387): A write of ALIVECFG sets HALF and KICKTO, or is refused as a whole. -/
def execAlivecfgWrite (v : Word) (s : State) : Host.Outcome State Fault Refusal :=
  s.does fun d => d.regWrite pFCOL 0x048 v.toNat

/-- RCT_WRITE (R375): A write of a source reaction word sets its reactions, or is refused for a forbidden BLKRST. -/
def execRctWrite (n : Fin 48) (v : Word) (s : State) : Host.Outcome State Fault Refusal :=
  s.does fun d => d.regWrite pFCOL (0x100 + 4 * n.val) v.toNat

/-- GRCT_WRITE (R390): A write of a Gust reaction word sets it, or is refused with GUST or BLKRST. -/
def execGrctWrite (n : Fin 16) (v : Word) (s : State) : Host.Outcome State Fault Refusal :=
  s.does fun d => d.regWrite pFCOL (0x400 + 4 * n.val) v.toNat

/-- FCOL_CNTCLR (R391): A write of FCOL.CNTCLR clears RECOVF and the corrected counts. -/
def execFcolCntclr (s : State) : Host.Outcome State Fault Refusal := s.does fun d => d.regWrite pFCOL 0x824 1

end Sys2Proof.Machine
end

