-- ==== Sys2Proof/Machine/ExecGate.lean ====
section
/-! DEFINITION. The meanings of the commands of gate channels and choppers. Where a command can let a channel start to
conduct, the routes of R319 act after it. -/

namespace Sys2Proof.Machine

/-- GATE_REQUEST_RISE (R291): A channel's effective request rises; it starts a turn-on, waits on the interlock, or the
leg enters a conflict. -/
def execGateRequestRise (n : Fin 12) (s : State) : Host.Outcome State Fault Refusal :=
  s.does fun d => (d.gateRequestRise n.val).routeSync

/-- GATE_REQUEST_FALL (R291): A channel's effective request falls; it starts its turn-off profile. -/
def execGateRequestFall (n : Fin 12) (s : State) : Host.Outcome State Fault Refusal :=
  s.does fun d => (d.gateFall n.val).routeSync

/-- GATE_PHASE_END (R291): A turn-on or turn-off phase time expires and the channel moves to its next phase. -/
def execGatePhaseEnd (n : Fin 12) (s : State) : Host.Outcome State Fault Refusal :=
  s.does fun d => (d.gatePhaseEnd n.val).routeSync

/-- GATE_FB_CHANGE (R288): A filtered FB level change is seen, releasing interlock waits or advancing a short code. -/
def execGateFbChange (n : Fin 12) (off : Bool) (ns : Nat) (s : State) : Host.Outcome State Fault Refusal :=
  s.does fun d => (d.gateFbChange n.val off ns).routeSync

/-- GATE_FB_TIMEOUT (R294): An FB check times out; ON_FAIL, OFF_FAIL or FB_FAULT is latched. -/
def execGateFbTimeout (n : Fin 12) (s : State) : Host.Outcome State Fault Refusal :=
  s.does fun d => (d.gateFbTimeout n.val).routeSync

/-- INTERLOCK_TIMEOUT (R295): An interlock wait exceeds ILTO; the channel abandons the request and latches
INTERLOCK_TIMEOUT. -/
def execInterlockTimeout (n : Fin 12) (s : State) : Host.Outcome State Fault Refusal :=
  s.does fun d => (d.gateInterlockTimeout n.val).routeSync

/-- LEG_TRIP (R298): A bound or routed Squall output asserts; conducting channels turn off without a clock and the leg
latches LEG_SHORT. -/
def execLegTrip (q : Fin 16) (s : State) : Host.Outcome State Fault Refusal := s.does fun d => d.legTrip q.val

/-- SOFT_END (R298): TSOFT expires and the channel enters LATCHED. -/
def execSoftEnd (n : Fin 12) (s : State) : Host.Outcome State Fault Refusal := s.does fun d => (d.gateSoftEnd n.val).routeSync

/-- GDEN_LOW (R302): GDEN is seen low; every channel runs its off profile and holds in IDLE. -/
def execGdenLow (ns : Nat) (s : State) : Host.Outcome State Fault Refusal := s.does fun d => (d.gdenLow ns).routeSync

/-- GDEN_RISE (R303): GDEN rises; after a low of at least 10 µs it clears all fault latches. -/
def execGdenRise (ns : Nat) (s : State) : Host.Outcome State Fault Refusal := s.does fun d => (d.gdenRise ns).routeSync

/-- GATE_ENABLE_SETTLE (R291): GDEN has been seen high for 1 µs; channels with a source and no latch enter OFF. -/
def execGateEnableSettle (s : State) : Host.Outcome State Fault Refusal := s.does fun d => d.gateSettle

/-- CHCFG_WRITE (R289): A write of CHCFGn.SRC rebinds a channel, or is refused while units run. -/
def execChcfgWrite (n : Fin 12) (v : Word) (s : State) : Host.Outcome State Fault Refusal :=
  s.does fun d => d.regWrite pGCH (0x040 + 4 * n.val) v.toNat

/-- GCH_CNTCLR (R306): A write of GCH.CNTCLR clears every CONFCNT. -/
def execGchCntclr (s : State) : Host.Outcome State Fault Refusal := s.does fun d => d.regWrite pGCH 0x86C 1

/-- CHOPPER_OV1 (R304): OV1 is first seen asserted; the supervisor samples V_0 and forces chopper 1 on. -/
def execChopperOv1 (s : State) : Host.Outcome State Fault Refusal := s.does fun d => (d.chopperOv1).routeSync

/-- CHOPPER_CHECK (R304): A chopper current or bus rise deadline expires and may declare CHOPPER_FAIL or FAIL2. -/
def execChopperCheck (k : Fin 3) (s : State) : Host.Outcome State Fault Refusal :=
  s.does fun d => (d.chopperCheck k.val).routeSync

/-- CHOPPER_OV3 (R304): OV3 is seen asserted; DAB blocking is requested, with optional token and Tailstock trip. -/
def execChopperOv3 (s : State) : Host.Outcome State Fault Refusal := s.does fun d => d.chopperOv3

/-- CHOPPER_RELEASE (R305): A write of CSCTL.RELEASE clears the failures and requests, or is refused while OV1 or OV3
is asserted. -/
def execChopperRelease (s : State) : Host.Outcome State Fault Refusal :=
  s.does fun d => d.regWrite pGCH 0x868 (2 ^ 31)

end Sys2Proof.Machine
end

