-- ==== Sys2Proof/Machine/ExecIsobar.lean ====
section
/-! DEFINITION. The meanings of the commands of Isobar. -/

namespace Sys2Proof.Machine

/-- ISOBAR_START (R237): Isobar starts a run, reading its inputs, or holds the start pending while busy. -/
def execIsobarStart (s : State) : Host.Outcome State Fault Refusal := s.does fun d => d.isoStart

/-- ISOBAR_LOOP_LATE (R237): An awaited engine has not finished by D_T(k) + 800 ns; Isobar starts and sets LOOP_LATE.
-/
def execIsobarLoopLate (s : State) : Host.Outcome State Fault Refusal := s.does fun d => d.isoLoopLate

/-- ISOBAR_RUN_END (R237): An Isobar run ends; its outputs are written, DONE raised and results handed to assembly. -/
def execIsobarRunEnd (s : State) : Host.Outcome State Fault Refusal := s.does fun d => d.isobarRunEnd

/-- ISOBAR_ENABLE_WRITE (R239): A write of ISOB.CTRL.EN enables Isobar or lets a run finish and discards a pending
one. -/
def execIsobarEnableWrite (v : Word) (s : State) : Host.Outcome State Fault Refusal :=
  s.does fun d => d.regWrite pISOB 0x010 v.toNat

/-- EXCL_SET (R256): A write of EXCLSET.SET sets EXCL of cell N in the shadow of CTL. -/
def execExclSet (n : BitVec 8) (s : State) : Host.Outcome State Fault Refusal :=
  s.does fun d => d.regWrite pISOB 0x8B0 (2 ^ 31 + n.toNat)

/-- EXCL_CLR (R256): A write of EXCLSET.CLR clears EXCL of cell N in the shadow of CTL. -/
def execExclClr (n : BitVec 8) (s : State) : Host.Outcome State Fault Refusal :=
  s.does fun d => d.regWrite pISOB 0x8B0 (2 ^ 30 + n.toNat)

end Sys2Proof.Machine
end

