-- ==== Sys2Proof/Machine/ExecLathe.lean ====
section
/-! DEFINITION. The meanings of the commands of Lathe engines. -/

namespace Sys2Proof.Machine

/-- LATHE_TRIGGER (R354): A trigger reaches a Lathe engine; it starts a chain next tick, closes an armed loop, checks
inputs or counts an overrun. -/
def execLatheTrigger (n : Fin 8) (s : State) : Host.Outcome State Fault Refusal :=
  s.does fun d => d.latheTrigger n.val

/-- LATHE_CHAIN_END (R355): A chain completes; its outputs are written to their destinations, or it takes no effect on
overrun or arithmetic error. -/
def execLatheChainEnd (n : Fin 8) (s : State) : Host.Outcome State Fault Refusal := s.does fun d => d.chainEnd n.val

/-- LATHE_CLOSE (R359): A write of CMD.CLOSE validates the shadow bank and arms the close, or is refused. -/
def execLatheClose (n : Fin 8) (s : State) : Host.Outcome State Fault Refusal :=
  s.does fun d => d.regWrite (pLE n.val) 0x800 (2 ^ 31)

/-- LATHE_OPEN (R360): A write of CMD.OPEN puts the engine in LOOP_OPEN and writes its SAFE values, or cancels an arm.
-/
def execLatheOpen (n : Fin 8) (s : State) : Host.Outcome State Fault Refusal :=
  s.does fun d => d.regWrite (pLE n.val) 0x800 (2 ^ 30)

/-- LATHE_CMD_TRIG (R354): A write of CMD.TRIG triggers the engine. -/
def execLatheCmdTrig (n : Fin 8) (s : State) : Host.Outcome State Fault Refusal :=
  s.does fun d => d.regWrite (pLE n.val) 0x800 (2 ^ 29)

/-- LATHE_CNTCLR (R369): A write of CMD.CNTCLR clears the engine's counters. -/
def execLatheCntclr (n : Fin 8) (s : State) : Host.Outcome State Fault Refusal :=
  s.does fun d => d.regWrite (pLE n.val) 0x800 (2 ^ 28)

end Sys2Proof.Machine
end

