-- ==== Sys2Proof/Machine/ExecLink.lean ====
section
/-! DEFINITION. The meanings of the commands of Ronun ports and frames. -/

namespace Sys2Proof.Machine

/-- PORT_ENABLE_WRITE (R168): A write of PCFG.EN or TXON enables or silences a Ronun port; disabling moves the
receiver to DOWN, and cuts off the frame that comes in, of which `v.2` had arrived. -/
def execPortEnableWrite (p : Fin 10) (v : Word × Option Frame) (s : State) : Host.Outcome State Fault Refusal :=
  s.does fun d =>
    let d1 := d.regWrite (pLINK p.val) 0x040 v.1.toNat
    if d.rxSync p.val && !d1.on (pLINK p.val) LINK.PCFG_EN then
      d1.cutPart p.val (d.on (pLINK p.val) LINK.PCFG_FWD) v.2
    else d1

/-- RX_CLOCK_LOCK (R170): The port's clock recovery locks to incoming code groups; the receiver moves from DOWN to
ALIGN. -/
def execRxClockLock (p : Fin 10) (s : State) : Host.Outcome State Fault Refusal := s.does fun d => d.rxClockLock p.val

/-- COMMA_ALIGNED (R170): Three K28.5 at the same alignment arrive with no invalid code group; the receiver moves to
SYNC. -/
def execCommaAligned (p : Fin 10) (s : State) : Host.Outcome State Fault Refusal :=
  s.does fun d => d.commaAligned p.val

/-- INVALID_CODE_GROUP (R170): An invalid code group raises the error score; at 4 the receiver drops to ALIGN with
SYNC_LOST. -/
def execInvalidCodeGroup (p : Fin 10) (run : Nat) (part : Option Frame) (s : State) : Host.Outcome State Fault Refusal :=
  s.does fun d => d.invalidGroup p.val run part

/-- RX_CLOCK_LOSS (R170): The clock recovery loses lock; the receiver drops to DOWN and a frame in progress is ended
or discarded. -/
def execRxClockLoss (p : Fin 10) (part : Option Frame) (s : State) : Host.Outcome State Fault Refusal :=
  s.does fun d => d.rxClockLoss p.val part

/-- S_FRAME_TIMEOUT (R170): No valid S frame arrives in 3 superframes; the port drops from UP to SYNC and sets S_MISS.
-/
def execSFrameTimeout (p : Fin 10) (s : State) : Host.Outcome State Fault Refusal := s.does fun d => d.sTimeout p.val

/-- GUST_TOKEN_RX (R174): A Gust token is received; it is accepted on two matching copies, stored, reported and
forwarded, or rejected as GUST_ERR. -/
def execGustTokenRx (p : Fin 10) (c1 c2 c3 : Option Byte) (back : Nat) (s : State) : Host.Outcome State Fault Refusal :=
  s.does fun d => d.gustRx p.val c1 c2 c3 back

/-- GUSTTX_GO (R176): A write of GUSTTX.GO originates a token with the written code from the whole device. -/
def execGusttxGo (p : Fin 10) (code : BitVec 4) (s : State) : Host.Outcome State Fault Refusal :=
  s.does fun d => d.regWrite (pLINK p.val) 0x870 (2 ^ 31 + code.toNat)

/-- S_FRAME_RX (R194): An S frame from the neighbour is received; the port forms a measurement pair and updates MEASD,
OFS and FILTD. -/
def execSFrameRx (p : Fin 10) (f : Frame) (back : Nat) (s : State) : Host.Outcome State Fault Refusal :=
  s.does fun d => d.onFrame p.val f 5 0 fun d g => d.sFrame p.val g back

/-- SERVO_SUPERFRAME_CHECK (R217): A follower superframe ends; the servo sets or clears HOLDOVER and VALID by its
counts. -/
def execServoSuperframeCheck (s : State) : Host.Outcome State Fault Refusal := s.does fun d => d.servoCheck

/-- C_FRAME_RX (R225): A cell consumes a C frame; Vane checks window, lateness, term and rank and keeps or discards it
as the commit candidate. -/
def execCFrameRx (p : Fin 10) (f : Frame) (s : State) : Host.Outcome State Fault Refusal :=
  s.does fun d => d.onFrame p.val f 1 0 fun d g => d.cFrame p.val g

/-- T_FRAME_RX (R241): A hub receives a T frame; it records the cell heard, its slack and epoch, and its telemetry for
Isobar. -/
def execTFrameRx (p : Fin 10) (f : Frame) (offSlot : Bool) (s : State) : Host.Outcome State Fault Refusal :=
  s.does fun d => d.onFrame p.val f 2 0 fun d g => d.tFrame p.val g offSlot

/-- B_DATA_FRAME_RX (R200): A bulk data frame arrives and is accepted into its stream or dropped with CREDIT_ERR. -/
def execBDataFrameRx (p : Fin 10) (f : Frame) (s : State) : Host.Outcome State Fault Refusal :=
  s.doesS fun s => s.bArrive p.val f

/-- CREDIT_FRAME_RX (R199): A credit frame arrives and replaces the outbound grant if it is newer. -/
def execCreditFrameRx (p : Fin 10) (f : Frame) (s : State) : Host.Outcome State Fault Refusal :=
  s.does fun d => d.onFrame p.val f 3 1 fun d g => d.bCredit p.val g

/-- M_REQUEST_RX (R202): A cell receives an M request and executes its entries in order, or replays the kept response
for a duplicate. -/
def execMRequestRx (p : Fin 2) (f : Frame) (s : State) : Host.Outcome State Fault Refusal :=
  s.doesS fun s => s.mArrive p f

/-- M_RESPONSE_RX (R204): A hub port receives the M response, writes it over MBUF, sets DONE and raises M_DONE. -/
def execMResponseRx (p : Fin 10) (f : Frame) (s : State) : Host.Outcome State Fault Refusal :=
  s.does fun d => d.onFrame p.val f 4 1 fun d g => d.mResponse p.val g

/-- M_REQUEST_GO (R204): A write of MCTL.GO sends the request in MBUF with a new or retried SEQ, or is refused. -/
def execMRequestGo (p : Fin 10) (v : Word) (s : State) : Host.Outcome State Fault Refusal :=
  s.does fun d => d.regWrite (pLINK p.val) 0x880 (v.toNat ||| 2 ^ 31)

/-- M_TIMEOUT (R204): No response arrives within MTO superframes; the port sets DONE, TOUT and M_TIMEOUT. -/
def execMTimeout (p : Fin 10) (s : State) : Host.Outcome State Fault Refusal := s.does fun d => d.mTimeout p.val

/-- M_RESPONSE_SEND (R202): A cell sends the response to an executed request out of the arrival port when its window
allows. -/
def execMResponseSend (p : Fin 10) (s : State) : Host.Outcome State Fault Refusal := s.does fun d => d.mRespond p.val

/-- S_SLOT (R187): A port's S slot arrives; it sends its S frame with its own transmit timestamp, delayed if the
output is busy. -/
def execSSlot (p : Fin 10) (wait : Nat) (s : State) : Host.Outcome State Fault Refusal :=
  s.does fun d => d.sSlot p.val wait

/-- T_SLOT (R189): S(k) + TSLOT arrives; the cell sends its T copy toward that end. -/
def execTSlot (p : Fin 2) (wait : Nat) (s : State) : Host.Outcome State Fault Refusal :=
  s.doesM fun m d => d.tSlot p.val wait (m.bytes .sram 0x3FFFE0 32)

/-- BULK_FRAME_SEND (R190): A port starts a B or M frame when its window and credits allow. -/
def execBulkFrameSend (p : Fin 10) (stream : Option (Fin 32)) (s : State) : Host.Outcome State Fault Refusal :=
  s.doesS fun s => s.bulkSend p.val (stream.map (·.val))

/-- CREDIT_FRAME_SEND (R198): A receiver sends the grant of an inbound stream when enabled, advanced or periodically
due. -/
def execCreditFrameSend (p : Fin 10) (e : Fin 32) (s : State) : Host.Outcome State Fault Refusal :=
  s.does fun d => d.creditSend p.val e.val

/-- FORWARD_FIFO_SEND (R186): A frame stored in the forward FIFO goes out when the output is free. -/
def execForwardFifoSend (p : Fin 10) (s : State) : Host.Outcome State Fault Refusal :=
  s.does fun d => d.fifoSend p.val

/-- BSTR_WRITE (R197): A write of a bulk stream entry enables or changes it, or is refused when credits exceed 256. -/
def execBstrWrite (p : Fin 10) (e : Fin 32) (hi : Bool) (v : Word) (s : State) : Host.Outcome State Fault Refusal :=
  s.does fun d => d.regWrite (pLINK p.val) (0x100 + 8 * e.val + 4 * b2n hi) v.toNat

/-- LINK_CNTCLR (R206): A write of LINK/PEER CNTCLR bit 0 clears the port counters. -/
def execLinkCntclr (p : Fin 10) (s : State) : Host.Outcome State Fault Refusal :=
  s.does fun d => d.regWrite (pLINK p.val) 0x854 1

/-- CUT_THROUGH_FRAME (R182): A frame arriving at a port that its class consumer does not take (a T, B or M frame
passing a cell, a header or CRC failure, a C frame reaching a hub) is forwarded, stored, marked with K30.7 or
discarded and counted. -/
def execCutThroughFrame (p : Fin 10) (f : Frame) (s : State) : Host.Outcome State Fault Refusal :=
  s.does fun d => d.cutThrough p.val f

end Sys2Proof.Machine
end

