-- ==== Sys2Proof/Machine/ExecMotor.lean ====
section
/-! DEFINITION. The meanings of the commands of the auxiliary drive. -/

namespace Sys2Proof.Machine

/-- MOTR_START (R408): A write of MOTR.CMD.START enters WATCH or sets a new target, or is refused. -/
def execMotrStart (reverse : Bool) (s : State) : Host.Outcome State Fault Refusal :=
  s.does fun d => d.regWrite pMOTR 0x800 (2 ^ 31 + b2n reverse)

/-- MOTR_STOP (R413): A write of MOTR.CMD.STOP sets the target to stop and enters IDLE or BRAKE. -/
def execMotrStop (s : State) : Host.Outcome State Fault Refusal := s.does fun d => d.regWrite pMOTR 0x800 (2 ^ 30)

/-- MOTR_WATCH_END (R409): The observation window ends and MOTR chooses RUN, BRAKE or ALIGN. -/
def execMotrWatchEnd (s : State) : Host.Outcome State Fault Refusal := s.does fun d => d.motrWatchEnd

/-- MOTR_BRAKE_END (R410): BRKON expires and MOTR observes with all legs OFF, or BRKMAX times out. -/
def execMotrBrakeEnd (s : State) : Host.Outcome State Fault Refusal := s.does fun d => d.motrBrakeEnd

/-- MOTR_ALIGN_END (R411): ALIGNT expires and MOTR starts the open-loop ramp. -/
def execMotrAlignEnd (s : State) : Host.Outcome State Fault Refusal := s.does fun d => d.motrAlignEnd

/-- MOTR_COMMUTATE (R412): A commutation instant is reached and MOTR advances to the next step. -/
def execMotrCommutate (us : Nat) (s : State) : Host.Outcome State Fault Refusal := s.does fun d => d.motrCommutate us

/-- MOTR_ZERO_CROSSING (R412): A back-EMF zero crossing is seen and schedules the next commutation. -/
def execMotrZeroCrossing (ph : Fin 3) (us inStep : Nat) (s : State) : Host.Outcome State Fault Refusal :=
  s.does fun d => d.motrCrossing ph.val us inStep

/-- MOTR_CROSSING_TIMEOUT (R412): No crossing comes within twice the step interval; MOTR commutates and may lose sync.
-/
def execMotrCrossingTimeout (s : State) : Host.Outcome State Fault Refusal := s.does fun d => d.motrMiss

/-- MOTR_STALL (R411): RUN is not reached 1 s after FHAND; STALL is set and MOTR enters FAULT. -/
def execMotrStall (s : State) : Host.Outcome State Fault Refusal := s.does fun d => d.motrStall

/-- MOTR_ENABLE_WRITE (R417): A write of MOTR.CTRL.EN takes over legs 3-5 or returns them to their units. -/
def execMotrEnableWrite (en : Bool) (s : State) : Host.Outcome State Fault Refusal :=
  s.does fun d => d.regWrite pMOTR 0x010 (b2n en)

end Sys2Proof.Machine
end

