-- ==== Sys2Proof/Machine/ExecPages.lean ====
section
/-! DEFINITION. The meanings of the commands of accesses over the bus and rows of every page. -/

namespace Sys2Proof.Machine

/-- SUB_WORD_WRITE (R100): An 8-bit or 16-bit write to a page is ignored and sets ACC_REJ. -/
def execSubWordWrite (who : Who) (addr : BitVec 32) (size : Size) (v : Word) (s : State) : Host.Outcome State Fault Refusal :=
  s.doesM fun m d => Dev.access m d who addr size (some v)

/-- MISALIGNED_ACCESS (R100): A misaligned access to a page completes with a bus error. -/
def execMisalignedAccess (who : Who) (addr : BitVec 32) (size : Size) (write : Option Word) (s : State) : Host.Outcome State Fault Refusal :=
  s.doesM fun m d => Dev.access m d who addr size write

/-- UNMAPPED_ACCESS (R110): An access to an unmapped address or a write to a read-only region completes with a bus
error. -/
def execUnmappedAccess (who : Who) (addr : BitVec 32) (size : Size) (write : Option Word) (s : State) : Host.Outcome State Fault Refusal :=
  s.doesM fun m d => Dev.access m d who addr size write

/-- WIDE_READ_LATCH (R100): A read of the lowest word of a wide value latches the other words until each is read. -/
def execWideReadLatch (who : Who) (addr : BitVec 32) (size : Size) (s : State) : Host.Outcome State Fault Refusal :=
  s.doesM fun m d => Dev.access m d who addr size none

/-- REGISTER_WRITE (R4): A write to a register field with no row of its own takes effect by its access type, subject
to lock and reserved-field rules. -/
def execRegisterWrite (who : Who) (addr : BitVec 32) (size : Size) (v : Word) (s : State) : Host.Outcome State Fault Refusal :=
  s.doesM fun m d => Dev.access m d who addr size (some v)

/-- LC_WRITE (R4): A write to an LC field takes effect only while the Lathe engine is in LOOP_OPEN and not armed;
otherwise it is ignored and flagged. -/
def execLcWrite (n : Fin 8) (off : BitVec 12) (v : Word) (s : State) : Host.Outcome State Fault Refusal :=
  s.does fun d => d.regWrite (pLE n.val) off.toNat v.toNat

/-- FEATACC_WRITE (R115): A write of FEATACC stores accepted features and, with DONE = 1 under the quiescent
condition, makes them take effect. -/
def execFeataccWrite (who : Who) (page : BitVec 15) (v : Word) (s : State) : Host.Outcome State Fault Refusal :=
  s.doesM fun m d => Dev.access m d who (pageAddr page 0x00C) .word (some v)

/-- LOCK_KEY_WRITE (R107): A key written to a page's LOCK register locks, sticky-locks, starts or completes an unlock,
or sets LOCK_ERR. -/
def execLockKeyWrite (who : Who) (page : BitVec 15) (key : BitVec 16) (s : State) : Host.Outcome State Fault Refusal :=
  s.doesM fun m d => Dev.access m d who (pageAddr page 0x02C) .word (some (key.setWidth 32))

/-- UNLOCK_KEY_TIMEOUT (R107): The second unlock key does not follow within 64 fabric ticks; the first key is
discarded. -/
def execUnlockKeyTimeout (page : BitVec 15) (s : State) : Host.Outcome State Fault Refusal :=
  s.does fun d => d.keyTimeout page.toNat

/-- ERRINJ_WRITE (R106): A write of 1 to an ERRINJ bit raises that page error with the INJ tag. -/
def execErrinjWrite (who : Who) (page : BitVec 15) (v : Word) (s : State) : Host.Outcome State Fault Refusal :=
  s.doesM fun m d => Dev.access m d who (pageAddr page 0x024) .word (some v)

/-- WINBASE_WRITE (R112): A write of DDRC.WINBASE moves the DDR4 window after earlier window accesses complete. -/
def execWinbaseWrite (v : Word) (s : State) : Host.Outcome State Fault Refusal :=
  s.does fun d => d.regWrite pDDRC 0x040 v.toNat

/-- DDR_WINDOW_ACCESS (R112): A window access reaches DRAM at WINBASE plus offset, or completes with a bus error when
out of range, in reset or in cell role. -/
def execDdrWindowAccess (who : Who) (addr : BitVec 31) (size : Size) (write : Option Word) (ecc : Option Bool) (s : State) : Host.Outcome State Fault Refusal :=
  s.doesM fun m d => Dev.windowAccess m d who addr.toNat size write ecc

end Sys2Proof.Machine
end

