-- ==== Sys2Proof/Machine/ExecPwm.lean ====
section
/-! DEFINITION. The meanings of the commands of PWM units and the hold-off. -/

namespace Sys2Proof.Machine

/-- LOADALL (R271): A write of PWMC.LOADALL.GO loads the shadows of the units selected in SOFT. -/
def execLoadall (s : State) : Host.Outcome State Fault Refusal := s.does fun d => d.regWrite pPWMC 0x800 (2 ^ 31)

/-- PWM_APEX (R262): A carrier valley or peak arrives; the unit samples its reference and places the edges of S and
its outputs. -/
def execPwmApex (m : Fin 6) (s : State) : Host.Outcome State Fault Refusal := s.does fun d => d.pwmApex m.val

/-- PWM_EDGE (R268): A placed edge of output A or B takes effect after dead time. -/
def execPwmEdge (m : Fin 7) (s : State) : Host.Outcome State Fault Refusal := s.does fun d => d.pwmEdge m.val

/-- COT_CFT_TIMER (R265): TON, TOFF or TMAX expires in COT or CFT mode and ends a phase or starts a period. -/
def execCotCftTimer (m : Fin 7) (which : Fin 3) (s : State) : Host.Outcome State Fault Refusal :=
  s.does fun d => d.cotTimer m.val which.val

/-- PWM_EVENT (R267): A START or END Squall event ends an on-phase or starts a period in COT or CFT mode. -/
def execPwmEvent (m : Fin 7) (isEnd : Bool) (elapsed : Nat) (s : State) : Host.Outcome State Fault Refusal :=
  s.does fun d => d.pwmEvent m.val isEnd elapsed

/-- PWM_ENABLE_WRITE (R278): A write of CTRL.EN enables a unit to wait for load and grid, or drives its outputs low.
-/
def execPwmEnableWrite (m : Fin 7) (en : Bool) (s : State) : Host.Outcome State Fault Refusal :=
  s.does fun d => d.regWrite (pPWMU m.val) 0x010 (b2n en)

/-- DL_RECAL (R277): Every 1 ms a delay line is recalibrated and enters or leaves tick placement. -/
def execDlRecal (line : Fin 13) (ps : Nat) (s : State) : Host.Outcome State Fault Refusal :=
  s.does fun d => d.dlRecal line.val ps

/-- DEBUG_HALT (R279): A core halts in debug; the gate hold-off is asserted. -/
def execDebugHalt (pair : Fin 2) (s : State) : Host.Outcome State Fault Refusal :=
  s.does fun d => d.debugHalt pair.val

/-- HOLDOFF_END (R279): The last hold-off cause ends; enabled units clear ACC and resume as after an enable. -/
def execHoldoffEnd (cause : Fin 3) (s : State) : Host.Outcome State Fault Refusal :=
  s.does fun d => d.holdoffEnd cause.val

/-- HOLDCNT_CLR (R282): A write of PWMC.HOLDCNT.CLR clears the hold-off count. -/
def execHoldcntClr (s : State) : Host.Outcome State Fault Refusal := s.does fun d => d.regWrite pPWMC 0x808 (2 ^ 31)

end Sys2Proof.Machine
end

