-- ==== Sys2Proof/Machine/ExecReset.lean ====
section
/-! DEFINITION. The meanings of the commands of power, resets, straps, boot. -/

namespace Sys2Proof.Machine

/-- RAIL_GOOD (R53): A monitored rail rises above its rising threshold and becomes good, which starts or restarts the
power-on-reset interval. -/
def execRailGood (r : Fin 6) (s : State) : Host.Outcome State Fault Refusal := s.always fun d => d.railGood r.val

/-- POWER_ON_RESET_END (R56): All monitored rails have been good for the 2.0 to 3.0 ms interval; power-on reset ends
and, if RST_N is high, the straps are latched. -/
def execPowerOnResetEnd (rstN : Bool) (straps : BitVec 6) (a b : Source) (s : State) : Host.Outcome State Fault Refusal :=
  s.always fun d => d.porEnd rstN straps.toNat a b

/-- BROWN_OUT_RESET (R55): A monitored rail stays below its falling threshold for 1 µs; the device enters brown-out
reset and records the rail. -/
def execBrownOutReset (r : Fin 6) (s : State) : Host.Outcome State Fault Refusal := s.always fun d => d.brownOut r.val

/-- PIN_RESET (R58): RST_N is held low long enough; the device enters a whole-device reset and releases its outputs to
high impedance. -/
def execPinReset (ns : Nat) (s : State) : Host.Outcome State Fault Refusal := s.always fun d => d.pinReset ns

/-- STRAP_LATCH (R42): RST_N rises after reset (or power-on reset ends with RST_N high); the six straps are latched,
the role is fixed and the release sequence of R60 starts. -/
def execStrapLatch (straps : BitVec 6) (a b : Source) (s : State) : Host.Outcome State Fault Refusal :=
  s.always fun d => d.strapEdge straps.toNat a b

/-- SOFTWARE_SYSTEM_RESET (R65): A write of SYSC.SWRST with the key and SYSRST = 1 starts a software system reset; a
wrong key sets KEY_ERR. -/
def execSoftwareSystemReset (v : Word) (s : State) : Host.Outcome State Fault Refusal :=
  s.always fun d =>
    if d.phase = .running then d.acting fun d => d.regWrite pSYSC 0x04C v.toNat else d.swCoincides v.toNat

/-- DEBUGGER_SYSTEM_RESET (R61): The unlocked debug port requests a system reset, which acts as a pin reset and sets
DBG. -/
def execDebuggerSystemReset (s : State) : Host.Outcome State Fault Refusal := s.does fun d => d.dbgReset

/-- TAP_RESET (R61): TRST_N low or five TCK cycles with TMS high reset only the TAP controller. -/
def execTapReset (s : State) : Host.Outcome State Fault Refusal := s.always fun d => d.tapReset

/-- BLOCK_RESET (R62): A write of SYSC.BLKRST.GO resets the named page to its reset values within 1 µs, or is denied
for non-resettable pages. -/
def execBlockReset (page : BitVec 16) (s : State) : Host.Outcome State Fault Refusal :=
  s.does fun d => d.regWrite pSYSC 0x054 (2 ^ 31 + page.toNat)

/-- BLOCK_RESET_END (R62): A block reset completes; the block's registers hold their reset values and a consequence
window starts its 100 µs tail. -/
def execBlockResetEnd (page : BitVec 16) (s : State) : Host.Outcome State Fault Refusal :=
  s.does fun d => d.blkEnd page.toNat

/-- RELEASE_CPU1 (R74): A write of SYSC.RELEASE.CPU1 releases CPU pair 1 to start at INTC.P1BOOT, or holds it in
reset. -/
def execReleaseCpu1 (run : Bool) (s : State) : Host.Outcome State Fault Refusal :=
  s.does fun d => d.regWrite pSYSC 0x050 (b2n run + 2 * b2n (d.on pSYSC SYSC.RELEASE_TSTK))

/-- RELEASE_TSTK (R420): A write of 1 to SYSC.RELEASE.TSTK releases Tailstock into SAFE. -/
def execReleaseTstk (s : State) : Host.Outcome State Fault Refusal :=
  s.does fun d => d.regWrite pSYSC 0x050 (b2n (d.on pSYSC SYSC.RELEASE_CPU1) + 2)

/-- CELLCMD_BYPASS (R71): A write of SYSC.CELLCMD.BYPASS = 1 moves a cell in PRECHARGE, STANDBY or RUN to BYPASS with
CAUSE 0x6. -/
def execCellcmdBypass (s : State) : Host.Outcome State Fault Refusal := s.does fun d => d.regWrite pSYSC 0x060 1

/-- CELLCMD_CLRCNT (R74): A write of SYSC.CELLCMD.CLRCNT = 1 clears CELLSTATE.INVALID_CNT. -/
def execCellcmdClrcnt (s : State) : Host.Outcome State Fault Refusal := s.does fun d => d.regWrite pSYSC 0x060 2

/-- LINK_BOOT_LOAD_DONE (R456): DMA channel 0 stops after receiving an image from the hub; the boot ROM checks and
starts it, or keeps waiting. -/
def execLinkBootLoadDone (ecc : Bool) (s : State) : Host.Outcome State Fault Refusal :=
  s.doesM fun m d => Dev.linkLoaded m d ecc

/-- UART_BOOT_BLOCK (R456): A UART recovery block and its CRC arrive; the boot ROM accepts it with 0x06 or asks again
with 0x15. -/
def execUartBootBlock (bytes : List Byte) (crc : BitVec 32) (s : State) : Host.Outcome State Fault Refusal :=
  s.does fun d => d.uartBlock bytes crc.toNat

/-- VDDQ_OK_CHANGE (R53): VDDQ crosses its rising or falling threshold and SYSC.PWRSTAT.VDDQ_OK changes, without a
reset. -/
def execVddqOkChange (ok : Bool) (s : State) : Host.Outcome State Fault Refusal := s.always fun d => d.vddqOk ok

end Sys2Proof.Machine
end

