-- ==== Sys2Proof/Machine/ExecSerial.lean ====
section
/-! DEFINITION. The meanings of the commands of QSPI, UART, I2C, SPI, GPIO. -/

namespace Sys2Proof.Machine

/-- QSPI_GO (R462): A write of QSPI.CMD.GO runs a flash transfer, waiting while the bus is busy or held. -/
def execQspiGo (v : Word) (s : State) : Host.Outcome State Fault Refusal :=
  s.does fun d => d.regWrite pQSPI 0x800 (v.toNat ||| 2 ^ 31)

/-- QSPI_DONE (R462): A QSPI transfer completes and DONE is raised. -/
def execQspiDone (bytes : List Byte) (s : State) : Host.Outcome State Fault Refusal :=
  s.does fun d => d.qspiDone bytes

/-- UART_DATA_WRITE (R463): A write of UART DATA pushes a byte to the transmit FIFO, or drops it with TX_OVF. -/
def execUartDataWrite (n : Fin 2) (b : Byte) (s : State) : Host.Outcome State Fault Refusal :=
  s.does fun d => d.regWrite (pUART n.val) 0x800 b.toNat

/-- UART_DATA_READ (R463): A read of UART DATA removes a byte from the receive FIFO. -/
def execUartDataRead (n : Fin 2) (s : State) : Host.Outcome State Fault Refusal :=
  s.does fun d => d.regRead (pUART n.val) 0x800

/-- UART_BYTE_RX (R463): A byte arrives on the UART and enters the receive FIFO, or is dropped with RX_OVF. -/
def execUartByteRx (n : Fin 2) (b : Byte) (frameErr parityErr : Bool) (s : State) : Host.Outcome State Fault Refusal :=
  s.does fun d => d.uartRx n.val b frameErr parityErr

/-- I2C_GO (R464): A write of I2C0.CMD.GO starts a transfer, or is refused while BUSY. -/
def execI2cGo (v : Word) (s : State) : Host.Outcome State Fault Refusal :=
  s.does fun d => d.regWrite pI2C 0x800 (v.toNat ||| 2 ^ 31)

/-- I2C_DONE (R464): An I2C transfer ends with STOP or a NACK and DONE is raised. -/
def execI2cDone (nack : Bool) (moved : Nat) (bytes : List Byte) (s : State) : Host.Outcome State Fault Refusal :=
  s.does fun d => d.i2cDone nack moved bytes

/-- I2C_BUS_STUCK (R464): SCL or SDA stays low for 25 ms; BUS_STUCK is set. -/
def execI2cBusStuck (s : State) : Host.Outcome State Fault Refusal := s.does fun d => d.i2cStuck

/-- SPI_GO (R465): A write of SPI0.CMD.GO runs a full-duplex transfer, or is refused while BUSY. -/
def execSpiGo (len : BitVec 9) (s : State) : Host.Outcome State Fault Refusal :=
  s.does fun d => d.regWrite pSPI 0x800 (2 ^ 31 + len.toNat)

/-- SPI_DONE (R465): An SPI transfer completes and DONE is raised. -/
def execSpiDone (bytes : List Byte) (s : State) : Host.Outcome State Fault Refusal := s.does fun d => d.spiDone bytes

/-- GPIO_SET (R466): A write of GPIO.SET sets the selected OUT bits. -/
def execGpioSet (mask : Word) (s : State) : Host.Outcome State Fault Refusal :=
  s.does fun d => d.regWrite pGPIO 0x808 mask.toNat

/-- GPIO_CLR (R466): A write of GPIO.CLR clears the selected OUT bits. -/
def execGpioClr (mask : Word) (s : State) : Host.Outcome State Fault Refusal :=
  s.does fun d => d.regWrite pGPIO 0x80C mask.toNat

/-- GPIO_EDGE (R466): A selected edge on a GPIO input sets its EDGEFLG bit. -/
def execGpioEdge (n : Fin 24) (rising : Bool) (s : State) : Host.Outcome State Fault Refusal :=
  s.does fun d => d.gpioEdge n.val rising

/-- UART_TX_EMPTY (R463): The UART finishes shifting out its transmit bytes; TXBUSY clears and TX_EMPTY is raised. -/
def execUartTxEmpty (n : Fin 2) (s : State) : Host.Outcome State Fault Refusal := s.does fun d => d.uartEmpty n.val

end Sys2Proof.Machine
end

