-- ==== Sys2Proof/Machine/ExecSpindle.lean ====
section
/-! DEFINITION. The meanings of the commands of Spindle. -/

namespace Sys2Proof.Machine

/-- TRACKER_SAMPLE_SET (R147): A new set of three ADC results reaches the grid tracker, which updates f, lock,
freewheel and jump state. -/
def execTrackerSampleSet (s : State) : Host.Outcome State Fault Refusal := s.does fun d => d.trkSet

/-- FREEWHEEL_END (R150): VMAG has stayed above VMIN + VHYS for RECOV ms; tracking resumes, θ snapped if JUMPSNAP = 1,
GRID_OK raised. -/
def execFreewheelEnd (s : State) : Host.Outcome State Fault Refusal := s.does fun d => d.trkFreeEnd

/-- THOFS_WRITE (R156): A write of SPDL.THOFS jumps the visible angle and fires crossed angle events if forward. -/
def execThofsWrite (v : Word) (s : State) : Host.Outcome State Fault Refusal :=
  s.does fun d => d.regWrite pSPDL 0x060 v.toNat

/-- SPINDLE_ENABLE_WRITE (R144): A write of SPDL.CFG.EN starts or holds θ; writing 0 resets the tracker and clears
VALID. -/
def execSpindleEnableWrite (en fnom60 : Bool) (s : State) : Host.Outcome State Fault Refusal :=
  s.does fun d => d.regWrite pSPDL 0x040 (b2n en + 4 * b2n fnom60)

/-- ANGLE_EVENT_FIRE (R155): θ crosses an armed angle event forward; it fires its actions with a sub-tick position and
disarms. -/
def execAngleEventFire (n : Fin 64) (s : State) : Host.Outcome State Fault Refusal := s.does fun d => d.aevFire n.val

/-- ANGLE_EVENT_REARM (R155): θ crosses an event's angle plus half a cycle forward; the event re-arms. -/
def execAngleEventRearm (n : Fin 64) (s : State) : Host.Outcome State Fault Refusal :=
  s.does fun d => d.aevRearm n.val

/-- TIME_EVENT_FIRE (R158): A time event's due time falls in a tick; it fires its actions, or a passed due time is
skipped or fired once. -/
def execTimeEventFire (n : Fin 32) (s : State) : Host.Outcome State Fault Refusal :=
  s.doesM fun m d => d.tevGo n.val (m.bytes .sram 0x3FFFE0 32)

/-- TEVCTL_WRITE (R158): A write of TEVnCTL enables, changes or cancels a time event, or is refused. -/
def execTevctlWrite (n : Fin 32) (v : Word) (s : State) : Host.Outcome State Fault Refusal :=
  s.does fun d => d.regWrite pSPDL (0x400 + 32 * n.val) v.toNat

/-- MERGECNT_CLR (R166): A write of SPDL.MERGECNT.CLR clears the merge count. -/
def execMergecntClr (s : State) : Host.Outcome State Fault Refusal := s.does fun d => d.regWrite pSPDL 0x82C (2 ^ 31)

end Sys2Proof.Machine
end

