-- ==== Sys2Proof/Machine/ExecSquall.lean ====
section
/-! DEFINITION. The meanings of the commands of Squall comparators. -/

namespace Sys2Proof.Machine

/-- SQUALL_RESULT_CHANGE (R317): A channel's comparator result changes and its output follows after blanking and latch.
The operand is the voltage at the pin, in 1.8 V / 8,192, from which the channel finds its result (R309, R310). -/
def execSquallResultChange (q : Fin 16) (v : Nat) (s : State) : Host.Outcome State Fault Refusal :=
  s.does fun d => d.sqInput q.val v

/-- SQUALL_RESOLVED (R312): A started channel settles and makes its first clear decision, leaving UNRESOLVED. -/
def execSquallResolved (q : Fin 16) (v : Nat) (s : State) : Host.Outcome State Fault Refusal :=
  s.does fun d => d.sqResolved q.val v

/-- SQCFG_WRITE (R314): A write of SQCFGn changes function or mode, powering the channel up or down, or is refused. -/
def execSqcfgWrite (q : Fin 16) (v : Word) (s : State) : Host.Outcome State Fault Refusal :=
  s.does fun d => d.regWrite pSQL (0x040 + 8 * q.val) v.toNat

/-- SQTHR_WRITE (R311): A write of SQTHRn sets thresholds, or is refused when the window is inconsistent. -/
def execSqthrWrite (q : Fin 16) (v : Word) (s : State) : Host.Outcome State Fault Refusal :=
  s.does fun d => d.regWrite pSQL (0x044 + 8 * q.val) v.toNat

/-- BLANK_WINDOW_END (R315): A blanking window closes and the output takes the current result. -/
def execBlankWindowEnd (q : Fin 16) (s : State) : Host.Outcome State Fault Refusal :=
  s.does fun d => d.sqBlankEnd q.val

/-- SQUALL_LATCH_RELEASE (R316): A write of 1 to a LATCH bit releases a software latch if the result is deasserted. -/
def execSquallLatchRelease (mask : BitVec 16) (s : State) : Host.Outcome State Fault Refusal :=
  s.does fun d => d.regWrite pSQL 0x804 mask.toNat

/-- SQTRIP_WRITE (R319): A write of SQTRIPn routes a channel to gate channels at once, tripping if already asserted.
-/
def execSqtripWrite (q : Fin 16) (v : Word) (s : State) : Host.Outcome State Fault Refusal :=
  s.does fun d => d.regWrite pSQL (0x100 + 4 * q.val) v.toNat

/-- SQUALL_CAL_UPDATE (R321): Every 1 ms the threshold correction moves by at most one quarter step. -/
def execSquallCalUpdate (s : State) : Host.Outcome State Fault Refusal := s.does fun d => d.sqCalUpdate

/-- SQCNT_CLR (R323): A write of SQCNTn.CLR clears the assertion count. -/
def execSqcntClr (q : Fin 16) (s : State) : Host.Outcome State Fault Refusal :=
  s.does fun d => d.regWrite pSQL (0x840 + 4 * q.val) (2 ^ 31)

/-- SETTLING_TIME_END (R314): After a mode change, the settling time of the new mode ends and the Squall output again
follows the result. -/
def execSettlingTimeEnd (q : Fin 16) (s : State) : Host.Outcome State Fault Refusal :=
  s.does fun d => d.sqSettled q.val

end Sys2Proof.Machine
end

