-- ==== Sys2Proof/Machine/ExecStrand.lean ====
section
/-! DEFINITION. The meanings of the commands of strands, the commit grid, masters. -/

namespace Sys2Proof.Machine

/-- ENUM_PASS (R209): With ENUM = 1 the strand manager enumerates a port hop by hop, assigns positions, negotiates
features and writes the grid. -/
def execEnumPass (p : Fin 8) (answers : List Answer) (s : State) : Host.Outcome State Fault Refusal :=
  s.does fun d => d.enumPass p.val answers

/-- ENUM_REPASS (R209): Every 64 superframes the strand manager repeats enumeration for silent and unreached
positions. -/
def execEnumRepass (p : Fin 8) (answers : List (Nat × Answer)) (s : State) : Host.Outcome State Fault Refusal :=
  s.does fun d => d.enumRepass p.val answers

/-- MAP_WRITE (R211): A write of a STRD.MAP entry maps a position to a logical cell, or is refused for a duplicate n.
-/
def execMapWrite (e : Fin 384) (v : Word) (s : State) : Host.Outcome State Fault Refusal :=
  s.does fun d => d.regWrite pSTRD (0x900 + 4 * e.val) v.toNat

/-- ENUMFIFO_READ (R235): A read of ENUMFIFO INFO latches the UID words and removes the entry. -/
def execEnumfifoRead (s : State) : Host.Outcome State Fault Refusal := s.does fun d => d.regRead pSTRD 0x840

/-- STRAND_SUPERFRAME_EVAL (R212): Each superframe the strand manager updates AEND, BEND, breaks, lost cells and the
budget check. -/
def execStrandSuperframeEval (hops : List (List Nat)) (s : State) : Host.Outcome State Fault Refusal :=
  s.does fun d => d.superframeEval hops

/-- SLOT_PLAN (R214): The strand manager reprograms slot and window registers of all strand ports by management
frames. -/
def execSlotPlan (strand : Fin 8) (s : State) : Host.Outcome State Fault Refusal :=
  s.does fun d => d.slotPlan strand.val

/-- TSF_WRITE (R18): A write of STRD.TSF sets the period or announces its change, or is refused out of range or below
budget. -/
def execTsfWrite (v : Word) (s : State) : Host.Outcome State Fault Refusal :=
  s.does fun d => d.regWrite pSTRD 0x040 v.toNat

/-- GRID_RUN_WRITE (R234): A write of STRD.CTRL.RUN starts the commit grid at T0 or stops it after the next commit. -/
def execGridRunWrite (run : Bool) (s : State) : Host.Outcome State Fault Refusal :=
  s.does fun d => d.regWrite pSTRD 0x010 (d.wordAt pSTRD 0x010 / 2 * 2 + b2n run)

/-- VANE_GRID_GO (R160): A write of VANE.GRIDCTL.GO starts the cell's TEV0 and TEV1 from its grid registers. -/
def execVaneGridGo (s : State) : Host.Outcome State Fault Refusal := s.does fun d => d.regWrite pVANE 0x058 (2 ^ 31)

/-- HUB_COMMIT (R17): C(k) arrives in a hub; its own command applies, PWM and ISOB shadows load and announced grid
changes take effect. -/
def execHubCommit (s : State) : Host.Outcome State Fault Refusal := s.does fun d => d.hubCommit

/-- COMMIT_APPLY (R226): C(k) arrives in a cell; it applies the candidate command, loads θ, PWM shadows and state, or
counts a missed commit. -/
def execCommitApply (s : State) : Host.Outcome State Fault Refusal := s.does fun d => d.commitApply

/-- LOOP_INSTANT (R27): D_L(k) arrives; the hub triggers its loops and a standby loads the partner's state section. -/
def execLoopInstant (s : State) : Host.Outcome State Fault Refusal := s.does fun d => d.loopInstant

/-- TELEMETRY_DEADLINE (R27): D_T(k) arrives, or every expected T frame is in; Isobar is allowed to start. -/
def execTelemetryDeadline (s : State) : Host.Outcome State Fault Refusal := s.does fun d => d.telemetryDeadline

/-- COMMAND_RELEASE (R32): Command assembly ends; the hub sends each port's C train, flagging SEND_LATE if late. -/
def execCommandRelease (s : State) : Host.Outcome State Fault Refusal := s.does fun d => d.commandRelease

/-- PEER_RECORD_SEND (R218): At D_L(k) + 1 µs a hub starts its peer record on each running peer port. -/
def execPeerRecordSend (s : State) : Host.Outcome State Fault Refusal := s.does fun d => d.recordSend

/-- PEER_RECORD_RX (R218): A peer record completes; the hub records terms, leaders, strand ends and grid values. -/
def execPeerRecordRx (port : Fin 2) (bytes : List Byte) (s : State) : Host.Outcome State Fault Refusal :=
  s.does fun d => d.recordRx port.val bytes

/-- PEER_RECORD_MISS (R230): A partner record is not complete by the loop instant; the hub counts a miss and may take
over or set PEER_LOST. -/
def execPeerRecordMiss (port : Fin 2) (s : State) : Host.Outcome State Fault Refusal :=
  s.does fun d => d.recordMiss port.val

/-- HUB_CLAIM (R224): After its observation period a hub claims its first term, or starts as standby. -/
def execHubClaim (s : State) : Host.Outcome State Fault Refusal := s.does fun d => d.hubClaim

/-- HUBCTL_FORCE (R230): A write of VANE.HUBCTL.FORCE takes over at once. -/
def execHubctlForce (s : State) : Host.Outcome State Fault Refusal := s.does fun d => d.regWrite pVANE 0x074 1

/-- HUBCTL_STEPDN (R231): A write of VANE.HUBCTL.STEPDN makes the hub step down. -/
def execHubctlStepdn (s : State) : Host.Outcome State Fault Refusal := s.does fun d => d.regWrite pVANE 0x074 2

/-- RECOVER_GO (R222): A write of STRD.RECOVER.GO starts sending STANDBY requests to the cell, or is refused. -/
def execRecoverGo (n : BitVec 8) (s : State) : Host.Outcome State Fault Refusal :=
  s.does fun d => d.regWrite pSTRD 0x058 (2 ^ 31 + n.toNat)

/-- VANE_CNTCLR (R236): A write of VANE.CNTCLR clears the cell's Vane counters. -/
def execVaneCntclr (s : State) : Host.Outcome State Fault Refusal := s.does fun d => d.regWrite pVANE 0x830 1

end Sys2Proof.Machine
end

