-- ==== Sys2Proof/Machine/ExecTailstock.lean ====
section
/-! DEFINITION. The meanings of the commands of Tailstock. -/

namespace Sys2Proof.Machine

/-- TSTK_INPUT_CHANGE (R421): A safety input channel is accepted at a new level; a demand de-energises the coil. -/
def execTstkInputChange (ch : Fin 4) (lvl : Bool) (s : State) : Host.Outcome State Fault Refusal :=
  s.does fun d => d.tstkInput ch.val lvl

/-- TSTK_DISCREPANCY (R422): Two channels of an input disagree longer than DISC; DISCREP and DLOCK are set. -/
def execTstkDiscrepancy (j : Fin 2) (s : State) : Host.Outcome State Fault Refusal :=
  s.does fun d => d.tstkDiscrepancy j.val

/-- TSTK_CLRDISC (R422): A write of CMD.CLRDISC clears the discrepancy locks, or is refused. -/
def execTstkClrdisc (s : State) : Host.Outcome State Fault Refusal := s.does fun d => d.regWrite pTSTK 0x800 (2 ^ 28)

/-- TSTK_ENERGISE (R425): A keyed write of CMD.ENERGISE starts the start-up check, or is refused. -/
def execTstkEnergise (key : BitVec 16) (s : State) : Host.Outcome State Fault Refusal :=
  s.does fun d => d.regWrite pTSTK 0x800 (2 ^ 31 + key.toNat)

/-- TSTK_DEENERGISE (R426): A write of CMD.DEENERGISE latches a software trip request. -/
def execTstkDeenergise (s : State) : Host.Outcome State Fault Refusal :=
  s.does fun d => d.regWrite pTSTK 0x800 (2 ^ 30)

/-- TSTK_TESTNOW (R429): A write of CMD.TESTNOW starts an OFF-pulse test, or is refused. -/
def execTstkTestnow (s : State) : Host.Outcome State Fault Refusal := s.does fun d => d.regWrite pTSTK 0x800 (2 ^ 29)

/-- TSTK_TRIP_REQUEST (R426): An enabled trip request from FCOL or OV3 is latched and de-energises the coil. -/
def execTstkTripRequest (cause : Fin 3) (s : State) : Host.Outcome State Fault Refusal :=
  s.does fun d => d.tstkTripRequest (3 + cause.val)

/-- TSTK_STARTUP_STEP (R425): A start-up check step of TSW ends and the next pattern is driven, or the coil energises.
-/
def execTstkStartupStep (hs ls : Bool) (s : State) : Host.Outcome State Fault Refusal :=
  s.does fun d => d.tstkStartup hs ls

/-- TSTK_TEST_DUE (R429): The test interval expires in ENERGISED and an OFF-pulse test starts. -/
def execTstkTestDue (s : State) : Host.Outcome State Fault Refusal := s.does fun d => d.tstkTestDue

/-- TSTK_TEST_STEP (R429): An OFF-pulse test step ends and the next step runs, or the test passes. -/
def execTstkTestStep (hs ls : Bool) (s : State) : Host.Outcome State Fault Refusal :=
  s.does fun d => d.tstkTestStep hs ls

/-- TSTK_READBACK_FAULT (R431): A readback pattern is wrong or not accepted in time; a fault latches and Tailstock
enters FAULT. -/
def execTstkReadbackFault (hs ls : Bool) (s : State) : Host.Outcome State Fault Refusal :=
  s.does fun d => d.tstkReadback hs ls

/-- TSTK_OSC_FAIL (R432): The oscillator cross-check fails; both outputs are forced low and OSC_FAIL is set. -/
def execTstkOscFail (s : State) : Host.Outcome State Fault Refusal := s.does fun d => d.tstkOscFail

/-- TSTK_LOCK_KEY (R433): A TSTK LOCK key write advances or completes the two-step lock, or sets LOCK_ERR. -/
def execTstkLockKey (key : BitVec 16) (s : State) : Host.Outcome State Fault Refusal :=
  s.does fun d => d.regWrite pTSTK 0x02C key.toNat

end Sys2Proof.Machine
end

