-- ==== Sys2Proof/Machine/ExecThermal.lean ====
section
/-! DEFINITION. The meanings of the commands of thermal supervision. -/

namespace Sys2Proof.Machine

/-- THRM_EVAL (R397): Every 1 ms THRM converts sensors, forms T and TG, updates levels, throttle, CRIT and PCEIL. -/
def execThrmEval (raws : List Int) (s : State) : Host.Outcome State Fault Refusal := s.does fun d => d.thrmEval raws

/-- THRM_RESUME (R401): A write of THRM.CMD.RESUME ends the hub's STANDBY requests, or is refused during SHUTDOWN. -/
def execThrmResume (s : State) : Host.Outcome State Fault Refusal := s.does fun d => d.regWrite pTHRM 0x834 (2 ^ 31)

/-- THRM_FLASH_DONE (R404): The flash write completes or its poll times out; EVNEXT advances or EV_FAIL is set. -/
def execThrmFlashDone (ok : Bool) (s : State) : Host.Outcome State Fault Refusal := s.does fun d => d.flashDone ok

end Sys2Proof.Machine
end

