-- ==== Sys2Proof/Machine/ExecTime.lean ====
section
/-! DEFINITION. The meanings of the commands of the time base. -/

namespace Sys2Proof.Machine

/-- RATE_WRITE (R124): A write of TIME.RATE changes the addend from the next tick, or is refused in a follower mode.
-/
def execRateWrite (v : Word) (s : State) : Host.Outcome State Fault Refusal :=
  s.does fun d => d.regWrite pTIME 0x810 v.toNat

/-- TIME_STEP (R127): A write of STEPCTL.GO applies an absolute or relative step of TIME within two ticks, or is
refused. -/
def execTimeStep (abs neg : Bool) (s : State) : Host.Outcome State Fault Refusal :=
  s.does fun d => d.regWrite pTIME 0x82C (2 ^ 31 + 2 * b2n abs + b2n neg)

/-- SLEW_GO (R128): A write of SLEWCTL.GO starts or replaces a slew of TIME, or is refused. -/
def execSlewGo (spd : BitVec 11) (s : State) : Host.Outcome State Fault Refusal :=
  s.does fun d => d.regWrite pTIME 0x818 (2 ^ 31 + spd.toNat)

/-- SLEW_DONE (R128): The remaining slew offset reaches zero; BUSY clears and SLEW_DONE is raised. -/
def execSlewDone (s : State) : Host.Outcome State Fault Refusal := s.does fun d => d.slewDone

/-- TIME_MODE_WRITE (R130): A write of TIME.CFG.MODE changes the discipline from the next tick, cancelling any slew,
or is refused. -/
def execTimeModeWrite (mode : BitVec 2) (s : State) : Host.Outcome State Fault Refusal :=
  s.does fun d => d.regWrite pTIME 0x040 mode.toNat

/-- VALID_SET (R131): A write of VALIDCTL.SET in mode 0b00 sets TIME VALID. -/
def execValidSet (s : State) : Host.Outcome State Fault Refusal := s.does fun d => d.regWrite pTIME 0x830 1

/-- VALID_CLR (R131): A write of VALIDCTL.CLR in mode 0b00 clears TIME VALID. -/
def execValidClr (s : State) : Host.Outcome State Fault Refusal := s.does fun d => d.regWrite pTIME 0x830 2

/-- HOLDOVER_SET (R131): A write of VALIDCTL.HOLD_SET in mode 0b00 sets HOLDOVER. -/
def execHoldoverSet (s : State) : Host.Outcome State Fault Refusal := s.does fun d => d.regWrite pTIME 0x830 4

/-- HOLDOVER_CLR (R131): A write of VALIDCTL.HOLD_CLR in mode 0b00 clears HOLDOVER. -/
def execHoldoverClr (s : State) : Host.Outcome State Fault Refusal := s.does fun d => d.regWrite pTIME 0x830 8

/-- TIME_NOW_READ (R126): A read of TIME.NOWNS returns TIME of the access tick and latches the other words. -/
def execTimeNowRead (s : State) : Host.Outcome State Fault Refusal := s.does fun d => d.regRead pTIME 0x800

/-- TPO_ARM (R136): A write of TPOnCMD.ARM arms a pulse output, or refuses it, and handles a start time already too
close. -/
def execTpoArm (n : Fin 4) (s : State) : Host.Outcome State Fault Refusal :=
  s.does fun d => d.regWrite pTIME (0x840 + 4 * n.val) (2 ^ 31)

/-- TPO_DISARM (R137): A write of TPOnCMD.DISARM disarms the output, letting a pulse in progress complete. -/
def execTpoDisarm (n : Fin 4) (s : State) : Host.Outcome State Fault Refusal :=
  s.does fun d => d.regWrite pTIME (0x840 + 4 * n.val) (2 ^ 30)

/-- TPO_PULSE_START (R136): A pulse's start time is reached; the output's leading edge is placed, or the pulse is
suppressed while not VALID. -/
def execTpoPulseStart (n : Fin 4) (s : State) : Host.Outcome State Fault Refusal :=
  s.does fun d => d.tpoPulseStart n.val

/-- TPO_PULSE_END (R136): WIDTH has elapsed; the trailing edge is placed and a pending Spindle pulse may start. -/
def execTpoPulseEnd (n : Fin 4) (s : State) : Host.Outcome State Fault Refusal := s.does fun d => d.tpoPulseEnd n.val

/-- TCAP_EDGE (R139): A selected edge on TCAPn is timestamped into its FIFO, or missed and counted. -/
def execTcapEdge (n : Fin 2) (rising : Bool) (sub : BitVec 6) (s : State) : Host.Outcome State Fault Refusal :=
  s.does fun d => d.tcapEdge n.val rising sub.toNat

/-- TCAP_CFG_WRITE (R139): A write to TCAPnCFG sets the edge selection and clears MISS. -/
def execTcapCfgWrite (n : Fin 2) (edges : BitVec 2) (s : State) : Host.Outcome State Fault Refusal :=
  s.does fun d => d.regWrite pTIME (0x200 + 4 * n.val) edges.toNat

/-- TIMESTAMP_FIFO_READ (R135): A read of a timestamp FIFO INFO word latches the other words and removes the entry, or
returns VALID = 0 when empty. -/
def execTimestampFifoRead (fifo : TsFifo) (s : State) : Host.Outcome State Fault Refusal :=
  s.does fun d => d.fifoRead fifo

/-- FABRIC_TICK (R123): On each fabric tick on SYNA, TIME adds its addend with any slew term and carries, and θ
advances by Δ. -/
def execFabricTick (s : State) : Host.Outcome State Fault Refusal := s.does fun d => d.fabricTick

end Sys2Proof.Machine
end

