-- ==== Sys2Proof/Machine/Dispatch.lean ====
section
/-! DEFINITION. The dispatcher: one arm per command. -/

namespace Sys2Proof.Machine

open Sys2Proof

/-- The effect of a command on everything but the queue. -/
def exec (i : Instr) (s : State) : Host.Outcome State Fault Refusal :=
  match i with
  | .railGood r => Sys2Proof.Machine.execRailGood r s
  | .powerOnResetEnd rstN straps a b => Sys2Proof.Machine.execPowerOnResetEnd rstN straps a b s
  | .brownOutReset r => Sys2Proof.Machine.execBrownOutReset r s
  | .pinReset ns => Sys2Proof.Machine.execPinReset ns s
  | .strapLatch straps a b => Sys2Proof.Machine.execStrapLatch straps a b s
  | .softwareSystemReset v => Sys2Proof.Machine.execSoftwareSystemReset v s
  | .debuggerSystemReset => Sys2Proof.Machine.execDebuggerSystemReset s
  | .tapReset => Sys2Proof.Machine.execTapReset s
  | .blockReset page => Sys2Proof.Machine.execBlockReset page s
  | .blockResetEnd page => Sys2Proof.Machine.execBlockResetEnd page s
  | .releaseCpu1 run => Sys2Proof.Machine.execReleaseCpu1 run s
  | .releaseTstk => Sys2Proof.Machine.execReleaseTstk s
  | .cellcmdBypass => Sys2Proof.Machine.execCellcmdBypass s
  | .cellcmdClrcnt => Sys2Proof.Machine.execCellcmdClrcnt s
  | .linkBootLoadDone ecc => Sys2Proof.Machine.execLinkBootLoadDone ecc s
  | .uartBootBlock bytes crc => Sys2Proof.Machine.execUartBootBlock bytes crc s
  | .refclkQualified => Sys2Proof.Machine.execRefclkQualified s
  | .bandcalGo n gate code => Sys2Proof.Machine.execBandcalGo n gate code s
  | .bandcalDone n count => Sys2Proof.Machine.execBandcalDone n count s
  | .relockGo n => Sys2Proof.Machine.execRelockGo n s
  | .freqOk n => Sys2Proof.Machine.execFreqOk n s
  | .fineLock n => Sys2Proof.Machine.execFineLock n s
  | .lossOfLock n => Sys2Proof.Machine.execLossOfLock n s
  | .lossOfReference src => Sys2Proof.Machine.execLossOfReference src s
  | .linkClockQualified p => Sys2Proof.Machine.execLinkClockQualified p s
  | .byprefLost => Sys2Proof.Machine.execByprefLost s
  | .gobyp => Sys2Proof.Machine.execGobyp s
  | .gosyn => Sys2Proof.Machine.execGosyn s
  | .autoretReturn => Sys2Proof.Machine.execAutoretReturn s
  | .synCfgWrite n v => Sys2Proof.Machine.execSynCfgWrite n v s
  | .oscCheck bad => Sys2Proof.Machine.execOscCheck bad s
  | .fabricClockStop => Sys2Proof.Machine.execFabricClockStop s
  | .subWordWrite who addr size v => Sys2Proof.Machine.execSubWordWrite who addr size v s
  | .misalignedAccess who addr size write => Sys2Proof.Machine.execMisalignedAccess who addr size write s
  | .unmappedAccess who addr size write => Sys2Proof.Machine.execUnmappedAccess who addr size write s
  | .wideReadLatch who addr size => Sys2Proof.Machine.execWideReadLatch who addr size s
  | .registerWrite who addr size v => Sys2Proof.Machine.execRegisterWrite who addr size v s
  | .lcWrite n off v => Sys2Proof.Machine.execLcWrite n off v s
  | .feataccWrite who page v => Sys2Proof.Machine.execFeataccWrite who page v s
  | .lockKeyWrite who page key => Sys2Proof.Machine.execLockKeyWrite who page key s
  | .unlockKeyTimeout page => Sys2Proof.Machine.execUnlockKeyTimeout page s
  | .errinjWrite who page v => Sys2Proof.Machine.execErrinjWrite who page v s
  | .winbaseWrite v => Sys2Proof.Machine.execWinbaseWrite v s
  | .ddrWindowAccess who addr size write ecc => Sys2Proof.Machine.execDdrWindowAccess who addr size write ecc s
  | .rateWrite v => Sys2Proof.Machine.execRateWrite v s
  | .timeStep abs neg => Sys2Proof.Machine.execTimeStep abs neg s
  | .slewGo spd => Sys2Proof.Machine.execSlewGo spd s
  | .slewDone => Sys2Proof.Machine.execSlewDone s
  | .timeModeWrite mode => Sys2Proof.Machine.execTimeModeWrite mode s
  | .validSet => Sys2Proof.Machine.execValidSet s
  | .validClr => Sys2Proof.Machine.execValidClr s
  | .holdoverSet => Sys2Proof.Machine.execHoldoverSet s
  | .holdoverClr => Sys2Proof.Machine.execHoldoverClr s
  | .timeNowRead => Sys2Proof.Machine.execTimeNowRead s
  | .tpoArm n => Sys2Proof.Machine.execTpoArm n s
  | .tpoDisarm n => Sys2Proof.Machine.execTpoDisarm n s
  | .tpoPulseStart n => Sys2Proof.Machine.execTpoPulseStart n s
  | .tpoPulseEnd n => Sys2Proof.Machine.execTpoPulseEnd n s
  | .tcapEdge n rising sub => Sys2Proof.Machine.execTcapEdge n rising sub s
  | .tcapCfgWrite n edges => Sys2Proof.Machine.execTcapCfgWrite n edges s
  | .timestampFifoRead fifo => Sys2Proof.Machine.execTimestampFifoRead fifo s
  | .ethFrameRx n bytes fcsOk back => Sys2Proof.Machine.execEthFrameRx n bytes fcsOk back s
  | .ethFrameTx n => Sys2Proof.Machine.execEthFrameTx n s
  | .ethRingEnable n rx v => Sys2Proof.Machine.execEthRingEnable n rx v s
  | .ethTailWrite n rx tail => Sys2Proof.Machine.execEthTailWrite n rx tail s
  | .mdioGo read phy reg data => Sys2Proof.Machine.execMdioGo read phy reg data s
  | .mdioDone data => Sys2Proof.Machine.execMdioDone data s
  | .pcsModeWrite n v => Sys2Proof.Machine.execPcsModeWrite n v s
  | .tsstatClrovf n => Sys2Proof.Machine.execTsstatClrovf n s
  | .trackerSampleSet => Sys2Proof.Machine.execTrackerSampleSet s
  | .freewheelEnd => Sys2Proof.Machine.execFreewheelEnd s
  | .thofsWrite v => Sys2Proof.Machine.execThofsWrite v s
  | .spindleEnableWrite en fnom60 => Sys2Proof.Machine.execSpindleEnableWrite en fnom60 s
  | .angleEventFire n => Sys2Proof.Machine.execAngleEventFire n s
  | .angleEventRearm n => Sys2Proof.Machine.execAngleEventRearm n s
  | .timeEventFire n => Sys2Proof.Machine.execTimeEventFire n s
  | .tevctlWrite n v => Sys2Proof.Machine.execTevctlWrite n v s
  | .mergecntClr => Sys2Proof.Machine.execMergecntClr s
  | .portEnableWrite p v => Sys2Proof.Machine.execPortEnableWrite p v s
  | .rxClockLock p => Sys2Proof.Machine.execRxClockLock p s
  | .commaAligned p => Sys2Proof.Machine.execCommaAligned p s
  | .invalidCodeGroup p run part => Sys2Proof.Machine.execInvalidCodeGroup p run part s
  | .rxClockLoss p part => Sys2Proof.Machine.execRxClockLoss p part s
  | .sFrameTimeout p => Sys2Proof.Machine.execSFrameTimeout p s
  | .gustTokenRx p c1 c2 c3 back => Sys2Proof.Machine.execGustTokenRx p c1 c2 c3 back s
  | .gusttxGo p code => Sys2Proof.Machine.execGusttxGo p code s
  | .sFrameRx p f back => Sys2Proof.Machine.execSFrameRx p f back s
  | .servoSuperframeCheck => Sys2Proof.Machine.execServoSuperframeCheck s
  | .cFrameRx p f => Sys2Proof.Machine.execCFrameRx p f s
  | .tFrameRx p f offSlot => Sys2Proof.Machine.execTFrameRx p f offSlot s
  | .bDataFrameRx p f => Sys2Proof.Machine.execBDataFrameRx p f s
  | .creditFrameRx p f => Sys2Proof.Machine.execCreditFrameRx p f s
  | .mRequestRx p f => Sys2Proof.Machine.execMRequestRx p f s
  | .mResponseRx p f => Sys2Proof.Machine.execMResponseRx p f s
  | .mRequestGo p v => Sys2Proof.Machine.execMRequestGo p v s
  | .mTimeout p => Sys2Proof.Machine.execMTimeout p s
  | .mResponseSend p => Sys2Proof.Machine.execMResponseSend p s
  | .sSlot p wait => Sys2Proof.Machine.execSSlot p wait s
  | .tSlot p wait => Sys2Proof.Machine.execTSlot p wait s
  | .bulkFrameSend p stream => Sys2Proof.Machine.execBulkFrameSend p stream s
  | .creditFrameSend p e => Sys2Proof.Machine.execCreditFrameSend p e s
  | .forwardFifoSend p => Sys2Proof.Machine.execForwardFifoSend p s
  | .bstrWrite p e hi v => Sys2Proof.Machine.execBstrWrite p e hi v s
  | .linkCntclr p => Sys2Proof.Machine.execLinkCntclr p s
  | .enumPass p answers => Sys2Proof.Machine.execEnumPass p answers s
  | .enumRepass p answers => Sys2Proof.Machine.execEnumRepass p answers s
  | .mapWrite e v => Sys2Proof.Machine.execMapWrite e v s
  | .enumfifoRead => Sys2Proof.Machine.execEnumfifoRead s
  | .strandSuperframeEval hops => Sys2Proof.Machine.execStrandSuperframeEval hops s
  | .slotPlan strand => Sys2Proof.Machine.execSlotPlan strand s
  | .tsfWrite v => Sys2Proof.Machine.execTsfWrite v s
  | .gridRunWrite run => Sys2Proof.Machine.execGridRunWrite run s
  | .vaneGridGo => Sys2Proof.Machine.execVaneGridGo s
  | .hubCommit => Sys2Proof.Machine.execHubCommit s
  | .commitApply => Sys2Proof.Machine.execCommitApply s
  | .loopInstant => Sys2Proof.Machine.execLoopInstant s
  | .telemetryDeadline => Sys2Proof.Machine.execTelemetryDeadline s
  | .commandRelease => Sys2Proof.Machine.execCommandRelease s
  | .peerRecordSend => Sys2Proof.Machine.execPeerRecordSend s
  | .peerRecordRx port bytes => Sys2Proof.Machine.execPeerRecordRx port bytes s
  | .peerRecordMiss port => Sys2Proof.Machine.execPeerRecordMiss port s
  | .hubClaim => Sys2Proof.Machine.execHubClaim s
  | .hubctlForce => Sys2Proof.Machine.execHubctlForce s
  | .hubctlStepdn => Sys2Proof.Machine.execHubctlStepdn s
  | .recoverGo n => Sys2Proof.Machine.execRecoverGo n s
  | .vaneCntclr => Sys2Proof.Machine.execVaneCntclr s
  | .isobarStart => Sys2Proof.Machine.execIsobarStart s
  | .isobarLoopLate => Sys2Proof.Machine.execIsobarLoopLate s
  | .isobarRunEnd => Sys2Proof.Machine.execIsobarRunEnd s
  | .isobarEnableWrite v => Sys2Proof.Machine.execIsobarEnableWrite v s
  | .exclSet n => Sys2Proof.Machine.execExclSet n s
  | .exclClr n => Sys2Proof.Machine.execExclClr n s
  | .loadall => Sys2Proof.Machine.execLoadall s
  | .pwmApex m => Sys2Proof.Machine.execPwmApex m s
  | .pwmEdge m => Sys2Proof.Machine.execPwmEdge m s
  | .cotCftTimer m which => Sys2Proof.Machine.execCotCftTimer m which s
  | .pwmEvent m isEnd elapsed => Sys2Proof.Machine.execPwmEvent m isEnd elapsed s
  | .pwmEnableWrite m en => Sys2Proof.Machine.execPwmEnableWrite m en s
  | .dlRecal line ps => Sys2Proof.Machine.execDlRecal line ps s
  | .debugHalt pair => Sys2Proof.Machine.execDebugHalt pair s
  | .holdoffEnd cause => Sys2Proof.Machine.execHoldoffEnd cause s
  | .holdcntClr => Sys2Proof.Machine.execHoldcntClr s
  | .gateRequestRise n => Sys2Proof.Machine.execGateRequestRise n s
  | .gateRequestFall n => Sys2Proof.Machine.execGateRequestFall n s
  | .gatePhaseEnd n => Sys2Proof.Machine.execGatePhaseEnd n s
  | .gateFbChange n off ns => Sys2Proof.Machine.execGateFbChange n off ns s
  | .gateFbTimeout n => Sys2Proof.Machine.execGateFbTimeout n s
  | .interlockTimeout n => Sys2Proof.Machine.execInterlockTimeout n s
  | .legTrip q => Sys2Proof.Machine.execLegTrip q s
  | .softEnd n => Sys2Proof.Machine.execSoftEnd n s
  | .gdenLow ns => Sys2Proof.Machine.execGdenLow ns s
  | .gdenRise ns => Sys2Proof.Machine.execGdenRise ns s
  | .gateEnableSettle => Sys2Proof.Machine.execGateEnableSettle s
  | .chcfgWrite n v => Sys2Proof.Machine.execChcfgWrite n v s
  | .gchCntclr => Sys2Proof.Machine.execGchCntclr s
  | .chopperOv1 => Sys2Proof.Machine.execChopperOv1 s
  | .chopperCheck k => Sys2Proof.Machine.execChopperCheck k s
  | .chopperOv3 => Sys2Proof.Machine.execChopperOv3 s
  | .chopperRelease => Sys2Proof.Machine.execChopperRelease s
  | .squallResultChange q v => Sys2Proof.Machine.execSquallResultChange q v s
  | .squallResolved q v => Sys2Proof.Machine.execSquallResolved q v s
  | .sqcfgWrite q v => Sys2Proof.Machine.execSqcfgWrite q v s
  | .sqthrWrite q v => Sys2Proof.Machine.execSqthrWrite q v s
  | .blankWindowEnd q => Sys2Proof.Machine.execBlankWindowEnd q s
  | .squallLatchRelease mask => Sys2Proof.Machine.execSquallLatchRelease mask s
  | .sqtripWrite q v => Sys2Proof.Machine.execSqtripWrite q v s
  | .squallCalUpdate => Sys2Proof.Machine.execSquallCalUpdate s
  | .sqcntClr q => Sys2Proof.Machine.execSqcntClr q s
  | .adcRefenWrite c en => Sys2Proof.Machine.execAdcRefenWrite c en s
  | .adcRefReady c => Sys2Proof.Machine.execAdcRefReady c s
  | .adcRefFault c => Sys2Proof.Machine.execAdcRefFault c s
  | .adcEnableWrite c en => Sys2Proof.Machine.execAdcEnableWrite c en s
  | .adcReady c => Sys2Proof.Machine.execAdcReady c s
  | .adcSlotWrite c k v => Sys2Proof.Machine.execAdcSlotWrite c k v s
  | .adcSwtrig c slot => Sys2Proof.Machine.execAdcSwtrig c slot s
  | .adcPendingStart c => Sys2Proof.Machine.execAdcPendingStart c s
  | .adcWindowStart c => Sys2Proof.Machine.execAdcWindowStart c s
  | .adcSlotResult c codes => Sys2Proof.Machine.execAdcSlotResult c codes s
  | .adcOpenWireSample c code => Sys2Proof.Machine.execAdcOpenWireSample c code s
  | .adcUrgent c v => Sys2Proof.Machine.execAdcUrgent c v s
  | .adcUrgentResult c codes => Sys2Proof.Machine.execAdcUrgentResult c codes s
  | .adcRingcfgWrite c v => Sys2Proof.Machine.execAdcRingcfgWrite c v s
  | .adcRingrdWrite c v => Sys2Proof.Machine.execAdcRingrdWrite c v s
  | .adcCntclr c => Sys2Proof.Machine.execAdcCntclr c s
  | .latheTrigger n => Sys2Proof.Machine.execLatheTrigger n s
  | .latheChainEnd n => Sys2Proof.Machine.execLatheChainEnd n s
  | .latheClose n => Sys2Proof.Machine.execLatheClose n s
  | .latheOpen n => Sys2Proof.Machine.execLatheOpen n s
  | .latheCmdTrig n => Sys2Proof.Machine.execLatheCmdTrig n s
  | .latheCntclr n => Sys2Proof.Machine.execLatheCntclr n s
  | .faultEvent src => Sys2Proof.Machine.execFaultEvent src s
  | .fcolAck gust n => Sys2Proof.Machine.execFcolAck gust n s
  | .conseqWindowEnd src => Sys2Proof.Machine.execConseqWindowEnd src s
  | .faultNRelease => Sys2Proof.Machine.execFaultNRelease s
  | .aliveToggle => Sys2Proof.Machine.execAliveToggle s
  | .aliveKick => Sys2Proof.Machine.execAliveKick s
  | .kickMiss => Sys2Proof.Machine.execKickMiss s
  | .alivecfgWrite v => Sys2Proof.Machine.execAlivecfgWrite v s
  | .rctWrite n v => Sys2Proof.Machine.execRctWrite n v s
  | .grctWrite n v => Sys2Proof.Machine.execGrctWrite n v s
  | .fcolCntclr => Sys2Proof.Machine.execFcolCntclr s
  | .thrmEval raws => Sys2Proof.Machine.execThrmEval raws s
  | .thrmResume => Sys2Proof.Machine.execThrmResume s
  | .thrmFlashDone ok => Sys2Proof.Machine.execThrmFlashDone ok s
  | .motrStart reverse => Sys2Proof.Machine.execMotrStart reverse s
  | .motrStop => Sys2Proof.Machine.execMotrStop s
  | .motrWatchEnd => Sys2Proof.Machine.execMotrWatchEnd s
  | .motrBrakeEnd => Sys2Proof.Machine.execMotrBrakeEnd s
  | .motrAlignEnd => Sys2Proof.Machine.execMotrAlignEnd s
  | .motrCommutate us => Sys2Proof.Machine.execMotrCommutate us s
  | .motrZeroCrossing ph us inStep => Sys2Proof.Machine.execMotrZeroCrossing ph us inStep s
  | .motrCrossingTimeout => Sys2Proof.Machine.execMotrCrossingTimeout s
  | .motrStall => Sys2Proof.Machine.execMotrStall s
  | .motrEnableWrite en => Sys2Proof.Machine.execMotrEnableWrite en s
  | .tstkInputChange ch lvl => Sys2Proof.Machine.execTstkInputChange ch lvl s
  | .tstkDiscrepancy j => Sys2Proof.Machine.execTstkDiscrepancy j s
  | .tstkClrdisc => Sys2Proof.Machine.execTstkClrdisc s
  | .tstkEnergise key => Sys2Proof.Machine.execTstkEnergise key s
  | .tstkDeenergise => Sys2Proof.Machine.execTstkDeenergise s
  | .tstkTestnow => Sys2Proof.Machine.execTstkTestnow s
  | .tstkTripRequest cause => Sys2Proof.Machine.execTstkTripRequest cause s
  | .tstkStartupStep hs ls => Sys2Proof.Machine.execTstkStartupStep hs ls s
  | .tstkTestDue => Sys2Proof.Machine.execTstkTestDue s
  | .tstkTestStep hs ls => Sys2Proof.Machine.execTstkTestStep hs ls s
  | .tstkReadbackFault hs ls => Sys2Proof.Machine.execTstkReadbackFault hs ls s
  | .tstkOscFail => Sys2Proof.Machine.execTstkOscFail s
  | .tstkLockKey key => Sys2Proof.Machine.execTstkLockKey key s
  | .wfi pair => Sys2Proof.Machine.execWfi pair s
  | .stopWake cause => Sys2Proof.Machine.execStopWake cause s
  | .lockstepError pair => Sys2Proof.Machine.execLockstepError pair s
  | .memoryEccError at_ double => Sys2Proof.Machine.execMemoryEccError at_ double s
  | .intcClaim pair => Sys2Proof.Machine.execIntcClaim pair s
  | .intcComplete pair src => Sys2Proof.Machine.execIntcComplete pair src s
  | .dmaGo c v => Sys2Proof.Machine.execDmaGo c v s
  | .dmaStop c => Sys2Proof.Machine.execDmaStop c s
  | .dmaDescriptorDone c => Sys2Proof.Machine.execDmaDescriptorDone c s
  | .dmaError c => Sys2Proof.Machine.execDmaError c s
  | .ddrInitGo => Sys2Proof.Machine.execDdrInitGo s
  | .ddrInitDone ok => Sys2Proof.Machine.execDdrInitDone ok s
  | .ddrPatrolScrub addr ecc => Sys2Proof.Machine.execDdrPatrolScrub addr ecc s
  | .anmgDescriptorEnable n v => Sys2Proof.Machine.execAnmgDescriptorEnable n v s
  | .anmgTrigger soft => Sys2Proof.Machine.execAnmgTrigger soft s
  | .anmgMark ev => Sys2Proof.Machine.execAnmgMark ev s
  | .anmgBlockClose n => Sys2Proof.Machine.execAnmgBlockClose n s
  | .anmgRecordDrop n => Sys2Proof.Machine.execAnmgRecordDrop n s
  | .tapChallenge => Sys2Proof.Machine.execTapChallenge s
  | .tapResponse scan sig => Sys2Proof.Machine.execTapResponse scan sig s
  | .qspiGo v => Sys2Proof.Machine.execQspiGo v s
  | .qspiDone bytes => Sys2Proof.Machine.execQspiDone bytes s
  | .uartDataWrite n b => Sys2Proof.Machine.execUartDataWrite n b s
  | .uartDataRead n => Sys2Proof.Machine.execUartDataRead n s
  | .uartByteRx n b frameErr parityErr => Sys2Proof.Machine.execUartByteRx n b frameErr parityErr s
  | .i2cGo v => Sys2Proof.Machine.execI2cGo v s
  | .i2cDone nack moved bytes => Sys2Proof.Machine.execI2cDone nack moved bytes s
  | .i2cBusStuck => Sys2Proof.Machine.execI2cBusStuck s
  | .spiGo len => Sys2Proof.Machine.execSpiGo len s
  | .spiDone bytes => Sys2Proof.Machine.execSpiDone bytes s
  | .gpioSet mask => Sys2Proof.Machine.execGpioSet mask s
  | .gpioClr mask => Sys2Proof.Machine.execGpioClr mask s
  | .gpioEdge n rising => Sys2Proof.Machine.execGpioEdge n rising s
  | .calsWrite key => Sys2Proof.Machine.execCalsWrite key s
  | .calsWriteDone same => Sys2Proof.Machine.execCalsWriteDone same s
  | .calsReload mask => Sys2Proof.Machine.execCalsReload mask s
  | .calsApt1 => Sys2Proof.Machine.execCalsApt1 s
  | .calsApt2 => Sys2Proof.Machine.execCalsApt2 s
  | .calsPointDone codes => Sys2Proof.Machine.execCalsPointDone codes s
  | .calsAcomp => Sys2Proof.Machine.execCalsAcomp s
  | .calsSqmeas => Sys2Proof.Machine.execCalsSqmeas s
  | .calsSqmeasDone lvl => Sys2Proof.Machine.execCalsSqmeasDone lvl s
  | .calsTsmeas => Sys2Proof.Machine.execCalsTsmeas s
  | .calsTsmeasDone sum => Sys2Proof.Machine.execCalsTsmeasDone sum s
  | .fabricTick => Sys2Proof.Machine.execFabricTick s
  | .cutThroughFrame p f => Sys2Proof.Machine.execCutThroughFrame p f s
  | .ethLinkChange n up speed => Sys2Proof.Machine.execEthLinkChange n up speed s
  | .parAlert => Sys2Proof.Machine.execParAlert s
  | .uartTxEmpty n => Sys2Proof.Machine.execUartTxEmpty n s
  | .settlingTimeEnd q => Sys2Proof.Machine.execSettlingTimeEnd q s
  | .tuneMargin n => Sys2Proof.Machine.execTuneMargin n s
  | .referenceRestored src => Sys2Proof.Machine.execReferenceRestored src s
  | .vddqOkChange ok => Sys2Proof.Machine.execVddqOkChange ok s

end Sys2Proof.Machine
end

