-- ==== Sys2Proof/Safety.lean ====
section
/-! DEFINITION. The terms in which claims are stated: a device that runs, a page that takes a write, what a command leaves
alone, and the invariant that every step keeps. -/

namespace Sys2Proof.Machine

/-- A field lies in its page: an offset below 4,096 and a bit below 32. -/
abbrev Fld.ok (F : Fld) : Prop := F.off < 4096 ∧ F.lsb < 32

/-- The straps are latched and the device is in operation (R60). -/
abbrev Dev.Running (d : Dev) : Prop := d.phase = .running

/-- Software can reach registers: the device runs and no pair has stopped it (R439). -/
abbrev Dev.Awake (d : Dev) : Prop := d.phase = .running ∧ d.soc.stop = false

/-- A page takes a write of any field: software runs, the block is there, is in no block reset, is released, and the page
is not locked (R8, R62, R107, R420). -/
abbrev Dev.Writable (d : Dev) (pg : Nat) : Prop := d.Awake ∧ d.deaf pg = false ∧ d.locked pg = false

/-- A block raises errors and interrupts: it is present and in no block reset (R371, R382). -/
abbrev Dev.Live (d : Dev) (pg : Nat) : Prop := d.phase = .running ∧ d.absent pg = false ∧ d.inBlk.contains pg = false

/-- Software has not written the register in the present tick, so that the hardware's value of it is kept (R101). -/
abbrev Dev.Unwritten (d : Dev) (pg : Nat) (F : Fld) : Prop := d.meets.soft.contains (pg, F.off) = false

/-- The registers of every page but those listed read as before, shadows and values in force. -/
def Dev.KeepsRegs (d d' : Dev) (pgs : List Nat) : Prop :=
  ∀ pg (F : Fld), F.ok → pg ∉ pgs → d'.get pg F = d.get pg F ∧ d'.inForce pg F = d.inForce pg F

/-- Every register field but those listed (page, offset, lowest bit) reads as before, shadows and values in force. -/
def Dev.KeepsBut (d d' : Dev) (dst : List (Nat × Nat × Nat)) : Prop :=
  ∀ pg (F : Fld), F.ok → (pg, F.off, F.lsb) ∉ dst → d'.get pg F = d.get pg F ∧ d'.inForce pg F = d.inForce pg F

/-- A device that keeps all of `d` but the registers and what every register access and every error touches besides: the
answer of the bus, a waiting unlock key, latched words, and errors on their way to the fault collector. -/
def Dev.books (d d' : Dev) : Dev :=
  { d with regs := d'.regs, act := d'.act, reply := d'.reply, unlock := d'.unlock, latched := d'.latched,
           reports := d'.reports, told := d'.told, meets := d'.meets, cellBad := d'.cellBad }

/-- The pages of the PWM units. -/
def pwmPages : List Nat := (List.range 7).map pPWMU

/-- The pages of the Lathe engines. -/
def lathePages : List Nat := (List.range 8).map pLE

/-- The pages of the link and peer ports. -/
def linkPages : List Nat := (List.range 10).map pLINK

/-- The pages that a load of the PWM units reaches: the units, the gates, Squall and the converters. -/
def powerPages : List Nat := [pGCH, pSQL, pADC 0, pADC 1] ++ pwmPages

/-- The pages that a trip of a leg reaches, and the bypass of a cell that follows (R297 to R301, R414). -/
def tripPages : List Nat := [pSYSC, pGCH, pMOTR, pSQL]

/-- The pages that an action of a Spindle event reaches (R157). -/
def eventPages : List Nat := [pSPDL, pTIME, pANMG] ++ tripPages ++ powerPages ++ lathePages

/-- The pages that a switch of the clocks or the hold-off reaches (R79 to R98, R279). -/
def clockPages : List Nat :=
  [pSYSC, pSYN 0, pSYN 1, pCKSW, pTIME, pSPDL, pPWMC, pGCH, pMOTR, pADC 0, pADC 1, pISOB, pDDRC, pANMG, pETH 0, pETH 1] ++
    pwmPages ++ lathePages

/-- Every byte of every memory reads as before. -/
def State.KeepsMem (s t : State) : Prop := ∀ id a, t.mems.byte id a = s.mems.byte id a

/-- Every byte of the TCMs and of the DRAM reads as before. -/
def State.KeepsButSram (s t : State) : Prop := ∀ id a, id ≠ .sram → t.mems.byte id a = s.mems.byte id a

/-- Every byte of the TCMs and of shared SRAM reads as before. -/
def State.KeepsButDram (s t : State) : Prop := ∀ id a, id ≠ .dram → t.mems.byte id a = s.mems.byte id a

/-- Every byte outside the listed ranges (memory, first address, length) reads as before. -/
def State.KeepsOutside (s t : State) (l : List (MemId × Nat × Nat)) : Prop :=
  ∀ id a, (∀ x ∈ l, x.1 = id → a < x.2.1 ∨ x.2.1 + x.2.2 ≤ a) → t.mems.byte id a = s.mems.byte id a

/-- The DRAM is made undefined, or no byte of any memory changes. -/
abbrev State.DramLost (s t : State) : Prop :=
  s.KeepsMem t ∨ (t.mems.dram = [] ∧ t.mems.dgen = s.mems.dgen + 1 ∧ s.KeepsButDram t)

/-- The block that each Anemograph descriptor writes, and the one after it (R450). -/
def Dev.anBlocks (d : Dev) : List (MemId × Nat × Nat) :=
  d.an.flatMap fun x => [(.dram, x.2.base + x.2.wrblk * 1056, 1056),
    (.dram, x.2.base + (if x.2.nblk ≤ x.2.wrblk + 1 then 0 else x.2.wrblk + 1) * 1056, 1056)]

/-- The blocks of each Anemograph descriptor (R451). -/
def Dev.anRings (d : Dev) : List (MemId × Nat × Nat) :=
  d.an.map fun x => (.dram, x.2.base, max x.2.nblk (x.2.wrblk + 1) * 1056)

/-- The entry at RINGWR of a converter's ring (R342). -/
def Dev.ringSlot (d : Dev) (c : Nat) : List (MemId × Nat × Nat) :=
  let a := d.get (pADC c) ADC.RINGBASE * 64 + d.get (pADC c) ADC.RINGWR
  [a, a + 4].filterMap fun a => (sramAt a 4).map fun o => (.sram, o, 4)

/-- What a frame of `n` octets leaves in the receive ring: its octets in the buffer, and words 1 and 2 of the descriptor at
HEAD (R460). -/
def State.rxBytes (s : State) (p n : Nat) : List (MemId × Nat × Nat) :=
  match Dev.ringDesc s.mems s.toDev p true with
  | some (at_, buf, _) => [(.sram, buf, n), (.sram, at_ + 4, 8)]
  | none => []

/-- What a transmission leaves in the transmit ring: word 2 of the descriptor at HEAD (R460). -/
def State.txBytes (s : State) (p : Nat) : List (MemId × Nat × Nat) :=
  match Dev.ringDesc s.mems s.toDev p false with
  | some (at_, _, _) => [(.sram, at_ + 8, 4)]
  | none => []

/-- Word 6 of the descriptor in progress of a DMA channel (R444). -/
def Dev.word6 (d : Dev) (c : Nat) : List (MemId × Nat × Nat) :=
  match dmaMem (d.dmaCh c).at_ with
  | some (m, a) => [(m, a + 24, 4)]
  | none => []

/-- Where an image goes: its header and its payload, as the header asks (R454, R455). -/
def Dev.imageBytes (d : Dev) (h : List Byte) : List (MemId × Nat × Nat) :=
  match d.imageFits h with
  | some (m, a) => [(m, a - 256, 256 + hdr h 8 4)]
  | none => []

/-- MOTR is suspended exactly while the hold-off is active or GDEN is low (R414), where it is present and enabled. -/
abbrev Dev.MotrSettled (d : Dev) : Prop :=
  d.isCell = false → d.on pMOTR MOTR.CTRL_EN = true → d.motr.susp = (d.holdOff || !d.on pGCH GCH.GDSTAT_GDEN)

/-- What every step keeps: the memories are in their canonical form, and nothing that a command has stored or wiped is left
to be done. -/
abbrev State.Inv (s : State) : Prop := Memory.wf s.mems = true ∧ s.stores = [] ∧ s.soc.wipe = none

/-- The commands of the supplies, RST_N, the straps and the TAP, which act on a device held in reset too (R46, R59). -/
def actsInReset : Instr → Bool
  | .railGood _ => true
  | .powerOnResetEnd _ _ _ _ => true
  | .brownOutReset _ => true
  | .pinReset _ => true
  | .softwareSystemReset _ => true
  | .strapLatch _ _ _ => true
  | .tapReset => true
  | .vddqOkChange _ => true
  | _ => false

/-- A running device between two commands, MOTR settled: what the frames of the commands ask of a state. -/
abbrev State.Ready (s : State) : Prop := s.phase = .running ∧ s.MotrSettled ∧ s.stores = [] ∧ s.soc.wipe = none

/-- A frame that passes every check of a receiver (R179, R181, R183). -/
abbrev frameSound (f : Frame) : Prop :=
  headOk f = true ∧ f.ver = 1 ∧ f.good = true ∧ payOk f = true ∧ lenOk f = true

/-- What a frame sent shows: port, class, type and destination. -/
def Sent.head : Sent → Option (Nat × Nat × Nat × Nat)
  | .frame p f => some (p, f.cls.toNat, f.typ.toNat, f.dst.toNat)
  | _ => none

/-- Between these the threshold of a level of the DAC lies at the input of a Squall channel, in units of half a quarter step:
within 10 mV of the level, and with a valid entry within 1.5 mV of the code (R475, R492). -/
def Dev.sqNear (d : Dev) (q level : Nat) : Int × Int :=
  if (d.calIn (0x30 + q)).isSome then (2 * (level : Int) - 2 * d.sqTarget q - 6, 2 * (level : Int) - 2 * d.sqTarget q + 6)
  else (2 * (level : Int) - 45, 2 * (level : Int) + 45)

/-- The most that the hysteresis of a Squall channel is at the input: HYS steps and 20 % (R492). -/
def Dev.sqHysMax (d : Dev) (q : Nat) : Nat := 96 * d.get pSQL (SQL.SQTHR_HYS q) / 10

/-- The own and S frames that wait for their place on a port's output: tick of the SOF, class and destination. -/
def Port.willSend (x : Port) : List (Nat × Nat × Nat) :=
  x.waits.filterMap fun w => match w.kind with
    | .own f _ => some (w.sof, f.cls.toNat, f.dst.toNat)
    | .slot => some (w.sof, 5, 0xFFFE)
    | _ => none

/-- The heads of the frames sent between two states. -/
def Dev.sentHeads (d d' : Dev) : List (Nat × Nat × Nat × Nat) := (d'.sent.drop d.sent.length).filterMap Sent.head

end Sys2Proof.Machine
end

