-- ==== Sys2Proof/Certificates/Slice0/Obligations.lean ====
section
/-! DEFINITION. The statements for the provers. -/

open Sys2Proof Sys2Proof.Machine

/-- For every command c and state s whose queue has c in front, step of s is exec of c on s with the queue's rest
(the model's queue: log entry 1). -/
def Obligations.StepRunsFrontCommand : Prop :=
  ∀ (c : Instr) (q : List Instr) (s : State), step { s with pending := c :: q } = exec c { s with pending := q }

/-- On an empty queue a step answers the same state: every passage of time is itself a command, FABRIC_TICK. This
is the model's choice (log entry 2). -/
def Obligations.EmptyQueueIdles : Prop :=
  ∀ s : State, s.pending = [] → step s = .next s

/-- For every command and every state, exec answers a next state (no command faults and none is refused), and the
queue of waiting commands is as before. That every command completes is the model's reading: a command whose
condition does not hold has no effect (log entry 3). -/
def Obligations.EveryCommandAnswersNext : Prop :=
  ∀ (c : Instr) (s : State), ∃ t, Sys2Proof.Machine.exec c s = .next t ∧ t.pending = s.pending

/-- For every state s that satisfies Inv (the four memories list strictly rising addresses, nothing that a command
stored is left to be put into a memory, and no memory is left to be made undefined), a step from s answers only
states that satisfy Inv, whatever command stands in front. Inv is the model's own canonical form of its
memories (log entry 4). -/
def Obligations.StepKeepsInv : Prop :=
  ∀ s t : State, s.Inv → step s = .next t → t.Inv

/-- State.reset satisfies Inv: its memories list nothing, nothing is left to be stored or made undefined. -/
def Obligations.ResetMeetsInv : Prop :=
  State.reset.Inv

/-- In State.reset: TIME is 0 and neither valid nor in holdover; the gate hold-off is asserted for the clock
switch, SYNA is enabled and not locked, the fabric is on the internal oscillator; the cell is in OFF; Tailstock
and CPU pair 1 are held; every GPIO pin is an input; INJCFG.ACT is 0x003; TCRIT is 145 °C; the UART divider is
0x87A and SPI's 0x32; no frame has been sent (the boot ROM has read the flash, log entry 10); the two TCMs, the
shared SRAM and the DRAM are unwritten; the command queue is empty. The strap levels of this state (all low, so
cell role) are the model's (log entry 5). -/
def Obligations.ResetLeaves : Prop :=
  State.reset.time = 0 ∧ State.reset.get pTIME TIME.STAT_VALID = 0 ∧ State.reset.get pTIME TIME.STAT_HOLDOVER = 0 ∧
    State.reset.get pCKSW CKSW.CKSTAT_SRC = 2 ∧ State.reset.holdOff = true ∧ State.reset.get pPWMC
    PWMC.HOLDSTAT_CKSW = 1 ∧ State.reset.get pSYNA SYN.CFG_EN = 1 ∧ State.reset.get pSYNA SYN.LOCKSTAT_FINE_LOCK =
    0 ∧ State.reset.get pSYSC SYSC.CELLSTATE_STATE = 0 ∧ State.reset.get pSYSC SYSC.RELEASE_CPU1 = 0 ∧
    State.reset.get pSYSC SYSC.RELEASE_TSTK = 0 ∧ State.reset.get pGPIO GPIO.DIR = 0 ∧ State.reset.get pFCOL
    FCOL.INJCFG_ACT = 3 ∧ State.reset.get pTHRM THRM.TCRIT = 145 * 16 ∧ State.reset.get (pUART 0) UART.CFG_DIV =
    0x87A ∧ State.reset.get pSPI SPI.CFG_DIV = 0x32 ∧ State.reset.sent.filterMap Sent.head = [] ∧
    State.reset.mems.tcm0 = [] ∧ State.reset.mems.tcm1 = [] ∧ State.reset.mems.sram = [] ∧ State.reset.mems.dram =
    [] ∧ State.reset.pending = []

/-- On a device whose straps are not latched (phase not running), every command but RAIL_GOOD, POWER_ON_RESET_END,
BROWN_OUT_RESET, PIN_RESET, SOFTWARE_SYSTEM_RESET, STRAP_LATCH, TAP_RESET and VDDQ_OK_CHANGE leaves the whole
state as it was: a device held in reset sends nothing, forwards nothing, keeps no state. SOFTWARE_SYSTEM_RESET
does so too, except that a write with its key that coincides with a debugger's reset is recorded as a cause
(log entry 9). -/
def Obligations.HeldDeviceIgnoresCommands : Prop :=
  (∀ (c : Instr) (s : State), s.phase ≠ .running ∧ s.stores = [] ∧ s.soc.wipe = none ∧ actsInReset c = false →
    Sys2Proof.Machine.exec c s = .next s) ∧ (∀ (v : Word) (s : State), s.phase ≠ .running ∧ s.stores = [] ∧
    s.soc.wipe = none ∧ (s.phase ≠ .held ∨ s.causes.contains SYSC.RSTCAUSE_DBG.lsb = false ∨ swKey v.toNat = false)
    → Sys2Proof.Machine.exec (.softwareSystemReset v) s = .next s)

/-- From every running state, every command but the seven of the supplies, RST_N, straps and TAP (so
SOFTWARE_SYSTEM_RESET among them) answers a state in which, in hub role with MOTR.CTRL.EN = 1, the motor block
is suspended exactly when the gate hold-off is asserted or GDSTAT.GDEN is 0. -/
def Obligations.MotorFollowsHoldOff : Prop :=
  ∀ (c : Instr) (s t : State), s.phase = .running ∧ (actsInReset c = false ∨ ∃ v, c = .softwareSystemReset v) →
    Sys2Proof.Machine.exec c s = .next t → t.MotrSettled

/-- For every state with nothing left to store: PIN_RESET of less than 100 ns leaves the whole state as it was. Of
1,000 ns or more, on a device in operation or held in reset, it puts the device into reset with every output
high-impedance, TIME 0 and the memories undefined. Of 100 ns up to 1,000 ns, what it answers is either exactly
what a pulse of 1,000 ns answers or the state unchanged, but for the count of free values taken: it never
resets part of the device. That memories left undefined are a new generation of free bytes is log entry 4, and
that a pulse between does one or the other as a free choice log entry 9.

exec answers a next state, under hypotheses on the state and the operands alone, for: pinReset. -/
def Obligations.PinResetPulses : Prop :=
  (∀ (s : State) (ns : Nat), s.stores = [] ∧ s.soc.wipe = none ∧ ns < 100 → ∃ t, Sys2Proof.Machine.exec (.pinReset
    ns) s = .next t ∧ (t = s)) ∧ (∀ (s : State) (ns : Nat), (s.phase = .running ∨ s.phase = .held) ∧ 1000 ≤ ns → ∃
    t, Sys2Proof.Machine.exec (.pinReset ns) s = .next t ∧ (t.phase = .held ∧ t.pins = Pins.off ∧ t.time = 0 ∧
    t.mems.gen = s.mems.gen + 1 ∧ t.get pSYSC SYSC.RSTCAUSE_PIN = 1)) ∧ (∀ (s : State) (ns : Nat), s.stores = [] ∧
    s.soc.wipe = none ∧ (s.phase = .running ∨ s.phase = .held) ∧ 100 ≤ ns ∧ ns < 1000 → ∃ t, Sys2Proof.Machine.exec
    (.pinReset ns) s = .next t ∧ (t = { s with fresh := s.fresh + 1 } ∨ exec (.pinReset 1000)
    { s with fresh := s.fresh + 1 } = .next t))

/-- For every initiator on the bus and every defined page whose block is absent in the strapped role: a word read
at offset 0x000 answers PAGEID and at 0x004 PAGEREV as for any page, at every other offset zero, and changes no
register; a word write at any offset changes no register and no memory byte, sends nothing, and reports no
error.

exec answers a next state, under hypotheses on the state and the operands alone, for: wideReadLatch,
registerWrite. -/
def Obligations.AbsentPagesReadZeroAndIgnoreWrites : Prop :=
  (∀ (s : State) (who : Who) (addr : BitVec 32) (pg off : Nat), s.Ready ∧ s.onBus who = true ∧ addr.toNat =
    0x40000000 + pg * 4096 + off ∧ off < 4096 ∧ off % 4 = 0 ∧ (pageKind pg).isSome = true ∧ s.gone pg = true → 
    ∃ t, Sys2Proof.Machine.exec (.wideReadLatch who addr .word) s = .next t ∧ (t.reply = some (some (if off = 0
    then pageId pg else if off = 4 then pageRev pg else 0)) ∧ s.KeepsBut t.toDev [] ∧ s.KeepsMem t)) ∧
  (∀ (s : State) (who : Who) (addr : BitVec 32) (v : Word) (pg off : Nat), s.Ready ∧ s.onBus who = true ∧
    addr.toNat = 0x40000000 + pg * 4096 + off ∧ off < 4096 ∧ off % 4 = 0 ∧ (pageKind pg).isSome = true ∧ s.gone pg
    = true → 
    ∃ t, Sys2Proof.Machine.exec (.registerWrite who addr .word v) s = .next t ∧ (t.reply = none ∧ s.KeepsBut
    t.toDev [] ∧ s.KeepsMem t ∧ t.reports = s.reports ∧ t.sent = s.sent))

/-- For each pair p of a device that runs and is not in STOP. A source is active for p when it is pending, TGTp
enables it, its PRIO lies above THRESHp (so PRIO 0 never interrupts) and it is not masked for p. Where some
source is active, a read of CLAIMp answers an active source n such that every active source has a lower
priority, or the same and a number not below n; n is then masked for p, so not active. Where none is active, it
answers 0x100 and masks nothing. A write of CLAIMp with a number unmasks that source for p. While
FCOL.IRQFLG.FATAL is set, both pairs are interrupted whatever the enables hold.

exec answers a next state, under hypotheses on the state and the operands alone, for: intcClaim, intcComplete. -/
def Obligations.ClaimReturnsTheHighestSource : Prop :=
  (∀ (s : State) (p : Fin 2) (i : Nat), s.Awake ∧ s.soc.masked.length = 2 ∧ s.irqActive p i = true → ∃ t,
    Sys2Proof.Machine.exec (.intcClaim p) s = .next t ∧ (∃ n, t.reply = some (some n) ∧ n < 104 ∧ s.irqActive p n =
    true ∧ bitAt (t.soc.masked.getD p 0) n = true ∧ t.irqActive p n = false ∧ (∀ m < 104, s.irqActive p m = true →
    s.get pINTC (INTC.SRCCFG_PRIO m) < s.get pINTC (INTC.SRCCFG_PRIO n) ∨ (s.get pINTC (INTC.SRCCFG_PRIO m) = s.get
    pINTC (INTC.SRCCFG_PRIO n) ∧ n ≤ m)))) ∧ (∀ (s : State) (p : Fin 2), s.Awake ∧ (∀ m < 104, s.irqActive p m =
    false) → ∃ t, Sys2Proof.Machine.exec (.intcClaim p) s = .next t ∧ (t.reply = some (some 0x100) ∧ t.soc.masked =
    s.soc.masked)) ∧ (∀ (s : State) (p : Fin 2) (n : BitVec 9), s.Awake ∧ n.toNat < 256 → ∃ t,
    Sys2Proof.Machine.exec (.intcComplete p n) s = .next t ∧ (bitAt (t.soc.masked.getD p 0) n.toNat = false)) ∧ (∀
    (s : State) (p m : Nat), s.irqActive p m = true → s.irqPending m = true ∧ s.irqFor p m = true ∧ s.get pINTC
    (INTC.THRESH p) < s.get pINTC (INTC.SRCCFG_PRIO m) ∧ 0 < s.get pINTC (INTC.SRCCFG_PRIO m) ∧ bitAt
    (s.soc.masked.getD p 0) m = false) ∧ (∀ (s : State) (p : Nat), s.bit pFCOL HDR.IRQFLG FCOL.I_FATAL = true →
    s.wakes p = true)

/-- A power-on or brown-out, pin, software or debugger reset puts TIME to 0 with VALID and HOLDOVER 0, and the
strap latch that ends it keeps them so. A fabric tick on the bypass clock leaves TIME as it was and VALID 0
where it was 0; the switch to the bypass clock clears VALID. A fabric tick on SYNA lets TIME advance where RATE
and the slew leave a tick positive, and does not set VALID; the return to SYNA sets neither TIME nor VALID. In
hub role a loss of lock of SYNB does not change TIME or RATE, and sets HOLDOVER.

exec answers a next state, under hypotheses on the state and the operands alone, for: pinReset, brownOutReset,
softwareSystemReset, debuggerSystemReset, strapLatch, powerOnResetEnd, fabricTick, gobyp, lossOfLock, gosyn. -/
def Obligations.TimeThroughResetsAndClocks : Prop :=
  (∀ (s : State) (ns : Nat), (s.phase = .running ∨ s.phase = .held) ∧ 1000 ≤ ns → 
    ∃ t, Sys2Proof.Machine.exec (.pinReset ns) s = .next t ∧ (t.time = 0 ∧ t.get pTIME TIME.STAT_VALID = 0 ∧ t.get
    pTIME TIME.STAT_HOLDOVER = 0)) ∧
  (∀ (s : State) (r : Fin 6), 
    ∃ t, Sys2Proof.Machine.exec (.brownOutReset r) s = .next t ∧ (t.time = 0 ∧ t.get pTIME TIME.STAT_VALID = 0 ∧
    t.get pTIME TIME.STAT_HOLDOVER = 0)) ∧
  (∀ (s : State) (v : Word), s.Writable pSYSC ∧ v.toNat / 65536 = 0xD1E5 ∧ v.toNat % 2 = 1 → 
    ∃ t, Sys2Proof.Machine.exec (.softwareSystemReset v) s = .next t ∧ (t.time = 0 ∧ t.get pTIME TIME.STAT_VALID =
    0 ∧ t.get pTIME TIME.STAT_HOLDOVER = 0)) ∧
  (∀ (s : State), s.phase = .running ∧ s.soc.unlocked = true → 
    ∃ t, Sys2Proof.Machine.exec (.debuggerSystemReset) s = .next t ∧ (t.time = 0 ∧ t.get pTIME TIME.STAT_VALID = 0
    ∧ t.get pTIME TIME.STAT_HOLDOVER = 0)) ∧
  (∀ (s : State) (straps : BitVec 6) (a b : Source), s.phase = .held ∧ s.time = 0 ∧ s.get pTIME TIME.STAT_VALID = 0
    ∧ s.get pTIME TIME.STAT_HOLDOVER = 0 → 
    ∃ t, Sys2Proof.Machine.exec (.strapLatch straps a b) s = .next t ∧ (t.time = 0 ∧ t.get pTIME TIME.STAT_VALID =
    0 ∧ t.get pTIME TIME.STAT_HOLDOVER = 0)) ∧
  (∀ (s : State) (straps : BitVec 6) (a b : Source), s.phase = .interval ∧ s.time = 0 ∧ s.get pTIME TIME.STAT_VALID
    = 0 ∧ s.get pTIME TIME.STAT_HOLDOVER = 0 → 
    ∃ t, Sys2Proof.Machine.exec (.powerOnResetEnd true straps a b) s = .next t ∧ (t.time = 0 ∧ t.get pTIME
    TIME.STAT_VALID = 0 ∧ t.get pTIME TIME.STAT_HOLDOVER = 0)) ∧
  (∀ (s : State), s.phase = .running ∧ s.onSyna = false → 
    ∃ t, Sys2Proof.Machine.exec (.fabricTick) s = .next t ∧ (t.time = s.time ∧ t.get pTIME TIME.STAT_VALID = s.get
    pTIME TIME.STAT_VALID)) ∧
  (∀ (s : State), s.phase = .running ∧ s.onSyna = true ∧ s.get pTIME TIME.CFG_MODE = s.timeMode → 
    ∃ t, Sys2Proof.Machine.exec (.fabricTick) s = .next t ∧ ((t.time : Int) = ((s.time : Int) + (4 * 2 ^ 40 +
    toSigned (s.get pTIME TIME.RATE) 32 + s.slewTerm + s.corrTerm)) % (wrap40 : Nat) ∧ t.get pTIME TIME.STAT_VALID
    = s.get pTIME TIME.STAT_VALID)) ∧
  (∀ (s : State), s.Writable pCKSW ∧ s.onSyna = true → 
    ∃ t, Sys2Proof.Machine.exec (.gobyp) s = .next t ∧ (t.time = s.time ∧ t.onSyna = false ∧ t.get pTIME
    TIME.STAT_VALID = 0)) ∧
  (∀ (s : State), s.Live pSYNA ∧ s.on pSYNA SYN.LOCKSTAT_GATED = false ∧ s.onSyna = true → 
    ∃ t, Sys2Proof.Machine.exec (.lossOfLock 0) s = .next t ∧ (t.time = s.time ∧ t.onSyna = false ∧ t.get pTIME
    TIME.STAT_VALID = 0)) ∧
  (∀ (s : State), s.Writable pCKSW ∧ s.onSyna = false ∧ s.on pSYNA SYN.LOCKSTAT_FINE_LOCK = true → 
    ∃ t, Sys2Proof.Machine.exec (.gosyn) s = .next t ∧ (t.time = s.time ∧ t.onSyna = true ∧ t.get pTIME
    TIME.STAT_VALID = s.get pTIME TIME.STAT_VALID)) ∧
  (∀ (s : State), s.isCell = false ∧ s.Live pSYNB ∧ s.on pSYNB SYN.LOCKSTAT_GATED = false → 
    ∃ t, Sys2Proof.Machine.exec (.lossOfLock 1) s = .next t ∧ (t.time = s.time ∧ t.get pTIME TIME.STAT_HOLDOVER = 1
    ∧ t.get pTIME TIME.RATE = s.get pTIME TIME.RATE ∧ t.get pTIME TIME.STAT_VALID = s.get pTIME TIME.STAT_VALID ∧
    t.onSyna = s.onSyna))

/-- RAIL_GOOD sets the rail's PWRSTAT bit, starts the reset interval when all six rails are good, and changes no
other register. POWER_ON_RESET_END in the interval with RST_N high latches ROLE, BOOT and REF into SYSC.STRAP
and puts the device into operation; with RST_N low it leaves the device held, no register changed. STRAP_LATCH
on a held device does the same, and sets STRAP.INV exactly for hub role with link boot or REF 3.
BROWN_OUT_RESET from operation or from reset returns to waiting for the rails, every output high-impedance,
RSTCAUSE.BOR and BOR_RAIL recording the rail, its good bit 0. PIN_RESET of 1,000 ns or more holds the device
with RSTCAUSE.PIN = 1, outputs high-impedance, memories undefined (a new generation of free bytes, log entry
4). VDDQ_OK_CHANGE sets the VDDQ_OK bit alone; TAP_RESET loads IDCODE into the instruction register and changes
no register. The end of a reset, the latch of the straps and every system-level reset here keep CALSTORE's
contents, but for an entry being written (R472). That RAIL_GOOD and VDDQ_OK_CHANGE act in any state, and the
operand of POWER_ON_RESET_END being the straps' levels, are the model's readings (log entry 9).

exec answers a next state, under hypotheses on the state and the operands alone, for: railGood,
powerOnResetEnd, strapLatch, brownOutReset, pinReset, vddqOkChange, tapReset. -/
def Obligations.PowerAndPinResetsAct : Prop :=
  (∀ (s : State) (r : Fin 6), 
    ∃ t, Sys2Proof.Machine.exec (.railGood r) s = .next t ∧ (t.bit pSYSC SYSC.PWRSTAT_RAIL_OK r.val = true ∧
    (t.phase = .interval ↔ (s.phase = .interval ∨ s.phase = .rails ∧ t.get pSYSC SYSC.PWRSTAT_RAIL_OK = 0x3F)) ∧
    s.KeepsBut t.toDev [(pSYSC, SYSC.PWRSTAT_RAIL_OK.off, SYSC.PWRSTAT_RAIL_OK.lsb)])) ∧
  (∀ (s : State) (straps : BitVec 6) (a b : Source), s.phase = .interval → 
    ∃ t, Sys2Proof.Machine.exec (.powerOnResetEnd true straps a b) s = .next t ∧ (t.phase = .running ∧ t.rstN =
    true ∧ t.get pSYSC SYSC.STRAP_ROLE = straps.toNat % 4 ∧ t.get pSYSC SYSC.STRAP_BOOT = straps.toNat / 4 % 4 ∧
    t.get pSYSC SYSC.STRAP_REF = straps.toNat / 16 ∧ t.calstore = s.calstore)) ∧
  (∀ (s : State) (straps : BitVec 6) (a b : Source), s.phase = .interval → 
    ∃ t, Sys2Proof.Machine.exec (.powerOnResetEnd false straps a b) s = .next t ∧ (t.phase = .held ∧ t.rstN = false
    ∧ s.KeepsBut t.toDev [])) ∧
  (∀ (s : State) (straps : BitVec 6) (a b : Source), s.phase = .held → 
    ∃ t, Sys2Proof.Machine.exec (.strapLatch straps a b) s = .next t ∧ (t.phase = .running ∧ t.rstN = true ∧ t.get
    pSYSC SYSC.STRAP_ROLE = straps.toNat % 4 ∧ t.get pSYSC SYSC.STRAP_BOOT = straps.toNat / 4 % 4 ∧ t.get pSYSC
    SYSC.STRAP_REF = straps.toNat / 16 ∧ t.get pSYSC SYSC.STRAP_INV = b2n (straps.toNat % 4 != 0 && (straps.toNat /
    4 % 4 == 1 || straps.toNat / 16 == 3)) ∧ t.calstore = s.calstore)) ∧
  (∀ (s : State) (r : Fin 6), s.phase = .running ∨ s.phase = .held → 
    ∃ t, Sys2Proof.Machine.exec (.brownOutReset r) s = .next t ∧ (t.phase = .rails ∧ t.pins = Pins.off ∧ t.get
    pSYSC SYSC.RSTCAUSE_BOR = 1 ∧ t.get pSYSC SYSC.RSTCAUSE_BOR_RAIL = r.val ∧ t.bit pSYSC SYSC.PWRSTAT_RAIL_OK
    r.val = false ∧ (s.calBusy = none → t.calstore = s.calstore))) ∧
  (∀ (s : State) (ns : Nat), (s.phase = .running ∨ s.phase = .held) ∧ 1000 ≤ ns → 
    ∃ t, Sys2Proof.Machine.exec (.pinReset ns) s = .next t ∧ (t.phase = .held ∧ t.rstN = false ∧ t.pins = Pins.off
    ∧ t.get pSYSC SYSC.RSTCAUSE_PIN = 1 ∧ t.mems.gen = s.mems.gen + 1 ∧ (s.calBusy = none → t.calstore =
    s.calstore))) ∧
  (∀ (s : State) (ok : Bool), 
    ∃ t, Sys2Proof.Machine.exec (.vddqOkChange ok) s = .next t ∧ (t.get pSYSC SYSC.PWRSTAT_VDDQ_OK = b2n ok ∧
    t.phase = s.phase ∧ s.KeepsBut t.toDev [(pSYSC, SYSC.PWRSTAT_VDDQ_OK.off, SYSC.PWRSTAT_VDDQ_OK.lsb)])) ∧
  (∀ (s : State), 
    ∃ t, Sys2Proof.Machine.exec (.tapReset) s = .next t ∧ (t.soc.tapIr = 1 ∧ t.phase = s.phase ∧ s.KeepsBut t.toDev
    []))

/-- SWRST with key 0xD1E5 and bit 0 set puts the device into reset: outputs high-impedance, RSTCAUSE.SW = 1 with
PIN kept, memories undefined; with another key or bit 0 clear nothing is reset and KEY_ERR is set. A debugger
reset on an unlocked port does the same with RSTCAUSE.DBG. BLKRST of a present block, not in reset already,
other than SYSC, FCOL, TSTK and TIME puts its page into block reset and opens a consequence window of its
source; of an undefined page or one of those four it only raises BLKRST_DENY. BLOCK_RESET_END (of CALS once no
entry write is in progress) ends it with IRQEN, the lock and feature acceptance cleared. All of these resets
keep CALSTORE's contents, but a system-level reset for an entry being written (R472). RELEASE_CPU1 and
RELEASE_TSTK set their own bit and keep the other (log entry 12). CELLCMD.BYPASS from PRECHARGE, STANDBY or
RUN, with no requested transition in this tick, moves a cell to BYPASS with CAUSE 6; CLRCNT clears the
invalid-transition count but for what counts in that tick (R101). A UART boot block of 1 to 1,024 bytes with
the right CRC is answered 0x06, any other 0x15. LINK_BOOT_LOAD_DONE on a cell booting from the link gives
BOOTSTAT the code of the checks on the image received, and phase 5 exactly for code 0. The single UART string
of blocks and the image's placement are the model's readings (log entry 10).

exec answers a next state, under hypotheses on the state and the operands alone, for: softwareSystemReset,
debuggerSystemReset, blockReset, blockResetEnd, releaseCpu1, releaseTstk, cellcmdBypass, cellcmdClrcnt,
uartBootBlock, linkBootLoadDone. -/
def Obligations.SystemResetsAndReleasesAct : Prop :=
  (∀ (s : State) (v : Word), s.Writable pSYSC ∧ v.toNat / 65536 = 0xD1E5 ∧ v.toNat % 2 = 1 → 
    ∃ t, Sys2Proof.Machine.exec (.softwareSystemReset v) s = .next t ∧ (t.phase = .held ∧ t.pins = Pins.off ∧ t.get
    pSYSC SYSC.RSTCAUSE_SW = 1 ∧ t.get pSYSC SYSC.RSTCAUSE_PIN = s.get pSYSC SYSC.RSTCAUSE_PIN % 2 ∧ t.mems.gen =
    s.mems.gen + 1 ∧ (s.calBusy = none → t.calstore = s.calstore))) ∧
  (∀ (s : State) (v : Word), s.Writable pSYSC ∧ (v.toNat / 65536 ≠ 0xD1E5 ∨ v.toNat % 2 = 0) → 
    ∃ t, Sys2Proof.Machine.exec (.softwareSystemReset v) s = .next t ∧ (t.phase = .running ∧ t.bit pSYSC
    HDR.ERRSTAT SYSC.E_KEY_ERR = true ∧ t.calstore = s.calstore)) ∧
  (∀ (s : State), s.phase = .running ∧ s.soc.unlocked = true → 
    ∃ t, Sys2Proof.Machine.exec (.debuggerSystemReset) s = .next t ∧ (t.phase = .held ∧ t.pins = Pins.off ∧ t.get
    pSYSC SYSC.RSTCAUSE_DBG = 1 ∧ t.mems.gen = s.mems.gen + 1 ∧ (s.calBusy = none → t.calstore = s.calstore))) ∧
  (∀ (s : State) (page : BitVec 16), s.Writable pSYSC ∧ (pageKind page.toNat).isSome = true ∧ page.toNat ≠ pSYSC ∧
    page.toNat ≠ pFCOL ∧ page.toNat ≠ pTSTK ∧ page.toNat ≠ pTIME ∧ s.absent page.toNat = false ∧ s.inBlk.contains
    page.toNat = false → 
    ∃ t, Sys2Proof.Machine.exec (.blockReset page) s = .next t ∧ (t.inBlk.contains page.toNat = true ∧ t.get pFCOL
    FCOL.STAT_WINDOW = 1 ∧ t.fcol.windows.contains (pageSource page.toNat).1 = true ∧ t.calstore = s.calstore)) ∧
  (∀ (s : State) (page : BitVec 16), s.Writable pSYSC ∧ ((pageKind page.toNat).isNone = true ∨ page.toNat = pSYSC ∨
    page.toNat = pFCOL ∨ page.toNat = pTSTK ∨ page.toNat = pTIME) → 
    ∃ t, Sys2Proof.Machine.exec (.blockReset page) s = .next t ∧ (t.inBlk = s.inBlk ∧ t.bit pSYSC HDR.ERRSTAT
    SYSC.E_BLKRST_DENY = true ∧ t.calstore = s.calstore)) ∧
  (∀ (s : State) (page : BitVec 16), s.phase = .running ∧ s.inBlk.contains page.toNat = true ∧ (page.toNat ≠ pCALS
    ∨ s.calBusy = none) → 
    ∃ t, Sys2Proof.Machine.exec (.blockResetEnd page) s = .next t ∧ (t.inBlk.contains page.toNat = false ∧ t.get
    page.toNat HDR.IRQEN = 0 ∧ t.get page.toNat HDR.LOCK_LOCKED = 0 ∧ t.get page.toNat HDR.LOCK_STICKY = 0 ∧ t.get
    page.toNat HDR.FEATACC_DONE = 0 ∧ t.calstore = s.calstore)) ∧
  (∀ (s : State) (run : Bool), s.Writable pSYSC → 
    ∃ t, Sys2Proof.Machine.exec (.releaseCpu1 run) s = .next t ∧ (t.get pSYSC SYSC.RELEASE_CPU1 = b2n run ∧ t.on
    pSYSC SYSC.RELEASE_TSTK = s.on pSYSC SYSC.RELEASE_TSTK)) ∧
  (∀ (s : State), s.Writable pSYSC → 
    ∃ t, Sys2Proof.Machine.exec (.releaseTstk) s = .next t ∧ (t.get pSYSC SYSC.RELEASE_TSTK = 1 ∧ t.get pSYSC
    SYSC.RELEASE_CPU1 = b2n (s.on pSYSC SYSC.RELEASE_CPU1))) ∧
  (∀ (s : State), s.Writable pSYSC ∧ s.isCell = true ∧ s.stateBefore = s.get pSYSC SYSC.CELLSTATE_STATE ∧ (s.get
    pSYSC SYSC.CELLSTATE_STATE = 1 ∨ s.get pSYSC SYSC.CELLSTATE_STATE = 2 ∨ s.get pSYSC SYSC.CELLSTATE_STATE = 3) → 
    ∃ t, Sys2Proof.Machine.exec (.cellcmdBypass) s = .next t ∧ (t.get pSYSC SYSC.CELLSTATE_STATE = 4 ∧ t.get pSYSC
    SYSC.CELLSTATE_CAUSE = 6)) ∧
  (∀ (s : State), s.Writable pSYSC → 
    ∃ t, Sys2Proof.Machine.exec (.cellcmdClrcnt) s = .next t ∧ (t.get pSYSC SYSC.CELLSTATE_INVALID_CNT = s.counted
    pSYSC SYSC.CELLSTATE_INVALID_CNT)) ∧
  (∀ (s : State) (bytes : List Byte) (crc : BitVec 32), s.phase = .running ∧ s.soc.loading = true → 
    ∃ t, Sys2Proof.Machine.exec (.uartBootBlock bytes crc) s = .next t ∧ (t.sent = s.sent ++ [.uart 0 (if
    bytes.length = 0 ∨ 1024 < bytes.length ∨ crc32 bytes ≠ crc.toNat then 0x15 else 0x06)])) ∧
  (∀ (s : State) (ecc : Bool), s.phase = .running ∧ s.linkBoot = true ∧ s.soc.bootDma = true ∧ s.on pDMA
    (DMA.CHSTAT_BUSY 0) = false ∧ s.on pDMA (DMA.CHSTAT_ERR 0) = false → 
    ∃ t, Sys2Proof.Machine.exec (.linkBootLoadDone ecc) s = .next t ∧ (t.soc.bootDma = false ∧ t.get pSYSC
    SYSC.BOOTSTAT_CODE = s.imageCheck (Dev.linkImage s.mems s.toDev).1 (Dev.linkImage s.mems s.toDev).2 ecc ∧
    (t.get pSYSC SYSC.BOOTSTAT_PHASE = 5 ↔ t.get pSYSC SYSC.BOOTSTAT_CODE = 0)))

/-- REFCLK_QUALIFIED sets REFQ and moves a device on the internal oscillator to REFCLK. LOSS_OF_REFERENCE marks the
reference lost (REFQ 0 for REFCLK), and gates an enabled SYNA that uses it, with REFLOSS and FINE_LOCK 0.
LINK_CLOCK_QUALIFIED of an enabled port and REFERENCE_RESTORED make their reference good. BYPREF_LOST on REFCLK
moves the fabric to the internal oscillator with BYPREF_LOST and the hold-off for the clock switch. GOBYP on
SYNA moves to the bypass clock, clears ONSYNA and VALID, and asserts the hold-off; GOSYN with FINE_LOCK moves
to SYNA and removes that hold-off cause, without FINE_LOCK it raises GOSYN_DENY and the source stays.
AUTORET_RETURN with AUTORET and FINE_LOCK moves to SYNA. OSC_CHECK with FINE_LOCK raises OSC_FAIL exactly if
the oscillator is out of range. FABRIC_CLOCK_STOP records CKMON and asserts the hold-off. That one loss of a
reference acts on every synthesizer that uses it is the model's reading (log entry 14).

exec answers a next state, under hypotheses on the state and the operands alone, for: refclkQualified,
lossOfReference, linkClockQualified, referenceRestored, byprefLost, gobyp, gosyn, autoretReturn, oscCheck,
fabricClockStop. -/
def Obligations.ClockSwitchActs : Prop :=
  (∀ (s : State), s.phase = .running ∧ s.get pSYSC SYSC.STRAP_INV = 0 ∧ (s.isCell = false ∨ s.get pSYSC
    SYSC.STRAP_REF ≠ 3) ∧ s.get pCKSW CKSW.CKSTAT_REFQ = 0 → 
    ∃ t, Sys2Proof.Machine.exec (.refclkQualified) s = .next t ∧ (t.get pCKSW CKSW.CKSTAT_REFQ = 1 ∧ (s.get pCKSW
    CKSW.CKSTAT_SRC = 2 → t.get pCKSW CKSW.CKSTAT_SRC = 1))) ∧
  (∀ (s : State) (src : Fin 3), s.phase = .running → 
    ∃ t, Sys2Proof.Machine.exec (.lossOfReference src) s = .next t ∧ (t.refOk src.val = false ∧ (src.val = 0 →
    t.get pCKSW CKSW.CKSTAT_REFQ = 0))) ∧
  (∀ (s : State) (src : Fin 3), s.Live pSYNA ∧ s.synRef 0 = src.val ∧ (src.val = 0 ∨ s.get pSYNA
    SYN.LOCKSTAT_ACTREF = src.val) ∧ s.on pSYNA SYN.CFG_EN = true ∧ s.get pSYNA SYN.CFG_REFSEL ≠ 3 ∧
    s.clk.lost.getD 0 false = false → 
    ∃ t, Sys2Proof.Machine.exec (.lossOfReference src) s = .next t ∧ (t.bit pSYNA HDR.ERRSTAT SYN.E_REFLOSS = true
    ∧ t.get pSYNA SYN.LOCKSTAT_GATED = 1 ∧ t.get pSYNA SYN.LOCKSTAT_FINE_LOCK = 0)) ∧
  (∀ (s : State) (p : Fin 2), s.phase = .running ∧ s.on (pLINK p.val) LINK.PCFG_EN = true ∧ p.val + 1 <
    s.clk.refs.length → 
    ∃ t, Sys2Proof.Machine.exec (.linkClockQualified p) s = .next t ∧ (t.refOk (p.val + 1) = true)) ∧
  (∀ (s : State) (src : Fin 3), s.phase = .running ∧ src.val < s.clk.refs.length → 
    ∃ t, Sys2Proof.Machine.exec (.referenceRestored src) s = .next t ∧ (t.refOk src.val = true)) ∧
  (∀ (s : State), s.Live pCKSW ∧ s.get pCKSW CKSW.CKSTAT_SRC = 1 → 
    ∃ t, Sys2Proof.Machine.exec (.byprefLost) s = .next t ∧ (t.get pCKSW CKSW.CKSTAT_SRC = 2 ∧ t.get pCKSW
    CKSW.CKSTAT_REFQ = 0 ∧ t.get pPWMC PWMC.HOLDSTAT_CKSW = 1 ∧ t.bit pCKSW HDR.ERRSTAT CKSW.E_BYPREF_LOST = true))
    ∧
  (∀ (s : State), s.Writable pCKSW ∧ s.onSyna = true → 
    ∃ t, Sys2Proof.Machine.exec (.gobyp) s = .next t ∧ (t.get pCKSW CKSW.CKSTAT_SRC = (if s.on pCKSW
    CKSW.CKSTAT_REFQ then 1 else 2) ∧ t.get pTIME TIME.STAT_ONSYNA = 0 ∧ t.get pTIME TIME.STAT_VALID = 0 ∧ t.get
    pPWMC PWMC.HOLDSTAT_CKSW = 1 ∧ t.holdOff = true)) ∧
  (∀ (s : State), s.Writable pCKSW ∧ s.onSyna = false ∧ s.on pSYNA SYN.LOCKSTAT_FINE_LOCK = true → 
    ∃ t, Sys2Proof.Machine.exec (.gosyn) s = .next t ∧ (t.get pCKSW CKSW.CKSTAT_SRC = 0 ∧ t.get pTIME
    TIME.STAT_ONSYNA = 1 ∧ t.get pPWMC PWMC.HOLDSTAT_CKSW = 0)) ∧
  (∀ (s : State), s.Writable pCKSW ∧ s.on pSYNA SYN.LOCKSTAT_FINE_LOCK = false → 
    ∃ t, Sys2Proof.Machine.exec (.gosyn) s = .next t ∧ (t.bit pCKSW HDR.ERRSTAT CKSW.E_GOSYN_DENY = true ∧ t.get
    pCKSW CKSW.CKSTAT_SRC = s.get pCKSW CKSW.CKSTAT_SRC)) ∧
  (∀ (s : State), s.phase = .running ∧ s.onSyna = false ∧ s.on pCKSW CKSW.CKCTL_AUTORET = true ∧ s.on pSYNA
    SYN.LOCKSTAT_FINE_LOCK = true → 
    ∃ t, Sys2Proof.Machine.exec (.autoretReturn) s = .next t ∧ (t.get pCKSW CKSW.CKSTAT_SRC = 0 ∧ t.get pTIME
    TIME.STAT_ONSYNA = 1 ∧ t.get pPWMC PWMC.HOLDSTAT_CKSW = 0)) ∧
  (∀ (s : State) (bad : Bool), s.Live pCKSW ∧ s.on pSYNA SYN.LOCKSTAT_FINE_LOCK = true → 
    ∃ t, Sys2Proof.Machine.exec (.oscCheck bad) s = .next t ∧ (t.bit pCKSW HDR.ERRSTAT CKSW.E_OSC_FAIL = (bad ||
    s.bit pCKSW HDR.ERRSTAT CKSW.E_OSC_FAIL))) ∧
  (∀ (s : State), s.phase = .running → 
    ∃ t, Sys2Proof.Machine.exec (.fabricClockStop) s = .next t ∧ (t.get pPWMC PWMC.HOLDSTAT_CKMON = 1 ∧ (s.holdOff
    = false → t.get pPWMC PWMC.HOLDSTAT_ACTIVE = 1)))

/-- For either synthesizer. BANDCAL.GO on an idle or disabled one stores GATE and CODE, clears DONE and starts a
count; BANDCAL_DONE with a count stores it and sets DONE, and a count that the boot ROM asked for enters the
band table and starts the next band; without one (an abort) raises BANDCAL_ABORT with DONE. RELOCK.GO, enabled,
strap valid and settings legal, gates the output, clears FREQ_OK and FINE_LOCK, puts FBINT in force, and starts
acquisition (phase 2 where a band is found, else 1). FREQ_OK ungates and enters phase 4; FINE_LOCK enters phase
5 and drives the LOCK pin high. LOSS_OF_LOCK of an ungated one gates it, clears FREQ_OK and FINE_LOCK, and
raises LOL as error and flag. A CFG write that is not refused stores EN, BW, PRE (and REFSEL for SYNA); with BW
above 4 it keeps EN and BW and raises CFG_INVALID. TUNE_MARGIN with FREQ_OK raises its error and flag. The
phase numbers are those of LOCKSTAT.PHASE; readings of the model are FCTR's rounding for a count of the boot
ROM (log entry 10) and the LOCK pin's instant (log entry 14), and that the boot ROM's work runs as commands
come is log entry 39.

exec answers a next state, under hypotheses on the state and the operands alone, for: bandcalGo, bandcalDone,
relockGo, freqOk, fineLock, lossOfLock, synCfgWrite, tuneMargin. -/
def Obligations.SynthesizersAct : Prop :=
  (∀ (s : State) (n : Fin 2) (gate : BitVec 2) (code : BitVec 6), s.Writable (pSYN n) ∧ (s.on (pSYN n) SYN.CFG_EN =
    false ∨ s.get (pSYN n) SYN.LOCKSTAT_PHASE = 0) ∧ n.val < s.clk.band.length → 
    ∃ t, Sys2Proof.Machine.exec (.bandcalGo n gate code) s = .next t ∧ (t.get (pSYN n) SYN.BANDCAL_GATE =
    gate.toNat ∧ t.get (pSYN n) SYN.BANDCAL_CODE = code.toNat ∧ t.get (pSYN n) SYN.BANDCAL_DONE = 0 ∧
    t.clk.band.getD n false = true)) ∧
  (∀ (s : State) (n : Fin 2) (k : Nat), s.phase = .running ∧ s.clk.band.getD n false = true ∧ (n.val = 0 →
    s.clk.rom = .idle) → 
    ∃ t, Sys2Proof.Machine.exec (.bandcalDone n (some k)) s = .next t ∧ (t.get (pSYN n) SYN.BANDCNT_COUNT = k % 2 ^
    SYN.BANDCNT_COUNT.wid ∧ t.get (pSYN n) SYN.BANDCAL_DONE = 1 ∧ t.clk.band.getD n false = false)) ∧
  (∀ (s : State) (k : Nat) (i : Fin 63), s.Live pSYNA ∧ s.Unwritten pSYNA (SYN.BANDTBL_FCTR i.val) ∧
    s.clk.band.getD 0 false = true ∧ s.clk.rom = .band i.val ∧ s.isHub = true ∧ (s.on pSYNA SYN.CFG_EN = false ∨
    s.get pSYNA SYN.LOCKSTAT_PHASE = 0) → 
    ∃ t, Sys2Proof.Machine.exec (.bandcalDone 0 (some k)) s = .next t ∧ (t.get pSYNA (SYN.BANDTBL_VALID i.val) = 1
    ∧ t.get pSYNA (SYN.BANDTBL_FCTR i.val) = (k % 2 ^ 20 * 8 * s.fTdc 0 (s.get pSYNA SYN.CFG_REFSEL) (s.inForce
    pSYNA SYN.CFG_PRE) + 64) / 128 % 2 ^ (SYN.BANDTBL_FCTR i.val).wid ∧ t.clk.rom = .band (i.val + 1) ∧
    t.clk.band.getD 0 false = true ∧ t.get pSYNA SYN.BANDCAL_CODE = i.val + 1)) ∧
  (∀ (s : State) (n : Fin 2), s.Live (pSYN n) ∧ s.clk.band.getD n false = true → 
    ∃ t, Sys2Proof.Machine.exec (.bandcalDone n none) s = .next t ∧ (t.bit (pSYN n) HDR.ERRSTAT SYN.E_BANDCAL_ABORT
    = true ∧ t.get (pSYN n) SYN.BANDCAL_DONE = 1 ∧ t.clk.band.getD n false = false)) ∧
  (∀ (s : State) (n : Fin 2), s.Writable (pSYN n) ∧ s.on (pSYN n) SYN.CFG_EN = true ∧ s.on pSYSC SYSC.STRAP_INV =
    false ∧ s.relockBad n.val = false → 
    ∃ t, Sys2Proof.Machine.exec (.relockGo n) s = .next t ∧ (t.get (pSYN n) SYN.LOCKSTAT_GATED = 1 ∧ t.get (pSYN n)
    SYN.LOCKSTAT_FREQ_OK = 0 ∧ t.get (pSYN n) SYN.LOCKSTAT_FINE_LOCK = 0 ∧ t.inForce (pSYN n) SYN.FBINT_INT =
    s.shadow (pSYN n) SYN.FBINT_INT % 2 ^ SYN.FBINT_INT.wid ∧ t.get (pSYN n) SYN.LOCKSTAT_PHASE = (if (t.bandFor
    n.val).isSome then 2 else 1))) ∧
  (∀ (s : State) (n : Fin 2), s.Live (pSYN n) ∧ (s.get (pSYN n) SYN.LOCKSTAT_PHASE = 2 ∨ s.get (pSYN n)
    SYN.LOCKSTAT_PHASE = 3) → 
    ∃ t, Sys2Proof.Machine.exec (.freqOk n) s = .next t ∧ (t.get (pSYN n) SYN.LOCKSTAT_FREQ_OK = 1 ∧ t.get (pSYN n)
    SYN.LOCKSTAT_GATED = 0 ∧ t.get (pSYN n) SYN.LOCKSTAT_PHASE = 4)) ∧
  (∀ (s : State) (n : Fin 2), s.Live (pSYN n) ∧ s.get (pSYN n) SYN.LOCKSTAT_PHASE = 4 → 
    ∃ t, Sys2Proof.Machine.exec (.fineLock n) s = .next t ∧ (t.get (pSYN n) SYN.LOCKSTAT_FINE_LOCK = 1 ∧ t.get
    (pSYN n) SYN.LOCKSTAT_PHASE = 5 ∧ (if n.val = 0 then t.pins.lockA else t.pins.lockB) = .high)) ∧
  (∀ (s : State) (n : Fin 2), s.Live (pSYN n) ∧ s.on (pSYN n) SYN.LOCKSTAT_GATED = false → 
    ∃ t, Sys2Proof.Machine.exec (.lossOfLock n) s = .next t ∧ (t.get (pSYN n) SYN.LOCKSTAT_GATED = 1 ∧ t.get (pSYN
    n) SYN.LOCKSTAT_FREQ_OK = 0 ∧ t.get (pSYN n) SYN.LOCKSTAT_FINE_LOCK = 0 ∧ t.bit (pSYN n) HDR.ERRSTAT SYN.E_LOL
    = true ∧ t.bit (pSYN n) HDR.IRQFLG SYN.E_LOL = true)) ∧
  (∀ (s : State) (n : Fin 2) (v : Word), s.Writable (pSYN n) ∧ s.cfgRefused n.val (if n.val = 1 then v.toNat -
    bitsOf v.toNat 1 2 * 2 else v.toNat) = false → 
    ∃ t, Sys2Proof.Machine.exec (.synCfgWrite n v) s = .next t ∧ (t.get (pSYN n) SYN.CFG_EN = v.toNat % 2 ∧ t.get
    (pSYN n) SYN.CFG_BW = bitsOf v.toNat 8 3 ∧ t.get (pSYN n) SYN.CFG_PRE = bitsOf v.toNat 4 2 ∧ (n.val = 0 → t.get
    (pSYN n) SYN.CFG_REFSEL = bitsOf v.toNat 1 2))) ∧
  (∀ (s : State) (n : Fin 2) (v : Word), s.Writable (pSYN n) ∧ 5 ≤ bitsOf v.toNat 8 3 → 
    ∃ t, Sys2Proof.Machine.exec (.synCfgWrite n v) s = .next t ∧ (t.get (pSYN n) SYN.CFG_EN = s.get (pSYN n)
    SYN.CFG_EN ∧ t.get (pSYN n) SYN.CFG_BW = s.get (pSYN n) SYN.CFG_BW ∧ t.bit (pSYN n) HDR.ERRSTAT
    SYN.E_CFG_INVALID = true)) ∧
  (∀ (s : State) (n : Fin 2), s.Live (pSYN n) ∧ s.on (pSYN n) SYN.LOCKSTAT_FREQ_OK = true → 
    ∃ t, Sys2Proof.Machine.exec (.tuneMargin n) s = .next t ∧ (t.bit (pSYN n) HDR.ERRSTAT SYN.E_TUNE_MARGIN = true
    ∧ t.bit (pSYN n) HDR.IRQFLG SYN.E_TUNE_MARGIN = true))

/-- RATE is stored in MODE 0 and leaves TIME; in MODE 1 or 2 it is kept and RATE_REJ raised. A step on SYNA in MODE
0 with STEPNS below 10^9 and no grid running sets TIME to the step value, or adds or subtracts it, modulo
TIME's wrap, advances STEPGEN and raises STEP_DONE; in every other case TIME and STEPGEN stay and STEP_REJ is
raised. SLEW.GO in MODE 0 with SPD nonzero starts a slew of SLEWOFS with BUSY 1 and no change of STEPGEN;
otherwise nothing of it is stored and SLEW_REJ is raised. SLEW_DONE with nothing left clears BUSY and SLEWING
and raises SLEW_DONE. A MODE write of an allowed mode changes CFG.MODE and not yet the mode in force; 3, hub
discipline in a cell or cell discipline in a hub keeps MODE and raises CFG_REJ. VALIDSET, VALIDCLR, HOLDSET and
HOLDCLR in MODE 0 set or clear their own bit and keep the other, but that VALIDSET on the bypass clock sets
nothing (the model's reading, log entry 15). That a refused SLEW write stores nothing at all is the model's
reading (log entry 15).

exec answers a next state, under hypotheses on the state and the operands alone, for: rateWrite, timeStep,
slewGo, slewDone, timeModeWrite, validSet, validClr, holdoverSet, holdoverClr. -/
def Obligations.TimeStepsAndSlewsAct : Prop :=
  (∀ (s : State) (v : Word), s.Writable pTIME ∧ s.timeMode = 0 → 
    ∃ t, Sys2Proof.Machine.exec (.rateWrite v) s = .next t ∧ (t.get pTIME TIME.RATE = v.toNat ∧ t.time = s.time)) ∧
  (∀ (s : State) (v : Word), s.Writable pTIME ∧ s.timeMode ≠ 0 → 
    ∃ t, Sys2Proof.Machine.exec (.rateWrite v) s = .next t ∧ (t.get pTIME TIME.RATE = s.get pTIME TIME.RATE ∧ t.bit
    pTIME HDR.ERRSTAT TIME.E_RATE_REJ = true)) ∧
  (∀ (s : State) (abs neg : Bool), s.Writable pTIME ∧ s.get pTIME TIME.STEPNS < 1000000000 ∧ s.timeMode = 0 ∧
    s.gridUp = false ∧ s.onSyna = true → 
    ∃ t, Sys2Proof.Machine.exec (.timeStep abs neg) s = .next t ∧ (t.time = (if abs then s.stepVal else if neg then
    s.time + wrap40 - s.stepVal % wrap40 else s.time + s.stepVal) % wrap40 ∧ t.get pTIME TIME.STAT_STEPGEN = (s.get
    pTIME TIME.STAT_STEPGEN + 1) % 2 ^ TIME.STAT_STEPGEN.wid ∧ t.bit pTIME HDR.IRQFLG TIME.I_STEP_DONE = true)) ∧
  (∀ (s : State) (abs neg : Bool), s.Writable pTIME ∧ (1000000000 ≤ s.get pTIME TIME.STEPNS ∨ s.timeMode ≠ 0 ∨
    s.gridUp = true ∨ s.onSyna = false) → 
    ∃ t, Sys2Proof.Machine.exec (.timeStep abs neg) s = .next t ∧ (t.time = s.time ∧ t.get pTIME TIME.STAT_STEPGEN
    = s.get pTIME TIME.STAT_STEPGEN ∧ t.bit pTIME HDR.ERRSTAT TIME.E_STEP_REJ = true)) ∧
  (∀ (s : State) (spd : BitVec 11), s.Writable pTIME ∧ s.timeMode = 0 ∧ spd ≠ 0 → 
    ∃ t, Sys2Proof.Machine.exec (.slewGo spd) s = .next t ∧ (t.get pTIME TIME.SLEWCTL_SPD = spd.toNat ∧ t.get pTIME
    TIME.SLEWCTL_BUSY = 1 ∧ t.tb.slew = toSigned (s.get pTIME TIME.SLEWOFS) 32 * 2 ^ 24 ∧ t.get pTIME
    TIME.STAT_STEPGEN = s.get pTIME TIME.STAT_STEPGEN)) ∧
  (∀ (s : State) (spd : BitVec 11), s.Writable pTIME ∧ (s.timeMode ≠ 0 ∨ spd = 0) → 
    ∃ t, Sys2Proof.Machine.exec (.slewGo spd) s = .next t ∧ (t.get pTIME TIME.SLEWCTL_BUSY = s.get pTIME
    TIME.SLEWCTL_BUSY ∧ t.get pTIME TIME.SLEWCTL_SPD = s.get pTIME TIME.SLEWCTL_SPD ∧ t.get pTIME TIME.SLEWOFS =
    s.get pTIME TIME.SLEWOFS ∧ t.tb.slew = s.tb.slew ∧ t.bit pTIME HDR.ERRSTAT TIME.E_SLEW_REJ = true)) ∧
  (∀ (s : State), s.Live pTIME ∧ s.on pTIME TIME.SLEWCTL_BUSY = true ∧ s.tb.slew = 0 → 
    ∃ t, Sys2Proof.Machine.exec (.slewDone) s = .next t ∧ (t.get pTIME TIME.SLEWCTL_BUSY = 0 ∧ t.get pTIME
    TIME.STAT_SLEWING = 0 ∧ t.bit pTIME HDR.IRQFLG TIME.I_SLEW_DONE = true)) ∧
  (∀ (s : State) (mode : BitVec 2), s.Writable pTIME ∧ mode.toNat ≠ 3 ∧ (s.isCell = true → mode.toNat ≠ 2) ∧
    (s.isCell = false → mode.toNat ≠ 1) → 
    ∃ t, Sys2Proof.Machine.exec (.timeModeWrite mode) s = .next t ∧ (t.get pTIME TIME.CFG_MODE = mode.toNat ∧
    t.timeMode = s.timeMode)) ∧
  (∀ (s : State) (mode : BitVec 2), s.Writable pTIME ∧ (mode.toNat = 3 ∨ s.isCell = true ∧ mode.toNat = 2 ∨
    s.isCell = false ∧ mode.toNat = 1) → 
    ∃ t, Sys2Proof.Machine.exec (.timeModeWrite mode) s = .next t ∧ (t.get pTIME TIME.CFG_MODE = s.get pTIME
    TIME.CFG_MODE ∧ t.bit pTIME HDR.ERRSTAT TIME.E_CFG_REJ = true)) ∧
  (∀ (s : State), s.Writable pTIME ∧ s.timeMode = 0 ∧ s.onSyna = true → 
    ∃ t, Sys2Proof.Machine.exec (.validSet) s = .next t ∧ (t.get pTIME TIME.STAT_VALID = 1 ∧ t.get pTIME
    TIME.STAT_HOLDOVER = s.get pTIME TIME.STAT_HOLDOVER)) ∧
  (∀ (s : State), s.Writable pTIME ∧ s.onSyna = false → 
    ∃ t, Sys2Proof.Machine.exec (.validSet) s = .next t ∧ (t.get pTIME TIME.STAT_VALID = s.get pTIME
    TIME.STAT_VALID)) ∧
  (∀ (s : State), s.Writable pTIME ∧ s.timeMode = 0 → 
    ∃ t, Sys2Proof.Machine.exec (.validClr) s = .next t ∧ (t.get pTIME TIME.STAT_VALID = 0 ∧ t.get pTIME
    TIME.STAT_HOLDOVER = s.get pTIME TIME.STAT_HOLDOVER ∧ t.get pTIME HDR.ERRSTAT = s.get pTIME HDR.ERRSTAT)) ∧
  (∀ (s : State), s.Writable pTIME ∧ s.timeMode = 0 → 
    ∃ t, Sys2Proof.Machine.exec (.holdoverSet) s = .next t ∧ (t.get pTIME TIME.STAT_HOLDOVER = 1 ∧ t.get pTIME
    TIME.STAT_VALID = s.get pTIME TIME.STAT_VALID)) ∧
  (∀ (s : State), s.Writable pTIME ∧ s.timeMode = 0 → 
    ∃ t, Sys2Proof.Machine.exec (.holdoverClr) s = .next t ∧ (t.get pTIME TIME.STAT_HOLDOVER = 0 ∧ t.get pTIME
    TIME.STAT_VALID = s.get pTIME TIME.STAT_VALID))

/-- TPOCMD.ARM that meets no refusal (and, in mode 1, whose start lies at least the guard ahead) arms the output
and clears TRIGOVR; refused, it leaves ARMED and raises TPO_REJ. DISARM clears ARMED and leaves a running
pulse. A due single pulse without VALIDONLY disarms, sets the pulse's end WIDTH later and raises the output's
flag; at that end the pulse is over. A captured edge of a selected sense, on SYNA with room in the FIFO and no
step of TIME made yet, appends EDGE, STEPGEN and the instant rounded to 62.5 ps, raises the flag, and counts no
miss; with a full FIFO or on the bypass clock it appends nothing and raises TCAP_MISS. TCAPCFG stores the
senses and clears MISS. A read of the FIFO's INFO word answers VALID, the entry's INFO, the fill and MISS, and
removes the entry. The disarming of a single pulse at its start is the model's reading (log entry 15).

exec answers a next state, under hypotheses on the state and the operands alone, for: tpoArm, tpoDisarm,
tpoPulseStart, tpoPulseEnd, tcapEdge, tcapCfgWrite, timestampFifoRead. -/
def Obligations.PulseOutputsAndCaptureAct : Prop :=
  (∀ (s : State) (n : Fin 4), s.Writable pTIME ∧ s.tpoRefused n.val = false ∧ (s.tpoMode n.val = 1 → s.now16 +
    guard16 ≤ s.tpoStart n.val) → 
    ∃ t, Sys2Proof.Machine.exec (.tpoArm n) s = .next t ∧ (t.get pTIME (TIME.TPOCMD_ARMED n.val) = 1 ∧ t.get pTIME
    (TIME.TPOCMD_TRIGOVR n.val) = s.counted pTIME (TIME.TPOCMD_TRIGOVR n.val))) ∧
  (∀ (s : State) (n : Fin 4), s.Writable pTIME ∧ s.tpoRefused n.val = true → 
    ∃ t, Sys2Proof.Machine.exec (.tpoArm n) s = .next t ∧ (t.get pTIME (TIME.TPOCMD_ARMED n.val) = s.get pTIME
    (TIME.TPOCMD_ARMED n.val) ∧ t.bit pTIME HDR.ERRSTAT TIME.E_TPO_REJ = true)) ∧
  (∀ (s : State) (n : Fin 4), s.Writable pTIME → 
    ∃ t, Sys2Proof.Machine.exec (.tpoDisarm n) s = .next t ∧ (t.get pTIME (TIME.TPOCMD_ARMED n.val) = 0 ∧ (t.tpo
    n.val).stop = (s.tpo n.val).stop)) ∧
  (∀ (s : State) (n : Fin 4), s.Live pTIME ∧ n.val < s.tb.tpo.length ∧ s.tpoArmed n.val = true ∧ (s.tpo n.val).stop
    = none ∧ s.tpoMode n.val = 1 ∧ (s.tpo n.val).j = 0 ∧ s.tpoEdge n.val (s.tpoStart n.val) < s.now16 + tick16 ∧
    s.on pTIME (TIME.TPOCFG_VALIDONLY n.val) = false → 
    ∃ t, Sys2Proof.Machine.exec (.tpoPulseStart n) s = .next t ∧ (t.get pTIME (TIME.TPOCMD_ARMED n.val) = 0 ∧
    (t.tpo n.val).stop = some ((s.elapsed16 : Int) + s.tpoEdge n.val (s.tpoStart n.val) - s.now16 + (s.get pTIME
    (TIME.TPOWIDTH n.val) * 65536 : Nat)).toNat ∧ t.bit pTIME HDR.IRQFLG (TIME.I_TPO0 + n.val) = true)) ∧
  (∀ (s : State) (n : Fin 4), s.phase = .running ∧ (s.tpo n.val).pend = false ∧ (∃ e, (s.tpo n.val).stop = some e ∧
    e < s.elapsed16 + s.tickNs * ns16) → 
    ∃ t, Sys2Proof.Machine.exec (.tpoPulseEnd n) s = .next t ∧ ((t.tpo n.val).stop = none)) ∧
  (∀ (s : State) (n : Fin 2) (rising : Bool) (sub : BitVec 6), s.Live pTIME ∧ s.bit pTIME (TIME.TCAPCFG_EDGE n.val)
    (if rising then 0 else 1) = true ∧ s.tb.capAt.getD n.val none = none ∧ n.val < s.tb.tcap.length ∧
    (s.tb.tcap.getD n.val []).length < 4 ∧ s.onSyna = true ∧ s.tb.steps = [] → 
    ∃ t, Sys2Proof.Machine.exec (.tcapEdge n rising sub) s = .next t ∧ (t.tb.tcap.getD n.val [] = s.tb.tcap.getD
    n.val [] ++ [⟨b2n rising * 2 ^ 30 + s.stepGen * 2 ^ 24, time16 ((roundUpTie (s.now16 + sub.toNat * fine16)
    fine16 : Nat) : Int)⟩] ∧ t.bit pTIME HDR.IRQFLG (TIME.I_TCAP0 + n.val) = true ∧ t.get pTIME (TIME.TCAPINFO_MISS
    n.val) = s.get pTIME (TIME.TCAPINFO_MISS n.val))) ∧
  (∀ (s : State) (n : Fin 2) (rising : Bool) (sub : BitVec 6), s.Live pTIME ∧ s.bit pTIME (TIME.TCAPCFG_EDGE n.val)
    (if rising then 0 else 1) = true ∧ (4 ≤ (s.tb.tcap.getD n.val []).length ∨ s.onSyna = false) → 
    ∃ t, Sys2Proof.Machine.exec (.tcapEdge n rising sub) s = .next t ∧ (t.tb.tcap = s.tb.tcap ∧ t.bit pTIME
    HDR.ERRSTAT TIME.E_TCAP_MISS = true)) ∧
  (∀ (s : State) (n : Fin 2) (edges : BitVec 2), s.Writable pTIME → 
    ∃ t, Sys2Proof.Machine.exec (.tcapCfgWrite n edges) s = .next t ∧ (t.get pTIME (TIME.TCAPCFG_EDGE n.val) =
    edges.toNat ∧ t.get pTIME (TIME.TCAPINFO_MISS n.val) = s.counted pTIME (TIME.TCAPINFO_MISS n.val))) ∧
  (∀ (s : State) (n : Fin 2) (e : Ts) (rest : List Ts), s.Awake ∧ s.Live pTIME ∧ s.latched.lookup (pTIME * 4096 +
    (0xA00 + 16 * n.val)) = none ∧ s.tb.tcap.getD n.val [] = e :: rest → 
    ∃ t, Sys2Proof.Machine.exec (.timestampFifoRead (.tcap n)) s = .next t ∧ (t.reply = some (some (2 ^ 31 + e.info
    + (rest.length + 1) * 65536 + s.get pTIME (TIME.TCAPINFO_MISS n.val))) ∧ t.tb.tcap.getD n.val [] = rest))

/-- With nothing latched for NOWNS, on a running device not in STOP with TIME not in block reset: a read of
TIME.NOWNS answers the nanoseconds of TIME in the present tick, latches NOWSL and NOWSH from the same value,
and changes neither TIME nor any register.

exec answers a next state, under hypotheses on the state and the operands alone, for: timeNowRead. -/
def Obligations.TimeNowReadLatchesOneTick : Prop :=
  (∀ (s : State), s.Awake ∧ s.Live pTIME ∧ s.latched.lookup (pTIME * 4096 + 0x800) = none → 
    ∃ t, Sys2Proof.Machine.exec (.timeNowRead) s = .next t ∧ (t.reply = some (some (nsOf s.now16)) ∧
    t.latched.lookup (pTIME * 4096 + 0x804) = some (slOf s.now16) ∧ t.latched.lookup (pTIME * 4096 + 0x808) = some
    (fsOf s.now16) ∧ t.time = s.time ∧ s.KeepsBut t.toDev []))

/-- A fabric tick on SYNA, the mode in force standing, adds 4 ns plus RATE plus the slew's and the discipline's
term (units of 2^-40 ns) to TIME modulo its wrap, takes the slew's term from what is left of the slew, and
counts one tick and 4 ns. On the bypass clock TIME stands, and MODE in force becomes CFG.MODE. That 4 ns of the
model's elapsed time pass in each such tick, as FABRIC_TICK is the only passage of time, is log entry 2.

exec answers a next state, under hypotheses on the state and the operands alone, for: fabricTick. -/
def Obligations.FabricTickAdvancesTime : Prop :=
  (∀ (s : State), s.phase = .running ∧ s.onSyna = true ∧ s.get pTIME TIME.CFG_MODE = s.timeMode → 
    ∃ t, Sys2Proof.Machine.exec (.fabricTick) s = .next t ∧ ((t.time : Int) = ((s.time : Int) + (4 * 2 ^ 40 +
    toSigned (s.get pTIME TIME.RATE) 32 + s.slewTerm + s.corrTerm)) % (wrap40 : Nat) ∧ t.tb.slew = s.tb.slew -
    s.slewTerm ∧ t.ticks = s.ticks + 1 ∧ t.ns = s.ns + 4)) ∧
  (∀ (s : State), s.phase = .running ∧ s.onSyna = false → 
    ∃ t, Sys2Proof.Machine.exec (.fabricTick) s = .next t ∧ (t.time = s.time ∧ t.ticks = s.ticks + 1 ∧ t.timeMode %
    4 = s.get pTIME TIME.CFG_MODE % 4))

/-- A sound frame of 60 to 1,518 octets that the filter accepts, with timestamps off, the ring ready and its
descriptor lawful, leaves its octets in the descriptor's buffer and length and DONE in the descriptor, advances
RXHEAD and raises RX_DONE; with a bad FCS or an unlawful length it counts RXERRCNT.BAD (saturating) and raises
RX_DROP. A TX descriptor of at least 60 octets sends the buffer's octets, writes DONE, advances TXHEAD and
raises TX_DONE. Enabling a ring with K from 2 to 8 sets EN and K and zeroes HEAD and TAIL; a TAIL below the
ring's length is stored. MDIO GO, idle, sets BUSY and sends the transaction; its end clears BUSY, stores the
data of a read and raises its flag. A PCS mode write drops the link and stores MODE; CLROVF clears the overflow
counts but for what counts in that tick (R101). A link up sets LINKUP and the speed (SGMII the negotiated, else
2); a link lost clears LINKUP and raises LINK_CHG. A read of a timestamp FIFO's INFO word answers VALID and the
entry's INFO and removes it. The length bounds and the order of the checks are the model's readings (log entry
16).

exec answers a next state, under hypotheses on the state and the operands alone, for: ethFrameRx, ethFrameTx,
ethRingEnable, ethTailWrite, mdioGo, mdioDone, pcsModeWrite, tsstatClrovf, ethLinkChange, timestampFifoRead. -/
def Obligations.EthernetPortsAct : Prop :=
  (∀ (s : State) (n : Fin 2) (fr : List Byte) (back desc buf len : Nat), s.Live (pETH n) ∧ s.stores = [] ∧ s.soc.wipe
    = none ∧ s.ethClock = true ∧ s.on (pETH n) ETH.PCSCFG_LINKUP = true ∧ s.on (pETH n) ETH.MACCTL_RXEN = true ∧
    s.on (pETH n) ETH.PTPCFG_TSEN = false ∧ 60 ≤ fr.length ∧ fr.length ≤ 1518 ∧ isPause fr = false ∧ s.ethAccepts n
    fr = true ∧ s.ringReady n true = true ∧ Dev.ringDesc s.mems s.toDev n true = some (desc, buf, len) ∧ (buf +
    fr.length ≤ desc + 4 ∨ desc + 12 ≤ buf) → 
    ∃ t, Sys2Proof.Machine.exec (.ethFrameRx n fr true (back, none)) s = .next t ∧ (t.mems.bytes .sram buf
    fr.length = fr ∧ t.mems.bytes .sram (desc + 4) 8 = toLE 4 fr.length ++ toLE 4 (2 ^ 31) ∧ t.get (pETH n)
    ETH.RXHEAD = (s.get (pETH n) ETH.RXHEAD + 1) % s.ringLen n true % 2 ^ ETH.RXHEAD.wid ∧ t.bit (pETH n)
    HDR.IRQFLG ETH.I_RX_DONE = true)) ∧
  (∀ (s : State) (n : Fin 2) (fr : List Byte) (fcs : Bool) (back : Nat) (ue : Option Word), s.Live (pETH n) ∧
    s.ethClock = true ∧ s.on (pETH n) ETH.PCSCFG_LINKUP = true ∧ s.on (pETH n) ETH.MACCTL_RXEN = true ∧ (fcs =
    false ∨ fr.length < 60 ∨ 1518 < fr.length) → 
    ∃ t, Sys2Proof.Machine.exec (.ethFrameRx n fr fcs (back, ue)) s = .next t ∧ (t.get (pETH n) ETH.RXERRCNT_BAD =
    (if s.get (pETH n) ETH.RXERRCNT_BAD + 1 < 2 ^ ETH.RXERRCNT_BAD.wid then s.get (pETH n) ETH.RXERRCNT_BAD + 1
    else s.get (pETH n) ETH.RXERRCNT_BAD) ∧ t.bit (pETH n) HDR.ERRSTAT ETH.E_RX_DROP = true)) ∧
  (∀ (s : State) (n : Fin 2) (desc buf len : Nat), s.Live (pETH n) ∧ s.stores = [] ∧ s.soc.wipe = none ∧ s.ethClock
    = true ∧ s.on (pETH n) ETH.PCSCFG_LINKUP = true ∧ s.on (pETH n) ETH.MACCTL_TXEN = true ∧ s.on (pETH n)
    ETH.PTPCFG_TSEN = false ∧ s.ringReady n false = true ∧ Dev.ringDesc s.mems s.toDev n false = some (desc, buf,
    len) ∧ 60 ≤ len → 
    ∃ t, Sys2Proof.Machine.exec (.ethFrameTx (n, none)) s = .next t ∧ (t.sent = s.sent ++ [.eth n (s.mems.bytes
    .sram buf len)] ∧ t.mems.bytes .sram (desc + 8) 4 = toLE 4 (2 ^ 31) ∧ t.get (pETH n) ETH.TXHEAD = (s.get (pETH
    n) ETH.TXHEAD + 1) % s.ringLen n false % 2 ^ ETH.TXHEAD.wid ∧ t.bit (pETH n) HDR.IRQFLG ETH.I_TX_DONE = true)) ∧
  (∀ (s : State) (n : Fin 2) (rx : Bool) (v : Word), s.Writable (pETH n) ∧ 2 ≤ v.toNat % 16 ∧ v.toNat % 16 ≤ 8 ∧ 2
    ^ 31 ≤ v.toNat ∧ s.on (pETH n) (if rx then ETH.RXCFG_EN else ETH.TXCFG_EN) = false → 
    ∃ t, Sys2Proof.Machine.exec (.ethRingEnable n rx v) s = .next t ∧ (t.get (pETH n) (if rx then ETH.RXCFG_EN else
    ETH.TXCFG_EN) = 1 ∧ t.get (pETH n) (if rx then ETH.RXCFG_K else ETH.TXCFG_K) = v.toNat % 16 ∧ t.get (pETH n)
    (if rx then ETH.RXHEAD else ETH.TXHEAD) = 0 ∧ t.get (pETH n) (if rx then ETH.RXTAIL else ETH.TXTAIL) = 0)) ∧
  (∀ (s : State) (n : Fin 2) (rx : Bool) (tail : Word), s.Writable (pETH n) ∧ tail.toNat % 256 < s.ringLen n rx → 
    ∃ t, Sys2Proof.Machine.exec (.ethTailWrite n rx tail) s = .next t ∧ (t.get (pETH n) (if rx then ETH.RXTAIL else
    ETH.TXTAIL) = tail.toNat % 256)) ∧
  (∀ (s : State) (read : Bool) (phy reg : BitVec 5) (data : BitVec 16), s.Writable (pETH 0) ∧ s.on (pETH 0)
    ETH.MDIOSTAT_BUSY = false → 
    ∃ t, Sys2Proof.Machine.exec (.mdioGo read phy reg data) s = .next t ∧ (t.get (pETH 0) ETH.MDIOSTAT_BUSY = 1 ∧
    t.sent = s.sent ++ [.mdio read phy.toNat reg.toNat data.toNat] ∧ t.soc.mdio = some (read, phy.toNat, reg.toNat,
    data.toNat))) ∧
  (∀ (s : State) (data : BitVec 16) (read : Bool) (phy reg x : Nat), s.Live (pETH 0) ∧ s.soc.mdio = some (read,
    phy, reg, x) → 
    ∃ t, Sys2Proof.Machine.exec (.mdioDone data) s = .next t ∧ (t.get (pETH 0) ETH.MDIOSTAT_BUSY = 0 ∧ t.soc.mdio =
    none ∧ (read = true → t.get (pETH 0) ETH.MDIOSTAT_DATA = data.toNat) ∧ t.bit (pETH 0) HDR.IRQFLG
    ETH.I_MDIO_DONE = true)) ∧
  (∀ (s : State) (n : Fin 2) (v : Word), s.Writable (pETH n) → 
    ∃ t, Sys2Proof.Machine.exec (.pcsModeWrite n v) s = .next t ∧ (t.get (pETH n) ETH.PCSCFG_LINKUP = 0 ∧ t.get
    (pETH n) ETH.PCSCFG_MODE = ETH.PCSCFG_MODE.pick v.toNat)) ∧
  (∀ (s : State) (n : Fin 2), s.Writable (pETH n) → 
    ∃ t, Sys2Proof.Machine.exec (.tsstatClrovf n) s = .next t ∧ (t.get (pETH n) ETH.TSSTAT_TXOVF = s.counted (pETH
    n) ETH.TSSTAT_TXOVF ∧ t.get (pETH n) ETH.TSSTAT_RXOVF = s.counted (pETH n) ETH.TSSTAT_RXOVF)) ∧
  (∀ (s : State) (n : Fin 2) (sp : BitVec 2), s.phase = .running ∧ s.ethClock = true → 
    ∃ t, Sys2Proof.Machine.exec (.ethLinkChange n true sp) s = .next t ∧ (t.get (pETH n) ETH.PCSCFG_LINKUP = 1 ∧
    t.get (pETH n) ETH.PCSCFG_SPEED = (if s.on (pETH n) ETH.PCSCFG_MODE then sp.toNat else 2))) ∧
  (∀ (s : State) (n : Fin 2) (sp : BitVec 2), s.Live (pETH n) ∧ s.on (pETH n) ETH.PCSCFG_LINKUP = true → 
    ∃ t, Sys2Proof.Machine.exec (.ethLinkChange n false sp) s = .next t ∧ (t.get (pETH n) ETH.PCSCFG_LINKUP = 0 ∧
    t.bit (pETH n) HDR.IRQFLG ETH.I_LINK_CHG = true)) ∧
  (∀ (s : State) (n : Fin 2) (rx : Bool) (e : Ts) (rest : List Ts), s.Awake ∧ s.Live (pETH n) ∧ s.latched.lookup
    (pETH n * 4096 + (0xC00 + 16 * b2n rx)) = none ∧ (if rx then (s.ethOf n).rx else (s.ethOf n).tx) = e :: rest → 
    ∃ t, Sys2Proof.Machine.exec (.timestampFifoRead (.eth n rx)) s = .next t ∧ (t.reply = some (some (2 ^ 31 +
    e.info)) ∧ (if rx then (t.ethOf n).rx else (t.ethOf n).tx) = rest))

/-- A TRACKER_SAMPLE_SET on a hub with Spindle and TRKIN enabled, on SYNA with a new sample set, takes the counts,
notes the tick, and stores as VMAG the amplitude of the positive sequence that its generators hold, rounded to
whole codes; the discrete form of the generators is open, and the number formats are the model's (log entry
17). FREEWHEEL_END at or after the recovery time ends voltage freewheel, keeps FREEWHEEL only for the time
reason, and raises GRID_OK. THOFS is stored and marks a jump. CFG.EN and FNOM are stored; EN 0 clears VALID. An
armed, enabled angle event whose angle theta crossed fires with VALID in both ticks on SYNA: it disarms and,
where its action asks, sets its AEVFLG bit and the interrupt. It rearms when the opposite angle is crossed. A
due one-shot time event (of events 2 to 31; the first two are the grid's) on SYNA clears EN (unless software
has written it in that tick, R101) and ARMED and, where asked, sets TEVFLG and the interrupt; a periodic one
stays enabled and goes on to the next instant. TEVCTL of events 2 to 31 that meets no refusal stores EN, ARMED,
PERIODIC, LATEPOL and, enabling, clears SKIPCNT; a refused enable keeps EN and raises CFG_REJ. CLRMERGE clears
MERGECNT but for what counts in that tick (R101).

exec answers a next state, under hypotheses on the state and the operands alone, for: trackerSampleSet,
freewheelEnd, thofsWrite, spindleEnableWrite, angleEventFire, angleEventRearm, timeEventFire, tevctlWrite,
mergecntClr. -/
def Obligations.SpindleAngleAndEventsAct : Prop :=
  (∀ (s : State), s.phase = .running ∧ s.isCell = false ∧ s.spdEn = true ∧ s.on pSPDL SPDL.TRKIN_TEN = true ∧
    s.onSyna = true ∧ s.trkNew = true → 
    ∃ t, Sys2Proof.Machine.exec (.trackerSampleSet) s = .next t ∧ (t.spd.cnts = s.trkCnts ∧ t.spd.setAt = some
    s.ticks ∧ t.get pSPDL SPDL.VMAG = min 65535 (roundUpTie (isqrt (t.spd.pos.1.natAbs * t.spd.pos.1.natAbs +
    t.spd.pos.2.natAbs * t.spd.pos.2.natAbs)) (2 ^ 33) / 2 ^ 33))) ∧
  (∀ (s : State) (b : Nat), s.Live pSPDL ∧ s.isCell = false ∧ s.spd.fwV = true ∧ s.spd.back = some b ∧ b + max 1
    (s.get pSPDL SPDL.RECOV) * 1000000 ≤ s.ns ∧ s.on pSPDL SPDL.TRKLOOP_JUMPSNAP = false → 
    ∃ t, Sys2Proof.Machine.exec (.freewheelEnd) s = .next t ∧ (t.spd.fwV = false ∧ t.spd.back = none ∧ t.get pSPDL
    SPDL.STAT_FREEWHEEL = b2n s.spd.fwT ∧ t.bit pSPDL HDR.IRQFLG SPDL.I_GRID_OK = true)) ∧
  (∀ (s : State) (v : Word), s.Writable pSPDL ∧ s.isCell = false → 
    ∃ t, Sys2Proof.Machine.exec (.thofsWrite v) s = .next t ∧ (t.get pSPDL SPDL.THOFS = v.toNat ∧ t.spd.jumped =
    true)) ∧
  (∀ (s : State) (en fnom60 : Bool), s.Writable pSPDL → 
    ∃ t, Sys2Proof.Machine.exec (.spindleEnableWrite en fnom60) s = .next t ∧ (t.get pSPDL SPDL.CFG_EN = b2n en ∧
    t.get pSPDL SPDL.CFG_FNOM = b2n fnom60 ∧ (en = false → t.get pSPDL SPDL.STAT_VALID = 0))) ∧
  (∀ (s : State) (n : Fin 64), s.Live pSPDL ∧ s.aevOn n.val = true ∧ s.aevArmed n.val = true ∧ s.spdValid = true ∧
    s.spd.prevValid = true ∧ s.onSyna = true ∧ s.crossed (s.aevAng n.val) = true → 
    ∃ t, Sys2Proof.Machine.exec (.angleEventFire n) s = .next t ∧ (t.aevArmed n.val = false ∧ (bitAt (s.get pSPDL
    (SPDL.AEVACT n.val)) 31 = true → t.bit pSPDL (SPDL.AEVFLG (n.val / 32)) (n.val % 32) = true ∧ t.bit pSPDL
    HDR.IRQFLG SPDL.I_AEV = true))) ∧
  (∀ (s : State) (n : Fin 64), s.phase = .running ∧ s.aevOn n.val = true ∧ s.aevArmed n.val = false ∧ s.crossed
    (s.aevBack n.val) = true → 
    ∃ t, Sys2Proof.Machine.exec (.angleEventRearm n) s = .next t ∧ (t.aevArmed n.val = true)) ∧
  (∀ (s : State) (n : Fin 32), s.Live pSPDL ∧ s.on pSPDL (SPDL.TEVCTL_EN n.val) = true ∧ s.on pSPDL
    (SPDL.TEVCTL_PERIODIC n.val) = false ∧ tevBy n.val (s.tevDue n.val) s.now16 = true ∧ s.onSyna = true ∧
    s.spd.tevLate.getD n.val false = false ∧ 2 ≤ n.val ∧ s.Unwritten pSPDL (SPDL.TEVCTL_EN n.val) → 
    ∃ t, Sys2Proof.Machine.exec (.timeEventFire n) s = .next t ∧ (t.get pSPDL (SPDL.TEVCTL_EN n.val) = 0 ∧ t.get
    pSPDL (SPDL.TEVCTL_ARMED n.val) = 0 ∧ (bitAt (s.get pSPDL (SPDL.TEVACT n.val)) 31 = true → t.bit pSPDL
    SPDL.TEVFLG n.val = true ∧ t.bit pSPDL HDR.IRQFLG SPDL.I_TEV = true))) ∧
  (∀ (s : State) (n : Fin 32), s.Live pSPDL ∧ s.on pSPDL (SPDL.TEVCTL_EN n.val) = true ∧ s.on pSPDL
    (SPDL.TEVCTL_PERIODIC n.val) = true ∧ tevBy n.val (s.tevDue n.val) s.now16 = true ∧ s.onSyna = true ∧ n.val <
    s.spd.tevJ.length ∧ s.spd.tevLate.getD n.val false = false → 
    ∃ t, Sys2Proof.Machine.exec (.timeEventFire n) s = .next t ∧ (t.get pSPDL (SPDL.TEVCTL_EN n.val) = s.get pSPDL
    (SPDL.TEVCTL_EN n.val) ∧ t.spd.tevJ.getD n.val 0 = s.spd.tevJ.getD n.val 0 + 1)) ∧
  (∀ (s : State) (n : Fin 32) (v : Word), s.Writable pSPDL ∧ 2 ≤ n.val ∧ (s.on pSPDL (SPDL.TEVCTL_EN n.val) = false
    ∨ bitAt v.toNat 16 = s.on pSPDL (SPDL.TEVCTL_PERIODIC n.val)) ∧ (bitAt v.toNat 31 = false ∨ s.tevRefused n.val
    (bitAt v.toNat 16) = false) → 
    ∃ t, Sys2Proof.Machine.exec (.tevctlWrite n v) s = .next t ∧ (t.get pSPDL (SPDL.TEVCTL_EN n.val) = b2n (bitAt
    v.toNat 31) ∧ t.get pSPDL (SPDL.TEVCTL_ARMED n.val) = b2n (bitAt v.toNat 31) ∧ t.get pSPDL
    (SPDL.TEVCTL_PERIODIC n.val) = b2n (bitAt v.toNat 16) ∧ t.get pSPDL (SPDL.TEVCTL_LATEPOL n.val) = b2n (bitAt
    v.toNat 17) ∧ (bitAt v.toNat 31 = true → t.get pSPDL (SPDL.TEVCTL_SKIPCNT n.val) = 0))) ∧
  (∀ (s : State) (n : Fin 32) (v : Word), s.Writable pSPDL ∧ 2 ≤ n.val ∧ bitAt v.toNat 31 = true ∧ s.tevRefused
    n.val (bitAt v.toNat 16) = true → 
    ∃ t, Sys2Proof.Machine.exec (.tevctlWrite n v) s = .next t ∧ (t.get pSPDL (SPDL.TEVCTL_EN n.val) = s.get pSPDL
    (SPDL.TEVCTL_EN n.val) ∧ t.bit pSPDL HDR.ERRSTAT SPDL.E_CFG_REJ = true)) ∧
  (∀ (s : State), s.Writable pSPDL → 
    ∃ t, Sys2Proof.Machine.exec (.mergecntClr) s = .next t ∧ (t.get pSPDL SPDL.MERGECNT_CNT = s.counted pSPDL
    SPDL.MERGECNT_CNT))

/-- PCFG stores EN and TXON, and EN 0 puts the receiver to state 0. RX_CLOCK_LOCK takes a running receiver from 0
to 1, COMMA_ALIGNED from 1 to 2, each with LINK_CHG. In state 2 invalid code groups that exhaust the score drop
it to 1 with SYNC_LOST; in state 1 they count in CGERR. RX_CLOCK_LOSS from 2 or 3 drops to 0 with SYNC_LOST; an
S-frame timeout drops 3 to 2 with S_MISS. A Gust token with two valid copies stores its code and the stamp in
GUSTLAST and GUSTTSNS and raises GUST_RX; one without a majority counts GUSTERR, raises GUST_ERR and sends
nothing. GUSTTX sends the token on every running port enabled for origination. CNTCLR clears the port's
counters CNTA to CNTE but for what counts in that tick (R101). How the arrival time operand stands for the
token's instant is the model's (log entry 18).

exec answers a next state, under hypotheses on the state and the operands alone, for: portEnableWrite,
rxClockLock, commaAligned, invalidCodeGroup, rxClockLoss, sFrameTimeout, gustTokenRx, gusttxGo, linkCntclr. -/
def Obligations.LinkReceiversAct : Prop :=
  (∀ (s : State) (p : Fin 10) (v : Word) (part : Option Frame), s.Writable (pLINK p) → 
    ∃ t, Sys2Proof.Machine.exec (.portEnableWrite p (v, part)) s = .next t ∧ (t.get (pLINK p) LINK.PCFG_EN =
    v.toNat % 2 ∧ t.get (pLINK p) LINK.PCFG_TXON = v.toNat / 2 % 2 ∧ (v.toNat % 2 = 0 → t.linkSt p = 0))) ∧
  (∀ (s : State) (p : Fin 10), s.rxRuns p = true ∧ s.phase = .running ∧ s.linkSt p = 0 → 
    ∃ t, Sys2Proof.Machine.exec (.rxClockLock p) s = .next t ∧ (t.linkSt p = 1 ∧ t.bit (pLINK p) HDR.IRQFLG
    LINK.I_LINK_CHG = true)) ∧
  (∀ (s : State) (p : Fin 10), s.rxRuns p = true ∧ s.phase = .running ∧ s.linkSt p = 1 → 
    ∃ t, Sys2Proof.Machine.exec (.commaAligned p) s = .next t ∧ (t.linkSt p = 2 ∧ t.bit (pLINK p) HDR.IRQFLG
    LINK.I_LINK_CHG = true)) ∧
  (∀ (s : State) (p : Fin 10) (run : Nat) (part : Option Frame), s.rxRuns p = true ∧ s.phase = .running ∧ s.linkSt
    p = 2 ∧ 3 + run / 4 ≤ (s.port p).score → 
    ∃ t, Sys2Proof.Machine.exec (.invalidCodeGroup p run part) s = .next t ∧ (t.linkSt p = 1 ∧ t.bit (pLINK p)
    HDR.ERRSTAT LINK.E_SYNC_LOST = true ∧ t.bit (pLINK p) HDR.IRQFLG LINK.I_LINK_CHG = true)) ∧
  (∀ (s : State) (p : Fin 10) (run : Nat) (part : Option Frame), s.rxRuns p = true ∧ s.phase = .running ∧ s.linkSt
    p = 1 ∧ s.get (pLINK p) LINK.CNTA_CGERR < 65535 → 
    ∃ t, Sys2Proof.Machine.exec (.invalidCodeGroup p run part) s = .next t ∧ (t.linkSt p = 1 ∧ t.get (pLINK p)
    LINK.CNTA_CGERR = s.get (pLINK p) LINK.CNTA_CGERR + 1)) ∧
  (∀ (s : State) (p : Fin 10) (part : Option Frame), s.rxRuns p = true ∧ s.phase = .running ∧ 2 ≤ s.linkSt p → 
    ∃ t, Sys2Proof.Machine.exec (.rxClockLoss p part) s = .next t ∧ (t.linkSt p = 0 ∧ t.bit (pLINK p) HDR.ERRSTAT
    LINK.E_SYNC_LOST = true)) ∧
  (∀ (s : State) (p : Fin 10), s.rxRuns p = true ∧ s.phase = .running ∧ s.linkSt p = 3 → 
    ∃ t, Sys2Proof.Machine.exec (.sFrameTimeout p) s = .next t ∧ (t.linkSt p = 2 ∧ t.bit (pLINK p) HDR.ERRSTAT
    LINK.E_S_MISS = true)) ∧
  (∀ (s : State) (p : Fin 10) (c1 c2 c3 : Option Byte) (back c : Nat), s.rxSync p = true ∧ s.lpbk p = false ∧
    s.phase = .running ∧ gustCode c1 c2 c3 = some c → 
    ∃ t, Sys2Proof.Machine.exec (.gustTokenRx p c1 c2 c3 back) s = .next t ∧ (t.get (pLINK p) LINK.GUSTLAST_CODE =
    c % 16 ∧ t.get (pLINK p) LINK.GUSTTSNS = nsOf (time16 (s.stampBack back).1) ∧ t.bit (pLINK p) HDR.IRQFLG
    LINK.I_GUST_RX = true)) ∧
  (∀ (s : State) (p : Fin 10) (c1 c2 c3 : Option Byte) (back : Nat), s.rxSync p = true ∧ s.lpbk p = false ∧ s.phase
    = .running ∧ gustCode c1 c2 c3 = none ∧ s.get (pLINK p) LINK.CNTC_GUSTERR < 65535 → 
    ∃ t, Sys2Proof.Machine.exec (.gustTokenRx p c1 c2 c3 back) s = .next t ∧ (t.get (pLINK p) LINK.CNTC_GUSTERR =
    s.get (pLINK p) LINK.CNTC_GUSTERR + 1 ∧ t.bit (pLINK p) HDR.ERRSTAT LINK.E_GUST_ERR = true ∧ t.sent = s.sent)) ∧
  (∀ (s : State) (p : Fin 10) (code : BitVec 4) (q : Fin 8), s.Writable (pLINK p) ∧ s.txRuns q = true ∧ s.on (pLINK
    q) LINK.PCFG_GORIG = true ∧ s.lpbk q = false → 
    ∃ t, Sys2Proof.Machine.exec (.gusttxGo p code) s = .next t ∧ (t.sent.contains (.gust q code.toNat) = true)) ∧
  (∀ (s : State) (p : Fin 10), s.Writable (pLINK p) → 
    ∃ t, Sys2Proof.Machine.exec (.linkCntclr p) s = .next t ∧ (t.get (pLINK p) LINK.CNTA_CGERR = s.counted (pLINK
    p) LINK.CNTA_CGERR ∧ t.get (pLINK p) LINK.CNTA_HDRERR = s.counted (pLINK p) LINK.CNTA_HDRERR ∧ t.get (pLINK p)
    LINK.CNTB_CRCERR = s.counted (pLINK p) LINK.CNTB_CRCERR ∧ t.get (pLINK p) LINK.CNTB_EOFBAD = s.counted (pLINK
    p) LINK.CNTB_EOFBAD ∧ t.get (pLINK p) LINK.CNTC_GUSTRX = s.counted (pLINK p) LINK.CNTC_GUSTRX ∧ t.get (pLINK p)
    LINK.CNTC_GUSTERR = s.counted (pLINK p) LINK.CNTC_GUSTERR ∧ t.get (pLINK p) LINK.CNTD_DROP = s.counted (pLINK
    p) LINK.CNTD_DROP ∧ t.get (pLINK p) LINK.CNTD_SLIP = s.counted (pLINK p) LINK.CNTD_SLIP ∧ t.get (pLINK p)
    LINK.CNTD_UNCLAIMED = s.counted (pLINK p) LINK.CNTD_UNCLAIMED ∧ t.get (pLINK p) LINK.CNTE_SMISS = s.counted
    (pLINK p) LINK.CNTE_SMISS ∧ t.get (pLINK p) LINK.CNTE_OUTLIER = s.counted (pLINK p) LINK.CNTE_OUTLIER))

/-- For frames that pass the receiver's checks. S in state 2: state 3, SRX holds the arrival less RXLAT to 62.5 ps,
LINK_CHG. SERVO_SUPERFRAME_CHECK with no pair of S frames: HOLDOVER, the near count 0, VALID 0 where HOLDMAX is
0. C for this cell's position, on the grid, for the next commit or the one after, at least 200 ns before it and
not below FLOOR: held as the commit's candidate, no register changed; later: not held, LATE raised; for any
other commit, or off the grid: not held, OUTWIN raised. T at a hub notes another claimant while it observes,
and lowers MINSLACK (a frame of epoch 0 does neither, a slack below 0 counts as 0: log entry 20). B data of an
open receive stream, in sequence and within credit: the sequence and the credit used advance; of no such
stream: CREDIT_ERR. A credit frame not behind stores G. M request of reads (OP 0b00) at its cell: a response
with the request's MID and sequence and eight bytes an entry joins those waiting. M request of one write (OP
0b01): to IRQEN of a page that takes it, the word's defined bits are stored and the STATUS is 0b00; where that
page is locked, IRQEN stays, LOCK_ERR is raised and the STATUS is 0b00; outside pages and windows nothing is
written and the STATUS is 0b01. M response awaited at a hub: BUSY 0, DONE 1, the first word in MBUF 0 (unless
software wrote it in this tick), M_DONE. A C, T, B or M frame for another cell at a cell with FWD, whose other
port is up, free and empty, is sent on that port unchanged. The candidate's form, the free-slack of 24 ticks
and the fixed-size fields are the model's (log entries 18 and 19).

exec answers a next state, under hypotheses on the state and the operands alone, for: sFrameRx,
servoSuperframeCheck, cFrameRx, tFrameRx, bDataFrameRx, creditFrameRx, mRequestRx, mResponseRx, cutThroughFrame. -/
def Obligations.LinkFramesArrive : Prop :=
  (∀ (s : State) (p : Fin 10) (f : Frame) (back : Nat), s.phase = .running ∧ s.rxSync p = true ∧ s.lpbk p = false ∧
    frameSound f ∧ f.cls = 5 ∧ f.dst = 0xFFFE ∧ s.linkSt p = 2 → 
    ∃ t, Sys2Proof.Machine.exec (.sFrameRx p f back) s = .next t ∧ (t.linkSt p = 3 ∧ t.get (pLINK p) LINK.SRXNS =
    nsOf (roundUpTie (time16 ((s.stampBack back).1 - s.get (pLINK p) LINK.RXLAT)) fine16) ∧ t.bit (pLINK p)
    HDR.IRQFLG LINK.I_LINK_CHG = true)) ∧
  (∀ (s : State), s.phase = .running ∧ s.follows = true ∧ s.onSyna = true ∧ s.srv.pair.getD s.folPort false = false
    → 
    ∃ t, Sys2Proof.Machine.exec (.servoSuperframeCheck) s = .next t ∧ (t.get pTIME TIME.STAT_HOLDOVER = 1 ∧
    t.srv.near = 0 ∧ t.srv.acted = false ∧ (s.get pVANE VANE.SRVCFG_HOLDMAX = 0 → t.get pTIME TIME.STAT_VALID =
    0))) ∧
  (∀ (s : State) (p : Fin 10) (f : Frame) (k : Nat), s.phase = .running ∧ s.isCell = true ∧ s.rxSync p = true ∧
    s.lpbk p = false ∧ frameSound f ∧ f.cls = 1 ∧ f.dst ≠ 0xFFFF ∧ s.myPos = some f.dst.toNat ∧ s.gridOn = true ∧
    (k = s.vn.idx ∨ k = s.vn.idx + 1) ∧ f.seq.toNat = k % 65536 ∧ 200 * 65536 ≤ since s.now16 (s.commitAt k) ∧
    s.get pVANE VANE.FLOOR ≤ f.mid.toNat / 2 ∧ (s.vn.cands.find? fun c => c.idx == k) = none → 
    ∃ t, Sys2Proof.Machine.exec (.cFrameRx p f) s = .next t ∧ (t.vn.cands = s.vn.cands ++ [⟨k, f.mid.toNat, bitAt
    f.src.toNat 8, f.payload, since s.now16 (s.commitAt k) / (tick16 : Nat), s.linkFeat p 1, 0⟩] ∧ s.KeepsBut
    t.toDev [])) ∧
  (∀ (s : State) (p : Fin 10) (f : Frame) (k : Nat), s.Live pVANE ∧ s.isCell = true ∧ s.rxSync p = true ∧ s.lpbk p
    = false ∧ frameSound f ∧ f.cls = 1 ∧ f.dst ≠ 0xFFFF ∧ s.myPos = some f.dst.toNat ∧ s.gridOn = true ∧ (k =
    s.vn.idx ∨ k = s.vn.idx + 1) ∧ f.seq.toNat = k % 65536 ∧ since s.now16 (s.commitAt k) < 200 * 65536 → 
    ∃ t, Sys2Proof.Machine.exec (.cFrameRx p f) s = .next t ∧ (t.vn.cands = s.vn.cands ∧ t.bit pVANE HDR.ERRSTAT
    VANE.E_LATE = true)) ∧
  (∀ (s : State) (p : Fin 10) (f : Frame), s.Live pVANE ∧ s.isCell = true ∧ s.rxSync p = true ∧ s.lpbk p = false ∧
    frameSound f ∧ f.cls = 1 ∧ f.dst ≠ 0xFFFF ∧ s.myPos = some f.dst.toNat ∧ (s.gridOn = false ∨ f.seq.toNat ≠
    s.vn.idx % 65536 ∧ f.seq.toNat ≠ (s.vn.idx + 1) % 65536) → 
    ∃ t, Sys2Proof.Machine.exec (.cFrameRx p f) s = .next t ∧ (t.vn.cands = s.vn.cands ∧ t.bit pVANE HDR.ERRSTAT
    VANE.E_OUTWIN = true)) ∧
  (∀ (s : State) (p : Fin 10) (f : Frame) (offSlot : Bool), s.phase = .running ∧ s.isCell = false ∧ p.val < 8 ∧
    s.rxSync p = true ∧ s.lpbk p = false ∧ frameSound f ∧ f.cls = 2 ∧ s.strandEn (s.portStrand p) = true ∧
    f.src.toNat < s.slen (s.portStrand p) ∧ s.Unwritten pSTRD (STRD.MINSLACK (s.portStrand p)) → 
    ∃ t, Sys2Proof.Machine.exec (.tFrameRx p f offSlot) s = .next t ∧ (t.hub.sawOther = (s.hub.sawOther ||
    (s.observing && decide (f.mid.toNat ≠ 0))) ∧ t.get pSTRD (STRD.MINSLACK (s.portStrand p)) = (if f.mid.toNat ≠ 0
    ∧ (clampI (toSigned (fieldBE f.payload 8 2) 16) 0 0x7FFF).toNat < s.get pSTRD (STRD.MINSLACK (s.portStrand p))
    then (clampI (toSigned (fieldBE f.payload 8 2) 16) 0 0x7FFF).toNat else s.get pSTRD (STRD.MINSLACK
    (s.portStrand p))))) ∧
  (∀ (s : State) (p : Fin 10) (f : Frame) (e : Nat), s.phase = .running ∧ s.isCell = false ∧ p.val < 8 ∧ p.val <
    s.ports.length ∧ s.rxSync p = true ∧ s.lpbk p = false ∧ frameSound f ∧ f.cls = 3 ∧ f.typ = 0 ∧ s.findStr p
    (f.mid.toNat / 65536) false = some e ∧ f.seq.toNat = (s.stream p e).rxSeq ∧ credits f.payload.length ≤ (s.get
    (pLINK p) (LINK.BSTAT_G e) + 65536 - (s.stream p e).got) % 65536 ∧ (s.get (pLINK p) (LINK.BSTAT_G e) + 65536 -
    (s.stream p e).got) % 65536 < 32768 → 
    ∃ t, Sys2Proof.Machine.exec (.bDataFrameRx p f) s = .next t ∧ ((t.stream p e).rxSeq = (f.seq.toNat + 1) % 65536
    ∧ (t.stream p e).got = ((s.stream p e).got + credits f.payload.length) % 65536 ∧ t.bit (pLINK p) HDR.ERRSTAT
    LINK.E_CREDIT_ERR = s.bit (pLINK p) HDR.ERRSTAT LINK.E_CREDIT_ERR)) ∧
  (∀ (s : State) (p : Fin 10) (f : Frame), s.Live (pLINK p) ∧ s.isCell = false ∧ p.val < 8 ∧ s.rxSync p = true ∧
    s.lpbk p = false ∧ frameSound f ∧ f.cls = 3 ∧ f.typ = 0 ∧ s.findStr p (f.mid.toNat / 65536) false = none → 
    ∃ t, Sys2Proof.Machine.exec (.bDataFrameRx p f) s = .next t ∧ (t.bit (pLINK p) HDR.ERRSTAT LINK.E_CREDIT_ERR =
    true)) ∧
  (∀ (s : State) (p : Fin 10) (f : Frame) (e : Nat), s.phase = .running ∧ s.isCell = false ∧ s.rxSync p = true ∧
    s.lpbk p = false ∧ frameSound f ∧ f.cls = 3 ∧ f.typ = 1 ∧ s.findStr p (f.mid.toNat / 65536) true = some e ∧
    (f.mid.toNat % 65536 + 65536 - s.get (pLINK p) (LINK.BSTAT_G e)) % 65536 < 32768 → 
    ∃ t, Sys2Proof.Machine.exec (.creditFrameRx p f) s = .next t ∧ (t.get (pLINK p) (LINK.BSTAT_G e) = f.mid.toNat
    % 65536)) ∧
  (∀ (s : State) (p : Fin 2) (f : Frame), s.phase = .running ∧ s.isCell = true ∧ s.rxSync p = true ∧ s.lpbk p =
    false ∧ p.val < s.ports.length ∧ frameSound f ∧ f.cls = 4 ∧ f.typ = 0 ∧ f.dst ≠ 0xFFFF ∧ s.myPos = some
    f.dst.toNat ∧ ((s.port p.val).kept.find? fun k => k.1 == f.src.toNat && k.2.1 == f.seq.toNat) = none ∧ (∀ e ∈
    mEntries f.payload, e.1 % 4 = 0) → 
    ∃ t, Sys2Proof.Machine.exec (.mRequestRx p f) s = .next t ∧ ((t.port p.val).resp.dropLast = (s.port p.val).resp
    ∧ ((t.port p.val).resp.getLast?.map fun g => (g.cls, g.typ, g.mid, g.seq, g.payload.length)) = some (4, 1,
    f.mid, f.seq, f.payload.length / 8 * 8))) ∧
  (∀ (s : State) (p : Fin 2) (f : Frame) (pg : Nat), s.phase = .running ∧ s.isCell = true ∧ s.rxSync p = true ∧
    s.lpbk p = false ∧ p.val < s.ports.length ∧ frameSound f ∧ f.cls = 4 ∧ f.typ = 0 ∧ f.dst ≠ 0xFFFF ∧ s.myPos =
    some f.dst.toNat ∧ ((s.port p.val).kept.find? fun k => k.1 == f.src.toNat && k.2.1 == f.seq.toNat) = none ∧
    f.payload.length = 8 ∧ fieldBE f.payload 0 4 = 0x40000000 + pg * 4096 + 0x019 ∧ (pageKind pg).isSome = true ∧
    s.deaf pg = false ∧ s.locked pg = false → 
    ∃ t, Sys2Proof.Machine.exec (.mRequestRx p f) s = .next t ∧ (t.get pg HDR.IRQEN = fieldBE f.payload 4 4 &&&
    irqDefined pg ∧ ((t.port p.val).resp.getLast?.map fun g => (g.cls, g.typ, g.mid, g.seq, g.payload)) = some (4,
    1, f.mid, f.seq, toBE 4 (fieldBE f.payload 0 4 / 4 * 4) ++ toBE 4 0))) ∧
  (∀ (s : State) (p : Fin 2) (f : Frame) (pg : Nat), s.phase = .running ∧ s.isCell = true ∧ s.rxSync p = true ∧
    s.lpbk p = false ∧ p.val < s.ports.length ∧ frameSound f ∧ f.cls = 4 ∧ f.typ = 0 ∧ f.dst ≠ 0xFFFF ∧ s.myPos =
    some f.dst.toNat ∧ ((s.port p.val).kept.find? fun k => k.1 == f.src.toNat && k.2.1 == f.seq.toNat) = none ∧
    f.payload.length = 8 ∧ fieldBE f.payload 0 4 = 0x40000000 + pg * 4096 + 0x019 ∧ (pageKind pg).isSome = true ∧
    s.deaf pg = false ∧ s.locked pg = true ∧ fieldBE f.payload 4 4 &&& irqDefined pg ≠ s.get pg HDR.IRQEN → 
    ∃ t, Sys2Proof.Machine.exec (.mRequestRx p f) s = .next t ∧ (t.get pg HDR.IRQEN = s.get pg HDR.IRQEN ∧ t.bit pg
    HDR.ERRSTAT HDR.E_LOCK_ERR = true ∧ ((t.port p.val).resp.getLast?.map fun g => (g.cls, g.typ, g.mid, g.seq,
    g.payload)) = some (4, 1, f.mid, f.seq, toBE 4 (fieldBE f.payload 0 4 / 4 * 4) ++ toBE 4 0))) ∧
  (∀ (s : State) (p : Fin 2) (f : Frame), s.phase = .running ∧ s.isCell = true ∧ s.rxSync p = true ∧ s.lpbk p =
    false ∧ p.val < s.ports.length ∧ frameSound f ∧ f.cls = 4 ∧ f.typ = 0 ∧ f.dst ≠ 0xFFFF ∧ s.myPos = some
    f.dst.toNat ∧ ((s.port p.val).kept.find? fun k => k.1 == f.src.toNat && k.2.1 == f.seq.toNat) = none ∧
    f.payload.length = 8 ∧ fieldBE f.payload 0 4 % 4 = 1 ∧ (fieldBE f.payload 0 4 < 0x40000000 ∨ 0x48040000 ≤
    fieldBE f.payload 0 4) ∧ s.stores = [] ∧ s.soc.wipe = none → 
    ∃ t, Sys2Proof.Machine.exec (.mRequestRx p f) s = .next t ∧ (s.KeepsMem t ∧ s.KeepsRegs t.toDev [pMOTR] ∧
    ((t.port p.val).resp.getLast?.map fun g => (g.cls, g.typ, g.mid, g.seq, g.payload)) = some (4, 1, f.mid, f.seq,
    toBE 4 (fieldBE f.payload 0 4 / 4 * 4 + 1) ++ toBE 4 0))) ∧
  (∀ (s : State) (p : Fin 10) (f : Frame), s.Live (pLINK p) ∧ s.isCell = false ∧ s.rxSync p = true ∧ s.lpbk p =
    false ∧ frameSound f ∧ f.cls = 4 ∧ f.typ = 1 ∧ s.on (pLINK p) LINK.MSTAT_BUSY = true ∧ s.Unwritten (pLINK p)
    (LINK.MBUF 0) ∧ (s.port p).mreq = none ∧ f.seq.toNat = s.get (pLINK p) LINK.MSTAT_SEQ → 
    ∃ t, Sys2Proof.Machine.exec (.mResponseRx p f) s = .next t ∧ (t.get (pLINK p) LINK.MSTAT_BUSY = 0 ∧ t.get
    (pLINK p) LINK.MSTAT_DONE = 1 ∧ t.get (pLINK p) (LINK.MBUF 0) = fieldBE f.payload 0 4 ∧ t.bit (pLINK p)
    HDR.IRQFLG LINK.I_M_DONE = true)) ∧
  (∀ (s : State) (p : Fin 10) (f : Frame), s.phase = .running ∧ s.isCell = true ∧ p.val < 2 ∧ s.rxSync p = true ∧
    s.lpbk p = false ∧ headOk f = true ∧ f.ver = 1 ∧ f.good = true ∧ payOk f = true ∧ 1 ≤ f.cls.toNat ∧ f.cls.toNat
    ≤ 4 ∧ f.dst ≠ 0xFFFF ∧ s.myPos ≠ some f.dst.toNat ∧ (f.dst.toNat < 0x4000 ∨ 0x403F < f.dst.toNat) ∧ s.on (pLINK
    p) LINK.PCFG_FWD = true ∧ 2 ≤ s.linkSt (otherPort p) ∧ s.txRuns (otherPort p) = true ∧ (s.port (otherPort
    p)).txEnd ≤ s.ticks + 24 ∧ (s.port (otherPort p)).own ≤ s.ticks + 24 ∧ (s.port (otherPort p)).fifo = [] ∧
    s.headHit (otherPort p) (s.ticks + 24) (groups f + 1) = false ∧ s.lpbk (otherPort p) = false → 
    ∃ t, Sys2Proof.Machine.exec (.cutThroughFrame p f) s = .next t ∧ (t.sent = s.sent ++ [.frame (otherPort p) f]))

/-- For ports not in loopback. An S slot, nothing stored before it, notes MEASOK and sends one S frame, at once
where the output is free, else as soon as it is, and behind the head copy where it would meet it; the tick in
which a waiting S frame begins sends it. A T slot of a cell on the grid with the link up sends one T frame to
the hubs, at once or when its place on the output comes, at most 6 ticks late with THEAD, and clears the flags
it carried. In the bulk window a waiting M request of a hub is sent (out of a port in DOWN or ALIGN it is
dropped and counted), a credit frame of an open receive stream whose credit was not yet sent is sent to the
stream's peer, and an M response of a cell is sent. The forwarding FIFO of a free port sends its oldest frame,
of any class, a B or M frame inside a bulk window. MCTL.GO at an idle hub with 1 to 32 entries sets BUSY,
clears DONE and TOUT, stores DST and, not a repeat, takes the next sequence. M_TIMEOUT of a request, sent or
not, whose answer is awaited ends it with DONE, TOUT and M_TIMEOUT. BSTRA stores PEER and STREAM; BSTRB with EN
0 stores DIR and, closing an open stream, clears its G and U. Readings of the model: commands of one window
take their sender's order (log entry 8); M_TIMEOUT of a request not sent and the DROP of an own frame (log
entry 18); a T copy clears its flags where its slot is (log entry 19).

exec answers a next state, under hypotheses on the state and the operands alone, for: sSlot, fabricTick, tSlot,
bulkFrameSend, creditFrameSend, forwardFifoSend, mResponseSend, mRequestGo, mTimeout, bstrWrite. -/
def Obligations.LinkPortsSend : Prop :=
  (∀ (s : State) (p : Fin 10) (wait : Nat), s.phase = .running ∧ s.txRuns p = true ∧ s.lpbk p = false ∧ (s.port
    p).fifo = [] ∧ p.val < s.ports.length ∧ (s.port p).outEnd ≤ s.ticks ∧ wait = 0 ∧ s.headHit p s.ticks 49 = false
    → 
    ∃ t, Sys2Proof.Machine.exec (.sSlot p wait) s = .next t ∧ (s.sentHeads t.toDev = [(p.val, 5, 0, 0xFFFE)] ∧
    (t.port p).snum = ((s.port p).snum + 1) % 4096 ∧ t.get (pLINK p) LINK.STAT_MEASOK = b2n (s.port p).pair)) ∧
  (∀ (s : State) (p : Fin 10) (wait at_ : Nat), s.phase = .running ∧ s.txRuns p = true ∧ (s.port p).fifo = [] ∧
    p.val < s.ports.length ∧ at_ = max s.ticks (s.port p).outEnd + wait ∧ s.ticks < at_ ∧ s.headHit p at_ 49 =
    false → 
    ∃ t, Sys2Proof.Machine.exec (.sSlot p wait) s = .next t ∧ (t.sent = s.sent ∧ (t.port p).willSend.contains (at_,
    5, 0xFFFE) = true ∧ (t.port p).snum = (s.port p).snum ∧ t.get (pLINK p) LINK.STAT_MEASOK = b2n (s.port
    p).pair)) ∧
  (∀ (s : State) (p : Fin 10) (wait h : Nat), s.phase = .running ∧ s.txRuns p = true ∧ (s.port p).fifo = [] ∧ p.val
    < s.ports.length ∧ s.headTick p = some h ∧ max s.ticks (s.port p).outEnd + wait < h + 89 ∧ h < max s.ticks
    (s.port p).outEnd + wait + 49 → 
    ∃ t, Sys2Proof.Machine.exec (.sSlot p wait) s = .next t ∧ (t.sent = s.sent ∧ (t.port p).willSend.contains (h +
    89, 5, 0xFFFE) = true)) ∧
  (∀ (s : State) (p : Fin 10) (rest : List Wait), s.phase = .running ∧ s.txRuns p = true ∧ s.lpbk p = false ∧ p.val
    < s.ports.length ∧ (s.port p).waits = ⟨s.ticks + 1, .slot⟩ :: rest → 
    ∃ t, Sys2Proof.Machine.exec (.fabricTick) s = .next t ∧ ((p.val, 5, 0, 0xFFFE) ∈ s.sentHeads t.toDev)) ∧
  (∀ (s : State) (p : Fin 2) (wait : Nat), s.phase = .running ∧ s.isCell = true ∧ s.gridOn = true ∧ s.txRuns p =
    true ∧ s.lpbk p = false ∧ 2 ≤ s.linkSt p ∧ p.val < s.ports.length ∧ s.spd.tevJ.getD 1 0 ≠ 0 ∧ notAfter
    (s.tSlotAt p % wrap16) s.now16 = true ∧ wait = 0 ∧ (if s.on (pLINK p) LINK.SLOTCFG_THEAD then (s.port p).txEnd
    ≤ s.ticks else (s.port p).fifo = [] ∧ (s.port p).outEnd ≤ s.ticks) → 
    ∃ t, Sys2Proof.Machine.exec (.tSlot p wait) s = .next t ∧ (s.sentHeads t.toDev = [(p.val, 2, 0, 0x8000)] ∧
    (t.vn.flags.getD p 0) = 0)) ∧
  (∀ (s : State) (p : Fin 2) (wait at_ : Nat), s.phase = .running ∧ s.isCell = true ∧ s.gridOn = true ∧ s.txRuns p
    = true ∧ 2 ≤ s.linkSt p ∧ p.val < s.ports.length ∧ s.spd.tevJ.getD 1 0 ≠ 0 ∧ notAfter (s.tSlotAt p % wrap16)
    s.now16 = true ∧ (s.on (pLINK p) LINK.SLOTCFG_THEAD = true ∨ (s.port p).fifo = []) ∧ at_ = (if s.on (pLINK p)
    LINK.SLOTCFG_THEAD then s.ticks + min (max wait ((s.port p).txEnd - s.ticks)) 6 else max s.ticks (s.port
    p).outEnd + wait) ∧ s.ticks < at_ → 
    ∃ t, Sys2Proof.Machine.exec (.tSlot p wait) s = .next t ∧ (t.sent = s.sent ∧ (t.port p).willSend.contains (at_,
    2, 0x8000) = true ∧ (t.vn.flags.getD p 0) = 0)) ∧
  (∀ (s : State) (p : Fin 10) (f : Frame), s.phase = .running ∧ (s.port p).mgmt = [] ∧ (s.port p).mreq = some f ∧
    s.outDown p = false ∧ s.lpbk p = false ∧ s.outFree p f = true → 
    ∃ t, Sys2Proof.Machine.exec (.bulkFrameSend p none) s = .next t ∧ (t.sent = s.sent ++ [.frame p f] ∧ (t.port
    p).mreq = none)) ∧
  (∀ (s : State) (p : Fin 10) (f : Frame), s.phase = .running ∧ (s.port p).mgmt = [] ∧ (s.port p).mreq = some f ∧
    s.onSyna = true ∧ s.absent (pLINK p) = false ∧ s.linkSt p < 2 ∧ s.get (pLINK p) LINK.CNTD_DROP + 1 < 2 ^
    LINK.CNTD_DROP.wid → 
    ∃ t, Sys2Proof.Machine.exec (.bulkFrameSend p none) s = .next t ∧ (t.sent = s.sent ∧ (t.port p).mreq = none ∧
    t.get (pLINK p) LINK.CNTD_DROP = s.get (pLINK p) LINK.CNTD_DROP + 1)) ∧
  (∀ (s : State) (p : Fin 10) (e : Fin 32), s.phase = .running ∧ s.strEn p e = true ∧ s.strOut p e = false ∧
    (s.stream p e).sent = none ∧ s.outDown p = false ∧ s.lpbk p = false ∧ s.outFree p (mkFrame 3 1 0 0 0 0 []) =
    true → 
    ∃ t, Sys2Proof.Machine.exec (.creditFrameSend p e) s = .next t ∧ (s.sentHeads t.toDev = [(p.val, 3, 1, s.get
    (pLINK p) (LINK.BSTRA_PEER e) % 65536)])) ∧
  (∀ (s : State) (p : Fin 10) (f : Frame) (at_ : Nat) (rest : List (Frame × Nat)), s.phase = .running ∧ s.isCell =
    true ∧ p.val < 2 ∧ (s.port p).fifo = (f, at_) :: rest ∧ 2 ≤ s.linkSt p ∧ s.txRuns p = true ∧ (s.port p).outEnd
    ≤ s.ticks ∧ s.lpbk p = false ∧ s.headHit p s.ticks (groups f + 1) = false ∧ (f.cls = 3 ∨ f.cls = 4 → s.winOk p
    f = true) → 
    ∃ t, Sys2Proof.Machine.exec (.forwardFifoSend p) s = .next t ∧ (t.sent = s.sent ++ [.frame p f] ∧ (t.port
    p).fifo = rest)) ∧
  (∀ (s : State) (p : Fin 10) (f : Frame) (rest : List Frame), s.phase = .running ∧ s.isCell = true ∧ (s.port
    p).resp = f :: rest ∧ s.outDown p = false ∧ s.lpbk p = false ∧ s.outFree p f = true → 
    ∃ t, Sys2Proof.Machine.exec (.mResponseSend p) s = .next t ∧ (t.sent = s.sent ++ [.frame p f] ∧ (t.port p).resp
    = rest)) ∧
  (∀ (s : State) (p : Fin 10) (v : Word), s.Writable (pLINK p) ∧ s.isCell = false ∧ s.on (pLINK p) LINK.MSTAT_BUSY
    = false ∧ 1 ≤ bitsOf v.toNat 16 6 ∧ bitsOf v.toNat 16 6 ≤ 32 → 
    ∃ t, Sys2Proof.Machine.exec (.mRequestGo p v) s = .next t ∧ (t.get (pLINK p) LINK.MSTAT_BUSY = 1 ∧ t.get (pLINK
    p) LINK.MSTAT_DONE = 0 ∧ t.get (pLINK p) LINK.MSTAT_TOUT = 0 ∧ t.get (pLINK p) LINK.MCTL_DST = v.toNat % 65536
    ∧ (bitAt v.toNat 30 = false → t.get (pLINK p) LINK.MSTAT_SEQ = (s.get (pLINK p) LINK.MSTAT_SEQ + 1) % 65536))) ∧
  (∀ (s : State) (p : Fin 10), s.Live (pLINK p) ∧ s.isCell = false ∧ s.on (pLINK p) LINK.MSTAT_BUSY = true ∧
    (s.port p).bcast = none → 
    ∃ t, Sys2Proof.Machine.exec (.mTimeout p) s = .next t ∧ ((t.port p).mreq = none ∧ t.get (pLINK p)
    LINK.MSTAT_BUSY = 0 ∧ t.get (pLINK p) LINK.MSTAT_DONE = 1 ∧ t.get (pLINK p) LINK.MSTAT_TOUT = 1 ∧ t.bit (pLINK
    p) HDR.ERRSTAT LINK.E_M_TIMEOUT = true)) ∧
  (∀ (s : State) (p : Fin 10) (e : Fin 32) (v : Word), s.Writable (pLINK p) ∧ p.val < 8 → 
    ∃ t, Sys2Proof.Machine.exec (.bstrWrite p e false v) s = .next t ∧ (t.get (pLINK p) (LINK.BSTRA_PEER e) =
    v.toNat / 65536 ∧ t.get (pLINK p) (LINK.BSTRA_STREAM e) = v.toNat % 65536)) ∧
  (∀ (s : State) (p : Fin 10) (e : Fin 32) (v : Word), s.Writable (pLINK p) ∧ p.val < 8 ∧ v.toNat < 2 ^ 31 → 
    ∃ t, Sys2Proof.Machine.exec (.bstrWrite p e true v) s = .next t ∧ (t.get (pLINK p) (LINK.BSTRB_EN e) = 0 ∧
    t.get (pLINK p) (LINK.BSTRB_DIR e) = v.toNat / 2 ^ 30 ∧ (s.strEn p e = true → t.get (pLINK p) (LINK.BSTAT_G e)
    = 0 ∧ t.get (pLINK p) (LINK.BSTAT_U e) = 0)))

/-- ENUM_PASS with an answer of the cell nearest the port (not assigned elsewhere), first seen, marks it ENUMD and
appends strand, position and UID to the FIFO; ENUM_REPASS does so for the cell of a given hop where that is the
first one asked again. MAP_WRITE stores VALID and N unless another valid entry has the same N, when it keeps
the entry and raises CFG_REJ. A read of ENUMFIFO answers its head and removes it, latching the UID's two words.
STRAND_SUPERFRAME_EVAL takes the hops that arrived and sets BUDGET_SHORT exactly when the period is shorter
than the sum of the offset and the budget. SLOT_PLAN in a hub not standing alone with PLAN set gives an enabled
strand's port SSLOT 0 and THEAD 0. COMMAND_RELEASE ends the assembly of the predicted commit and notes it
released. RECOVER.GO of a mapped cell keeps the link asked for eight superframes; of an unmapped one it raises
CFG_REJ. The form of the answers and hops as operands is the model's (log entry 20).

exec answers a next state, under hypotheses on the state and the operands alone, for: enumPass, enumRepass,
mapWrite, enumfifoRead, strandSuperframeEval, slotPlan, commandRelease, recoverGo. -/
def Obligations.StrandManagerActs : Prop :=
  (∀ (s : State) (p : Fin 8) (a : Answer) (m : Nat), s.phase = .running ∧ s.enumReady p = true ∧ 0 < s.slen
    (s.portStrand p) ∧ s.slen (s.portStrand p) ≤ 48 ∧ (bitAt a.pos.toNat 31 = false ∨ VANE.POS_APOS.pick
    a.pos.toNat = posAt (s.slen (s.portStrand p)) 0 (s.portEndB p)) ∧ m = 48 * s.portStrand p + posAt (s.slen
    (s.portStrand p)) 0 (s.portEndB p) ∧ s.on pSTRD (STRD.MAP_ENUMD m) = false ∧ s.hub.enumFifo.length < 16 → 
    ∃ t, Sys2Proof.Machine.exec (.enumPass p [a]) s = .next t ∧ (t.get pSTRD (STRD.MAP_ENUMD m) = 1 ∧
    t.hub.enumFifo = s.hub.enumFifo ++ [(m / 48, m % 48, a.uidHi.toNat * 2 ^ 32 + a.uidLo.toNat)])) ∧
  (∀ (s : State) (p : Fin 8) (h : Nat) (a : Answer) (m : Nat), s.phase = .running ∧ s.enumReady p = true ∧ h <
    s.slen (s.portStrand p) ∧ s.slen (s.portStrand p) ≤ 48 ∧ (bitAt a.pos.toNat 31 = false ∨ VANE.POS_APOS.pick
    a.pos.toNat = posAt (s.slen (s.portStrand p)) h (s.portEndB p)) ∧ m = 48 * s.portStrand p + posAt (s.slen
    (s.portStrand p)) h (s.portEndB p) ∧ s.on pSTRD (STRD.MAP_ENUMD m) = false ∧ s.hub.enumFifo.length < 16 ∧
    ((List.range h).all fun i => !s.enumAgain p i) = true → 
    ∃ t, Sys2Proof.Machine.exec (.enumRepass p [(h, a)]) s = .next t ∧ (t.get pSTRD (STRD.MAP_ENUMD m) = 1 ∧
    t.hub.enumFifo = s.hub.enumFifo ++ [(m / 48, m % 48, a.uidHi.toNat * 2 ^ 32 + a.uidLo.toNat)])) ∧
  (∀ (s : State) (m : Fin 384) (v : Word), s.Writable pSTRD ∧ (bitAt v.toNat 31 = true → ∀ j : Fin 384, j ≠ m →
    s.on pSTRD (STRD.MAP_VALID j) = true → s.get pSTRD (STRD.MAP_N j) ≠ v.toNat % 256) → 
    ∃ t, Sys2Proof.Machine.exec (.mapWrite m v) s = .next t ∧ (t.get pSTRD (STRD.MAP_VALID m) = v.toNat / 2 ^ 31 ∧
    t.get pSTRD (STRD.MAP_N m) = v.toNat % 256)) ∧
  (∀ (s : State) (m j : Fin 384) (v : Word), s.Writable pSTRD ∧ bitAt v.toNat 31 = true ∧ j ≠ m ∧ s.on pSTRD
    (STRD.MAP_VALID j) = true ∧ s.get pSTRD (STRD.MAP_N j) = v.toNat % 256 → 
    ∃ t, Sys2Proof.Machine.exec (.mapWrite m v) s = .next t ∧ (t.bit pSTRD HDR.ERRSTAT STRD.E_CFG_REJ = true ∧
    t.get pSTRD (STRD.MAP_VALID m) = s.get pSTRD (STRD.MAP_VALID m) ∧ t.get pSTRD (STRD.MAP_N m) = s.get pSTRD
    (STRD.MAP_N m))) ∧
  (∀ (s : State) (i q uid : Nat) (rest : List (Nat × Nat × Nat)), s.Awake ∧ s.Live pSTRD ∧ s.latched.lookup (pSTRD
    * 4096 + 0x840) = none ∧ s.hub.enumFifo = (i, q, uid) :: rest → 
    ∃ t, Sys2Proof.Machine.exec (.enumfifoRead) s = .next t ∧ (t.reply = some (some (2 ^ 31 + (rest.length + 1) *
    65536 + i * 256 + q)) ∧ t.hub.enumFifo = rest ∧ t.latched.lookup (pSTRD * 4096 + 0x844) = some (uid % 2 ^ 32) ∧
    t.latched.lookup (pSTRD * 4096 + 0x848) = some (uid / 2 ^ 32))) ∧
  (∀ (s : State) (hops : List (List Nat)), s.phase = .running ∧ s.isCell = false ∧ s.on pSTRD STRD.STAT_RUN = true
    → 
    ∃ t, Sys2Proof.Machine.exec (.strandSuperframeEval hops) s = .next t ∧ (t.hub.hops = hops ∧ t.get pSTRD
    STRD.STAT_BUDGET_SHORT = b2n (decide (t.gridTsf < t.gridSo + budgetOf t.worstTT t.worstTC t.mapCount)))) ∧
  (∀ (s : State) (i : Fin 8), s.phase = .running ∧ s.isHub = true ∧ s.standalone = false ∧ s.on pSTRD
    STRD.CTRL_PLAN = true ∧ s.strandEn i = true → 
    ∃ t, Sys2Proof.Machine.exec (.slotPlan i) s = .next t ∧ (t.get (pLINK i) LINK.SLOTCFG_SSLOT = 0 ∧ t.get (pLINK
    i) LINK.SLOTCFG_THEAD = 0)) ∧
  (∀ (s : State) (k ang f : Nat) (valid : Bool) (rest : List (Nat × Nat × Nat × Bool)), s.phase = .running ∧
    s.isCell = false ∧ s.hub.pred = (k, ang, f, valid) :: rest → 
    ∃ t, Sys2Proof.Machine.exec (.commandRelease) s = .next t ∧ (t.hub.pred = rest ∧ t.hub.released = max
    s.hub.released k)) ∧
  (∀ (s : State) (n : BitVec 8), s.Writable pSTRD ∧ (s.mapOf n.toNat).isSome = true → 
    ∃ t, Sys2Proof.Machine.exec (.recoverGo n) s = .next t ∧ (t.hub.recov = (s.hub.recov.filter fun r => r.1 !=
    n.toNat) ++ [(n.toNat, 8)])) ∧
  (∀ (s : State) (n : BitVec 8), s.Writable pSTRD ∧ s.mapOf n.toNat = none → 
    ∃ t, Sys2Proof.Machine.exec (.recoverGo n) s = .next t ∧ (t.hub.recov = s.hub.recov ∧ t.bit pSTRD HDR.ERRSTAT
    STRD.E_CFG_REJ = true))

/-- TSF in 2,500 to 25,000 is stored, pending while the grid runs; outside, it is kept with TSF_RANGE, and so is,
with a closed strand of more than 24 cells, one below the budget of its longest (stated before the grid runs).
CTRL.RUN with T0 at least two periods ahead starts the grid at T0 with that period, index 0, and opens the
inter-hub record streams; with T0 nearer it raises CFG_REJ. RUN 0 clears RUN, leaves STAT.RUN as it was, and
closes port 8's record stream if the grid was to run. GRIDCTL.GO starts a cell's grid at its first index; it
and a hub's commit leave no PWM unit waiting for the grid. HUB_COMMIT at a due commit advances the index,
clears the superframe's loop and telemetry marks, and STAT.RUN follows RUN. COMMIT_APPLY at a due commit of a
cell: with no candidate nothing is applied and MISSED counts; with one, EPOCH is its epoch, FLOOR the greater
of itself and its term, MISSED 0. LOOP_INSTANT notes the loop's tick; TELEMETRY_DEADLINE ends telemetry and,
Isobar off, predicts the next commit. CNTCLR clears Vane's five counters but for what counts in that tick
(R101). Which candidate stands, T0 read as a triple, and MISSED's count are the model's readings (log entries
19 and 20).

exec answers a next state, under hypotheses on the state and the operands alone, for: tsfWrite, gridRunWrite,
vaneGridGo, hubCommit, commitApply, loopInstant, telemetryDeadline, vaneCntclr. -/
def Obligations.GridAndCommitsAct : Prop :=
  (∀ (s : State) (v : Word), s.Writable pSTRD ∧ (s.standalone = false ∨ ∀ k : Fin 4, s.strandEn k = true → s.slen k ≤
    24) ∧ 2500 ≤ v.toNat % 2 ^ 15 ∧ v.toNat % 2 ^ 15 ≤ 25000 → 
    ∃ t, Sys2Proof.Machine.exec (.tsfWrite v) s = .next t ∧ (t.get pSTRD STRD.TSF_PERIOD = v.toNat % 2 ^ 15 ∧
    (s.gridUp = true → s.hub.ann = none ∨ s.on pSTRD STRD.STAT_TSF_PEND = true → t.get pSTRD STRD.STAT_TSF_PEND =
    1))) ∧
  (∀ (s : State) (v : Word) (k : Fin 4), s.Writable pSTRD ∧ s.standalone = true ∧ s.strandEn k = true ∧ 24 < s.slen
    k ∧ (∀ j : Fin 4, s.strandEn j = true → s.slen j ≤ s.slen k) ∧ 2500 ≤ v.toNat % 2 ^ 15 ∧ v.toNat % 2 ^ 15 ≤
    25000 ∧ s.gridUp = false → 
    ∃ t, Sys2Proof.Machine.exec (.tsfWrite v) s = .next t ∧ (t.get pSTRD STRD.TSF_PERIOD = (if v.toNat % 2 ^ 15 *
    tick16 < s.nominalBudget (s.slen k) + s.get pSTRD STRD.SAMPOFS_OFS * tick16 then s.get pSTRD STRD.TSF_PERIOD
    else v.toNat % 2 ^ 15) ∧ (v.toNat % 2 ^ 15 * tick16 < s.nominalBudget (s.slen k) + s.get pSTRD STRD.SAMPOFS_OFS
    * tick16 → t.bit pSTRD HDR.ERRSTAT STRD.E_TSF_RANGE = true))) ∧
  (∀ (s : State) (v : Word), s.Writable pSTRD ∧ (v.toNat % 2 ^ 15 < 2500 ∨ 25000 < v.toNat % 2 ^ 15) → 
    ∃ t, Sys2Proof.Machine.exec (.tsfWrite v) s = .next t ∧ (t.get pSTRD STRD.TSF_PERIOD = s.get pSTRD
    STRD.TSF_PERIOD ∧ t.bit pSTRD HDR.ERRSTAT STRD.E_TSF_RANGE = true)) ∧
  (∀ (s : State), s.Writable pSTRD ∧ s.on pSTRD STRD.CTRL_RUN = false ∧ s.now16 + 2 * s.get pSTRD STRD.TSF_PERIOD *
    tick16 ≤ s.getTrip pSTRD t0Trip → 
    ∃ t, Sys2Proof.Machine.exec (.gridRunWrite true) s = .next t ∧ (t.get pSTRD STRD.CTRL_RUN = 1 ∧ t.hgT0 =
    s.getTrip pSTRD t0Trip ∧ t.hgTsf = s.get pSTRD STRD.TSF_PERIOD ∧ t.hub.idx = 0 ∧ t.strEn 8 30 = true ∧ t.strEn
    9 31 = true)) ∧
  (∀ (s : State), s.Writable pSTRD ∧ s.on pSTRD STRD.CTRL_RUN = false ∧ s.getTrip pSTRD t0Trip < s.now16 + 2 *
    s.get pSTRD STRD.TSF_PERIOD * tick16 → 
    ∃ t, Sys2Proof.Machine.exec (.gridRunWrite true) s = .next t ∧ (t.get pSTRD STRD.CTRL_RUN = s.get pSTRD
    STRD.CTRL_RUN ∧ t.bit pSTRD HDR.ERRSTAT STRD.E_CFG_REJ = true)) ∧
  (∀ (s : State), s.Writable pSTRD → 
    ∃ t, Sys2Proof.Machine.exec (.gridRunWrite false) s = .next t ∧ (t.get pSTRD STRD.CTRL_RUN = 0 ∧ t.get pSTRD
    STRD.STAT_RUN = s.get pSTRD STRD.STAT_RUN ∧ (s.on pSTRD STRD.CTRL_RUN = true → t.strEn 8 30 = false))) ∧
  (∀ (s : State), s.Writable pVANE ∧ s.isCell = true → 
    ∃ t, Sys2Proof.Machine.exec (.vaneGridGo) s = .next t ∧ (t.get pVANE VANE.GRIDCTL_RUN = 1 ∧ t.get pVANE
    VANE.STAT_GRID = 1 ∧ t.vn.idx = s.firstIdx ∧ (∀ m : Fin 6, t.get (pPWMU m.val) PWMU.STAT_WAITGRID = 0))) ∧
  (∀ (s : State), s.phase = .running ∧ s.gridUp = true ∧ s.onSyna = true ∧ s.commitDue s.hub.idx = true ∧
    s.commitPassed = false → 
    ∃ t, Sys2Proof.Machine.exec (.hubCommit) s = .next t ∧ (t.hub.idx = s.hub.idx + 1 ∧ t.sf = s.sf + 1 ∧
    t.hub.loopAt = none ∧ t.hub.teleDone = false ∧ t.get pSTRD STRD.STAT_RUN = b2n (s.on pSTRD STRD.CTRL_RUN) ∧ (∀
    m : Fin 6, t.get (pPWMU m.val) PWMU.STAT_WAITGRID = 0))) ∧
  (∀ (s : State), s.phase = .running ∧ s.isCell = true ∧ s.gridOn = true ∧ s.onSyna = true ∧ s.commitDue s.vn.idx =
    true ∧ s.commitPassed = false ∧ (s.vn.cands.find? fun c => c.idx == s.vn.idx) = none ∧ s.vn.begun = true ∧
    s.get pVANE VANE.STAT_MISSED < 2 → 
    ∃ t, Sys2Proof.Machine.exec (.commitApply) s = .next t ∧ (t.vn.idx = s.vn.idx + 1 ∧ t.sf = s.sf + 1 ∧ t.applied
    = s.applied ∧ t.get pVANE VANE.STAT_MISSED = s.get pVANE VANE.STAT_MISSED + 1)) ∧
  (∀ (s : State) (c : Cand), s.phase = .running ∧ s.isCell = true ∧ s.gridOn = true ∧ s.onSyna = true ∧ s.commitDue
    s.vn.idx = true ∧ s.commitPassed = false ∧ (s.vn.cands.find? fun c => c.idx == s.vn.idx) = some c ∧ s.get pSYSC
    SYSC.CELLSTATE_STATE ≠ 5 → 
    ∃ t, Sys2Proof.Machine.exec (.commitApply) s = .next t ∧ (t.vn.idx = s.vn.idx + 1 ∧ t.applied = s.applied + (if
    1 ≤ s.get pSYSC SYSC.CELLSTATE_STATE ∧ s.get pSYSC SYSC.CELLSTATE_STATE ≤ 3 then 1 else 0) ∧ t.get pVANE
    VANE.EPOCH = c.epoch % 2 ^ 32 ∧ t.get pVANE VANE.FLOOR = max (s.get pVANE VANE.FLOOR) (c.epoch / 2) % 2 ^ 31 ∧
    t.get pVANE VANE.STAT_MISSED = 0)) ∧
  (∀ (s : State), s.phase = .running ∧ s.isCell = false ∧ s.on pSTRD STRD.STAT_RUN = true ∧ s.hub.loopAt = none ∧
    s.loopDue = true → 
    ∃ t, Sys2Proof.Machine.exec (.loopInstant) s = .next t ∧ (t.hub.loopAt = some s.ticks ∧ t.iso.ended = 0)) ∧
  (∀ (s : State), s.phase = .running ∧ s.isCell = false ∧ s.on pSTRD STRD.STAT_RUN = true ∧ s.hub.teleDone = false
    ∧ s.teleDue = true → 
    ∃ t, Sys2Proof.Machine.exec (.telemetryDeadline) s = .next t ∧ (t.hub.teleDone = true ∧ (s.on pISOB
    ISOB.CTRL_EN = false → t.hub.pred ≠ []))) ∧
  (∀ (s : State), s.Writable pVANE ∧ s.isCell = true → 
    ∃ t, Sys2Proof.Machine.exec (.vaneCntclr) s = .next t ∧ (t.get pVANE VANE.OUTWIN_CNT = s.counted pVANE
    VANE.OUTWIN_CNT ∧ t.get pVANE VANE.LATE_CNT = s.counted pVANE VANE.LATE_CNT ∧ t.get pVANE VANE.LOSE_CNT =
    s.counted pVANE VANE.LOSE_CNT ∧ t.get pVANE VANE.STALE_CNT = s.counted pVANE VANE.STALE_CNT ∧ t.get pVANE
    VANE.ALTUSE_CNT = s.counted pVANE VANE.ALTUSE_CNT))

/-- PEER_RECORD_SEND of a running sending hub, port 8 up and no section or bulk stream in use, queues the record's
head for that peer. PEER_RECORD_RX of at least 64 bytes on a port that receives stores the peer's epoch and
hub, ends its misses, and never leaves FLOOR below the record's term. PEER_RECORD_MISS counts a miss, and for
the partner sets HBMISS to it, at most 3. HUB_CLAIM by hub A after eight observed superframes with no other
claimant claims term FLOOR + 1: EPOCH 2 (FLOOR + 1), FLOOR one up, ACTIVE; with another claimant seen it
decides without claiming. HUBCTL.FORCE of a standby takes over: ACTIVE, EPOCH of the next term with its hub
bit, a takeover counted and flagged. STEPDN makes it standby: ACTIVE and SYNCED 0, EPOCH's hub bit its own,
STEPDOWN flagged. The counts of superframes observed are the model's own fields (log entry 20).

exec answers a next state, under hypotheses on the state and the operands alone, for: peerRecordSend,
peerRecordRx, peerRecordMiss, hubClaim, hubctlForce, hubctlStepdn. -/
def Obligations.HubsOfAPairAct : Prop :=
  (∀ (s : State), s.phase = .running ∧ s.isCell = false ∧ s.on pSTRD STRD.STAT_RUN = true ∧ s.hub.sending = true ∧ 2
    ≤ s.linkSt 8 ∧ s.addsSection 0 = false ∧ s.strEn 8 30 = false ∧ 0 < s.hub.peers.length → 
    ∃ t, Sys2Proof.Machine.exec (.peerRecordSend) s = .next t ∧ ((t.peer 0).out = (s.peer 0).out ++ [s.recordHead
    0])) ∧
  (∀ (s : State) (i : Fin 2) (bs : List Byte), s.phase = .running ∧ s.isCell = false ∧ s.rxRuns (8 + i) = true ∧
    i.val < s.hub.peers.length ∧ 64 ≤ bs.length ∧ s.get pVANE VANE.FLOOR < 2 ^ 31 → 
    ∃ t, Sys2Proof.Machine.exec (.peerRecordRx i bs) s = .next t ∧ ((t.peer i).epoch = fieldBE bs 0 4 ∧ (t.peer
    i).hub = fieldBE bs 8 1 / 64 ∧ (t.peer i).missed = 0 ∧ (t.peer i).came = some (fieldBE bs 10 2) ∧ fieldBE bs 4
    4 % 2 ^ 31 ≤ t.get pVANE VANE.FLOOR)) ∧
  (∀ (s : State) (i : Fin 2), s.phase = .running ∧ s.isCell = false ∧ s.on pSTRD STRD.STAT_RUN = true ∧ i.val <
    s.hub.peers.length ∧ s.loopDue = true ∧ (s.peer i).came ≠ some ((s.hub.idx + 65534) % 65536) → 
    ∃ t, Sys2Proof.Machine.exec (.peerRecordMiss i) s = .next t ∧ ((t.peer i).missed = (s.peer i).missed + 1 ∧
    (t.peer i).heard = 0 ∧ (s.partner = some i.val → t.get pVANE VANE.STAT_HBMISS = min ((s.peer i).missed + 1)
    3))) ∧
  (∀ (s : State), s.phase = .running ∧ s.isCell = false ∧ s.standalone = false ∧ s.hubB = false ∧ s.hub.decided =
    false ∧ s.hub.sawOther = false ∧ s.on pSTRD STRD.STAT_RUN = true ∧ 8 ≤ s.hub.observed ∧ s.get pVANE VANE.FLOOR
    < 2 ^ 31 - 1 → 
    ∃ t, Sys2Proof.Machine.exec (.hubClaim) s = .next t ∧ (t.hub.decided = true ∧ t.get pVANE VANE.EPOCH = 2 *
    (s.get pVANE VANE.FLOOR + 1) ∧ t.get pVANE VANE.FLOOR = s.get pVANE VANE.FLOOR + 1 ∧ t.get pVANE
    VANE.STAT_ACTIVE = 1)) ∧
  (∀ (s : State), s.phase = .running ∧ s.isCell = false ∧ s.standalone = false ∧ s.hub.decided = false ∧
    s.hub.sawOther = true ∧ s.on pSTRD STRD.STAT_RUN = true ∧ 8 ≤ s.hub.observed → 
    ∃ t, Sys2Proof.Machine.exec (.hubClaim) s = .next t ∧ (t.hub.decided = true ∧ t.get pVANE VANE.EPOCH = s.get
    pVANE VANE.EPOCH ∧ t.get pVANE VANE.STAT_ACTIVE = s.get pVANE VANE.STAT_ACTIVE)) ∧
  (∀ (s : State), s.Writable pVANE ∧ s.partner.isSome = true ∧ s.on pVANE VANE.STAT_ACTIVE = false ∧ s.get pVANE
    VANE.FLOOR < 2 ^ 31 - 1 ∧ s.get pVANE VANE.TAKECNT_TAKES < 65535 → 
    ∃ t, Sys2Proof.Machine.exec (.hubctlForce) s = .next t ∧ (t.get pVANE VANE.STAT_ACTIVE = 1 ∧ t.get pVANE
    VANE.EPOCH = 2 * (s.get pVANE VANE.FLOOR + 1) + b2n s.hubB ∧ t.get pVANE VANE.TAKECNT_TAKES = s.get pVANE
    VANE.TAKECNT_TAKES + 1 ∧ t.bit pVANE HDR.IRQFLG VANE.I_TAKEOVER = true)) ∧
  (∀ (s : State), s.Writable pVANE ∧ s.partner.isSome = true → 
    ∃ t, Sys2Proof.Machine.exec (.hubctlStepdn) s = .next t ∧ (t.get pVANE VANE.STAT_ACTIVE = 0 ∧ t.get pVANE
    VANE.STAT_SYNCED = 0 ∧ t.get pVANE VANE.EPOCH = (2 * (s.get pVANE VANE.EPOCH / 2) + b2n s.hubB) % 2 ^ 32 ∧
    t.bit pVANE HDR.IRQFLG VANE.I_STEPDOWN = true))

/-- ISOBAR_START with Isobar enabled, telemetry ended, the loops done and no run begun starts a run (BUSY); with
the last run still BUSY it only sets PEND, and the run goes on. ISOBAR_LOOP_LATE starts the run with LOOP_LATE
though a waited loop is not done. ISOBAR_RUN_END with none pending ends it: BUSY 0, DONE raised, the run
counted, DUR its ticks, and the commit predicted. CTRL.EN is stored; 0 drops a pending run and leaves the
present one. EXCL sets or clears bit 31 of the cell's control word, for n below 192; above, EXCLSET raises
CFG_REJ. The run's working form is the model's (log entry 21).

exec answers a next state, under hypotheses on the state and the operands alone, for: isobarStart,
isobarLoopLate, isobarRunEnd, isobarEnableWrite, exclSet, exclClr. -/
def Obligations.IsobarActs : Prop :=
  (∀ (s : State), s.phase = .running ∧ s.isCell = false ∧ s.on pISOB ISOB.CTRL_EN = true ∧ s.hub.teleDone = true ∧
    s.iso.started = false ∧ s.loopsDone = true ∧ s.on pISOB ISOB.STAT_BUSY = false → 
    ∃ t, Sys2Proof.Machine.exec (.isobarStart) s = .next t ∧ (t.get pISOB ISOB.STAT_BUSY = 1 ∧ t.iso.started = true
    ∧ t.iso.run.isSome = true ∧ t.iso.began = s.ticks)) ∧
  (∀ (s : State), s.phase = .running ∧ s.isCell = false ∧ s.on pISOB ISOB.CTRL_EN = true ∧ s.hub.teleDone = true ∧
    s.iso.started = false ∧ s.loopsDone = true ∧ s.on pISOB ISOB.STAT_BUSY = true ∧ s.iso.pend = false → 
    ∃ t, Sys2Proof.Machine.exec (.isobarStart) s = .next t ∧ (t.get pISOB ISOB.STAT_PEND = 1 ∧ t.iso.pend = true ∧
    t.iso.run = s.iso.run)) ∧
  (∀ (s : State), s.Live pISOB ∧ s.isCell = false ∧ s.on pISOB ISOB.CTRL_EN = true ∧ s.hub.teleDone = true ∧
    s.iso.started = false ∧ s.loopsDone = false ∧ s.on pISOB ISOB.STAT_BUSY = false → 
    ∃ t, Sys2Proof.Machine.exec (.isobarLoopLate) s = .next t ∧ (t.get pISOB ISOB.STAT_BUSY = 1 ∧ t.bit pISOB
    HDR.ERRSTAT ISOB.E_LOOP_LATE = true)) ∧
  (∀ (s : State) (r : IsoRun), s.Live pISOB ∧ s.iso.run = some r ∧ s.iso.pend = false ∧ (∀ x ∈ r.regs, x.1.key
    pISOB ≠ ISOB.STAT_BUSY.key pISOB ∧ x.1.key pISOB ≠ ISOB.RUNSTAT_DUR.key pISOB) → 
    ∃ t, Sys2Proof.Machine.exec (.isobarRunEnd) s = .next t ∧ (t.get pISOB ISOB.STAT_BUSY = 0 ∧ t.iso.run = none ∧
    t.isoRuns = s.isoRuns + 1 ∧ t.bit pISOB HDR.IRQFLG ISOB.I_DONE = true ∧ t.get pISOB ISOB.RUNSTAT_DUR = (s.ticks
    - s.iso.began) % 65536 ∧ t.hub.pred ≠ [])) ∧
  (∀ (s : State) (v : Word), s.Writable pISOB → 
    ∃ t, Sys2Proof.Machine.exec (.isobarEnableWrite v) s = .next t ∧ (t.get pISOB ISOB.CTRL_EN = v.toNat % 2 ∧
    (v.toNat % 2 = 0 → t.iso.pend = false) ∧ t.iso.run = s.iso.run)) ∧
  (∀ (s : State) (n : BitVec 8), s.Writable pISOB ∧ n.toNat < 192 → 
    ∃ t, Sys2Proof.Machine.exec (.exclSet n) s = .next t ∧ ((t.cell n.toNat).ctl = (s.cell n.toNat).ctl % 2 ^ 31 +
    2 ^ 31 ∧ (t.cell n.toNat).ctlF = (s.cell n.toNat).ctlF)) ∧
  (∀ (s : State) (n : BitVec 8), s.Writable pISOB ∧ 192 ≤ n.toNat → 
    ∃ t, Sys2Proof.Machine.exec (.exclSet n) s = .next t ∧ (t.bit pISOB HDR.ERRSTAT ISOB.E_CFG_REJ = true ∧
    t.iso.cells = s.iso.cells)) ∧
  (∀ (s : State) (n : BitVec 8), s.Writable pISOB ∧ n.toNat < 192 → 
    ∃ t, Sys2Proof.Machine.exec (.exclClr n) s = .next t ∧ ((t.cell n.toNat).ctl = (s.cell n.toNat).ctl % 2 ^ 31 ∧
    (t.cell n.toNat).ctlF = (s.cell n.toNat).ctlF))

/-- For every initiator that reaches the bus. An aligned sub-word write to a defined, hearing page raises ACC_REJ
there and changes no other register. A misaligned access to the register pages or the block memory windows, an
access to a reserved address, a write to the boot ROM or to a read-only window, and a management frame outside
pages and windows answer a bus error and change no register and no memory byte. A read of the first word of a
wide group answers it and latches the others from the same state. A write of IRQEN stores its defined bits; on
a locked page, where they differ, it keeps it with LOCK_ERR. A write of IRQFLG (GPIO's and the UARTs', which
follow levels, apart) clears exactly the bits written 1 that the block has not raised in the same tick, of
ERRSTAT likewise each defined bit, FIRST becoming 0 when none is left. A word written to shared SRAM reads back
little-endian. In the DRAM window, with DDRC ready, a write stores its bytes little-endian at WINBASE plus
offset and a read answers them; past the DRAM's end it answers a bus error with WIN_RANGE. WINBASE is stored.
That the commands act by address and size alone, whatever case they are named for, and who reaches the bus, are
log entries 3 and 12.

exec answers a next state, under hypotheses on the state and the operands alone, for: subWordWrite,
misalignedAccess, unmappedAccess, wideReadLatch, registerWrite, ddrWindowAccess, winbaseWrite. -/
def Obligations.BusAccessesAct : Prop :=
  (∀ (s : State) (who : Who) (addr : BitVec 32) (size : Size) (v : Word) (pg : Nat), s.Ready ∧ s.onBus who = true ∧
    0x40000000 ≤ addr.toNat ∧ pg = (addr.toNat - 0x40000000) / 4096 ∧ (pageKind pg).isSome = true ∧ size ≠ .word ∧
    addr.toNat % sizeLen size = 0 ∧ s.deaf pg = false → 
    ∃ t, Sys2Proof.Machine.exec (.subWordWrite who addr size v) s = .next t ∧ (t.bit pg HDR.ERRSTAT HDR.E_ACC_REJ =
    true ∧ t.reply = none ∧ s.KeepsBut t.toDev [(pg, 0x020, 0), (pg, 0x028, 8)] ∧ s.KeepsMem t)) ∧
  (∀ (s : State) (who : Who) (addr : BitVec 32) (size : Size) (write : Option Word), s.Ready ∧ s.onBus who = true ∧
    0x40000000 ≤ addr.toNat ∧ addr.toNat < 0x48040000 ∧ (addr.toNat < 0x48000000 → (pageKind ((addr.toNat -
    0x40000000) / 4096)).isSome = true) ∧ addr.toNat % sizeLen size ≠ 0 → 
    ∃ t, Sys2Proof.Machine.exec (.misalignedAccess who addr size write) s = .next t ∧ (t.reply = some none ∧
    s.KeepsBut t.toDev [] ∧ s.KeepsMem t)) ∧
  (∀ (s : State) (who : Who) (addr : BitVec 32) (size : Size) (write : Option Word), s.Ready ∧ s.onBus who = true ∧
    (0x20400000 ≤ addr.toNat ∧ addr.toNat < 0x40000000 ∨ 0x48040000 ≤ addr.toNat ∧ addr.toNat < 0x80000000 ∨
    0x40000000 ≤ addr.toNat ∧ addr.toNat < 0x48000000 ∧ pageKind ((addr.toNat - 0x40000000) / 4096) = none ∨
    0x10000000 ≤ addr.toNat ∧ addr.toNat < 0x10010000 ∧ write.isSome = true ∨ (∃ p : Fin 2, who = .mgmt p) ∧
    (addr.toNat < 0x40000000 ∨ 0x48040000 ≤ addr.toNat)) → 
    ∃ t, Sys2Proof.Machine.exec (.unmappedAccess who addr size write) s = .next t ∧ (t.reply = some none ∧
    s.KeepsBut t.toDev [] ∧ s.KeepsMem t)) ∧
  (∀ (s : State) (who : Who) (addr : BitVec 32) (size : Size) (write : Option Word), s.Ready ∧ s.onBus who = true ∧
    (0x10000000 ≤ addr.toNat ∧ addr.toNat < 0x10010000 ∨ 0x48010000 ≤ addr.toNat ∧ addr.toNat < 0x48020000 ∨
    0x48030000 ≤ addr.toNat ∧ addr.toNat < 0x48040000) ∧ write.isSome = true → 
    ∃ t, Sys2Proof.Machine.exec (.unmappedAccess who addr size write) s = .next t ∧ (t.reply = some none ∧
    s.KeepsBut t.toDev [] ∧ s.KeepsMem t)) ∧
  (∀ (s : State) (who : Who) (addr : BitVec 32) (k : Kind) (n pg off : Nat), s.phase = .running ∧ s.onBus who =
    true ∧ addr.toNat = 0x40000000 + pg * 4096 + off ∧ off < 4096 ∧ off % 4 = 0 ∧ pageKind pg = some (k, n) ∧
    wideRest k off ≠ [] ∧ s.latched.lookup (pg * 4096 + off) = none ∧ s.absent pg = false ∧ s.inBlk.contains pg =
    false → 
    ∃ t, Sys2Proof.Machine.exec (.wideReadLatch who addr .word) s = .next t ∧ (t.reply = some (some ((s.refresh pg
    off).readWord pg off % 2 ^ 32)) ∧ ∀ o ∈ wideRest k off, t.latched.lookup (pg * 4096 + o) = some ((s.refresh pg
    off).readWord pg o))) ∧
  (∀ (s : State) (who : Who) (addr : BitVec 32) (v : Word) (pg : Nat), s.Ready ∧ s.onBus who = true ∧ (pageKind
    pg).isSome = true ∧ addr.toNat = 0x40000000 + pg * 4096 + 0x018 ∧ s.deaf pg = false ∧ s.locked pg = false ∧
    s.unlock.contains pg = false → 
    ∃ t, Sys2Proof.Machine.exec (.registerWrite who addr .word v) s = .next t ∧ (t.get pg HDR.IRQEN = v.toNat &&&
    irqDefined pg ∧ t.reply = none ∧ s.KeepsBut t.toDev [(pg, 0x018, 0)] ∧ s.KeepsMem t)) ∧
  (∀ (s : State) (who : Who) (addr : BitVec 32) (v : Word) (pg : Nat), s.Ready ∧ s.onBus who = true ∧ (pageKind
    pg).isSome = true ∧ addr.toNat = 0x40000000 + pg * 4096 + 0x018 ∧ s.deaf pg = false ∧ s.locked pg = true ∧
    v.toNat &&& irqDefined pg ≠ s.get pg HDR.IRQEN → 
    ∃ t, Sys2Proof.Machine.exec (.registerWrite who addr .word v) s = .next t ∧ (t.get pg HDR.IRQEN = s.get pg
    HDR.IRQEN ∧ t.bit pg HDR.ERRSTAT HDR.E_LOCK_ERR = true ∧ s.KeepsMem t)) ∧
  (∀ (s : State) (who : Who) (addr : BitVec 32) (v : Word) (pg : Nat), s.Ready ∧ s.onBus who = true ∧ (pageKind
    pg).isSome = true ∧ pg ≠ pGPIO ∧ pg ≠ pUART 0 ∧ pg ≠ pUART 1 ∧ addr.toNat = 0x40000000 + pg * 4096 + 0x01C ∧
    s.deaf pg = false ∧ s.unlock.contains pg = false ∧ s.get pg HDR.IRQFLG < 2 ^ 32 → 
    ∃ t, Sys2Proof.Machine.exec (.registerWrite who addr .word v) s = .next t ∧ (t.get pg HDR.IRQFLG = s.get pg
    HDR.IRQFLG - (s.get pg HDR.IRQFLG &&& (v.toNat - (v.toNat &&& s.raised pg HDR.IRQFLG))) ∧ s.KeepsBut t.toDev
    [(pg, 0x01C, 0)] ∧ s.KeepsMem t)) ∧
  (∀ (s : State) (who : Who) (addr : BitVec 32) (v : Word) (pg : Nat), s.Ready ∧ s.onBus who = true ∧ (pageKind
    pg).isSome = true ∧ addr.toNat = 0x40000000 + pg * 4096 + 0x020 ∧ s.deaf pg = false ∧ s.unlock.contains pg =
    false → 
    ∃ t, Sys2Proof.Machine.exec (.registerWrite who addr .word v) s = .next t ∧ ((∀ b ∈ definedErrs pg, t.bit pg
    HDR.ERRSTAT b = (s.bit pg HDR.ERRSTAT b && (!bitAt v.toNat b || s.told.contains (pg, b)))) ∧ (t.get pg
    HDR.ERRSTAT = 0 → t.get pg HDR.FIRST = 0) ∧ s.KeepsBut t.toDev [(pg, 0x020, 0), (pg, 0x028, 8)] ∧ s.KeepsMem
    t)) ∧
  (∀ (s : State) (who : Who) (addr : BitVec 32) (v : Word) (i : Fin 4), s.Ready ∧ s.onBus who = true ∧ (∀ p : Fin
    2, who ≠ .mgmt p) ∧ 0x20000000 ≤ addr.toNat ∧ addr.toNat + 4 ≤ 0x20400000 → 
    ∃ t, Sys2Proof.Machine.exec (.registerWrite who addr .word v) s = .next t ∧ (t.reply = none ∧ t.mems.byte .sram
    (addr.toNat - 0x20000000 + i) = (toLE 4 v.toNat).getD i 0 ∧ s.KeepsBut t.toDev [])) ∧
  (∀ (s : State) (who : Who) (addr : BitVec 31) (size : Size) (v : Word) (i : Fin 4), s.phase = .running ∧ s.onBus
    who = true ∧ s.isCell = false ∧ i.val < sizeLen size ∧ s.get pDDRC DDRC.WINBASE_BASE * 2 ^ 28 + addr.toNat +
    sizeLen size ≤ s.dramSize ∧ s.on pDDRC DDRC.STAT_READY = true → 
    ∃ t, Sys2Proof.Machine.exec (.ddrWindowAccess who addr size (some v) none) s = .next t ∧ (t.reply = none ∧
    t.mems.byte .dram (s.get pDDRC DDRC.WINBASE_BASE * 2 ^ 28 + addr.toNat + i) = (toLE 4 v.toNat).getD i 0)) ∧
  (∀ (s : State) (who : Who) (addr : BitVec 31) (size : Size), s.Ready ∧ s.onBus who = true ∧ s.isCell = false ∧
    s.get pDDRC DDRC.WINBASE_BASE * 2 ^ 28 + addr.toNat + sizeLen size ≤ s.dramSize ∧ s.on pDDRC DDRC.STAT_READY =
    true → 
    ∃ t, Sys2Proof.Machine.exec (.ddrWindowAccess who addr size none none) s = .next t ∧ (t.reply = some (some
    (leNat (s.mems.bytes .dram (s.get pDDRC DDRC.WINBASE_BASE * 2 ^ 28 + addr.toNat) (sizeLen size)))) ∧ s.KeepsBut
    t.toDev [] ∧ s.KeepsMem t)) ∧
  (∀ (s : State) (who : Who) (addr : BitVec 31) (size : Size) (write : Option Word) (ecc : Option Bool), s.Live
    pDDRC ∧ s.onBus who = true ∧ s.isCell = false ∧ s.dramSize < s.get pDDRC DDRC.WINBASE_BASE * 2 ^ 28 +
    addr.toNat + sizeLen size → 
    ∃ t, Sys2Proof.Machine.exec (.ddrWindowAccess who addr size write ecc) s = .next t ∧ (t.reply = some none ∧
    t.bit pDDRC HDR.ERRSTAT DDRC.E_WIN_RANGE = true)) ∧
  (∀ (s : State) (v : Word), s.Writable pDDRC → 
    ∃ t, Sys2Proof.Machine.exec (.winbaseWrite v) s = .next t ∧ (t.get pDDRC DDRC.WINBASE_BASE =
    DDRC.WINBASE_BASE.pick v.toNat))

/-- A word written to a shadow register of a Lathe engine (0x040 to 0x3FF) is stored while the engine is OPEN and
unarmed; while STEP_SETPOINT is accepted, those of the set-point ramp ignore it; armed or closed it is refused
with ACC_REJ, nothing else changed. FEATACC not yet done takes the accepted features (only offered ones) and
DONE where the write sets it, on a quiescent page; once done it is refused with FEAT_ERR. LOCK: 0x5A5A locks,
0xC0DE locks for good, 0xA5C3 begins an unlock unless sticky (then LOCK_ERR), any other key raises LOCK_ERR and
keeps LOCKED; 0x3C5A after 0xA5C3 unlocks. An unlock not completed in time ends, with LOCK_ERR on a locked
page. ERRINJ of a defined error of class above 0 sets its ERRSTAT bit and reports it as injected; on a locked
page a write of 1 to a defined bit raises LOCK_ERR. A word written to a page of LINK2 to LINK7, PEER0 or PEER1
of a cell, whose blocks R7 holds in reset, changes nothing and reports nothing (the model's choice, log entry
12). LINK0 and LINK1 of a cell accept their features from the hub too and are not covered by the acceptance
clause. That ERRINJ sets ERRSTAT with the report tagged, that it raises LOCK_ERR on a locked page, and that a
lone 0x3C5A counts as any other key are the model's readings (log entry 13).

exec answers a next state, under hypotheses on the state and the operands alone, for: lcWrite, feataccWrite,
lockKeyWrite, unlockKeyTimeout, errinjWrite, registerWrite. -/
def Obligations.PageRulesAct : Prop :=
  (∀ (s : State) (n : Fin 8) (off : BitVec 12) (v : Word), s.Ready ∧ s.soc.stop = false ∧ s.deaf (pLE n) = false ∧
    s.locked (pLE n) = false ∧ 0x040 ≤ off.toNat ∧ off.toNat < 0x400 ∧ ((pageFields (pLE n) off.toNat).any fun f =>
    f.acc == .lc) = true ∧ (s.leState n ≠ 0 ∨ s.on (pLE n) LTH.STAT_CLOSEARM = true) → 
    ∃ t, Sys2Proof.Machine.exec (.lcWrite n off v) s = .next t ∧ (t.bit (pLE n) HDR.ERRSTAT HDR.E_ACC_REJ = true ∧
    s.KeepsBut t.toDev [(pLE n, 0x020, 0), (pLE n, 0x028, 8)])) ∧
  (∀ (s : State) (n : Fin 8) (off : BitVec 12) (v : Word), s.Writable (pLE n) ∧ s.leState n = 0 ∧ s.on (pLE n)
    LTH.STAT_CLOSEARM = false ∧ (s.stepSp n = true → off ≠ 0x04C ∧ (off.toNat < 0x050 ∨ 0x060 ≤ off.toNat)) ∧ 0x040
    ≤ off.toNat ∧ off.toNat < 0x400 → 
    ∃ t, Sys2Proof.Machine.exec (.lcWrite n off v) s = .next t ∧ (∀ f ∈ pageFields (pLE n) off.toNat, f.acc = .lc →
    t.get (pLE n) (f.fld off.toNat) = bitsOf v.toNat f.lsb f.wid)) ∧
  (∀ (s : State) (n : Fin 8) (off : BitVec 12) (v : Word), s.Ready ∧ s.Writable (pLE n) ∧ s.leState n = 0 ∧ s.on
    (pLE n) LTH.STAT_CLOSEARM = false ∧ s.stepSp n = true ∧ (off = 0x04C ∨ 0x050 ≤ off.toNat ∧ off.toNat < 0x060) → 
    ∃ t, Sys2Proof.Machine.exec (.lcWrite n off v) s = .next t ∧ (s.KeepsBut t.toDev [] ∧ s.KeepsMem t)) ∧
  (∀ (s : State) (who : Who) (page : BitVec 15) (v : Word) (pg : Nat), s.phase = .running ∧ s.onBus who = true ∧ (∀
    p : Fin 2, who ≠ .mgmt p) ∧ pg = page.toNat ∧ (pageKind pg).isSome = true ∧ s.deaf pg = false ∧ s.locked pg =
    false ∧ s.unlock.contains pg = false ∧ ¬ (s.isCell = true ∧ (pg = pLINK 0 ∨ pg = pLINK 1)) ∧ s.on pg
    HDR.FEATACC_DONE = false ∧ (bitAt v.toNat 31 = true → s.quiescent pg false = true) → 
    ∃ t, Sys2Proof.Machine.exec (.feataccWrite who page v) s = .next t ∧ (t.get pg HDR.FEATACC_ACC = (v.toNat % 2 ^
    31 &&& featOffer pg) ∧ t.get pg HDR.FEATACC_DONE = v.toNat / 2 ^ 31)) ∧
  (∀ (s : State) (who : Who) (page : BitVec 15) (v : Word) (pg : Nat), s.Ready ∧ s.onBus who = true ∧ pg =
    page.toNat ∧ (pageKind pg).isSome = true ∧ s.deaf pg = false ∧ s.locked pg = false ∧ s.on pg HDR.FEATACC_DONE =
    true → 
    ∃ t, Sys2Proof.Machine.exec (.feataccWrite who page v) s = .next t ∧ (t.bit pg HDR.ERRSTAT HDR.E_FEAT_ERR =
    true ∧ s.KeepsBut t.toDev [(pg, 0x020, 0), (pg, 0x028, 8)])) ∧
  (∀ (s : State) (who : Who) (page : BitVec 15) (key : BitVec 16) (pg : Nat), s.Ready ∧ s.onBus who = true ∧ pg =
    page.toNat ∧ (pageKind pg).isSome = true ∧ pg ≠ pTSTK ∧ s.deaf pg = false ∧ s.unlock.contains pg = false → 
    ∃ t, Sys2Proof.Machine.exec (.lockKeyWrite who page key) s = .next t ∧ ((key = 0x5A5A → t.get pg
    HDR.LOCK_LOCKED = 1 ∧ s.KeepsBut t.toDev [(pg, 0x02C, 31)]) ∧ (key = 0xC0DE → t.get pg HDR.LOCK_LOCKED = 1 ∧
    t.get pg HDR.LOCK_STICKY = 1 ∧ s.KeepsBut t.toDev [(pg, 0x02C, 31), (pg, 0x02C, 30)]) ∧ (key = 0xA5C3 → s.on pg
    HDR.LOCK_STICKY = false → t.unlock.contains pg = true ∧ s.KeepsBut t.toDev []) ∧ (key = 0xA5C3 → s.on pg
    HDR.LOCK_STICKY = true → t.bit pg HDR.ERRSTAT HDR.E_LOCK_ERR = true) ∧ (key ≠ 0x5A5A ∧ key ≠ 0xC0DE ∧ key ≠
    0xA5C3 → t.bit pg HDR.ERRSTAT HDR.E_LOCK_ERR = true ∧ t.get pg HDR.LOCK_LOCKED = s.get pg HDR.LOCK_LOCKED))) ∧
  (∀ (s : State) (who : Who) (page : BitVec 15) (pg : Nat), s.Ready ∧ s.onBus who = true ∧ pg = page.toNat ∧
    (pageKind pg).isSome = true ∧ pg ≠ pTSTK ∧ s.deaf pg = false ∧ s.unlock.contains pg = true → 
    ∃ t, Sys2Proof.Machine.exec (.lockKeyWrite who page 0x3C5A) s = .next t ∧ (t.get pg HDR.LOCK_LOCKED = 0 ∧
    t.unlock.contains pg = false ∧ s.KeepsBut t.toDev [(pg, 0x02C, 31)])) ∧
  (∀ (s : State) (page : BitVec 15) (pg : Nat), s.Live pg ∧ pg = page.toNat ∧ pg ≠ pTSTK ∧ s.unlock.contains pg =
    true → 
    ∃ t, Sys2Proof.Machine.exec (.unlockKeyTimeout page) s = .next t ∧ (t.unlock.contains pg = false ∧ (s.locked pg
    = true → t.bit pg HDR.ERRSTAT HDR.E_LOCK_ERR = true) ∧ t.get pg HDR.LOCK_LOCKED = s.get pg HDR.LOCK_LOCKED)) ∧
  (∀ (s : State) (who : Who) (page : BitVec 15) (v : Word) (pg b : Nat), s.phase = .running ∧ s.onBus who = true ∧
    pg = page.toNat ∧ (pageKind pg).isSome = true ∧ pg ≠ pTSTK ∧ s.deaf pg = false ∧ s.locked pg = false ∧ b ∈
    definedErrs pg ∧ bitAt v.toNat b = true ∧ 0 < s.errClass pg b → 
    ∃ t, Sys2Proof.Machine.exec (.errinjWrite who page v) s = .next t ∧ (t.bit pg HDR.ERRSTAT b = true ∧
    (t.reports.any fun r => r.src == (pageSource pg).1 && r.inst == (pageSource pg).2 && r.bit == b && r.inj) =
    true)) ∧
  (∀ (s : State) (who : Who) (page : BitVec 15) (v : Word) (pg : Nat), s.phase = .running ∧ s.onBus who = true ∧ pg
    = page.toNat ∧ (pageKind pg).isSome = true ∧ s.deaf pg = false ∧ s.locked pg = true ∧ (definedErrs pg).any
    (bitAt v.toNat) = true → 
    ∃ t, Sys2Proof.Machine.exec (.errinjWrite who page v) s = .next t ∧ (t.bit pg HDR.ERRSTAT HDR.E_LOCK_ERR =
    true)) ∧
  (∀ (s : State) (who : Who) (addr : BitVec 32) (v : Word) (pg off : Nat), s.Ready ∧ s.onBus who = true ∧
    addr.toNat = 0x40000000 + pg * 4096 + off ∧ off < 4096 ∧ off % 4 = 0 ∧ s.isCell = true ∧ 0x202 ≤ pg ∧ pg ≤
    0x209 → 
    ∃ t, Sys2Proof.Machine.exec (.registerWrite who addr .word v) s = .next t ∧ (t.reply = none ∧ s.KeepsBut
    t.toDev [] ∧ s.KeepsMem t ∧ t.reports = s.reports ∧ t.sent = s.sent))

/-- Enabling a unit sets EN and WAITLOAD, RUNNING 0, its outputs off, and WAITGRID exactly for SYNC 1 in a carrier
mode without a grid; disabling clears EN and RUNNING, turns the outputs off and drops the edges. LOADALL puts
DUTY and PHASE of every selected unit, as they stood before the writes of its tick (R102), in force (PER unless
refused), counts the load and clears WAITLOAD. A due valley apex starts a switching period there, PEAK expected
exactly in MODE 0, RUNNING 1; the first one takes period and duty in force where the dead times and minimum
pulse leave room. A due peak apex keeps the period. A due edge of the list is taken from it and drives its
output. The times are those of the model's list of edges (log entry 22).

exec answers a next state, under hypotheses on the state and the operands alone, for: pwmEnableWrite, loadall,
pwmApex, pwmEdge. -/
def Obligations.PwmUnitsAct : Prop :=
  (∀ (s : State) (m : Fin 7), s.Writable (pPWMU m) ∧ s.on (pPWMU m) PWMU.CTRL_EN = false → 
    ∃ t, Sys2Proof.Machine.exec (.pwmEnableWrite m true) s = .next t ∧ (t.get (pPWMU m) PWMU.CTRL_EN = 1 ∧ t.get
    (pPWMU m) PWMU.STAT_WAITLOAD = 1 ∧ t.get (pPWMU m) PWMU.STAT_RUNNING = 0 ∧ t.get (pPWMU m) PWMU.STAT_WAITGRID =
    b2n (s.get (pPWMU m) PWMU.CFG_SYNC == 1 && decide (s.pwmMode m < 2) && !s.gridOn) ∧ t.accOf m = 0 ∧ (t.unit
    m).outA = false ∧ (t.unit m).outB = false)) ∧
  (∀ (s : State) (m : Fin 7), s.Writable (pPWMU m) ∧ s.on (pPWMU m) PWMU.CTRL_EN = true → 
    ∃ t, Sys2Proof.Machine.exec (.pwmEnableWrite m false) s = .next t ∧ (t.get (pPWMU m) PWMU.CTRL_EN = 0 ∧ t.get
    (pPWMU m) PWMU.STAT_RUNNING = 0 ∧ (t.unit m).outA = false ∧ (t.unit m).outB = false ∧ (t.unit m).edges = [] ∧
    (t.unit m).sEdges = [])) ∧
  (∀ (s : State) (m : Fin 7), s.Writable pPWMC ∧ s.bit pPWMC PWMC.LDSEL_SOFT m = true ∧ s.loadedT.contains m.val =
    false → 
    ∃ t, Sys2Proof.Machine.exec (.loadall) s = .next t ∧ (t.inForce (pPWMU m) PWMU.DUTY = s.shadow (pPWMU m)
    PWMU.DUTY % 2 ^ PWMU.DUTY.wid ∧ t.inForce (pPWMU m) PWMU.PHASE = s.shadow (pPWMU m) PWMU.PHASE % 2 ^
    PWMU.PHASE.wid ∧ (s.loadRefused m = false → t.inForce (pPWMU m) PWMU.PER = s.shadow (pPWMU m) PWMU.PER % 2 ^
    PWMU.PER.wid) ∧ t.get (pPWMU m) PWMU.LOADINFO_CNT = (s.get (pPWMU m) PWMU.LOADINFO_CNT + 1) % 2 ^
    PWMU.LOADINFO_CNT.wid ∧ t.get (pPWMU m) PWMU.STAT_WAITLOAD = 0)) ∧
  (∀ (s : State) (m : Fin 6) (tv : Nat), s.phase = .running ∧ m.val < s.pwm.length ∧ s.pwmLive m = true ∧ s.pwmMode
    m < 2 ∧ s.nextApex m = (tv, false) ∧ s.commitWaits tv = false ∧ s.due tv = true ∧ s.on (pPWMU m)
    PWMU.STAT_DABBLK = false → 
    ∃ t, Sys2Proof.Machine.exec (.pwmApex m) s = .next t ∧ ((t.unit m).run = true ∧ (t.unit m).vs = tv ∧ (t.unit
    m).peak = (s.pwmMode m == 0) ∧ t.get (pPWMU m) PWMU.STAT_RUNNING = 1)) ∧
  (∀ (s : State) (m : Fin 6) (tv per D : Nat), s.phase = .running ∧ m.val < s.pwm.length ∧ s.pwmLive m = true ∧
    s.pwmMode m < 2 ∧ s.nextApex m = (tv, false) ∧ s.commitWaits tv = false ∧ s.due tv = true ∧ (s.unit m).run =
    false ∧ s.get (pPWMU m) PWMU.CFG_SPP = 1 ∧ s.on (pPWMU m) PWMU.CFG_REFSRC = false ∧ per = s.pwmLen m PWMU.PER ∧
    D = min per (s.pwmLen m PWMU.DUTY) ∧ s.dta m + s.minpw m ≤ D ∧ D + s.dtb m + s.minpw m ≤ per → 
    ∃ t, Sys2Proof.Machine.exec (.pwmApex m) s = .next t ∧ ((t.unit m).dv = D ∧ (t.unit m).len = per * fine16 ∧
    (t.unit m).pol = false)) ∧
  (∀ (s : State) (m : Fin 6) (tp : Nat), s.phase = .running ∧ s.pwmLive m = true ∧ s.pwmMode m < 2 ∧ s.nextApex m =
    (tp, true) ∧ s.commitWaits tp = false ∧ s.due tp = true → 
    ∃ t, Sys2Proof.Machine.exec (.pwmApex m) s = .next t ∧ ((t.unit m).peak = false ∧ (t.unit m).vs = (s.unit
    m).vs)) ∧
  (∀ (s : State) (m : Fin 7) (e : PwmEdge) (rest : List PwmEdge), s.phase = .running ∧ ((s.sFlush m (s.now16 +
    tick16)).unit m).edges = e :: rest ∧ s.due e.at_ = true → 
    ∃ t, Sys2Proof.Machine.exec (.pwmEdge m) s = .next t ∧ ((t.unit m).edges = rest ∧ (if e.outB then (t.unit
    m).outB else (t.unit m).outA) = e.hi))

/-- In COT and CFT modes: the end of the on-time turns the unit off and fixes when it may start; the end of the
off-time (or of the wait without STARTEN) turns it on, RUNNING 1; the event timeout turns it on with
EVT_TIMEOUT. An end event during the on-time ends it and counts ABORT; a start event in the wait turns it on.
DL_RECAL sets the line's fallback bit exactly outside 3,600 to 4,400 ps, counts the recalibration, and raises
DL_UNLOCK outside. A debug halt asserts the hold-off with its cause, every one of units 0 to 5 off, its
accumulator 0. HOLDOFF_END of debug pair 0 as the last cause releases it: enabled units wait for a load; with
another cause left it stays. CLRCNT clears HOLDCNT but for what counts in that tick (R101). The operand for
which timer ended is the model's (log entry 22).

exec answers a next state, under hypotheses on the state and the operands alone, for: cotCftTimer, pwmEvent,
dlRecal, debugHalt, holdoffEnd, holdcntClr. -/
def Obligations.TimedPwmModesAct : Prop :=
  (∀ (s : State) (m : Fin 7), s.phase = .running ∧ s.pwmLive m = true ∧ 2 ≤ s.pwmMode m ∧ (s.unit m).cot = .on → 
    ∃ t, Sys2Proof.Machine.exec (.cotCftTimer m 0) s = .next t ∧ ((t.unit m).cot = .off ∧ (t.unit m).s = false ∧
    (t.unit m).ready = s.cotAt m (s.unit m).ton)) ∧
  (∀ (s : State) (m : Fin 7), s.phase = .running ∧ s.pwmLive m = true ∧ 2 ≤ s.pwmMode m ∧ (s.unit m).cot = .off ∧
    (s.pwmMode m = 2 → s.on (pPWMU m) PWMU.EVCFG_STARTEN = false) → 
    ∃ t, Sys2Proof.Machine.exec (.cotCftTimer m 1) s = .next t ∧ ((t.unit m).cot = .on ∧ (t.unit m).run = true ∧
    (t.unit m).ready = s.cotAt m (s.unit m).toff ∧ t.get (pPWMU m) PWMU.STAT_RUNNING = 1)) ∧
  (∀ (s : State) (m : Fin 7), s.phase = .running ∧ s.pwmLive m = true ∧ s.pwmMode m = 2 ∧ (s.unit m).cot = .wait ∧
    s.Live (pPWMU m) → 
    ∃ t, Sys2Proof.Machine.exec (.cotCftTimer m 2) s = .next t ∧ ((t.unit m).cot = .on ∧ t.bit (pPWMU m)
    HDR.ERRSTAT PWMU.E_EVT_TIMEOUT = true)) ∧
  (∀ (s : State) (m : Fin 7) (el : Nat), s.phase = .running ∧ m ≠ 6 ∧ s.pwmLive m = true ∧ s.pwmMode m = 2 ∧
    s.sqOut (s.get (pPWMU m) PWMU.EVCFG_ENDSQ) = true ∧ s.on (pPWMU m) PWMU.EVCFG_ENDEN = true ∧ (s.unit m).cot =
    .on ∧ s.get (pPWMU m) PWMU.SPCNT_ABORT + 1 < 2 ^ PWMU.SPCNT_ABORT.wid → 
    ∃ t, Sys2Proof.Machine.exec (.pwmEvent m true el) s = .next t ∧ ((t.unit m).cot = .off ∧ t.get (pPWMU m)
    PWMU.SPCNT_ABORT = s.get (pPWMU m) PWMU.SPCNT_ABORT + 1)) ∧
  (∀ (s : State) (m : Fin 7) (el : Nat), s.phase = .running ∧ m ≠ 6 ∧ s.pwmLive m = true ∧ s.pwmMode m = 2 ∧
    s.sqOut (s.get (pPWMU m) PWMU.EVCFG_STARTSQ) = true ∧ s.on (pPWMU m) PWMU.EVCFG_STARTEN = true ∧ (s.unit m).cot
    = .wait ∧ s.on (pPWMU m) PWMU.STAT_DABBLK = false → 
    ∃ t, Sys2Proof.Machine.exec (.pwmEvent m false el) s = .next t ∧ ((t.unit m).cot = .on ∧ (t.unit m).ready =
    s.now16 / tick16 * tick16 ∧ t.get (pPWMU m) PWMU.STAT_RUNNING = 1)) ∧
  (∀ (s : State) (line : Fin 13) (ps : Nat), s.Live pPWMC → 
    ∃ t, Sys2Proof.Machine.exec (.dlRecal line ps) s = .next t ∧ (t.bit pPWMC PWMC.DLSTAT_FB line = decide (ps <
    3600 ∨ 4400 < ps) ∧ t.get pPWMC PWMC.DLSTAT_RECALCNT = (s.get pPWMC PWMC.DLSTAT_RECALCNT + 1) % 2 ^
    PWMC.DLSTAT_RECALCNT.wid ∧ (ps < 3600 ∨ 4400 < ps → t.bit pPWMC HDR.ERRSTAT PWMC.E_DL_UNLOCK = true))) ∧
  (∀ (s : State) (pair : Fin 2) (m : Fin 6), s.phase = .running ∧ s.holdOff = false → 
    ∃ t, Sys2Proof.Machine.exec (.debugHalt pair) s = .next t ∧ (t.get pPWMC PWMC.HOLDSTAT_ACTIVE = 1 ∧ t.get pPWMC
    (if pair = 0 then PWMC.HOLDSTAT_DBG0 else PWMC.HOLDSTAT_DBG1) = 1 ∧ t.get (pPWMU m) PWMU.STAT_HOLDOFF = 1 ∧
    (t.unit m).outA = false ∧ (t.unit m).outB = false ∧ t.accOf m = 0)) ∧
  (∀ (s : State) (m : Fin 6), s.phase = .running ∧ s.holdOff = true ∧ s.on pPWMC PWMC.HOLDSTAT_DBG1 = false ∧ s.on
    pPWMC PWMC.HOLDSTAT_CKSW = false ∧ s.on pPWMC PWMC.HOLDSTAT_CKMON = false → 
    ∃ t, Sys2Proof.Machine.exec (.holdoffEnd 0) s = .next t ∧ (t.get pPWMC PWMC.HOLDSTAT_ACTIVE = 0 ∧ t.get pPWMC
    PWMC.HOLDSTAT_DBG0 = 0 ∧ t.get (pPWMU m) PWMU.STAT_HOLDOFF = 0 ∧ (s.on (pPWMU m) PWMU.CTRL_EN = true → t.get
    (pPWMU m) PWMU.STAT_WAITLOAD = 1 ∧ t.accOf m = 0))) ∧
  (∀ (s : State), s.phase = .running ∧ s.holdOff = true ∧ s.on pPWMC PWMC.HOLDSTAT_DBG1 = true → 
    ∃ t, Sys2Proof.Machine.exec (.holdoffEnd 2) s = .next t ∧ (t.holdOff = true ∧ t.get pPWMC PWMC.HOLDSTAT_CKMON =
    0)) ∧
  (∀ (s : State), s.Writable pPWMC → 
    ∃ t, Sys2Proof.Machine.exec (.holdcntClr) s = .next t ∧ (t.get pPWMC PWMC.HOLDCNT_CNT = s.counted pPWMC
    PWMC.HOLDCNT_CNT))

/-- For every channel n of the twelve, where no asserted Squall channel is routed to a gate channel. A request
rising in OFF without interlock turns on: T1, T2 or ON state as the profile's lengths, as they act, are
nonzero, the ON pin driven; a channel that an asserted Squall channel is routed to does not come to conduct.
With the interlock and the partner not off, nor turning on by a rise of the same tick, it waits (state 2), pins
as when off. A falling request in an on-state with T1 of turn-off nonzero enters state 6, ON pin released, STR
pin driven. Phase ends: T1 on leads to T2 or ON; T1 off leads to T2 off, no pin driven; the end of T2 off with
a latch of the channel's own leads to LATCHED, the STR pin following the feedback. FB follows the feedback, and
in LATCHED so does STR. A feedback timeout in an on-state with the feedback still off latches ONFAIL with
ON_FAIL and releases ON; an interlock timeout in the wait latches ILTMO with its error. GATE_REQUEST_RISE and
FALL act on a request that the PWM edge or event left (log entry 23).

exec answers a next state, under hypotheses on the state and the operands alone, for: gateRequestRise,
gateRequestFall, gatePhaseEnd, gateFbChange, gateFbTimeout, interlockTimeout. -/
def Obligations.GateChannelsAct : Prop :=
  (∀ (s : State) (n : Fin 12), s.phase = .running ∧ (s.gate n).rise = true ∧ s.effReq n = true ∧ s.gst n = 1 ∧ s.on
    pGCH (GCH.LEGCFG_ILEN (n / 2)) = false ∧ (∀ k : Fin 12, s.routed k = false) → 
    ∃ t, Sys2Proof.Machine.exec (.gateRequestRise n) s = .next t ∧ ((t.gst n = if s.phaseOn n (GCH.PON_T1 n) then 3
    else if s.phaseOn n (GCH.PON_T2 n) then 4 else 5) ∧ t.get pGCH (GCH.CHSTAT_ONPIN n) = 1)) ∧
  (∀ (s : State) (n : Fin 12), s.phase = .running ∧ (s.gate n).rise = true ∧ s.effReq n = true ∧ s.gst n = 1 ∧
    s.interlockOk n = false ∧ (s.gate (partner n)).rise = false ∧ s.leftOff (partner n) (s.gate n).riseAt = false ∧
    (∀ k : Fin 12, s.routed k = false) → 
    ∃ t, Sys2Proof.Machine.exec (.gateRequestRise n) s = .next t ∧ (t.gst n = 2 ∧ t.get pGCH (GCH.CHSTAT_ONPIN n) =
    0 ∧ t.get pGCH (GCH.CHSTAT_STRPIN n) = 1)) ∧
  (∀ (s : State) (n : Fin 12), s.phase = .running ∧ s.gst n = 1 ∧ s.routed n = true → 
    ∃ t, Sys2Proof.Machine.exec (.gateRequestRise n) s = .next t ∧ (t.conducting n = false)) ∧
  (∀ (s : State) (n : Fin 12), s.phase = .running ∧ s.effReq n = false ∧ 3 ≤ s.gst n ∧ s.gst n ≤ 5 ∧ s.phaseOn n
    (GCH.POFF_T1 n) = true ∧ (∀ k : Fin 12, s.routed k = false) → 
    ∃ t, Sys2Proof.Machine.exec (.gateRequestFall n) s = .next t ∧ (t.gst n = 6 ∧ t.get pGCH (GCH.CHSTAT_ONPIN n) =
    0 ∧ t.get pGCH (GCH.CHSTAT_STRPIN n) = 1)) ∧
  (∀ (s : State) (n : Fin 12), s.phase = .running ∧ s.gst n = 3 ∧ (∀ k : Fin 12, s.routed k = false) → 
    ∃ t, Sys2Proof.Machine.exec (.gatePhaseEnd n) s = .next t ∧ (t.gst n = (if s.phaseOn n (GCH.PON_T2 n) then 4
    else 5) ∧ t.get pGCH (GCH.CHSTAT_ONPIN n) = 1 ∧ t.get pGCH (GCH.CHSTAT_STRPIN n) = (if s.phaseOn n (GCH.PON_T2
    n) then 0 else 1))) ∧
  (∀ (s : State) (n : Fin 12), s.phase = .running ∧ s.gst n = 6 ∧ s.phaseOn n (GCH.POFF_T2 n) = true ∧ (∀ k : Fin
    12, s.routed k = false) → 
    ∃ t, Sys2Proof.Machine.exec (.gatePhaseEnd n) s = .next t ∧ (t.gst n = 7 ∧ t.get pGCH (GCH.CHSTAT_ONPIN n) = 0
    ∧ t.get pGCH (GCH.CHSTAT_STRPIN n) = 0)) ∧
  (∀ (s : State) (n : Fin 12), s.phase = .running ∧ s.gst n = 7 ∧ s.chLatched n = true ∧ (∀ k : Fin 12, s.routed k
    = false) → 
    ∃ t, Sys2Proof.Machine.exec (.gatePhaseEnd n) s = .next t ∧ (t.gst n = 9 ∧ t.get pGCH (GCH.CHSTAT_ONPIN n) = 0
    ∧ t.get pGCH (GCH.CHSTAT_STRPIN n) = b2n (s.fbOff n))) ∧
  (∀ (s : State) (n : Fin 12) (off : Bool) (ns : Nat), s.phase = .running → 
    ∃ t, Sys2Proof.Machine.exec (.gateFbChange n off ns) s = .next t ∧ (t.get pGCH (GCH.CHSTAT_FB n) = b2n off ∧
    (s.gst n = 9 → t.get pGCH (GCH.CHSTAT_STRPIN n) = b2n off ∧ t.get pGCH (GCH.CHSTAT_ONPIN n) = 0))) ∧
  (∀ (s : State) (n : Fin 12), s.Live pGCH ∧ 3 ≤ s.gst n ∧ s.gst n ≤ 5 ∧ s.fbOff n = true ∧ (s.gate n).onSeen =
    false → 
    ∃ t, Sys2Proof.Machine.exec (.gateFbTimeout n) s = .next t ∧ (t.get pGCH (GCH.CHSTAT_ONFAIL n) = 1 ∧ t.bit pGCH
    HDR.ERRSTAT GCH.E_ON_FAIL = true ∧ t.get pGCH (GCH.CHSTAT_ONPIN n) = 0)) ∧
  (∀ (s : State) (n : Fin 12), s.Live pGCH ∧ s.gst n = 2 → 
    ∃ t, Sys2Proof.Machine.exec (.interlockTimeout n) s = .next t ∧ (t.gst n = 9 ∧ t.get pGCH (GCH.CHSTAT_ILTMO n)
    = 1 ∧ t.bit pGCH HDR.ERRSTAT GCH.E_INTERLOCK_TIMEOUT = true))

/-- A Squall result bound to a leg that conducts trips it: LEG_SHORT recorded, the conducting channel, upper or
lower, to soft turn-off (state 8), or to LATCHED where TSOFT is 0, ON released. SOFT_END enters LATCHED. GDEN
low for 100 ns or more clears GDEN (CLRARM from 10 us); below 40 ns nothing changes. GDEN rising after 10 us or
more clears every latch and disables the channels until they settle; after less than 9 us it keeps latches and
states. GATE_ENABLE_SETTLE takes a bound unlatched channel from disabled to OFF, the STR pin driven. CHCFG with
a lawful source, units off and the channel not on, is stored; a source of 12 to 14 is kept out with CFG_REJ.
CLRCNT clears the conflict counts but for what counts in that tick (R101). Between 40 and 100 ns, and from 9 to
10 us, the outcome is a free choice of the model's (log entries 7 and 23), about which this says nothing.

exec answers a next state, under hypotheses on the state and the operands alone, for: legTrip, softEnd,
gdenLow, gdenRise, gateEnableSettle, chcfgWrite, gchCntclr. -/
def Obligations.LegProtectionActs : Prop :=
  (∀ (s : State) (q : Fin 16) (m : Fin 6) (c : Fin 2), s.phase = .running ∧ s.sqOut q = true ∧ s.lscBound q m = true
    ∧ s.conducting (2 * m + c) = true → 
    ∃ t, Sys2Proof.Machine.exec (.legTrip q) s = .next t ∧ (t.get pGCH (GCH.LEGSTAT_LEG_SHORT m) ≠ 0 ∧ t.gst (2 * m
    + c) = (if s.get pGCH (GCH.LEGTIM_TSOFT m) = 0 then 9 else 8) ∧ t.get pGCH (GCH.CHSTAT_ONPIN (2 * m + c)) = 0))
    ∧
  (∀ (s : State) (n : Fin 12), s.phase = .running ∧ s.gst n = 8 → 
    ∃ t, Sys2Proof.Machine.exec (.softEnd n) s = .next t ∧ (t.gst n = 9 ∧ t.get pGCH (GCH.CHSTAT_ONPIN n) = 0 ∧
    t.get pGCH (GCH.CHSTAT_STRPIN n) = b2n (s.fbOff n))) ∧
  (∀ (s : State) (ns : Nat), s.phase = .running ∧ 100 ≤ ns → 
    ∃ t, Sys2Proof.Machine.exec (.gdenLow ns) s = .next t ∧ (t.get pGCH GCH.GDSTAT_GDEN = 0 ∧ t.gdenPin = false ∧
    (10000 ≤ ns → t.get pGCH GCH.GDSTAT_CLRARM = 1))) ∧
  (∀ (s : State) (ns : Nat), s.Ready ∧ ns < 40 ∧ (∀ k : Fin 12, s.routed k = false) → 
    ∃ t, Sys2Proof.Machine.exec (.gdenLow ns) s = .next t ∧ (s.KeepsBut t.toDev [] ∧ t.gdenPin = s.gdenPin)) ∧
  (∀ (s : State) (ns : Nat) (n : Fin 12) (m : Fin 6), s.phase = .running ∧ s.on pGCH GCH.GDSTAT_GDEN = false ∧
    10000 ≤ ns → 
    ∃ t, Sys2Proof.Machine.exec (.gdenRise ns) s = .next t ∧ (t.get pGCH GCH.GDSTAT_GDEN = 1 ∧ t.chLatched n =
    false ∧ t.legLatched m = false ∧ t.gst n = 0)) ∧
  (∀ (s : State) (ns : Nat) (n : Fin 12) (m : Fin 6), s.phase = .running ∧ s.on pGCH GCH.GDSTAT_GDEN = false ∧ ns <
    9000 ∧ (∀ k : Fin 12, s.routed k = false) → 
    ∃ t, Sys2Proof.Machine.exec (.gdenRise ns) s = .next t ∧ (t.get pGCH GCH.GDSTAT_GDEN = 1 ∧ t.chLatched n =
    s.chLatched n ∧ t.legLatched m = s.legLatched m ∧ t.gst n = s.gst n)) ∧
  (∀ (s : State) (n : Fin 12), s.Live pGCH ∧ s.on pSYSC SYSC.STRAP_INV = false ∧ s.on pGCH GCH.GDSTAT_GDEN = true ∧
    s.gst n = 0 ∧ s.get pGCH (GCH.CHCFG_SRC n) < 12 ∧ s.chLatched n = false ∧ s.legLatched (n / 2) = false → 
    ∃ t, Sys2Proof.Machine.exec (.gateEnableSettle) s = .next t ∧ (t.gst n = 1 ∧ t.get pGCH (GCH.CHSTAT_STRPIN n) =
    1 ∧ t.get pGCH (GCH.CHSTAT_ONPIN n) = 0)) ∧
  (∀ (s : State) (n : Fin 12) (v : Word), s.Writable pGCH ∧ (v.toNat % 16 ≤ 11 ∨ v.toNat % 16 = 15) ∧ s.unitOff
    (s.get pGCH (GCH.CHCFG_SRC n)) = true ∧ s.unitOff (v.toNat % 16) = true ∧ (s.gst n = 0 ∨ s.gst n = 1 ∨ s.gst n
    = 9) → 
    ∃ t, Sys2Proof.Machine.exec (.chcfgWrite n v) s = .next t ∧ (t.get pGCH (GCH.CHCFG_SRC n) = v.toNat % 16)) ∧
  (∀ (s : State) (n : Fin 12) (v : Word), s.Writable pGCH ∧ 12 ≤ v.toNat % 16 ∧ v.toNat % 16 ≤ 14 → 
    ∃ t, Sys2Proof.Machine.exec (.chcfgWrite n v) s = .next t ∧ (t.get pGCH (GCH.CHCFG_SRC n) = s.get pGCH
    (GCH.CHCFG_SRC n) ∧ t.bit pGCH HDR.ERRSTAT GCH.E_CFG_REJ = true)) ∧
  (∀ (s : State) (m : Fin 6), s.Writable pGCH → 
    ∃ t, Sys2Proof.Machine.exec (.gchCntclr) s = .next t ∧ (t.get pGCH (GCH.LEGSTAT_CONFCNT m) = s.counted pGCH
    (GCH.LEGSTAT_CONFCNT m)))

/-- On a hub with supervision enabled. OV1 of its Squall channel sets OV1 and CH1F and notes the bus voltage. The
first check with no conduction seen sets FAIL1, NOEXPREQ, CH2F and CHOPPER_FAIL, and drives CURT_N low; the
second with OV1 still set and the bus risen by more than RISE sets FAIL1, NOEXPREQ and the error; the third
with no conduction of the second chopper sets FAIL2 and the error. OV3 sets OV3, DABBLKREQ and its error and,
with OV3TSTK, requests a Tailstock trip. A release with OV1 and OV3 clear clears the failures and requests;
with either set it keeps them and raises CFG_REJ. The operand for which check is due is the model's (log entry
23).

exec answers a next state, under hypotheses on the state and the operands alone, for: chopperOv1, chopperCheck,
chopperOv3, chopperRelease. -/
def Obligations.BrakeChopperActs : Prop :=
  (∀ (s : State), s.phase = .running ∧ s.csRuns = true ∧ s.sqOut (s.get pGCH GCH.CSCFG_OV1SQ) = true ∧ s.on pGCH
    GCH.CSSTAT_OV1 = false → 
    ∃ t, Sys2Proof.Machine.exec (.chopperOv1) s = .next t ∧ (t.get pGCH GCH.CSSTAT_OV1 = 1 ∧ t.get pGCH
    GCH.CSSTAT_CH1F = 1 ∧ t.chop.v0 = s.busResult)) ∧
  (∀ (s : State), s.Live pGCH ∧ s.csRuns = true ∧ s.chop.due1 = true ∧ s.on pGCH GCH.CSSTAT_OV1 = true ∧
    s.chop.seen1 = false → 
    ∃ t, Sys2Proof.Machine.exec (.chopperCheck 0) s = .next t ∧ (t.get pGCH GCH.CSSTAT_FAIL1 = 1 ∧ t.get pGCH
    GCH.CSSTAT_NOEXPREQ = 1 ∧ t.get pGCH GCH.CSSTAT_CH2F ≠ 0 ∧ t.bit pGCH HDR.ERRSTAT GCH.E_CHOPPER_FAIL = true ∧
    t.pins.curtN = .low)) ∧
  (∀ (s : State), s.Live pGCH ∧ s.csRuns = true ∧ s.chop.dueV = true ∧ s.on pGCH GCH.CSSTAT_OV1 = true ∧ s.chop.v0
    + s.get pGCH GCH.CSVBUS_RISE < s.busResult → 
    ∃ t, Sys2Proof.Machine.exec (.chopperCheck 1) s = .next t ∧ (t.get pGCH GCH.CSSTAT_FAIL1 = 1 ∧ t.get pGCH
    GCH.CSSTAT_NOEXPREQ = 1 ∧ t.bit pGCH HDR.ERRSTAT GCH.E_CHOPPER_FAIL = true)) ∧
  (∀ (s : State), s.Live pGCH ∧ s.csRuns = true ∧ s.chop.due2 = 1 ∧ s.chop.seen2 = false → 
    ∃ t, Sys2Proof.Machine.exec (.chopperCheck 2) s = .next t ∧ (t.get pGCH GCH.CSSTAT_FAIL2 = 1 ∧ t.bit pGCH
    HDR.ERRSTAT GCH.E_CHOPPER_FAIL = true)) ∧
  (∀ (s : State), s.Live pGCH ∧ s.csRuns = true ∧ s.sqOut (s.get pGCH GCH.CSCFG_OV3SQ) = true ∧ s.on pGCH
    GCH.CSSTAT_OV3 = false → 
    ∃ t, Sys2Proof.Machine.exec (.chopperOv3) s = .next t ∧ (t.get pGCH GCH.CSSTAT_OV3 = 1 ∧ t.get pGCH
    GCH.CSSTAT_DABBLKREQ = 1 ∧ t.bit pGCH HDR.ERRSTAT GCH.E_OV3 = true ∧ (s.on pGCH GCH.CSCFG_OV3TSTK = true →
    t.tstk.req = s.tstk.req ++ [5]))) ∧
  (∀ (s : State), s.Writable pGCH ∧ s.isCell = false ∧ s.on pGCH GCH.CSSTAT_OV1 = false ∧ s.on pGCH GCH.CSSTAT_OV3
    = false → 
    ∃ t, Sys2Proof.Machine.exec (.chopperRelease) s = .next t ∧ (t.get pGCH GCH.CSSTAT_FAIL1 = 0 ∧ t.get pGCH
    GCH.CSSTAT_FAIL2 = 0 ∧ t.get pGCH GCH.CSSTAT_NOEXPREQ = 0 ∧ t.get pGCH GCH.CSSTAT_DABBLKREQ = 0)) ∧
  (∀ (s : State), s.Writable pGCH ∧ s.isCell = false ∧ (s.on pGCH GCH.CSSTAT_OV1 = true ∨ s.on pGCH GCH.CSSTAT_OV3
    = true) → 
    ∃ t, Sys2Proof.Machine.exec (.chopperRelease) s = .next t ∧ (t.get pGCH GCH.CSSTAT_FAIL1 = s.get pGCH
    GCH.CSSTAT_FAIL1 ∧ t.get pGCH GCH.CSSTAT_DABBLKREQ = s.get pGCH GCH.CSSTAT_DABBLKREQ ∧ t.bit pGCH HDR.ERRSTAT
    GCH.E_CFG_REJ = true))

/-- For every channel q that the model holds. On a powered, resolved, unheld channel whose DAC has settled, a
voltage past the levels in force by more than the offset and the hysteresis that R492 allows changes the result
as its function says (HIGH, LOW, OUTSIDE, INSIDE): RAW and OUT rise, or fall where there is no latch; a rise
counts, raises the flag and, with a class, the error, where the fabric clock runs. A held (blanked or settling)
channel keeps OUT. SQUALL_RESOLVED with a voltage so far above both levels ends the unresolved state with the
result of the function and counts nothing. SQCFG from unpowered with a lawful FUNC and LATCH stores them,
leaves the channel unresolved at INIT; a FUNC above 4 is refused with CFG_REJ and changes nothing of it. SQTHR
that satisfies the hysteresis rule is stored. The end of a blanking window in its tick, and of a settling time,
lets OUT take RAW. A latch release with the result down clears LATCH and OUT. SQTRIP is stored and takes effect
at once on a conducting channel whose result is up. A calibration update moves each channel's correction one
step toward its target. CLRCNT clears each count but for what counts in that tick (R101). The unit of the
voltage, half a quarter step of the DAC, is the model's (log entry 24).

exec answers a next state, under hypotheses on the state and the operands alone, for: squallResultChange,
squallResolved, sqcfgWrite, sqthrWrite, blankWindowEnd, squallLatchRelease, sqtripWrite, squallCalUpdate,
sqcntClr, settlingTimeEnd. -/
def Obligations.SquallChannelsAct : Prop :=
  (∀ (s : State) (q : Fin 16) (v : Nat), s.Live pSQL ∧ q.val < s.sq.length ∧ s.sqUnres q = false ∧ s.sqHeld q = false
    ∧ (s.sqCh q).dac = none ∧ s.bit pSQL SQL.RAW q = false ∧ (s.sqFunc q = 1 ∧ (s.sqNear q (s.sqLevels q).1).2 < v
    ∨ s.sqFunc q = 2 ∧ v < (s.sqNear q (s.sqLevels q).2).1 ∨ s.sqFunc q = 3 ∧ ((s.sqNear q (s.sqLevels q).1).2 < v
    ∨ v < (s.sqNear q (s.sqLevels q).2).1) ∨ s.sqFunc q = 4 ∧ v + s.sqHysMax q < (s.sqNear q (s.sqLevels q).1).1 ∧
    (s.sqNear q (s.sqLevels q).2).2 + s.sqHysMax q < v) → 
    ∃ t, Sys2Proof.Machine.exec (.squallResultChange q v) s = .next t ∧ (t.bit pSQL SQL.RAW q = true ∧ t.sqOut q =
    true)) ∧
  (∀ (s : State) (q : Fin 16) (v : Nat), s.Live pSQL ∧ q.val < s.sq.length ∧ s.sqUnres q = false ∧ s.sqHeld q =
    false ∧ (s.sqCh q).dac = none ∧ s.bit pSQL SQL.RAW q = true ∧ s.get pSQL (SQL.SQCFG_LATCH q) = 0 ∧ (s.sqFunc q
    = 1 ∧ v + s.sqHysMax q < (s.sqNear q (s.sqLevels q).1).1 ∨ s.sqFunc q = 2 ∧ (s.sqNear q (s.sqLevels q).2).2 +
    s.sqHysMax q < v ∨ s.sqFunc q = 3 ∧ v + s.sqHysMax q < (s.sqNear q (s.sqLevels q).1).1 ∧ (s.sqNear q
    (s.sqLevels q).2).2 + s.sqHysMax q < v ∨ s.sqFunc q = 4 ∧ ((s.sqNear q (s.sqLevels q).1).2 < v ∨ v < (s.sqNear
    q (s.sqLevels q).2).1)) → 
    ∃ t, Sys2Proof.Machine.exec (.squallResultChange q v) s = .next t ∧ (t.bit pSQL SQL.RAW q = false ∧ t.sqOut q =
    false)) ∧
  (∀ (s : State) (q : Fin 16) (v : Nat), s.Live pSQL ∧ q.val < s.sq.length ∧ s.sqUnres q = false ∧ s.sqHeld q =
    false ∧ (s.sqCh q).dac = none ∧ s.bit pSQL SQL.RAW q = false ∧ s.sqOut q = false ∧ s.clockLost = false ∧
    (s.sqFunc q = 1 ∧ (s.sqNear q (s.sqLevels q).1).2 < v ∨ s.sqFunc q = 2 ∧ v < (s.sqNear q (s.sqLevels q).2).1 ∨
    s.sqFunc q = 3 ∧ ((s.sqNear q (s.sqLevels q).1).2 < v ∨ v < (s.sqNear q (s.sqLevels q).2).1) ∨ s.sqFunc q = 4 ∧
    v + s.sqHysMax q < (s.sqNear q (s.sqLevels q).1).1 ∧ (s.sqNear q (s.sqLevels q).2).2 + s.sqHysMax q < v) ∧
    s.get pSQL (SQL.SQCNT_CNT q) + 1 < 2 ^ (SQL.SQCNT_CNT q).wid → 
    ∃ t, Sys2Proof.Machine.exec (.squallResultChange q v) s = .next t ∧ (t.get pSQL (SQL.SQCNT_CNT q) = s.get pSQL
    (SQL.SQCNT_CNT q) + 1 ∧ t.bit pSQL HDR.IRQFLG (SQL.I_SQ q) = true ∧ (s.on pSQL (SQL.SQCFG_ECLS q) = true →
    t.bit pSQL HDR.ERRSTAT (SQL.E_ASRT q) = true))) ∧
  (∀ (s : State) (q : Fin 16) (v : Nat), s.phase = .running ∧ s.sqPowered q = true ∧ s.sqUnres q = false ∧ s.sqHeld
    q = true → 
    ∃ t, Sys2Proof.Machine.exec (.squallResultChange q v) s = .next t ∧ (t.sqOut q = s.sqOut q)) ∧
  (∀ (s : State) (q : Fin 16) (v : Nat), s.Live pSQL ∧ q.val < s.sq.length ∧ s.sqPowered q = true ∧ s.sqUnres q =
    true ∧ (s.sqCh q).blk = none ∧ s.get pSQL (SQL.SQCFG_LATCH q) = 0 ∧ (s.sqNear q (s.sqLevels q).1).2 < v ∧
    (s.sqNear q (s.sqLevels q).2).2 + s.sqHysMax q < v → 
    ∃ t, Sys2Proof.Machine.exec (.squallResolved q v) s = .next t ∧ (t.sqUnres q = false ∧ t.bit pSQL SQL.SETL q =
    false ∧ t.bit pSQL SQL.RAW q = (s.sqFunc q == 1 || s.sqFunc q == 3) ∧ t.sqOut q = (s.sqFunc q == 1 || s.sqFunc
    q == 3) ∧ t.get pSQL (SQL.SQCNT_CNT q) = s.get pSQL (SQL.SQCNT_CNT q))) ∧
  (∀ (s : State) (q : Fin 16) (v : Word), s.Writable pSQL ∧ s.get pSQL (SQL.SQCFG_FUNC q) = 0 ∧ s.legsc q = false ∧
    1 ≤ (SQL.SQCFG_FUNC q).pick v.toNat ∧ (SQL.SQCFG_FUNC q).pick v.toNat ≤ 4 ∧ (SQL.SQCFG_LATCH q).pick v.toNat ≤
    1 → 
    ∃ t, Sys2Proof.Machine.exec (.sqcfgWrite q v) s = .next t ∧ (t.get pSQL (SQL.SQCFG_FUNC q) = (SQL.SQCFG_FUNC
    q).pick v.toNat ∧ t.get pSQL (SQL.SQCFG_MODE q) = (SQL.SQCFG_MODE q).pick v.toNat ∧ t.sqUnres q = true ∧
    t.sqOut q = ((SQL.SQCFG_INIT q).pick v.toNat != 0))) ∧
  (∀ (s : State) (q : Fin 16) (v : Word), s.Writable pSQL ∧ 5 ≤ (SQL.SQCFG_FUNC q).pick v.toNat → 
    ∃ t, Sys2Proof.Machine.exec (.sqcfgWrite q v) s = .next t ∧ (t.get pSQL (SQL.SQCFG_FUNC q) = s.get pSQL
    (SQL.SQCFG_FUNC q) ∧ t.get pSQL (SQL.SQCFG_MODE q) = s.get pSQL (SQL.SQCFG_MODE q) ∧ t.sqOut q = s.sqOut q ∧
    t.bit pSQL HDR.ERRSTAT SQL.E_CFG_REJ = true)) ∧
  (∀ (s : State) (q : Fin 16) (v : Word), s.Writable pSQL ∧ (twoState (s.get pSQL (SQL.SQCFG_FUNC q)) = true ∨
    s.legsc q = true → (SQL.SQTHR_LO q).pick v.toNat + 2 * (SQL.SQTHR_HYS q).pick v.toNat < (SQL.SQTHR_HI q).pick
    v.toNat) → 
    ∃ t, Sys2Proof.Machine.exec (.sqthrWrite q v) s = .next t ∧ (t.get pSQL (SQL.SQTHR_HI q) = (SQL.SQTHR_HI
    q).pick v.toNat ∧ t.get pSQL (SQL.SQTHR_LO q) = (SQL.SQTHR_LO q).pick v.toNat ∧ t.get pSQL (SQL.SQTHR_HYS q) =
    (SQL.SQTHR_HYS q).pick v.toNat)) ∧
  (∀ (s : State) (q : Fin 16) (x : Nat), s.phase = .running ∧ (s.sqCh q).blk = some x ∧ x ≤ s.ticks ∧ (s.sqCh
    q).hold = false ∧ s.sqPowered q = true ∧ s.sqUnres q = false ∧ s.get pSQL (SQL.SQCFG_LATCH q) = 0 → 
    ∃ t, Sys2Proof.Machine.exec (.blankWindowEnd q) s = .next t ∧ ((t.sqCh q).blk = none ∧ t.sqOut q = s.bit pSQL
    SQL.RAW q)) ∧
  (∀ (s : State) (mask : BitVec 16) (q : Fin 16), s.Writable pSQL ∧ bitAt mask.toNat q = true ∧ s.get pSQL
    (SQL.SQCFG_LATCH q) = 1 ∧ s.bit pSQL SQL.RAW q = false ∧ (s.sqCh q).asrt ≠ some s.ticks ∧ s.sqHeld q = false ∧
    s.sqPowered q = true ∧ s.sqUnres q = false → 
    ∃ t, Sys2Proof.Machine.exec (.squallLatchRelease mask) s = .next t ∧ (t.bit pSQL SQL.LATCH q = false ∧ t.sqOut
    q = false)) ∧
  (∀ (s : State) (q : Fin 16) (v : Word), s.Writable pSQL → 
    ∃ t, Sys2Proof.Machine.exec (.sqtripWrite q v) s = .next t ∧ (t.get pSQL (SQL.SQTRIP_TRIPSEL q) =
    (SQL.SQTRIP_TRIPSEL q).pick v.toNat ∧ ∀ n : Fin 12, s.sqOut q = true → bitAt v.toNat n = true → s.conducting n
    = true → t.conducting n = false)) ∧
  (∀ (s : State) (q : Fin 16), s.phase = .running → 
    ∃ t, Sys2Proof.Machine.exec (.squallCalUpdate) s = .next t ∧ (t.sqCorr.getD q 0 = s.sqCorr.getD q 0 + clampI
    (s.sqTarget q - s.sqCorr.getD q 0) (-1) 1)) ∧
  (∀ (s : State) (q : Fin 16), s.Writable pSQL → 
    ∃ t, Sys2Proof.Machine.exec (.sqcntClr q) s = .next t ∧ (t.get pSQL (SQL.SQCNT_CNT q) = s.counted pSQL
    (SQL.SQCNT_CNT q))) ∧
  (∀ (s : State) (q : Fin 16), s.phase = .running ∧ q.val < s.sq.length ∧ s.bit pSQL SQL.SETL q = true ∧
    s.sqPowered q = true ∧ s.sqUnres q = false ∧ (s.sqCh q).blk = none ∧ s.get pSQL (SQL.SQCFG_LATCH q) = 0 → 
    ∃ t, Sys2Proof.Machine.exec (.settlingTimeEnd q) s = .next t ∧ ((t.sqCh q).hold = false ∧ (t.sqCh q).dac = none
    ∧ t.bit pSQL SQL.SETL q = false ∧ t.sqOut q = t.bit pSQL SQL.RAW q ∧ ((s.sqCh q).inp = none → t.bit pSQL
    SQL.RAW q = s.bit pSQL SQL.RAW q)))

/-- For both converters. REFEN is stored; 0 takes away REFRDY and READY and ends conversions. A reference ready
sets REFRDY with its flag; a reference fault clears REFRDY and READY with REF_FAULT, ending the conversion. EN
is stored; 0 takes READY away and drops what is pending. ADC_READY with reference and SYNA sets READY. A slot
word with lawful INPUT, AVG and OW, the converter idle, is stored; an INPUT above 23 is kept out with CFG_REJ.
A software trigger on an idle ready converter starts the slot and remains as this tick's trigger; not ready, it
raises NRDY and starts nothing. A pending trigger starts when nothing runs, marked LATE. The next window starts
the anchored slot at the window's first instant on the 62.5 ps grid, counting no abort, or raises ANCH_MISS
where the converter is not ready. The job's form is the model's (log entry 25).

exec answers a next state, under hypotheses on the state and the operands alone, for: adcRefenWrite,
adcRefReady, adcRefFault, adcEnableWrite, adcReady, adcSlotWrite, adcSwtrig, adcPendingStart, adcWindowStart. -/
def Obligations.ConvertersAct : Prop :=
  (∀ (s : State) (c : Fin 2) (en : Bool), s.Writable (pADC c) → 
    ∃ t, Sys2Proof.Machine.exec (.adcRefenWrite c en) s = .next t ∧ (t.get (pADC c) ADC.REFCTL_REFEN = b2n en ∧ (en
    = false → t.get (pADC c) ADC.REFCTL_REFRDY = 0 ∧ t.get (pADC c) ADC.STAT_READY = 0 ∧ (t.adcOf c).cur = none ∧
    (t.adcOf c).pend = none))) ∧
  (∀ (s : State) (c : Fin 2), s.Live (pADC c) ∧ s.on (pADC c) ADC.REFCTL_REFEN = true ∧ s.on (pADC c)
    ADC.REFCTL_REFRDY = false → 
    ∃ t, Sys2Proof.Machine.exec (.adcRefReady c) s = .next t ∧ (t.get (pADC c) ADC.REFCTL_REFRDY = 1 ∧ t.bit (pADC
    c) HDR.IRQFLG ADC.I_REF_CHG = true)) ∧
  (∀ (s : State) (c : Fin 2), s.Live (pADC c) ∧ s.on (pADC c) ADC.REFCTL_REFEN = true → 
    ∃ t, Sys2Proof.Machine.exec (.adcRefFault c) s = .next t ∧ (t.get (pADC c) ADC.REFCTL_REFRDY = 0 ∧ t.get (pADC
    c) ADC.STAT_READY = 0 ∧ t.bit (pADC c) HDR.ERRSTAT ADC.E_REF_FAULT = true ∧ (t.adcOf c).cur = none)) ∧
  (∀ (s : State) (c : Fin 2) (en : Bool), s.Writable (pADC c) → 
    ∃ t, Sys2Proof.Machine.exec (.adcEnableWrite c en) s = .next t ∧ (t.get (pADC c) ADC.CTRL_EN = b2n en ∧ (en =
    false → s.on (pADC c) ADC.CTRL_EN = true → t.get (pADC c) ADC.STAT_READY = 0 ∧ (t.adcOf c).pend = none ∧
    (t.adcOf c).back = []))) ∧
  (∀ (s : State) (c : Fin 2), s.phase = .running ∧ s.on (pADC c) ADC.CTRL_EN = true ∧ s.on (pADC c)
    ADC.REFCTL_REFRDY = true ∧ s.onSyna = true → 
    ∃ t, Sys2Proof.Machine.exec (.adcReady c) s = .next t ∧ (t.get (pADC c) ADC.STAT_READY = 1)) ∧
  (∀ (s : State) (c : Fin 2) (k : Fin 32) (v : Word), s.Writable (pADC c) ∧ (s.adcOf c).cur = none ∧ s.adcIdle c =
    true ∧ (ADC.SLOT_INPUT k).pick v.toNat < 24 ∧ (ADC.SLOT_AVG k).pick v.toNat ≤ 8 ∧ (ADC.SLOT_OW k).pick v.toNat
    ≠ 3 → 
    ∃ t, Sys2Proof.Machine.exec (.adcSlotWrite c k v) s = .next t ∧ (t.get (pADC c) (ADC.SLOT_INPUT k) =
    (ADC.SLOT_INPUT k).pick v.toNat ∧ t.get (pADC c) (ADC.SLOT_AVG k) = (ADC.SLOT_AVG k).pick v.toNat ∧ t.get (pADC
    c) (ADC.SLOT_DEST k) = (ADC.SLOT_DEST k).pick v.toNat ∧ t.get (pADC c) (ADC.SLOT_LAST k) = (ADC.SLOT_LAST
    k).pick v.toNat)) ∧
  (∀ (s : State) (c : Fin 2) (k : Fin 32) (v : Word), s.Writable (pADC c) ∧ 24 ≤ (ADC.SLOT_INPUT k).pick v.toNat → 
    ∃ t, Sys2Proof.Machine.exec (.adcSlotWrite c k v) s = .next t ∧ (t.get (pADC c) (ADC.SLOT_INPUT k) = s.get
    (pADC c) (ADC.SLOT_INPUT k) ∧ t.bit (pADC c) HDR.ERRSTAT ADC.E_CFG_REJ = true)) ∧
  (∀ (s : State) (c : Fin 2) (slot : Fin 32), s.Writable (pADC c) ∧ c.val < s.adc.length ∧ s.on (pADC c)
    ADC.CTRL_EN = true ∧ s.adcReady c = true ∧ (s.adcOf c).cur = none ∧ s.adcIdle c = true ∧ s.trigNow c = none → 
    ∃ t, Sys2Proof.Machine.exec (.adcSwtrig c slot) s = .next t ∧ ((t.adcOf c).cur.map AdcJob.slot = some slot.val
    ∧ (t.adcOf c).trig = some (s.ticks, 3, 0))) ∧
  (∀ (s : State) (c : Fin 2) (slot : Fin 32), s.Writable (pADC c) ∧ s.on (pADC c) ADC.CTRL_EN = true ∧ s.adcReady c
    = false ∧ (s.adcOf c).cur = none ∧ s.trigNow c = none → 
    ∃ t, Sys2Proof.Machine.exec (.adcSwtrig c slot) s = .next t ∧ (t.bit (pADC c) HDR.ERRSTAT ADC.E_NRDY = true ∧
    (t.adcOf c).cur = none)) ∧
  (∀ (s : State) (c : Fin 2) (slot tt : Nat), s.phase = .running ∧ (s.adcOf c).pend = some (slot, tt) ∧ (s.adcOf
    c).cur = none ∧ (s.adcOf c).back = [] ∧ (s.adcOf c).uwait = none → 
    ∃ t, Sys2Proof.Machine.exec (.adcPendingStart c) s = .next t ∧ ((t.adcOf c).cur.map AdcJob.slot = some slot ∧
    (t.adcOf c).cur.map AdcJob.late = some true ∧ (t.adcOf c).pend = none)) ∧
  (∀ (s : State) (c : Fin 2) (k x : Nat), s.phase = .running ∧ c.val < s.adc.length ∧ s.adcReady c = true ∧
    (s.adcOf c).cur = none ∧ s.winNext c s.tickAt = some (k, x) → 
    ∃ t, Sys2Proof.Machine.exec (.adcWindowStart c) s = .next t ∧ ((t.adcOf c).cur = some
    { job0 with slot := k, t0 := roundUpTie x fine16, win := true, wslot := true } ∧ t.get (pADC c)
    ADC.TRGCNT_ABORT = s.get (pADC c) ADC.TRGCNT_ABORT)) ∧
  (∀ (s : State) (c : Fin 2) (k x : Nat), s.Live (pADC c) ∧ s.adcReady c = false ∧ (s.adcOf c).cur = none ∧
    s.winNext c s.tickAt = some (k, x) → 
    ∃ t, Sys2Proof.Machine.exec (.adcWindowStart c) s = .next t ∧ (t.bit (pADC c) HDR.ERRSTAT ADC.E_ANCH_MISS =
    true ∧ (t.adcOf c).cur = none))

/-- The result of the oldest slot, with one code per sample and 224 ns after the last of them, stores in its
destination the averaged value corrected with the coefficients the slot sampled with, CLIP, LATE, the count one
up and the stamp kept of its last sample, and the job leaves the pipeline. An open-wire sample above the held
value by more than OWTH keeps the value, sets OWF, the input's OWSTAT bit and OPEN_WIRE. An urgent request on
an idle ready converter starts the asked conversion; its result goes to URGRES and to RES of the destination
with URG_DONE. RINGCFG with a lawful size and the ring inside shared SRAM is stored and, enabling, zeroes the
pointers; a size above 10 is refused with CFG_REJ. A RINGRD of a whole entry inside the ring is stored, any
other is refused with CFG_REJ. CLRCNT clears the five counters but for what counts in that tick (R101). The raw
codes are operands (log entry 25).

exec answers a next state, under hypotheses on the state and the operands alone, for: adcSlotResult,
adcOpenWireSample, adcUrgent, adcUrgentResult, adcRingcfgWrite, adcRingrdWrite, adcCntclr. -/
def Obligations.ConversionResultsAct : Prop :=
  (∀ (s : State) (c : Fin 2) (codes : List Int) (j : AdcJob) (rest : List AdcJob) (g : AdcCfg), s.phase = .running ∧
    (s.adcOf c).cur = none ∧ (s.adcOf c).flight = j :: rest ∧ j.urg = none ∧ j.held = none ∧ g = s.jobCfg c j ∧
    g.ow = 0 ∧ g.dest < 16 ∧ codes.length = 2 ^ g.avg ∧ notAfter (j.t0 + (2 ^ g.avg - 1) * conv16 + ready16)
    s.now16 = true → 
    ∃ t, Sys2Proof.Machine.exec (.adcSlotResult c codes) s = .next t ∧ (t.get (pADC c) (ADC.RES_VALUE g.dest) =
    ofSigned (g.value s.tDie codes).1 16 ∧ t.get (pADC c) (ADC.RES_CNT g.dest) = (s.get (pADC c) (ADC.RES_CNT
    g.dest) + 1) % 2 ^ (ADC.RES_CNT g.dest).wid ∧ t.get (pADC c) (ADC.RES_CLIP g.dest) = b2n (g.value s.tDie
    codes).2 ∧ t.get (pADC c) (ADC.RES_LATE g.dest) = b2n j.late ∧ t.get (pADC c) (ADC.RESTS g.dest) = stamp62
    (j.ts.getD 0) ∧ (t.adcOf c).flight = rest)) ∧
  (∀ (s : State) (c : Fin 2) (code : Int) (j : AdcJob) (rest : List AdcJob) (v : Int) (clip : Bool) (g : AdcCfg),
    s.Live (pADC c) ∧ (s.adcOf c).cur = none ∧ (s.adcOf c).flight = j :: rest ∧ j.held = some (v, clip) ∧ g =
    s.jobCfg c j ∧ g.ow = 1 ∧ g.input < 24 ∧ g.dest < 16 ∧ notAfter (s.jobLast c j + ready16) s.now16 = true ∧ v +
    (s.get (pADC c) ADC.OWCFG_OWTH : Nat) < (g.value s.tDie [code]).1 → 
    ∃ t, Sys2Proof.Machine.exec (.adcOpenWireSample c code) s = .next t ∧ (t.get (pADC c) (ADC.RES_OWF g.dest) = 1
    ∧ t.get (pADC c) (ADC.RES_VALUE g.dest) = ofSigned v 16 ∧ t.bit (pADC c) ADC.OWSTAT g.input = true ∧ t.bit
    (pADC c) HDR.ERRSTAT ADC.E_OPEN_WIRE = true ∧ (t.adcOf c).flight = rest)) ∧
  (∀ (s : State) (c : Fin 2) (v : Word), s.Writable (pADC c) ∧ c.val < s.adc.length ∧ s.on (pADC c) ADC.CTRL_EN =
    true ∧ s.adcReady c = true ∧ (s.adcOf c).cur = none ∧ s.adcIdle c = true ∧ s.on (pADC c) ADC.ANCHCFG_EN = false
    ∧ ADC.URGCTL_INPUT.pick v.toNat < 24 ∧ ADC.URGCTL_AVG.pick v.toNat ≤ 8 → 
    ∃ t, Sys2Proof.Machine.exec (.adcUrgent c v) s = .next t ∧ ((t.adcOf c).cur.bind AdcJob.urg = some
    (ADC.URGCTL_INPUT.pick v.toNat, ADC.URGCTL_AVG.pick v.toNat, ADC.URGCTL_DEST.pick v.toNat))) ∧
  (∀ (s : State) (c : Fin 2) (codes : List Int) (j : AdcJob) (rest : List AdcJob) (g : AdcCfg), s.Live (pADC c) ∧
    (s.adcOf c).cur = none ∧ (s.adcOf c).flight = j :: rest ∧ j.urg.isSome = true ∧ g = s.jobCfg c j ∧ g.dest < 16
    ∧ codes.length = 2 ^ g.avg ∧ notAfter (j.t0 + (2 ^ g.avg - 1) * conv16 + ready16) s.now16 = true → 
    ∃ t, Sys2Proof.Machine.exec (.adcUrgentResult c codes) s = .next t ∧ (t.get (pADC c) ADC.URGRES_VALUE =
    ofSigned (g.value s.tDie codes).1 16 ∧ t.get (pADC c) ADC.URGRES_CH = g.dest ∧ t.get (pADC c) (ADC.RES_VALUE
    g.dest) = ofSigned (g.value s.tDie codes).1 16 ∧ t.bit (pADC c) HDR.IRQFLG ADC.I_URG_DONE = true ∧ (t.adcOf
    c).flight = rest)) ∧
  (∀ (s : State) (c : Fin 2) (v : Word), s.Writable (pADC c) ∧ s.on (pADC c) ADC.RINGCFG_EN = false ∧
    ADC.RINGCFG_SIZE.pick v.toNat ≤ 10 ∧ 0x20000000 ≤ s.get (pADC c) ADC.RINGBASE * 64 ∧ s.get (pADC c)
    ADC.RINGBASE * 64 + 64 * 2 ^ ADC.RINGCFG_SIZE.pick v.toNat ≤ 0x20400000 → 
    ∃ t, Sys2Proof.Machine.exec (.adcRingcfgWrite c v) s = .next t ∧ (t.get (pADC c) ADC.RINGCFG_EN =
    ADC.RINGCFG_EN.pick v.toNat ∧ t.get (pADC c) ADC.RINGCFG_SIZE = ADC.RINGCFG_SIZE.pick v.toNat ∧
    (ADC.RINGCFG_EN.pick v.toNat = 1 → t.get (pADC c) ADC.RINGWR = 0 ∧ t.get (pADC c) ADC.RINGRD = 0))) ∧
  (∀ (s : State) (c : Fin 2) (v : Word), s.Writable (pADC c) ∧ 10 < ADC.RINGCFG_SIZE.pick v.toNat → 
    ∃ t, Sys2Proof.Machine.exec (.adcRingcfgWrite c v) s = .next t ∧ (t.get (pADC c) ADC.RINGCFG_EN = s.get (pADC
    c) ADC.RINGCFG_EN ∧ t.get (pADC c) ADC.RINGCFG_SIZE = s.get (pADC c) ADC.RINGCFG_SIZE ∧ t.bit (pADC c)
    HDR.ERRSTAT ADC.E_CFG_REJ = true)) ∧
  (∀ (s : State) (c : Fin 2) (v : Word), s.Writable (pADC c) ∧ ADC.RINGRD.pick v.toNat % 8 = 0 ∧ ADC.RINGRD.pick
    v.toNat < s.ringSize c → 
    ∃ t, Sys2Proof.Machine.exec (.adcRingrdWrite c v) s = .next t ∧ (t.get (pADC c) ADC.RINGRD = ADC.RINGRD.pick
    v.toNat)) ∧
  (∀ (s : State) (c : Fin 2) (v : Word), s.Writable (pADC c) ∧ (ADC.RINGRD.pick v.toNat % 8 ≠ 0 ∨ s.ringSize c ≤
    ADC.RINGRD.pick v.toNat) → 
    ∃ t, Sys2Proof.Machine.exec (.adcRingrdWrite c v) s = .next t ∧ (t.get (pADC c) ADC.RINGRD = s.get (pADC c)
    ADC.RINGRD ∧ t.bit (pADC c) HDR.ERRSTAT ADC.E_CFG_REJ = true)) ∧
  (∀ (s : State) (c : Fin 2), s.Writable (pADC c) → 
    ∃ t, Sys2Proof.Machine.exec (.adcCntclr c) s = .next t ∧ (t.get (pADC c) ADC.TRGCNT_DISC = s.counted (pADC c)
    ADC.TRGCNT_DISC ∧ t.get (pADC c) ADC.TRGCNT_ABORT = s.counted (pADC c) ADC.TRGCNT_ABORT ∧ t.get (pADC c)
    ADC.TRGCNT_MERGE = s.counted (pADC c) ADC.TRGCNT_MERGE ∧ t.get (pADC c) ADC.OVFCNT_TRIGOVR = s.counted (pADC c)
    ADC.OVFCNT_TRIGOVR ∧ t.get (pADC c) ADC.OVFCNT_RINGOVF = s.counted (pADC c) ADC.OVFCNT_RINGOVF))

/-- For every engine. A trigger in OPEN unarmed counts MERGE and runs nothing; armed, it closes the engine:
CLOSEARM 0, and it enters CLOSED and runs (BUSY) where its input check finds no input stale and none frozen
(INSTAT), and HOLD with STALE where it finds one. In CLOSED with a pending trigger it counts TRIGOVR with
TRIG_OVR; while the chain runs and fewer than three overruns stand, it becomes pending, counts CONSEC, raises
OVR and voids the run. The end of a run without an arithmetic fault stores every state word, every output
scalar and LIM and clears BUSY and CONSEC; a void run changes no state and no output. CLOSE in OPEN with sound
settings arms, but on the bypass clock not an engine that the move there opened; with other settings or in
another state CFG_REJ with the state kept. OPEN opens: an armed close is dropped, a running chain voided, PEND
and CONSEC cleared. CMD.TRIG requests a trigger. CLRCNT clears the four counters but for what counts in that
tick (R101). MERGE's count for an armed loop that opens and the deviation of sine and cosine are the model's
(log entry 26).

exec answers a next state, under hypotheses on the state and the operands alone, for: latheTrigger,
latheChainEnd, latheClose, latheOpen, latheCmdTrig, latheCntclr. -/
def Obligations.LatheEnginesAct : Prop :=
  (∀ (s : State) (n : Fin 8), s.phase = .running ∧ s.inBlk.contains (pLE n) = false ∧ (s.leOf n).req = true ∧
    s.leState n = 0 ∧ s.on (pLE n) LTH.STAT_CLOSEARM = false ∧ s.get (pLE n) LTH.CNT_MERGE + 1 < 2 ^
    LTH.CNT_MERGE.wid → 
    ∃ t, Sys2Proof.Machine.exec (.latheTrigger n) s = .next t ∧ ((t.leOf n).req = false ∧ t.leState n = 0 ∧ t.get
    (pLE n) LTH.CNT_MERGE = s.get (pLE n) LTH.CNT_MERGE + 1)) ∧
  (∀ (s : State) (n : Fin 8), s.phase = .running ∧ (s.leOf n).req = true ∧ s.leState n = 0 ∧ s.absent (pLE n) =
    false ∧ s.inBlk.contains (pLE n) = false ∧ s.on (pLE n) LTH.STAT_CLOSEARM = true → 
    ∃ t, Sys2Proof.Machine.exec (.latheTrigger n) s = .next t ∧ (t.get (pLE n) LTH.STAT_CLOSEARM = 0 ∧ (t.get (pLE
    n) LTH.INSTAT_STALE = 0 ∧ t.get (pLE n) LTH.INSTAT_FRZ = 0 → t.leState n = 1 ∧ t.get (pLE n) LTH.STAT_BUSY = 1)
    ∧ (t.get (pLE n) LTH.INSTAT_STALE ≠ 0 ∨ t.get (pLE n) LTH.INSTAT_FRZ ≠ 0 → t.leState n = 2 ∧ t.bit (pLE n)
    HDR.ERRSTAT LTH.E_STALE = true))) ∧
  (∀ (s : State) (n : Fin 8), s.Live (pLE n) ∧ (s.leOf n).req = true ∧ s.leState n = 1 ∧ s.on (pLE n) LTH.STAT_PEND
    = true ∧ s.get (pLE n) LTH.CNT_TRIGOVR + 1 < 2 ^ LTH.CNT_TRIGOVR.wid → 
    ∃ t, Sys2Proof.Machine.exec (.latheTrigger n) s = .next t ∧ (t.get (pLE n) LTH.CNT_TRIGOVR = s.get (pLE n)
    LTH.CNT_TRIGOVR + 1 ∧ t.bit (pLE n) HDR.ERRSTAT LTH.E_TRIG_OVR = true ∧ t.leState n = 1)) ∧
  (∀ (s : State) (n : Fin 8), s.Live (pLE n) ∧ (s.leOf n).req = true ∧ s.leState n = 1 ∧ s.on (pLE n) LTH.STAT_PEND
    = false ∧ s.on (pLE n) LTH.STAT_BUSY = true ∧ s.get (pLE n) LTH.STAT_CONSEC < 3 → 
    ∃ t, Sys2Proof.Machine.exec (.latheTrigger n) s = .next t ∧ (t.get (pLE n) LTH.STAT_PEND = 1 ∧ t.get (pLE n)
    LTH.STAT_CONSEC = s.get (pLE n) LTH.STAT_CONSEC + 1 ∧ t.bit (pLE n) HDR.ERRSTAT LTH.E_OVR = true ∧ (t.leOf
    n).run.all LeRun.void = true)) ∧
  (∀ (s : State) (n : Fin 8) (r : LeRun) (i : Fin 64) (k : Fin 16), s.Live (pLE n) ∧ (s.leOf n).run = some r ∧
    r.void = false ∧ r.arith = false → 
    ∃ t, Sys2Proof.Machine.exec (.latheChainEnd n) s = .next t ∧ (t.get (pLE n) LTH.STAT_BUSY = 0 ∧ (t.leOf n).run
    = none ∧ t.get (pLE n) (LTH.STATEW i) = r.states.getD i 0 % 2 ^ 32 ∧ t.get (pLE n) (LTH.SOUT k) = r.souts.getD
    k 0 % 2 ^ 32 ∧ t.get (pLE n) LTH.STAT_LIM = b2n r.lim ∧ t.get (pLE n) LTH.STAT_CONSEC = 0)) ∧
  (∀ (s : State) (n : Fin 8) (r : LeRun) (i : Fin 64) (k : Fin 16), s.Live (pLE n) ∧ (s.leOf n).run = some r ∧
    r.void = true → 
    ∃ t, Sys2Proof.Machine.exec (.latheChainEnd n) s = .next t ∧ (t.get (pLE n) LTH.STAT_BUSY = 0 ∧ (t.leOf n).run
    = none ∧ t.get (pLE n) (LTH.STATEW i) = s.get (pLE n) (LTH.STATEW i) ∧ t.get (pLE n) (LTH.SOUT k) = s.get (pLE
    n) (LTH.SOUT k))) ∧
  (∀ (s : State) (n : Fin 8), s.Writable (pLE n) ∧ s.leState n = 0 ∧ s.closeRefused n = false ∧ (s.onSyna = true ∨
    (s.leOf n).clkOpen = false) → 
    ∃ t, Sys2Proof.Machine.exec (.latheClose n) s = .next t ∧ (t.get (pLE n) LTH.STAT_CLOSEARM = 1 ∧ t.leState n =
    0)) ∧
  (∀ (s : State) (n : Fin 8), s.Writable (pLE n) ∧ (s.leState n ≠ 0 ∨ s.closeRefused n = true) → 
    ∃ t, Sys2Proof.Machine.exec (.latheClose n) s = .next t ∧ (t.get (pLE n) LTH.STAT_CLOSEARM = s.get (pLE n)
    LTH.STAT_CLOSEARM ∧ t.leState n = s.leState n ∧ t.bit (pLE n) HDR.ERRSTAT LTH.E_CFG_REJ = true)) ∧
  (∀ (s : State) (n : Fin 8), s.Writable (pLE n) → 
    ∃ t, Sys2Proof.Machine.exec (.latheOpen n) s = .next t ∧ (t.leState n = 0 ∧ (s.leState n = 0 → t.get (pLE n)
    LTH.STAT_CLOSEARM = 0) ∧ (s.leState n ≠ 0 → t.get (pLE n) LTH.STAT_PEND = 0 ∧ t.get (pLE n) LTH.STAT_CONSEC = 0
    ∧ (t.leOf n).run.all LeRun.void = true))) ∧
  (∀ (s : State) (n : Fin 8), s.Writable (pLE n) ∧ n.val < s.le.length → 
    ∃ t, Sys2Proof.Machine.exec (.latheCmdTrig n) s = .next t ∧ ((t.leOf n).req = true)) ∧
  (∀ (s : State) (n : Fin 8), s.Writable (pLE n) → 
    ∃ t, Sys2Proof.Machine.exec (.latheCntclr n) s = .next t ∧ (t.get (pLE n) LTH.CNT_TRIGOVR = s.counted (pLE n)
    LTH.CNT_TRIGOVR ∧ t.get (pLE n) LTH.CNT_OVRCNT = s.counted (pLE n) LTH.CNT_OVRCNT ∧ t.get (pLE n) LTH.CNT_DISC
    = s.counted (pLE n) LTH.CNT_DISC ∧ t.get (pLE n) LTH.CNT_MERGE = s.counted (pLE n) LTH.CNT_MERGE))

/-- A COR report of a source not in a window whose reaction is REC only opens a record in the ring at RECWR with
its class, source, bit, sequence and time, and advances RECWR. A first FATAL report in a cell sets FATAL,
drives FAULT_N low, stops ALIVE, moves the cell to FAULT, and leaves no PWM unit 0 to 5 enabled with A high.
ACK closes the source's open record and clears its FSTAT bit. CONSEQ_WINDOW_END closes the window of a source
that is held in no reset. FAULT_N_RELEASE with FATAL clear, no stop record and valid straps releases FAULT_N
and starts ALIVE; with FATAL set it is refused with CFG_REJ. ALIVE_TOGGLE inverts the running signal; KICK
restarts the interval; a miss stops ALIVE with KICK_MISS. ALIVECFG with HALF in 50 to 5,000 is stored, else
kept with CFG_REJ. RCT stores COR, UNC and FAT with FAT's fixed bits forced, unless a blocked reaction of
sources that refuse it is asked (CFG_REJ); GRCT likewise without bits 4 and 5. CLRCNT clears RECOVF and CORCNT
but for what counts in that tick (R101). The record's form is the model's (log entry 27).

exec answers a next state, under hypotheses on the state and the operands alone, for: faultEvent, fcolAck,
conseqWindowEnd, faultNRelease, aliveToggle, aliveKick, kickMiss, alivecfgWrite, rctWrite, grctWrite,
fcolCntclr. -/
def Obligations.FaultCollectorActs : Prop :=
  (∀ (s : State) (i : Fin 48) (x : Report), s.phase = .running ∧ s.reports = [x] ∧ x.src = i.val ∧ x.cls = 1 ∧ x.inj
    = false ∧ s.inWindow i = false ∧ s.openRec i 0 = none ∧ s.classReact i 1 false = 1 ∧ (s.get pFCOL FCOL.RECWR +
    1) % 2048 ≠ s.get pFCOL FCOL.RECRD ∧ s.get pFCOL FCOL.RECWR < 2048 ∧ x.bit < 32 → 
    ∃ t, Sys2Proof.Machine.exec (.faultEvent i) s = .next t ∧ (t.reports = [] ∧ t.get pFCOL FCOL.RECWR = (s.get
    pFCOL FCOL.RECWR + 1) % 2048 ∧ t.fcol.seq = s.fcol.seq + 1 ∧ (t.fcol.ring.lookup (s.get pFCOL FCOL.RECWR)).map
    (fun r => (r.isOpen, r.cls, r.src, r.bits, r.time)) = some (true, 1, i.val, 2 ^ x.bit, x.time) ∧ (t.openRec i
    0).isSome = true)) ∧
  (∀ (s : State) (i : Fin 48) (x : Report), s.phase = .running ∧ s.isCell = true ∧ s.reports = [x] ∧ x.src = i.val
    ∧ x.cls = 3 ∧ x.inj = false ∧ s.fcol.fatalDone = false ∧ s.get pSYSC SYSC.CELLSTATE_STATE < 5 → 
    ∃ t, Sys2Proof.Machine.exec (.faultEvent i) s = .next t ∧ (t.fcol.fatalDone = true ∧ t.get pFCOL
    FCOL.STAT_FATAL = 1 ∧ t.pins.faultN = .low ∧ t.get pFCOL FCOL.STAT_ALIVERUN = 0 ∧ t.get pSYSC
    SYSC.CELLSTATE_STATE = 5 ∧ ∀ m : Fin 6, (t.unit m).outA = false ∨ s.on (pPWMU m) PWMU.CTRL_EN = false)) ∧
  (∀ (s : State) (n : BitVec 6) (at_ : Option Nat) (r : Rec), s.Writable pFCOL ∧ n.toNat < 48 ∧ s.fcol.opened =
    [(at_, r)] ∧ r.src = n.toNat ∧ r.gcode = 0 → 
    ∃ t, Sys2Proof.Machine.exec (.fcolAck false n) s = .next t ∧ (t.openRec n.toNat 0 = none ∧ (if n.toNat < 32
    then t.bit pFCOL FCOL.FSTATLO n.toNat else t.bit pFCOL FCOL.FSTATHI (n.toNat - 32)) = false)) ∧
  (∀ (s : State) (i : Fin 48), s.phase = .running ∧ (∀ pg ∈ sourcePages i.val, s.inBlk.contains pg = false) ∧
    (i.val = 7 → s.cpu1Held = false) → 
    ∃ t, Sys2Proof.Machine.exec (.conseqWindowEnd i) s = .next t ∧ (t.fcol.windows.contains i.val = false)) ∧
  (∀ (s : State), s.Writable pFCOL ∧ s.on pFCOL FCOL.STAT_FATAL = false ∧ s.stopRecord = false ∧ s.on pSYSC
    SYSC.STRAP_INV = false ∧ s.on pFCOL FCOL.STAT_FNASSERT = true → 
    ∃ t, Sys2Proof.Machine.exec (.faultNRelease) s = .next t ∧ (t.get pFCOL FCOL.STAT_FNASSERT = 0 ∧ t.get pFCOL
    FCOL.STAT_ALIVERUN = 1 ∧ t.pins.faultN = .hiZ)) ∧
  (∀ (s : State), s.Writable pFCOL ∧ s.on pFCOL FCOL.STAT_FATAL = true → 
    ∃ t, Sys2Proof.Machine.exec (.faultNRelease) s = .next t ∧ (t.get pFCOL FCOL.STAT_FNASSERT = s.get pFCOL
    FCOL.STAT_FNASSERT ∧ t.pins.faultN = s.pins.faultN ∧ t.bit pFCOL HDR.ERRSTAT FCOL.E_CFG_REJ = true)) ∧
  (∀ (s : State), s.phase = .running ∧ s.on pFCOL FCOL.STAT_ALIVERUN = true → 
    ∃ t, Sys2Proof.Machine.exec (.aliveToggle) s = .next t ∧ (t.pins.alive = (if s.pins.alive = .high then .low
    else .high))) ∧
  (∀ (s : State), s.Writable pFCOL ∧ s.fcol.kickAt.isSome = true ∧ s.on pFCOL FCOL.STAT_ALIVERUN = true ∧ s.on
    pFCOL FCOL.ALIVECFG_KICKTO = true → 
    ∃ t, Sys2Proof.Machine.exec (.aliveKick) s = .next t ∧ (t.fcol.kickAt = some s.ticks)) ∧
  (∀ (s : State) (tk : Nat), s.Live pFCOL ∧ s.fcol.kickAt = some tk ∧ tk < s.ticks → 
    ∃ t, Sys2Proof.Machine.exec (.kickMiss) s = .next t ∧ (t.get pFCOL FCOL.STAT_ALIVERUN = 0 ∧ t.bit pFCOL
    HDR.ERRSTAT FCOL.E_KICK_MISS = true ∧ t.fcol.kickAt = none)) ∧
  (∀ (s : State) (v : Word), s.Writable pFCOL ∧ 50 ≤ FCOL.ALIVECFG_HALF.pick v.toNat ∧ FCOL.ALIVECFG_HALF.pick
    v.toNat ≤ 5000 → 
    ∃ t, Sys2Proof.Machine.exec (.alivecfgWrite v) s = .next t ∧ (t.get pFCOL FCOL.ALIVECFG_HALF =
    FCOL.ALIVECFG_HALF.pick v.toNat ∧ t.get pFCOL FCOL.ALIVECFG_KICKTO = FCOL.ALIVECFG_KICKTO.pick v.toNat)) ∧
  (∀ (s : State) (v : Word), s.Writable pFCOL ∧ (FCOL.ALIVECFG_HALF.pick v.toNat < 50 ∨ 5000 <
    FCOL.ALIVECFG_HALF.pick v.toNat) → 
    ∃ t, Sys2Proof.Machine.exec (.alivecfgWrite v) s = .next t ∧ (t.get pFCOL FCOL.ALIVECFG_HALF = s.get pFCOL
    FCOL.ALIVECFG_HALF ∧ t.get pFCOL FCOL.ALIVECFG_KICKTO = s.get pFCOL FCOL.ALIVECFG_KICKTO ∧ t.bit pFCOL
    HDR.ERRSTAT FCOL.E_CFG_REJ = true)) ∧
  (∀ (s : State) (n : Fin 48) (v : Word), s.Writable pFCOL ∧ (blkRefused n = true → bitAt v.toNat 5 = false ∧ bitAt
    v.toNat 15 = false) → 
    ∃ t, Sys2Proof.Machine.exec (.rctWrite n v) s = .next t ∧ (t.get pFCOL (FCOL.RCT_COR n) = v.toNat % 2 ^
    (FCOL.RCT_COR n).wid ∧ t.get pFCOL (FCOL.RCT_UNC n) = v.toNat / 1024 % 2 ^ (FCOL.RCT_UNC n).wid ∧ t.get pFCOL
    (FCOL.RCT_FAT n) = (0x095 ||| (v.toNat / 2 ^ 20 &&& 0x142)) % 2 ^ (FCOL.RCT_FAT n).wid)) ∧
  (∀ (s : State) (n : Fin 48) (v : Word), s.Writable pFCOL ∧ blkRefused n = true ∧ (bitAt v.toNat 5 = true ∨ bitAt
    v.toNat 15 = true) → 
    ∃ t, Sys2Proof.Machine.exec (.rctWrite n v) s = .next t ∧ (t.get pFCOL (FCOL.RCT_COR n) = s.get pFCOL
    (FCOL.RCT_COR n) ∧ t.get pFCOL (FCOL.RCT_UNC n) = s.get pFCOL (FCOL.RCT_UNC n) ∧ t.get pFCOL (FCOL.RCT_FAT n) =
    s.get pFCOL (FCOL.RCT_FAT n) ∧ t.bit pFCOL HDR.ERRSTAT FCOL.E_CFG_REJ = true)) ∧
  (∀ (s : State) (n : Fin 16) (v : Word), s.Writable pFCOL ∧ bitAt v.toNat 4 = false ∧ bitAt v.toNat 5 = false → 
    ∃ t, Sys2Proof.Machine.exec (.grctWrite n v) s = .next t ∧ (t.get pFCOL (FCOL.GRCT n) = v.toNat % 2 ^
    (FCOL.GRCT n).wid)) ∧
  (∀ (s : State) (n : Fin 16) (v : Word), s.Writable pFCOL ∧ (bitAt v.toNat 4 = true ∨ bitAt v.toNat 5 = true) → 
    ∃ t, Sys2Proof.Machine.exec (.grctWrite n v) s = .next t ∧ (t.get pFCOL (FCOL.GRCT n) = s.get pFCOL (FCOL.GRCT
    n) ∧ t.bit pFCOL HDR.ERRSTAT FCOL.E_CFG_REJ = true)) ∧
  (∀ (s : State) (n : Fin 48), s.Writable pFCOL → 
    ∃ t, Sys2Proof.Machine.exec (.fcolCntclr) s = .next t ∧ (t.get pFCOL FCOL.RECCNT_RECOVF = s.counted pFCOL
    FCOL.RECCNT_RECOVF ∧ t.get pFCOL (FCOL.CORCNT n) = s.counted pFCOL (FCOL.CORCNT n)))

/-- An evaluation counts, sets CRIT exactly when the governing temperature has reached TCRIT, and in a cell sets
the level's power ceiling; with all four sensors enabled and reading 25 degrees, T_DIE is valid at 25 and every
sensor valid. RESUME clears HOLDSTBY unless SHUTDOWN stands, when it raises CFG_REJ. The end of the flash
record releases the flash interface, clears EVBUSY, and advances EVNEXT by 32 and raises EV_DONE if it was
written, or raises EV_FAIL. The raw codes are operands (log entry 28).

exec answers a next state, under hypotheses on the state and the operands alone, for: thrmEval, thrmResume,
thrmFlashDone. -/
def Obligations.ThermalActs : Prop :=
  (∀ (s : State) (raws : List Int), s.phase = .running → 
    ∃ t, Sys2Proof.Machine.exec (.thrmEval raws) s = .next t ∧ (t.thrm.evals = s.thrm.evals + 1 ∧ t.get pTHRM
    THRM.LEVEL_CRIT = b2n (decide (toSigned (s.get pTHRM THRM.TCRIT) 16 ≤ t.tg)) ∧ (s.isCell = true → t.get pTHRM
    THRM.LEVEL_PCEIL = t.pceil % 256))) ∧
  (∀ (s : State) (raws : List Int), s.phase = .running ∧ raws.length = 4 ∧ (∀ n : Fin 4, s.sensorTrim n (raws.getD
    n 0) = some 400 ∧ s.senOn n = true) → 
    ∃ t, Sys2Proof.Machine.exec (.thrmEval raws) s = .next t ∧ (t.get pTHRM THRM.TDIE_TVALID = 1 ∧ t.get pTHRM
    THRM.TDIE_T = 400 ∧ ∀ n : Fin 4, t.get pTHRM (THRM.TSENS_VALID n) = 1)) ∧
  (∀ (s : State), s.Writable pTHRM ∧ s.on pTHRM THRM.LEVEL_SHUTDOWN = false → 
    ∃ t, Sys2Proof.Machine.exec (.thrmResume) s = .next t ∧ (t.get pTHRM THRM.STAT_HOLDSTBY = 0)) ∧
  (∀ (s : State), s.Writable pTHRM ∧ s.on pTHRM THRM.LEVEL_SHUTDOWN = true → 
    ∃ t, Sys2Proof.Machine.exec (.thrmResume) s = .next t ∧ (t.get pTHRM THRM.STAT_HOLDSTBY = s.get pTHRM
    THRM.STAT_HOLDSTBY ∧ t.bit pTHRM HDR.ERRSTAT THRM.E_CFG_REJ = true)) ∧
  (∀ (s : State) (ok : Bool), s.Live pTHRM ∧ s.Unwritten pTHRM THRM.EVNEXT ∧ s.on pQSPI QSPI.STAT_THRMHOLD = true ∧
    s.thrm.next = none ∧ s.get pTHRM THRM.EVNEXT + 32 < 2 ^ 32 ∧ s.get pTHRM THRM.EVNEXT % 32 = 0 → 
    ∃ t, Sys2Proof.Machine.exec (.thrmFlashDone ok) s = .next t ∧ (t.get pQSPI QSPI.STAT_THRMHOLD = 0 ∧
    t.thrm.flash = none ∧ t.get pTHRM THRM.STAT_EVBUSY = 0 ∧ t.get pTHRM THRM.EVNEXT = s.get pTHRM THRM.EVNEXT + 32
    * b2n ok ∧ (ok = false → t.bit pTHRM HDR.ERRSTAT THRM.E_EV_FAIL = true) ∧ (ok = true → t.bit pTHRM HDR.IRQFLG
    THRM.I_EV_DONE = true)))

/-- START from IDLE or FAULT without a refusal sets TRUN and the direction and enters WATCH; refused it keeps both
with CFG_REJ. STOP clears TRUN: WATCH goes to IDLE, ALIGN, RAMP and RUN go to BRAKE. WATCH ending without a
crossing begins ALIGN, not valid; with crossings in the asked direction and 5 Hz or more it goes to RUN with
the speed of them. A brake interval ends into an observation while the time of the brake phases, and the time
since BRAKE was entered, are under BRKMAX, else into FAULT with BRAKE_TMO. ALIGN ends into RAMP. A commutation
steps by one in the direction. A crossing of the floating phase in the middle half of the step sets the
interval and speed and schedules a commutation. A third missed crossing returns to WATCH with LOST_SYNC, fewer
are counted. A stall in RAMP enters FAULT with STALL. CTRL.EN is stored; 0 makes it IDLE. The polarity of a
crossing and BRKMAX at the end of an interval are the model's readings (log entry 29).

exec answers a next state, under hypotheses on the state and the operands alone, for: motrStart, motrStop,
motrWatchEnd, motrBrakeEnd, motrAlignEnd, motrCommutate, motrZeroCrossing, motrCrossingTimeout, motrStall,
motrEnableWrite. -/
def Obligations.MotorActs : Prop :=
  (∀ (s : State) (rev : Bool), s.Ready ∧ s.Writable pMOTR ∧ s.isCell = false ∧ s.startRefused = false ∧ (s.motrState
    = 0 ∨ s.motrState = 6) → 
    ∃ t, Sys2Proof.Machine.exec (.motrStart rev) s = .next t ∧ (t.get pMOTR MOTR.MSTAT_TRUN = 1 ∧ t.get pMOTR
    MOTR.MSTAT_TDIR = b2n rev ∧ t.motrState = 1)) ∧
  (∀ (s : State) (rev : Bool), s.Ready ∧ s.Writable pMOTR ∧ s.isCell = false ∧ s.startRefused = true → 
    ∃ t, Sys2Proof.Machine.exec (.motrStart rev) s = .next t ∧ (t.get pMOTR MOTR.MSTAT_TRUN = s.get pMOTR
    MOTR.MSTAT_TRUN ∧ t.motrState = s.motrState ∧ t.bit pMOTR HDR.ERRSTAT MOTR.E_CFG_REJ = true)) ∧
  (∀ (s : State), s.Ready ∧ s.Writable pMOTR ∧ s.isCell = false → 
    ∃ t, Sys2Proof.Machine.exec (.motrStop) s = .next t ∧ (t.get pMOTR MOTR.MSTAT_TRUN = 0 ∧ t.motrState = (if
    s.motrState = 1 then 0 else if 2 ≤ s.motrState ∧ s.motrState ≤ 4 then 5 else s.motrState))) ∧
  (∀ (s : State), s.Ready ∧ s.motr.susp = false ∧ s.motrState = 1 ∧ s.motr.best = none → 
    ∃ t, Sys2Proof.Machine.exec (.motrWatchEnd) s = .next t ∧ (t.motrState = 2 ∧ t.get pMOTR MOTR.MSTAT_OVALID = 0
    ∧ t.get pMOTR MOTR.MSTAT_STEP = 0)) ∧
  (∀ (s : State) (dir : Bool) (n us : Nat), s.Ready ∧ s.motr.susp = false ∧ s.motrState = 1 ∧ s.motr.best = some
    (dir, n, us) ∧ dir = s.on pMOTR MOTR.MSTAT_TDIR ∧ s.fAtLeast (n - 1) us 5 = true → 
    ∃ t, Sys2Proof.Machine.exec (.motrWatchEnd) s = .next t ∧ (t.motrState = 4 ∧ t.get pMOTR MOTR.MSTAT_OVALID = 1
    ∧ t.get pMOTR MOTR.MSTAT_ODIR = b2n dir ∧ t.get pMOTR MOTR.SPEED = freqOf (n - 1) us ∧ t.motr.sched = true)) ∧
  (∀ (s : State), s.Ready ∧ s.motr.susp = false ∧ s.motrState = 5 ∧ s.motr.obs = false ∧ max (s.motr.brk + s.get
    pMOTR MOTR.BRAKE_BRKON) ((s.ns - s.motr.brkAt) / 1000000) < s.get pMOTR MOTR.BRAKE_BRKMAX * 100 → 
    ∃ t, Sys2Proof.Machine.exec (.motrBrakeEnd) s = .next t ∧ (t.motr.obs = true ∧ t.motr.brk = s.motr.brk + s.get
    pMOTR MOTR.BRAKE_BRKON ∧ t.motrState = 5)) ∧
  (∀ (s : State), s.Ready ∧ s.Live pMOTR ∧ s.motr.susp = false ∧ s.motrState = 5 ∧ s.motr.obs = false ∧ s.get pMOTR
    MOTR.BRAKE_BRKMAX * 100 ≤ max (s.motr.brk + s.get pMOTR MOTR.BRAKE_BRKON) ((s.ns - s.motr.brkAt) / 1000000) → 
    ∃ t, Sys2Proof.Machine.exec (.motrBrakeEnd) s = .next t ∧ (t.motrState = 6 ∧ t.bit pMOTR HDR.ERRSTAT
    MOTR.E_BRAKE_TMO = true)) ∧
  (∀ (s : State), s.Ready ∧ s.motr.susp = false ∧ s.motrState = 2 → 
    ∃ t, Sys2Proof.Machine.exec (.motrAlignEnd) s = .next t ∧ (t.motrState = 3 ∧ t.motr.ramp = 0 ∧ t.motr.streak =
    0)) ∧
  (∀ (s : State) (us : Nat), s.Ready ∧ s.motr.susp = false ∧ s.motrState = 4 ∧ s.motr.sched = true ∧ s.get pMOTR
    MOTR.MSTAT_STEP < 6 → 
    ∃ t, Sys2Proof.Machine.exec (.motrCommutate us) s = .next t ∧ (t.get pMOTR MOTR.MSTAT_STEP = (if s.on pMOTR
    MOTR.MSTAT_TDIR then (s.get pMOTR MOTR.MSTAT_STEP + 5) % 6 else (s.get pMOTR MOTR.MSTAT_STEP + 1) % 6) ∧
    t.motr.sched = false ∧ t.motrState = 4)) ∧
  (∀ (s : State) (ph : Fin 3) (us inStep : Nat), s.Ready ∧ s.motr.susp = false ∧ s.on pMOTR MOTR.CTRL_EN = true ∧
    s.motrState = 4 ∧ floating (s.get pMOTR MOTR.MSTAT_STEP) = ph.val ∧ s.motr.sched = false ∧ s.get pMOTR
    MOTR.STEPIVL ≤ 4 * inStep ∧ 4 * inStep ≤ 3 * s.get pMOTR MOTR.STEPIVL → 
    ∃ t, Sys2Proof.Machine.exec (.motrZeroCrossing ph us inStep) s = .next t ∧ (t.motr.sched = true ∧ t.motr.misses
    = 0 ∧ t.get pMOTR MOTR.STEPIVL = min us (2 ^ 20 - 1) ∧ t.get pMOTR MOTR.SPEED = freqOf 1 us)) ∧
  (∀ (s : State), s.Ready ∧ s.Live pMOTR ∧ s.motr.susp = false ∧ s.motrState = 4 ∧ s.motr.sched = false ∧ 2 ≤
    s.motr.misses → 
    ∃ t, Sys2Proof.Machine.exec (.motrCrossingTimeout) s = .next t ∧ (t.motrState = 1 ∧ t.bit pMOTR HDR.ERRSTAT
    MOTR.E_LOST_SYNC = true)) ∧
  (∀ (s : State), s.Ready ∧ s.motr.susp = false ∧ s.motrState = 4 ∧ s.motr.sched = false ∧ s.motr.misses < 2 → 
    ∃ t, Sys2Proof.Machine.exec (.motrCrossingTimeout) s = .next t ∧ (t.motrState = 4 ∧ t.motr.misses =
    s.motr.misses + 1)) ∧
  (∀ (s : State), s.Ready ∧ s.Live pMOTR ∧ s.motr.susp = false ∧ s.motrState = 3 → 
    ∃ t, Sys2Proof.Machine.exec (.motrStall) s = .next t ∧ (t.motrState = 6 ∧ t.bit pMOTR HDR.ERRSTAT MOTR.E_STALL
    = true)) ∧
  (∀ (s : State) (en : Bool), s.Writable pMOTR ∧ s.isCell = false → 
    ∃ t, Sys2Proof.Machine.exec (.motrEnableWrite en) s = .next t ∧ (t.get pMOTR MOTR.CTRL_EN = b2n en ∧ (en =
    false → t.motrState = 0)))

/-- An accepted input level is stored; a low of an enabled input while running takes Tailstock to SAFE, both
outputs low, the cause 1 or 2 by input (where no ENERGISE was accepted in the same tick). A discrepancy of an
enabled input pair locks it with its error. CLRDISC with both inputs disabled clears the locks; with input 0
enabled and never both high long enough it is refused with ENERG_REJ. ENERGISE with key 0x3E6A in SAFE, locked,
the straps valid, no demand, lock or trip request, the readbacks off, begins STARTUP with HS high and LS low;
with another key or state, or unlocked, it is refused, outputs as they were. DEENERGISE sets TRIPREQ and,
running, goes to SAFE with both outputs low: with cause 6, or, in the tick of an accepted ENERGISE, refusing
that with ENERG_REJ. That ENERGISE is refused while TRIPREQ stands is log entry 30.

exec answers a next state, under hypotheses on the state and the operands alone, for: tstkInputChange,
tstkDiscrepancy, tstkClrdisc, tstkEnergise, tstkDeenergise. -/
def Obligations.TailstockActs : Prop :=
  (∀ (s : State) (ch : Fin 4) (lvl : Bool), s.phase = .running ∧ s.tstkHeld = false → 
    ∃ t, Sys2Proof.Machine.exec (.tstkInputChange ch lvl) s = .next t ∧ (t.sfi ch = lvl ∧ (lvl = false → s.inEn (ch
    / 2) = true → s.tstkRuns = true → t.tstkState = 1 ∧ t.pins.scoHs = .low ∧ t.pins.scoLs = .low ∧
    (s.meets.energised = none → t.get pTSTK TSTK.TSTAT_CAUSE = 1 + ch / 2)))) ∧
  (∀ (s : State) (j : Fin 2), s.Live pTSTK ∧ s.tstkHeld = false ∧ s.inEn j = true ∧ s.sfi (2 * j) ≠ s.sfi (2 * j +
    1) → 
    ∃ t, Sys2Proof.Machine.exec (.tstkDiscrepancy j) s = .next t ∧ (t.bit pTSTK TSTK.TSTAT_DLOCK j = true ∧ t.bit
    pTSTK HDR.ERRSTAT (if j = 0 then TSTK.E_DISCREP0 else TSTK.E_DISCREP1) = true)) ∧
  (∀ (s : State), s.Writable pTSTK ∧ s.inEn 0 = false ∧ s.inEn 1 = false → 
    ∃ t, Sys2Proof.Machine.exec (.tstkClrdisc) s = .next t ∧ (t.get pTSTK TSTK.TSTAT_DLOCK = 0)) ∧
  (∀ (s : State), s.Writable pTSTK ∧ s.inEn 0 = true ∧ s.tstk.high = [none, none] → 
    ∃ t, Sys2Proof.Machine.exec (.tstkClrdisc) s = .next t ∧ (t.get pTSTK TSTK.TSTAT_DLOCK = s.get pTSTK
    TSTK.TSTAT_DLOCK ∧ t.bit pTSTK HDR.ERRSTAT TSTK.E_ENERG_REJ = true)) ∧
  (∀ (s : State) (key : BitVec 16), s.Awake ∧ s.deaf pTSTK = false ∧ key = 0x3E6A ∧ s.tstkState = 1 ∧ s.locked
    pTSTK = true ∧ s.inDemand 0 = false ∧ s.inDemand 1 = false ∧ s.get pTSTK TSTK.TSTAT_DLOCK = 0 ∧ s.on pTSTK
    TSTK.TSTAT_TRIPREQ = false ∧ s.on pTSTK TSTK.RBSTAT_HSFB = false ∧ s.on pTSTK TSTK.RBSTAT_LSFB = true ∧ s.on
    pSYSC SYSC.STRAP_INV = false → 
    ∃ t, Sys2Proof.Machine.exec (.tstkEnergise key) s = .next t ∧ (t.tstkState = 2 ∧ t.pins.scoHs = .high ∧
    t.pins.scoLs = .low)) ∧
  (∀ (s : State) (key : BitVec 16), s.Awake ∧ s.deaf pTSTK = false ∧ (key ≠ 0x3E6A ∨ s.tstkState ≠ 1 ∨ s.locked
    pTSTK = false) → 
    ∃ t, Sys2Proof.Machine.exec (.tstkEnergise key) s = .next t ∧ (t.tstkState = s.tstkState ∧ t.pins.scoHs =
    s.pins.scoHs ∧ t.pins.scoLs = s.pins.scoLs ∧ t.bit pTSTK HDR.ERRSTAT TSTK.E_ENERG_REJ = true)) ∧
  (∀ (s : State), s.Awake ∧ s.deaf pTSTK = false → 
    ∃ t, Sys2Proof.Machine.exec (.tstkDeenergise) s = .next t ∧ (t.get pTSTK TSTK.TSTAT_TRIPREQ = 1 ∧ (s.tstkRuns =
    true → t.tstkState = 1 ∧ (s.meets.energised = none → t.get pTSTK TSTK.TSTAT_CAUSE = 6) ∧ (s.meets.energised ≠
    none → t.bit pTSTK HDR.ERRSTAT TSTK.E_ENERG_REJ = true) ∧ t.pins.scoHs = .low ∧ t.pins.scoLs = .low) ∧
    (s.tstkRuns = false → t.tstkState = s.tstkState)))

/-- The clauses that drive an output high ask for valid straps (R45), those that judge a readback for a tick
without a demand, the FCOL request for one without an accepted ENERGISE (R430). TESTNOW in ENERGISED begins a
test (HS low, LS high), elsewhere it is refused with ENERG_REJ. An enabled FCOL trip request takes a running
Tailstock to SAFE with cause 3 and TRIPREQ. Start-up steps with the readbacks as demanded advance; the fifth
ends in ENERGISED; steps 1 and 3 drive the outputs as R425 orders. TEST_DUE with TESTEN begins a test; its last
step returns to ENERGISED and counts. A readback of the high side low when it is demanded high enters FAULT
with both outputs low, HS_OPEN and its TSTAT bit; so does an oscillator failure. The first lock key begins an
unlock; the second, the CRC of the configuration, locks the page. The numbering of the steps is the model's
(log entry 30).

exec answers a next state, under hypotheses on the state and the operands alone, for: tstkTestnow,
tstkTripRequest, tstkStartupStep, tstkTestDue, tstkTestStep, tstkReadbackFault, tstkOscFail, tstkLockKey. -/
def Obligations.TailstockTripsAndTestsAct : Prop :=
  (∀ (s : State), s.Awake ∧ s.deaf pTSTK = false ∧ s.tstkState = 3 ∧ s.on pSYSC SYSC.STRAP_INV = false → 
    ∃ t, Sys2Proof.Machine.exec (.tstkTestnow) s = .next t ∧ (t.tstkState = 4 ∧ t.pins.scoHs = .low ∧ t.pins.scoLs
    = .high ∧ t.tstk.step = 0)) ∧
  (∀ (s : State), s.Awake ∧ s.deaf pTSTK = false ∧ s.tstkState ≠ 3 → 
    ∃ t, Sys2Proof.Machine.exec (.tstkTestnow) s = .next t ∧ (t.tstkState = s.tstkState ∧ t.bit pTSTK HDR.ERRSTAT
    TSTK.E_ENERG_REJ = true)) ∧
  (∀ (s : State), s.phase = .running ∧ s.tstkHeld = false ∧ s.tstk.req.contains 3 = true ∧ s.on pTSTK
    TSTK.CFG_TRFCOL = true ∧ s.tstkRuns = true ∧ s.meets.energised = none → 
    ∃ t, Sys2Proof.Machine.exec (.tstkTripRequest 0) s = .next t ∧ (t.get pTSTK TSTK.TSTAT_TRIPREQ = 1 ∧
    t.tstkState = 1 ∧ t.get pTSTK TSTK.TSTAT_CAUSE = 3 ∧ t.tstk.req.contains 3 = false ∧ t.pins.scoHs = .low)) ∧
  (∀ (s : State) (hs ls : Bool), s.phase = .running ∧ s.tstkHeld = false ∧ s.tstkState = 2 ∧ s.meets.demanded =
    none ∧ hs = s.on pTSTK TSTK.RBSTAT_HS ∧ ls ≠ s.on pTSTK TSTK.RBSTAT_LS ∧ s.on pSYSC SYSC.STRAP_INV = false → 
    ∃ t, Sys2Proof.Machine.exec (.tstkStartupStep hs ls) s = .next t ∧ (t.tstk.step = s.tstk.step + 1 ∧ (4 ≤
    s.tstk.step → t.tstkState = 3) ∧ (s.tstk.step = 1 → t.pins.scoHs = .low ∧ t.pins.scoLs = .high) ∧ (s.tstk.step
    = 3 → t.pins.scoHs = .high ∧ t.pins.scoLs = .high))) ∧
  (∀ (s : State), s.phase = .running ∧ s.tstkState = 3 ∧ s.on pTSTK TSTK.CFG_TESTEN = true ∧ s.on pSYSC
    SYSC.STRAP_INV = false → 
    ∃ t, Sys2Proof.Machine.exec (.tstkTestDue) s = .next t ∧ (t.tstkState = 4 ∧ t.pins.scoHs = .low ∧ t.pins.scoLs
    = .high)) ∧
  (∀ (s : State) (hs ls : Bool), s.phase = .running ∧ s.tstkState = 4 ∧ s.meets.demanded = none ∧ 4 ≤ s.tstk.step ∧
    hs = s.on pTSTK TSTK.RBSTAT_HS ∧ ls ≠ s.on pTSTK TSTK.RBSTAT_LS ∧ s.get pTSTK TSTK.COUNTS_TESTCNT + 1 < 2 ^
    TSTK.COUNTS_TESTCNT.wid → 
    ∃ t, Sys2Proof.Machine.exec (.tstkTestStep hs ls) s = .next t ∧ (t.tstkState = 3 ∧ t.get pTSTK
    TSTK.COUNTS_TESTCNT = s.get pTSTK TSTK.COUNTS_TESTCNT + 1)) ∧
  (∀ (s : State) (hs ls : Bool), s.Live pTSTK ∧ s.tstkHeld = false ∧ s.meets.demanded = none ∧ s.on pTSTK
    TSTK.RBSTAT_HS = true ∧ hs = false → 
    ∃ t, Sys2Proof.Machine.exec (.tstkReadbackFault hs ls) s = .next t ∧ (t.tstkState = 5 ∧ t.pins.scoHs = .low ∧
    t.pins.scoLs = .low ∧ t.bit pTSTK HDR.ERRSTAT TSTK.E_HS_OPEN = true ∧ t.bit pTSTK TSTK.TSTAT_FLT 1 = true)) ∧
  (∀ (s : State), s.Live pTSTK ∧ s.tstkHeld = false → 
    ∃ t, Sys2Proof.Machine.exec (.tstkOscFail) s = .next t ∧ (t.tstkState = 5 ∧ t.get pTSTK TSTK.TSTAT_OSCF = 1 ∧
    t.pins.scoHs = .low ∧ t.pins.scoLs = .low ∧ t.bit pTSTK HDR.ERRSTAT TSTK.E_OSC_FAIL = true)) ∧
  (∀ (s : State) (key : BitVec 16), s.Awake ∧ s.deaf pTSTK = false ∧ s.unlock.contains pTSTK = true ∧ key.toNat =
    s.tstkCrc → 
    ∃ t, Sys2Proof.Machine.exec (.tstkLockKey key) s = .next t ∧ (t.locked pTSTK = true ∧ t.unlock.contains pTSTK =
    false)) ∧
  (∀ (s : State), s.Awake ∧ s.deaf pTSTK = false ∧ s.unlock.contains pTSTK = false → 
    ∃ t, Sys2Proof.Machine.exec (.tstkLockKey 0x7A5C) s = .next t ∧ (t.unlock.contains pTSTK = true ∧ t.locked
    pTSTK = s.locked pTSTK))

/-- WFI with no interrupt waiting marks the pair asleep; with both asleep, STOP asked and allowed and no interrupt
waiting for the other, the device enters STOP on the internal oscillator with SYNA off; where STOP is refused,
REJ is set and it sleeps only. A wake ends STOP: both pairs awake, SYNA enabled again. A lockstep error of a
pair not held in reset sets its CPUERR bit and, unless the bit is already told, reports class 3 for pair 0, 2
for pair 1. Memory errors set the bits of MEMERR or CPUERR and the address, and a double error of shared SRAM
answers a bus error. CLAIM answers the best active source and masks it, or 0x100; COMPLETE unmasks. CHALLENGE
sends 32 bytes and unlocks nothing. RESPONSE without a challenge, or wrong, counts a failure; with a trusted
key and a signature over challenge and UID it unlocks; after three failures nothing changes. A scan of IDCODE
shifts out 0x1019_24C5, and BYPASS, every unlisted instruction, and EXTEST and DEBUG while locked one bit;
DEBUG once unlocked lets the debug port reach the bus. That other instructions are scanned by the command of
RESPONSE is the model's choice (log entry 37). Readings of the model: no STOP while an interrupt waits for the
other pair (log entry 36); a RESPONSE without a challenge counts as a failure (log entry 37). The challenge's
bytes and the three checks are free (log entries 7 and 37).

exec answers a next state, under hypotheses on the state and the operands alone, for: wfi, stopWake,
lockstepError, memoryEccError, intcClaim, intcComplete, tapChallenge, tapResponse. -/
def Obligations.CoresSleepAndErrorsAct : Prop :=
  (∀ (s : State) (p : Fin 2), s.Ready ∧ s.soc.stop = false ∧ s.wakes p = false ∧ (p = 1 → s.on pSYSC
    SYSC.RELEASE_CPU1 = true) ∧ ((modNth s.soc.wfi p fun _ => true).all id = false ∨ s.on pINTC INTC.SLEEPCFG_STOP
    = false ∨ s.wakes (1 - p.val) = true) → 
    ∃ t, Sys2Proof.Machine.exec (.wfi p) s = .next t ∧ (t.soc.wfi = (modNth s.soc.wfi p fun _ => true) ∧ t.soc.stop
    = false ∧ s.KeepsBut t.toDev [] ∧ s.KeepsMem t)) ∧
  (∀ (s : State) (p : Fin 2), s.phase = .running ∧ s.soc.stop = false ∧ s.wakes p = false ∧ s.wakes (1 - p.val) =
    false ∧ (p = 1 → s.on pSYSC SYSC.RELEASE_CPU1 = true) ∧ (modNth s.soc.wfi p fun _ => true).all id = true ∧ s.on
    pINTC INTC.SLEEPCFG_STOP = true ∧ s.stopRefused = false → 
    ∃ t, Sys2Proof.Machine.exec (.wfi p) s = .next t ∧ (t.soc.stop = true ∧ t.get pCKSW CKSW.CKSTAT_SRC = 2 ∧ t.get
    pSYNA SYN.CFG_EN = 0 ∧ t.on pSYNA SYN.LOCKSTAT_FINE_LOCK = false)) ∧
  (∀ (s : State) (p : Fin 2), s.phase = .running ∧ s.soc.stop = false ∧ s.wakes p = false ∧ s.wakes (1 - p.val) =
    false ∧ (p = 1 → s.on pSYSC SYSC.RELEASE_CPU1 = true) ∧ (modNth s.soc.wfi p fun _ => true).all id = true ∧ s.on
    pINTC INTC.SLEEPCFG_STOP = true ∧ s.stopRefused = true → 
    ∃ t, Sys2Proof.Machine.exec (.wfi p) s = .next t ∧ (t.soc.stop = false ∧ t.get pINTC INTC.SLEEPCFG_REJ = 1 ∧
    t.soc.wfi = (modNth s.soc.wfi p fun _ => true))) ∧
  (∀ (s : State) (cause : Fin 3), s.phase = .running ∧ s.soc.stop = true ∧ (cause = 1 ∨ cause = 0 ∧ s.wake = true)
    → 
    ∃ t, Sys2Proof.Machine.exec (.stopWake cause) s = .next t ∧ (t.soc.stop = false ∧ t.soc.wfi = [false, false] ∧
    t.wake = false ∧ t.get pSYNA SYN.CFG_EN = 1)) ∧
  (∀ (s : State) (p : Fin 2), s.phase = .running ∧ (p = 1 → s.cpu1Held = false) → 
    ∃ t, Sys2Proof.Machine.exec (.lockstepError p) s = .next t ∧ (t.bit pINTC (if p = 0 then INTC.CPUERR0 else
    INTC.CPUERR1) 0 = true ∧ (s.told.contains (0x10006 + p.val, 0) = false → (t.reports.drop s.reports.length).map
    (fun r => (r.src, r.bit, r.cls)) = [(6 + p.val, 0, if p = 0 then 3 else 2)]))) ∧
  (∀ (s : State) (addr : BitVec 32) (double : Bool), s.phase = .running → 
    ∃ t, Sys2Proof.Machine.exec (.memoryEccError (.sram addr) double) s = .next t ∧ (t.bit pINTC INTC.MEMERR (b2n
    double) = true ∧ t.get pINTC INTC.MEMADDR = addr.toNat ∧ (double = true → t.reply = some none))) ∧
  (∀ (s : State) (addr : BitVec 32) (double : Bool), s.phase = .running → 
    ∃ t, Sys2Proof.Machine.exec (.memoryEccError (.block addr) double) s = .next t ∧ (t.bit pINTC INTC.MEMERR (2 +
    b2n double) = true ∧ t.get pINTC INTC.MEMADDR = addr.toNat)) ∧
  (∀ (s : State) (p : Fin 2) (double : Bool), s.phase = .running ∧ (p = 1 → s.cpu1Held = false) → 
    ∃ t, Sys2Proof.Machine.exec (.memoryEccError (.tcm p) double) s = .next t ∧ (t.bit pINTC (if p = 0 then
    INTC.CPUERR0 else INTC.CPUERR1) (1 + b2n double) = true)) ∧
  (∀ (s : State) (p : Fin 2) (n : Nat), s.Awake ∧ s.irqBest p = some n ∧ s.soc.masked.length = 2 → 
    ∃ t, Sys2Proof.Machine.exec (.intcClaim p) s = .next t ∧ (t.reply = some (some n) ∧ bitAt (t.soc.masked.getD p
    0) n = true ∧ n < 104 ∧ s.irqActive p n = true)) ∧
  (∀ (s : State) (p : Fin 2), s.Ready ∧ s.soc.stop = false ∧ s.irqBest p = none → 
    ∃ t, Sys2Proof.Machine.exec (.intcClaim p) s = .next t ∧ (t.reply = some (some 0x100) ∧ t.soc.masked =
    s.soc.masked ∧ s.KeepsBut t.toDev [])) ∧
  (∀ (s : State) (p : Fin 2) (n : BitVec 9), s.Ready ∧ s.soc.stop = false ∧ s.locked pINTC = false ∧ n.toNat < 256
    → 
    ∃ t, Sys2Proof.Machine.exec (.intcComplete p n) s = .next t ∧ (bitAt (t.soc.masked.getD p 0) n.toNat = false ∧
    s.KeepsBut t.toDev [])) ∧
  (∀ (s : State), s.phase = .running → 
    ∃ t, Sys2Proof.Machine.exec (.tapChallenge) s = .next t ∧ (t.soc.tapIr = 0x10 ∧ (∃ bs ∈ t.soc.challenge,
    bs.length = 32 ∧ t.sent = s.sent ++ [.challenge bs]) ∧ t.soc.unlocked = s.soc.unlocked)) ∧
  (∀ (s : State) (key sig : List Byte), s.phase = .running ∧ s.soc.tapFails < 3 ∧ s.soc.challenge = none → 
    ∃ t, Sys2Proof.Machine.exec (.tapResponse (.key key) sig) s = .next t ∧ (t.soc.tapFails = s.soc.tapFails + 1 ∧
    t.soc.unlocked = s.soc.unlocked)) ∧
  (∀ (s : State) (key sig c : List Byte), s.phase = .running ∧ s.soc.tapFails < 3 ∧ s.soc.challenge = some c → 
    ∃ t, Sys2Proof.Machine.exec (.tapResponse (.key key) sig) s = .next t ∧ (t.soc.challenge = none ∧ (if
    Config.trustedKey key = true ∧ Config.ecdsaOk key (Config.sha256 (c ++ toBE 8 Config.uid.toNat)) sig = true
    then t.soc.unlocked = true ∧ t.soc.tapFails = s.soc.tapFails else t.soc.unlocked = s.soc.unlocked ∧
    t.soc.tapFails = s.soc.tapFails + 1))) ∧
  (∀ (s : State) (key sig : List Byte), s.Ready ∧ 3 ≤ s.soc.tapFails → 
    ∃ t, Sys2Proof.Machine.exec (.tapResponse (.key key) sig) s = .next t ∧ (t.soc.unlocked = s.soc.unlocked ∧
    t.soc.challenge = s.soc.challenge ∧ s.KeepsBut t.toDev [])) ∧
  (∀ (s : State) (w : BitVec 5) (sig : List Byte), s.phase = .running ∧ w ≠ 0x02 ∧ w ≠ 0x10 ∧ w ≠ 0x11 ∧
    (s.soc.unlocked = true → w ≠ 0 ∧ w ≠ 0x12) → 
    ∃ t, Sys2Proof.Machine.exec (.tapResponse (.ir w) sig) s = .next t ∧ (t.soc.tapIr = w.toNat ∧ t.soc.unlocked =
    s.soc.unlocked ∧ t.sent = s.sent ++ [if w = 1 then .tap 0x101924C5 32 else .tap 0 1])) ∧
  (∀ (s : State) (sig : List Byte), s.phase = .running ∧ s.soc.unlocked = true ∧ s.soc.stop = false → 
    ∃ t, Sys2Proof.Machine.exec (.tapResponse (.ir 0x12) sig) s = .next t ∧ (t.soc.tapIr = 0x12 ∧ t.onBus .debug =
    true ∧ t.sent = s.sent))

/-- GO on an idle channel with a lawful kind and no link boot sets BUSY and clears DONE, ERR and CODE. STOP of a
busy channel ends it with ERR, code 5 and its interrupt. A last descriptor of one word, copied between shared
SRAM addresses, leaves the word's bytes at the destination, writes word 6 as DONE and the length, and ends the
channel with DONE and its interrupt. A descriptor address not on 32 bytes ends it with ERR and code 3. That a
copy of aligned addresses moves words is the model's reading (log entry 32).

exec answers a next state, under hypotheses on the state and the operands alone, for: dmaGo, dmaStop,
dmaDescriptorDone, dmaError. -/
def Obligations.DmaChannelsAct : Prop :=
  (∀ (s : State) (c : Fin 16) (v : Word), s.Writable pDMA ∧ s.get pDMA (DMA.CHSTAT_BUSY c) = 0 ∧ s.soc.dma.length =
    16 ∧ s.linkBoot = false ∧ bitAt v.toNat 30 = false ∧ bitsOf v.toNat 0 4 < 3 → 
    ∃ t, Sys2Proof.Machine.exec (.dmaGo c v) s = .next t ∧ (t.get pDMA (DMA.CHSTAT_BUSY c) = 1 ∧ t.get pDMA
    (DMA.CHSTAT_DONE c) = 0 ∧ t.get pDMA (DMA.CHSTAT_ERR c) = 0 ∧ t.get pDMA (DMA.CHSTAT_CODE c) = 0)) ∧
  (∀ (s : State) (c : Fin 16), s.Writable pDMA ∧ s.on pDMA (DMA.CHSTAT_BUSY c) = true → 
    ∃ t, Sys2Proof.Machine.exec (.dmaStop c) s = .next t ∧ (t.get pDMA (DMA.CHSTAT_BUSY c) = 0 ∧ t.get pDMA
    (DMA.CHSTAT_ERR c) = 1 ∧ t.get pDMA (DMA.CHSTAT_CODE c) = 5 ∧ bitAt t.soc.dmaIrq c = true)) ∧
  (∀ (s : State) (c : Fin 16) (src dst : BitVec 20), s.Awake ∧ s.on pDMA (DMA.CHSTAT_BUSY c) = true ∧ s.get pDMA
    (DMA.CHCTL_KIND c) = 0 ∧ s.soc.bootDma = false ∧ s.dmaCh c = ⟨0x20000000, [2 ^ 31 + 4, 0x20000000 + 4 *
    src.toNat, 0, 0x20000000 + 4 * dst.toNat, 0, 0, 0], 0⟩ ∧ s.stores = [] ∧ s.soc.wipe = none ∧ 8 ≤ dst.toNat → 
    ∃ t, Sys2Proof.Machine.exec (.dmaDescriptorDone (c, [])) s = .next t ∧ (t.mems.bytes .sram (4 * dst.toNat) 4 =
    s.mems.bytes .sram (4 * src.toNat) 4 ∧ t.mems.bytes .sram 24 4 = toLE 4 (2 ^ 31 + 4) ∧ t.get pDMA
    (DMA.CHSTAT_BUSY c) = 0 ∧ t.get pDMA (DMA.CHSTAT_DONE c) = 1 ∧ bitAt t.soc.dmaIrq c = true)) ∧
  (∀ (s : State) (c : Fin 16) (hit : Option EccHit), s.Awake ∧ s.on pDMA (DMA.CHSTAT_BUSY c) = true ∧ (s.dmaCh
    c).words = [] ∧ (s.dmaCh c).at_ % 32 ≠ 0 → 
    ∃ t, Sys2Proof.Machine.exec (.dmaError (c, hit)) s = .next t ∧ (t.get pDMA (DMA.CHSTAT_BUSY c) = 0 ∧ t.get pDMA
    (DMA.CHSTAT_ERR c) = 1 ∧ t.get pDMA (DMA.CHSTAT_CODE c) = 3 ∧ bitAt t.soc.dmaIrq c = true))

/-- INIT with the clock running clears READY, sets TRAINING, releases DDR_RST_N, and makes every DRAM byte
undefined (a new generation of free bytes, log entry 4). Its end clears TRAINING and sets READY, or raises
TRAIN_FAIL. The patrol scrubber's error, ready with ECC and scrubbing on, stores the address and raises ECC_UE,
or ECC_CE with CECNT one up. PAR_ALERT with parity on raises its error.

exec answers a next state, under hypotheses on the state and the operands alone, for: ddrInitGo, ddrInitDone,
ddrPatrolScrub, parAlert. -/
def Obligations.DramControllerActs : Prop :=
  (∀ (s : State), s.Ready ∧ s.Writable pDDRC ∧ s.ethClock = true → 
    ∃ t, Sys2Proof.Machine.exec (.ddrInitGo) s = .next t ∧ (t.get pDDRC DDRC.STAT_READY = 0 ∧ t.get pDDRC
    DDRC.STAT_TRAINING = 1 ∧ t.pins.ddrRstN = .high ∧ t.mems.dram = [] ∧ t.mems.dgen = s.mems.dgen + 1 ∧
    t.mems.sram = s.mems.sram)) ∧
  (∀ (s : State) (ok : Bool), s.Live pDDRC ∧ s.on pDDRC DDRC.STAT_TRAINING = true → 
    ∃ t, Sys2Proof.Machine.exec (.ddrInitDone ok) s = .next t ∧ (t.get pDDRC DDRC.STAT_TRAINING = 0 ∧ (ok = true →
    t.get pDDRC DDRC.STAT_READY = 1) ∧ (ok = false → t.get pDDRC DDRC.STAT_READY = s.get pDDRC DDRC.STAT_READY ∧
    t.bit pDDRC HDR.ERRSTAT DDRC.E_TRAIN_FAIL = true))) ∧
  (∀ (s : State) (addr : BitVec 40) (double : Bool), s.Live pDDRC ∧ s.on pDDRC DDRC.STAT_READY = true ∧ s.on pDDRC
    DDRC.CFG_ECCEN = true ∧ s.on pDDRC DDRC.SCRUB_IVL = true → 
    ∃ t, Sys2Proof.Machine.exec (.ddrPatrolScrub addr (some double)) s = .next t ∧ (t.get pDDRC DDRC.ECCADDRLO =
    addr.toNat % 2 ^ 32 ∧ t.get pDDRC DDRC.ECCADDRHI = addr.toNat / 2 ^ 32 ∧ (double = true → t.bit pDDRC
    HDR.ERRSTAT DDRC.E_ECC_UE = true ∧ t.get pDDRC DDRC.CECNT = s.get pDDRC DDRC.CECNT) ∧ (double = false → t.bit
    pDDRC HDR.ERRSTAT DDRC.E_ECC_CE = true ∧ (s.get pDDRC DDRC.CECNT < 65535 → t.get pDDRC DDRC.CECNT = s.get pDDRC
    DDRC.CECNT + 1)))) ∧
  (∀ (s : State), s.Live pDDRC ∧ s.on pDDRC DDRC.CFG_PAREN = true → 
    ∃ t, Sys2Proof.Machine.exec (.parAlert) s = .next t ∧ (t.bit pDDRC HDR.ERRSTAT DDRC.E_PAR_ALERT = true))

/-- A descriptor enabled with a lawful kind, at least two blocks, POSTBLK + 1 below NBLK and its ring inside the
DRAM and no other bulk descriptor of its port and stream is armed with its counters cleared, the others as
before; with too few blocks it is refused with CFG_REJ. A trigger of software, or of the fault collector,
starts the post-trigger phase of every armed descriptor that listens to it, with its time and SEQ; one already
triggered counts it as merged, one in no such state as missed, and the others keep all (where no descriptor
takes markers). TRIG is raised by a trigger with no descriptor listed. MARK writes a marker record of kind 3
with its event byte into an open marker descriptor's block, whose first time is the present. A closed block
advances SEQ and WRBLK (wrapping), and the state becomes FROZEN when POSTBLK blocks follow. A dropped record
counts, with DROP. The layout's byte order and the event byte of a mark are the model's reading (log entry 34).

exec answers a next state, under hypotheses on the state and the operands alone, for: anmgDescriptorEnable,
anmgTrigger, anmgMark, anmgBlockClose, anmgRecordDrop. -/
def Obligations.AnemographActs : Prop :=
  (∀ (s : State) (n : Fin 512) (v : Word), s.Awake ∧ s.isCell = false ∧ (s.anDesc n).en = false ∧ bitAt v.toNat 31 =
    true ∧ (bitsOf v.toNat 28 3 = 2 → ∀ y ∈ s.an, y.1 = n.val ∨ y.2.en = false ∨ y.2.kind ≠ 2 ∨ y.2.port ≠ bitsOf
    v.toNat 16 8 ∨ y.2.stream ≠ bitsOf v.toNat 0 16) ∧ 2 ≤ (s.anDesc n).nblk ∧ (s.anDesc n).postblk + 1 < (s.anDesc
    n).nblk ∧ (s.anDesc n).base + (s.anDesc n).nblk * 1056 ≤ s.dramSize → 
    ∃ t, Sys2Proof.Machine.exec (.anmgDescriptorEnable n v) s = .next t ∧ ((t.anDesc n).state = 1 ∧ (t.anDesc n).en
    = true ∧ (t.anDesc n).wrblk = 0 ∧ (t.anDesc n).drop = 0 ∧ (t.anDesc n).trgtime = 0 ∧ (t.anDesc n).wrapped =
    false ∧ (t.anDesc n).nblk = (s.anDesc n).nblk ∧ (∀ m : Fin 512, m ≠ n → t.anDesc m = s.anDesc m))) ∧
  (∀ (s : State) (n : Fin 512) (v : Word), s.Awake ∧ s.Live pANMG ∧ s.isCell = false ∧ (s.anDesc n).en = false ∧
    bitAt v.toNat 31 = true ∧ ((s.anDesc n).nblk < 2 ∨ (s.anDesc n).nblk ≤ (s.anDesc n).postblk + 1) → 
    ∃ t, Sys2Proof.Machine.exec (.anmgDescriptorEnable n v) s = .next t ∧ (t.an = s.an ∧ t.bit pANMG HDR.ERRSTAT
    ANMG.E_CFG_REJ = true)) ∧
  (∀ (s : State), s.Awake ∧ s.Writable pANMG ∧ s.isCell = false ∧ s.an = [] ∧ s.anTrig.any (fun y => y.tick ==
    s.ticks) = false ∧ s.anPast.any (fun y => y.tick == s.ticks) = false ∧ s.anSoft.map Prod.fst ≠ some s.ticks → 
    ∃ t, Sys2Proof.Machine.exec (.anmgTrigger true) s = .next t ∧ (t.bit pANMG HDR.IRQFLG ANMG.I_TRIG = true ∧ t.an
    = [])) ∧
  (∀ (s : State) (n : Nat) (x : AnDesc), s.Writable pANMG ∧ s.isCell = false ∧ (n, x) ∈ s.an ∧ (s.an.map
    Prod.fst).Pairwise (· < ·) ∧ (∀ y ∈ s.an, y.2.kind ≠ 4) ∧ s.anTrig.any (fun y => y.tick == s.ticks) = false ∧
    s.anPast.any (fun y => y.tick == s.ticks) = false ∧ s.anSoft.map Prod.fst ≠ some s.ticks → 
    ∃ t, Sys2Proof.Machine.exec (.anmgTrigger true) s = .next t ∧ (t.anDesc n = if bitAt x.ctl 27 = false then x
    else if x.state = 1 then
    { x with state := 2, trgtime := s.stamp.1, trgseq := 0xFFFF, trgblk := x.wrblk, trgIn := true, post := 0 } else
    if x.state = 2 then { x with merged := min (x.merged + 1) 65535 } else
    { x with missed := min (x.missed + 1) 65535 })) ∧
  (∀ (s : State) (n : Nat) (x : AnDesc) (u : AnTrig) (rest : List AnTrig), s.phase = .running ∧ s.isCell = false ∧
    s.anTrig = u :: rest ∧ u.join = 0 ∧ (n, x) ∈ s.an ∧ (s.an.map Prod.fst).Pairwise (· < ·) ∧ (∀ y ∈ s.an,
    y.2.kind ≠ 4) → 
    ∃ t, Sys2Proof.Machine.exec (.anmgTrigger false) s = .next t ∧ (t.anTrig = rest ∧ t.anPast = some u ∧ t.anDesc
    n = if bitAt x.ctl 26 = false then x else if x.state = 1 then
    { x with state := 2, trgtime := u.time, trgseq := u.seq, trgblk := x.wrblk, trgIn := true, post := 0 } else if
    x.state = 2 then { x with merged := min (x.merged + 1) 65535 } else
    { x with missed := min (x.missed + 1) 65535 })) ∧
  (∀ (s : State) (ev : BitVec 8) (n : Nat) (x : AnDesc), s.Writable pANMG ∧ s.stores = [] ∧ s.soc.wipe = none ∧
    s.isCell = false ∧ s.on pDDRC DDRC.STAT_READY = true ∧ s.an = [(n, x)] ∧ x.takes = true ∧ x.kind = 4 ∧ x.used =
    0 → 
    ∃ t, Sys2Proof.Machine.exec (.anmgMark ev) s = .next t ∧ ((t.anDesc n).used = 16 ∧ (t.anDesc n).first =
    s.stamp.1 ∧ t.mems.bytes .dram (x.base + x.wrblk * 1056 + 32 + 14) 2 = [3, ev])) ∧
  (∀ (s : State) (n : Fin 512) (x : AnDesc), s.phase = .running ∧ s.anDesc n = x ∧ x.en = true ∧ x.state = 2 ∧
    x.used = 1024 → 
    ∃ t, Sys2Proof.Machine.exec (.anmgBlockClose n) s = .next t ∧ ((t.anDesc n).used = 0 ∧ (t.anDesc n).seq =
    (x.seq + 1) % 2 ^ 32 ∧ (t.anDesc n).wrblk = (if x.nblk ≤ x.wrblk + 1 then 0 else x.wrblk + 1) ∧ (t.anDesc
    n).state = (if x.postblk ≤ x.post then 3 else 2))) ∧
  (∀ (s : State) (n : Fin 512) (x : AnDesc), s.Live pANMG ∧ s.anDesc n = x ∧ x.takes = true → 
    ∃ t, Sys2Proof.Machine.exec (.anmgRecordDrop n) s = .next t ∧ ((t.anDesc n).drop = min (x.drop + 1) (2 ^ 32 -
    1) ∧ t.bit pANMG HDR.ERRSTAT ANMG.E_DROP = true))

/-- QSPI GO of at most 256 bytes on an idle interface starts and sends the transfer; on a busy or THRM-held one it
waits its turn. It carries the command's operation, its address of 3 or 4 bytes where asked, mode, dummy
cycles, divisor and length. Its end stores each byte read in DATA (a write leaves DATA), raises DONE, and with
nothing else waiting clears BUSY; with another waiting that one begins. A byte written to an enabled UART whose
shifter is free goes out at once, with TXBUSY, and the shifter is busy for one character; while the shifter is
busy it joins the FIFO, and the tick in which the shifter becomes free sends the FIFO's oldest byte. A byte
written to a disabled UART stays in the FIFO. With 16 in the FIFO a byte is lost with TX_OVF. A read of DATA
answers VALID, the error bits and the byte and removes it, or 0 if none. A received byte with room enters the
FIFO with RX_NE and its errors; with 16 there it is lost with RX_OVF. Waiting in a queue for QSPI, and the
instants at which UART bytes leave the FIFO, are the model's readings (log entry 35).

exec answers a next state, under hypotheses on the state and the operands alone, for: qspiGo, qspiDone,
uartDataWrite, fabricTick, uartDataRead, uartByteRx, uartTxEmpty. -/
def Obligations.SerialInterfacesAct : Prop :=
  (∀ (s : State) (v : Word), s.Writable pQSPI ∧ bitsOf v.toNat 0 9 ≤ 256 ∧ s.on pQSPI QSPI.STAT_BUSY = false ∧ s.on
    pQSPI QSPI.STAT_THRMHOLD = false ∧ s.thrm.flash = none ∧ s.soc.qspiWait = [] → 
    ∃ t, Sys2Proof.Machine.exec (.qspiGo v) s = .next t ∧ (t.get pQSPI QSPI.STAT_BUSY = 1 ∧ t.soc.qspi = some
    (v.toNat ||| 2 ^ 31) ∧ t.soc.qspiWait = [] ∧ t.sent = s.sent ++ [.qspi
    { op := bitsOf v.toNat 16 8, addr := if bitAt v.toNat 29 then some (if s.on pQSPI QSPI.CFG_A4 then (4, s.get pQSPI QSPI.ADDR) else (3, s.get pQSPI QSPI.ADDR % 2 ^ 24)) else none, mode := s.get pQSPI QSPI.CFG_MODE, dummy := s.get pQSPI QSPI.CFG_DUMMY, div := s.get pQSPI QSPI.CFG_DIV, put := if bitAt v.toNat 30 then s.bufBytes pQSPI QSPI.DATA (bitsOf v.toNat 0 9) else [], get := if bitAt v.toNat 30 then 0 else bitsOf v.toNat 0 9 }]))
    ∧
  (∀ (s : State) (v : Word), s.Writable pQSPI ∧ bitsOf v.toNat 0 9 ≤ 256 ∧ (s.on pQSPI QSPI.STAT_BUSY = true ∨ s.on
    pQSPI QSPI.STAT_THRMHOLD = true) → 
    ∃ t, Sys2Proof.Machine.exec (.qspiGo v) s = .next t ∧ (t.soc.qspi = s.soc.qspi ∧ t.soc.qspiWait =
    s.soc.qspiWait ++ [v.toNat ||| 2 ^ 31] ∧ t.sent = s.sent)) ∧
  (∀ (s : State) (bytes : List Byte) (cmd i : Nat), s.Live pQSPI ∧ s.soc.qspi = some cmd ∧ bitAt cmd 30 = false ∧ i
    < bitsOf cmd 0 9 ∧ i < bytes.length ∧ i < 256 → 
    ∃ t, Sys2Proof.Machine.exec (.qspiDone bytes) s = .next t ∧ (t.bit pQSPI HDR.IRQFLG QSPI.I_DONE = true ∧ bitsOf
    (t.get pQSPI (QSPI.DATA (i / 4))) (8 * (i % 4)) 8 = (bytes.getD i 0).toNat ∧ (s.soc.qspiWait = [] →
    s.thrm.flash = none → t.get pQSPI QSPI.STAT_BUSY = 0 ∧ t.soc.qspi = none))) ∧
  (∀ (s : State) (bytes : List Byte) (cmd : Nat), s.Live pQSPI ∧ s.soc.qspi = some cmd ∧ bitAt cmd 30 = true → 
    ∃ t, Sys2Proof.Machine.exec (.qspiDone bytes) s = .next t ∧ (t.bit pQSPI HDR.IRQFLG QSPI.I_DONE = true ∧ (∀ i :
    Fin 64, t.get pQSPI (QSPI.DATA i) = s.get pQSPI (QSPI.DATA i)) ∧ (s.soc.qspiWait = [] → s.thrm.flash = none →
    t.get pQSPI QSPI.STAT_BUSY = 0 ∧ t.soc.qspi = none))) ∧
  (∀ (s : State) (bytes : List Byte) (cmd c : Nat) (rest : List Nat), s.Live pQSPI ∧ s.soc.qspi = some cmd ∧
    s.soc.qspiWait = c :: rest ∧ s.thrm.flash = none ∧ s.on pQSPI QSPI.STAT_THRMHOLD = false → 
    ∃ t, Sys2Proof.Machine.exec (.qspiDone bytes) s = .next t ∧ (t.soc.qspi = some c ∧ t.soc.qspiWait = rest ∧
    t.get pQSPI QSPI.STAT_BUSY = 1 ∧ t.sent.length = s.sent.length + 1)) ∧
  (∀ (s : State) (n : Fin 2) (b : Byte), s.Writable (pUART n) ∧ s.soc.uart.length = 2 ∧ s.on (pUART n) UART.CFG_EN
    = true ∧ (s.uartOf n).tx = [] ∧ (s.uartOf n).free ≤ s.ticks → 
    ∃ t, Sys2Proof.Machine.exec (.uartDataWrite n b) s = .next t ∧ (t.sent = s.sent ++ [.uart n b] ∧ t.get (pUART
    n) UART.STAT_TXBUSY = 1 ∧ (t.uartOf n).tx = [] ∧ (t.uartOf n).free = s.ticks + s.charTicks n)) ∧
  (∀ (s : State) (n : Fin 2) (b : Byte), s.Writable (pUART n) ∧ s.soc.uart.length = 2 ∧ s.on (pUART n) UART.CFG_EN
    = true ∧ s.ticks < (s.uartOf n).free ∧ (s.uartOf n).tx.length < 16 → 
    ∃ t, Sys2Proof.Machine.exec (.uartDataWrite n b) s = .next t ∧ (t.sent = s.sent ∧ (t.uartOf n).tx = (s.uartOf
    n).tx ++ [b])) ∧
  (∀ (s : State) (n : Fin 2) (b : Byte), s.Writable (pUART n) ∧ s.soc.uart.length = 2 ∧ s.on (pUART n) UART.CFG_EN
    = false ∧ (s.uartOf n).tx.length < 16 → 
    ∃ t, Sys2Proof.Machine.exec (.uartDataWrite n b) s = .next t ∧ (t.sent = s.sent ∧ (t.uartOf n).tx = (s.uartOf
    n).tx ++ [b] ∧ t.get (pUART n) UART.STAT_TXBUSY = s.get (pUART n) UART.STAT_TXBUSY)) ∧
  (∀ (s : State) (n : Fin 2) (b : Byte), s.Writable (pUART n) ∧ 16 ≤ ((s.uartSync n).uartOf n).tx.length → 
    ∃ t, Sys2Proof.Machine.exec (.uartDataWrite n b) s = .next t ∧ ((t.uartOf n).tx = ((s.uartSync n).uartOf n).tx
    ∧ t.bit (pUART n) HDR.ERRSTAT UART.E_TX_OVF = true ∧ t.sent = (s.uartSync n).sent)) ∧
  (∀ (s : State) (n : Fin 2) (b : Byte) (rest : List Byte), s.phase = .running ∧ s.soc.uart.length = 2 ∧ s.on
    (pUART n) UART.CFG_EN = true ∧ (s.uartOf n).tx = b :: rest ∧ (s.uartOf n).free = s.ticks + 1 ∧ 0 < s.get (pUART
    n) UART.CFG_DIV → 
    ∃ t, Sys2Proof.Machine.exec (.fabricTick) s = .next t ∧ ((t.uartOf n).tx = rest ∧ Sent.uart n b ∈ t.sent.drop
    s.sent.length ∧ t.get (pUART n) UART.STAT_TXBUSY = 1 ∧ (t.uartOf n).free = s.ticks + 1 + s.charTicks n)) ∧
  (∀ (s : State) (n : Fin 2) (b : Byte) (fe pe : Bool) (rest : List (Byte × Bool × Bool)), s.Ready ∧ s.soc.stop =
    false ∧ s.deaf (pUART n) = false ∧ (s.uartOf n).rx = (b, fe, pe) :: rest → 
    ∃ t, Sys2Proof.Machine.exec (.uartDataRead n) s = .next t ∧ (t.reply = some (some (2 ^ 31 + 2 ^ 9 * b2n fe + 2
    ^ 8 * b2n pe + b.toNat)) ∧ (t.uartOf n).rx = rest ∧ s.KeepsBut t.toDev [(pUART n, 0x01C, 0)])) ∧
  (∀ (s : State) (n : Fin 2), s.Ready ∧ s.soc.stop = false ∧ s.deaf (pUART n) = false ∧ (s.uartOf n).rx = [] → 
    ∃ t, Sys2Proof.Machine.exec (.uartDataRead n) s = .next t ∧ (t.reply = some (some 0) ∧ s.KeepsBut t.toDev [])) ∧
  (∀ (s : State) (n : Fin 2) (b : Byte) (fe pe : Bool), s.Live (pUART n) ∧ s.soc.uart.length = 2 ∧ s.on (pUART n)
    UART.CFG_EN = true ∧ s.get (pUART n) UART.CFG_PARITY ≠ 0 ∧ (s.uartOf n).rx.length < 16 → 
    ∃ t, Sys2Proof.Machine.exec (.uartByteRx n b fe pe) s = .next t ∧ ((t.uartOf n).rx = (s.uartOf n).rx ++ [(b,
    fe, pe)] ∧ t.bit (pUART n) HDR.IRQFLG UART.I_RX_NE = true ∧ (fe = true → t.bit (pUART n) HDR.ERRSTAT
    UART.E_FRAME_ERR = true) ∧ (pe = true → t.bit (pUART n) HDR.ERRSTAT UART.E_PARITY_ERR = true))) ∧
  (∀ (s : State) (n : Fin 2) (b : Byte) (fe pe : Bool), s.Live (pUART n) ∧ s.on (pUART n) UART.CFG_EN = true ∧ 16 ≤
    (s.uartOf n).rx.length → 
    ∃ t, Sys2Proof.Machine.exec (.uartByteRx n b fe pe) s = .next t ∧ ((t.uartOf n).rx = (s.uartOf n).rx ∧ t.bit
    (pUART n) HDR.ERRSTAT UART.E_RX_OVF = true)) ∧
  (∀ (s : State) (n : Fin 2), s.Live (pUART n) ∧ s.soc.uart.length = 2 ∧ s.on (pUART n) UART.CFG_EN = true ∧ s.on
    (pUART n) UART.STAT_TXBUSY = true → 
    ∃ t, Sys2Proof.Machine.exec (.uartTxEmpty n) s = .next t ∧ (t.get (pUART n) UART.STAT_TXBUSY = 0 ∧ (t.uartOf
    n).tx = [] ∧ t.bit (pUART n) HDR.IRQFLG UART.I_TX_EMPTY = true))

/-- I2C GO of 1 to 32 bytes, enabled and idle, sets BUSY and sends; while BUSY it is refused with CFG_REJ. Its end
clears BUSY, stores how many bytes moved, raises DONE, and NACK where not acknowledged. BUS_STUCK raises its
error. SPI GO of 1 to 256 bytes drives CS low and sends the bytes of DATA with MODE and DIV, each turned round
under LSBFIRST; while BUSY it is refused; its end drives CS high, stores the bytes received in the same bit
order and raises DONE. GPIO SET and CLR change exactly the named output bits and nothing else. An input edge
sets IN and, where its sense is selected, EDGEFLG and the flag, nothing else. GO of a disabled interface has no
effect (log entry 35).

exec answers a next state, under hypotheses on the state and the operands alone, for: i2cGo, i2cDone,
i2cBusStuck, spiGo, spiDone, gpioSet, gpioClr, gpioEdge. -/
def Obligations.I2cSpiGpioAct : Prop :=
  (∀ (s : State) (v : Word), s.Writable pI2C ∧ 1 ≤ bitsOf v.toNat 0 6 ∧ bitsOf v.toNat 0 6 ≤ 32 ∧ s.on pI2C
    I2C.STAT_BUSY = false ∧ s.on pI2C I2C.CFG_EN = true → 
    ∃ t, Sys2Proof.Machine.exec (.i2cGo v) s = .next t ∧ (t.get pI2C I2C.STAT_BUSY = 1 ∧ t.get pI2C I2C.STAT_NACK =
    0 ∧ t.soc.i2c = some (v.toNat ||| 2 ^ 31) ∧ t.sent.length = s.sent.length + 1)) ∧
  (∀ (s : State) (v : Word), s.Writable pI2C ∧ s.on pI2C I2C.STAT_BUSY = true → 
    ∃ t, Sys2Proof.Machine.exec (.i2cGo v) s = .next t ∧ (t.soc.i2c = s.soc.i2c ∧ t.sent = s.sent ∧ t.bit pI2C
    HDR.ERRSTAT I2C.E_CFG_REJ = true)) ∧
  (∀ (s : State) (v : Word), s.Ready ∧ s.Writable pI2C ∧ 1 ≤ bitsOf v.toNat 0 6 ∧ bitsOf v.toNat 0 6 ≤ 32 ∧ s.on
    pI2C I2C.STAT_BUSY = false ∧ s.on pI2C I2C.CFG_EN = false → 
    ∃ t, Sys2Proof.Machine.exec (.i2cGo v) s = .next t ∧ (t.soc.i2c = s.soc.i2c ∧ t.sent = s.sent ∧ s.KeepsBut
    t.toDev [])) ∧
  (∀ (s : State) (nack : Bool) (moved : Nat) (bytes : List Byte) (cmd : Nat), s.Live pI2C ∧ s.soc.i2c = some cmd → 
    ∃ t, Sys2Proof.Machine.exec (.i2cDone nack moved bytes) s = .next t ∧ (t.get pI2C I2C.STAT_BUSY = 0 ∧ t.soc.i2c
    = none ∧ t.bit pI2C HDR.IRQFLG I2C.I_DONE = true ∧ t.get pI2C I2C.STAT_MOVED = (if nack then min moved (bitsOf
    cmd 0 6) else bitsOf cmd 0 6) ∧ (nack = true → t.get pI2C I2C.STAT_NACK = 1 ∧ t.bit pI2C HDR.ERRSTAT I2C.E_NACK
    = true))) ∧
  (∀ (s : State), s.Live pI2C → 
    ∃ t, Sys2Proof.Machine.exec (.i2cBusStuck) s = .next t ∧ (t.bit pI2C HDR.ERRSTAT I2C.E_BUS_STUCK = true)) ∧
  (∀ (s : State) (n : BitVec 9), s.Writable pSPI ∧ 1 ≤ n.toNat ∧ n.toNat ≤ 256 ∧ s.on pSPI SPI.STAT_BUSY = false ∧
    s.on pSPI SPI.CFG_EN = true → 
    ∃ t, Sys2Proof.Machine.exec (.spiGo n) s = .next t ∧ (t.get pSPI SPI.STAT_BUSY = 1 ∧ t.pins.spiCsN = .low ∧
    t.soc.spi = some (2 ^ 31 + n.toNat) ∧ t.sent = s.sent ++ [.spi (s.get pSPI SPI.CFG_MODE) (s.get pSPI
    SPI.CFG_DIV) (s.spiWire (s.bufBytes pSPI SPI.DATA n.toNat))])) ∧
  (∀ (s : State) (n : BitVec 9), s.Writable pSPI ∧ s.on pSPI SPI.STAT_BUSY = true → 
    ∃ t, Sys2Proof.Machine.exec (.spiGo n) s = .next t ∧ (t.soc.spi = s.soc.spi ∧ t.pins.spiCsN = s.pins.spiCsN ∧
    t.sent = s.sent ∧ t.bit pSPI HDR.ERRSTAT SPI.E_CFG_REJ = true)) ∧
  (∀ (s : State) (n : BitVec 9), s.Ready ∧ s.Writable pSPI ∧ 1 ≤ n.toNat ∧ n.toNat ≤ 256 ∧ s.on pSPI SPI.STAT_BUSY
    = false ∧ s.on pSPI SPI.CFG_EN = false → 
    ∃ t, Sys2Proof.Machine.exec (.spiGo n) s = .next t ∧ (t.soc.spi = s.soc.spi ∧ t.pins.spiCsN = s.pins.spiCsN ∧
    t.sent = s.sent ∧ s.KeepsBut t.toDev [])) ∧
  (∀ (s : State) (bytes : List Byte) (cmd i : Nat), s.Live pSPI ∧ s.soc.spi = some cmd ∧ i < bitsOf cmd 0 9 ∧ i <
    bytes.length ∧ i < 256 → 
    ∃ t, Sys2Proof.Machine.exec (.spiDone bytes) s = .next t ∧ (t.get pSPI SPI.STAT_BUSY = 0 ∧ t.soc.spi = none ∧
    t.pins.spiCsN = .high ∧ t.bit pSPI HDR.IRQFLG SPI.I_DONE = true ∧ bitsOf (t.get pSPI (SPI.DATA (i / 4))) (8 *
    (i % 4)) 8 = (if s.on pSPI SPI.CFG_LSBFIRST then (bytes.getD i 0).reverse else bytes.getD i 0).toNat)) ∧
  (∀ (s : State) (m : Word), s.Ready ∧ s.Writable pGPIO → 
    ∃ t, Sys2Proof.Machine.exec (.gpioSet m) s = .next t ∧ ((∀ n : Fin 24, t.bit pGPIO GPIO.OUT n = (bitAt m.toNat
    n || s.bit pGPIO GPIO.OUT n)) ∧ s.KeepsBut t.toDev [(pGPIO, 0x800, 0)] ∧ s.KeepsMem t)) ∧
  (∀ (s : State) (m : Word), s.Ready ∧ s.Writable pGPIO → 
    ∃ t, Sys2Proof.Machine.exec (.gpioClr m) s = .next t ∧ ((∀ n : Fin 24, t.bit pGPIO GPIO.OUT n = (!bitAt m.toNat
    n && s.bit pGPIO GPIO.OUT n)) ∧ s.KeepsBut t.toDev [(pGPIO, 0x800, 0)] ∧ s.KeepsMem t)) ∧
  (∀ (s : State) (n : Fin 24) (rising : Bool), s.Ready ∧ s.inBlk.contains pGPIO = false → 
    ∃ t, Sys2Proof.Machine.exec (.gpioEdge n rising) s = .next t ∧ (t.bit pGPIO GPIO.IN n = rising ∧ (bitAt
    (s.gpioSel n) (if rising then 0 else 1) = true → t.bit pGPIO GPIO.EDGEFLG n = true ∧ t.get pGPIO HDR.IRQFLG =
    1) ∧ (bitAt (s.gpioSel n) (if rising then 0 else 1) = false → t.bit pGPIO GPIO.EDGEFLG n = s.bit pGPIO
    GPIO.EDGEFLG n) ∧ s.KeepsBut t.toDev [(pGPIO, 0x804, 0), (pGPIO, 0x810, 0), (pGPIO, 0x01C, 0)] ∧ s.KeepsMem t))

/-- WRITE with key 0x5E7C, idle, of a writable entry below its write limit, no reserved bit staged and a die
temperature valid in 0 to 85 degrees, erases the entry and starts the write of the staged words with VALID,
SINGLE, the count and the checksum; with a bad key, entry, lock, temperature or BUSY it is refused and stores
nothing. Its end leaves the words in the entry, or VALID 0 with WR_FAIL. RELOAD puts the entries of each mask
bit in use: the oscillator's, the sensors', the Squall channels', and of each converter the gain and offset of
every input, or 0x80000 and 0 for an entry that is not valid. APT1 and APT2 start the point of the configured
input (refused with MEAS_FAIL for a bad input or average); the result is the codes' mean with the die
temperature. ACOMP without points raises MEAS_FAIL; with both, and within its limits, the GAIN word g is the
ratio of the ideal to the measured span less 1 in 2^-20, rounded half up (stated as two inequalities); nothing
is written to CALSTORE. SQMEAS on an unpowered channel starts; on a powered one or BUSY it is refused; its
result is the level less the threshold, in the mode's byte. TSMEAS copies the sensor's entry and stores the
sensor's offset plus the rounded difference from the mean reading (stated for a staged offset of 0), or raises
MEAS_FAIL above 8 degrees. Staging details are the model's (log entry 31).

exec answers a next state, under hypotheses on the state and the operands alone, for: calsWrite, calsWriteDone,
calsReload, calsApt1, calsApt2, calsPointDone, calsAcomp, calsSqmeas, calsSqmeasDone, calsTsmeas,
calsTsmeasDone. -/
def Obligations.CalibrationActs : Prop :=
  (∀ (s : State) (key : BitVec 16), s.Writable pCALS ∧ key = 0x5E7C ∧ s.calsBusy = false ∧ calWritable (s.get pCALS
    CALS.STGENT_ENTRY) = true ∧ bitsOf ((calEntry s.calstore (s.get pCALS CALS.STGENT_ENTRY)).headD 0) 16 10 < 1000
    ∧ (∀ w : Fin 7, s.get pCALS (CALS.STG w) &&& calReserved (s.get pCALS CALS.STGENT_ENTRY) (w + 1) = 0) ∧ s.on
    pTHRM THRM.TDIE_TVALID = true ∧ 0 ≤ s.tDie ∧ s.tDie ≤ 85 * 16 → 
    ∃ t, Sys2Proof.Machine.exec (.calsWrite key) s = .next t ∧ (t.get pCALS CALS.STAT_BUSY = 1 ∧ t.get pCALS
    CALS.STAT_OP = 1 ∧ calEntry t.calstore (s.get pCALS CALS.STGENT_ENTRY) = [0, 0, 0, 0, 0, 0, 0, 0] ∧ t.calBusy =
    some (s.get pCALS CALS.STGENT_ENTRY, (2 ^ 31 + 2 ^ 30 + (bitsOf ((calEntry s.calstore (s.get pCALS
    CALS.STGENT_ENTRY)).headD 0) 16 10 + 1) * 2 ^ 16 + calChk s.staged) :: s.staged))) ∧
  (∀ (s : State) (key : BitVec 16), s.Awake ∧ s.Live pCALS ∧ s.deaf pCALS = false ∧ (key ≠ 0x5E7C ∨ calWritable
    (s.get pCALS CALS.STGENT_ENTRY) = false ∨ s.locked pCALS = true ∨ s.on pTHRM THRM.TDIE_TVALID = false ∨
    s.calsBusy = true) → 
    ∃ t, Sys2Proof.Machine.exec (.calsWrite key) s = .next t ∧ (t.calstore = s.calstore ∧ t.bit pCALS HDR.ERRSTAT
    CALS.E_CFG_REJ = true ∧ t.get pCALS CALS.STAT_BUSY = s.get pCALS CALS.STAT_BUSY)) ∧
  (∀ (s : State) (same : Bool) (e : Nat) (ws : List Nat), s.Live pCALS ∧ s.calBusy = some (e, ws) ∧ s.get pCALS
    CALS.STAT_OP = 1 ∧ ws.length = 8 ∧ e < 128 → 
    ∃ t, Sys2Proof.Machine.exec (.calsWriteDone same) s = .next t ∧ (t.get pCALS CALS.STAT_BUSY = 0 ∧ t.get pCALS
    CALS.STAT_OP = 0 ∧ t.calBusy = none ∧ t.bit pCALS HDR.IRQFLG CALS.I_DONE = true ∧ (same = true → calEntry
    t.calstore e = ws) ∧ (same = false → bitAt ((calEntry t.calstore e).headD 0) 31 = false ∧ t.bit pCALS
    HDR.ERRSTAT CALS.E_WR_FAIL = true))) ∧
  (∀ (s : State) (mask : BitVec 5), s.Writable pCALS ∧ s.calsBusy = false → 
    ∃ t, Sys2Proof.Machine.exec (.calsReload mask) s = .next t ∧ (t.bit pCALS HDR.IRQFLG CALS.I_DONE = true ∧
    t.calstore = s.calstore ∧ (bitAt mask.toNat 4 = true → calEntry t.calUse 0x5E = calEntry s.calstore 0x5E) ∧
    (bitAt mask.toNat 3 = true → ∀ k : Fin 4, calEntry t.calUse (0x5A + k) = calEntry s.calstore (0x5A + k)) ∧
    (bitAt mask.toNat 2 = true → ∀ q : Fin 16, calEntry t.calUse (0x30 + q) = calEntry s.calstore (0x30 + q)) ∧
    (mask.toNat < 4 → t.calUse = s.calUse))) ∧
  (∀ (s : State) (mask : BitVec 5) (c : Fin 2) (i : Fin 24), s.Writable pCALS ∧ s.calsBusy = false → 
    ∃ t, Sys2Proof.Machine.exec (.calsReload mask) s = .next t ∧ ((bitAt mask.toNat c = true ∧ calValid (calEntry
    s.calstore (24 * c + i)) = true → t.get (pADC c) (ADC.GAIN i) = calWord (calEntry s.calstore (24 * c + i)) 1 %
    2 ^ (ADC.GAIN i).wid ∧ t.get (pADC c) (ADC.OFS i) = calWord (calEntry s.calstore (24 * c + i)) 2 % 2 ^ (ADC.OFS
    i).wid) ∧ (bitAt mask.toNat c = true ∧ calValid (calEntry s.calstore (24 * c + i)) = false → t.get (pADC c)
    (ADC.GAIN i) = 0x80000 ∧ t.get (pADC c) (ADC.OFS i) = 0) ∧ (bitAt mask.toNat c = false → t.get (pADC c)
    (ADC.GAIN i) = s.get (pADC c) (ADC.GAIN i) ∧ t.get (pADC c) (ADC.OFS i) = s.get (pADC c) (ADC.OFS i)))) ∧
  (∀ (s : State), s.Writable pCALS ∧ s.calsBusy = false ∧ (24 ≤ s.acfgInput ∨ 8 < s.get pCALS CALS.ACFG_AVG) → 
    ∃ t, Sys2Proof.Machine.exec (.calsApt1) s = .next t ∧ (t.bit pCALS HDR.ERRSTAT CALS.E_MEAS_FAIL = true ∧
    t.staged = s.staged ∧ t.get pCALS CALS.STAT_BUSY = s.get pCALS CALS.STAT_BUSY)) ∧
  (∀ (s : State), s.Writable pCALS ∧ s.calsBusy = false ∧ s.acfgAdc < 2 ∧ s.acfgInput < 24 ∧ s.get pCALS
    CALS.ACFG_AVG ≤ 8 ∧ s.on (pADC s.acfgAdc) ADC.CTRL_EN = true ∧ s.adcReady s.acfgAdc = true ∧ (s.adcSync
    s.acfgAdc).urgBusy s.acfgAdc = false → 
    ∃ t, Sys2Proof.Machine.exec (.calsApt1) s = .next t ∧ (t.get pCALS CALS.STAT_BUSY = 1 ∧ t.get pCALS
    CALS.STAT_OP = 3 ∧ t.get pCALS CALS.STGENT_ENTRY = 24 * s.acfgAdc + s.acfgInput)) ∧
  (∀ (s : State), s.Writable pCALS ∧ s.calsBusy = false ∧ (24 ≤ s.acfgInput ∨ 8 < s.get pCALS CALS.ACFG_AVG) → 
    ∃ t, Sys2Proof.Machine.exec (.calsApt2) s = .next t ∧ (t.bit pCALS HDR.ERRSTAT CALS.E_MEAS_FAIL = true ∧
    t.staged = s.staged ∧ t.get pCALS CALS.STAT_BUSY = s.get pCALS CALS.STAT_BUSY)) ∧
  (∀ (s : State), s.Writable pCALS ∧ s.calsBusy = false ∧ s.acfgAdc < 2 ∧ s.acfgInput < 24 ∧ s.get pCALS
    CALS.ACFG_AVG ≤ 8 ∧ s.on (pADC s.acfgAdc) ADC.CTRL_EN = true ∧ s.adcReady s.acfgAdc = true ∧ (s.adcSync
    s.acfgAdc).urgBusy s.acfgAdc = false → 
    ∃ t, Sys2Proof.Machine.exec (.calsApt2) s = .next t ∧ (t.get pCALS CALS.STAT_BUSY = 1 ∧ t.get pCALS
    CALS.STAT_OP = 4 ∧ t.get pCALS CALS.STGENT_ENTRY = 24 * s.acfgAdc + s.acfgInput)) ∧
  (∀ (s : State) (codes : List Int), s.Live pCALS ∧ s.acfgAdc = 0 ∧ s.get pCALS CALS.STAT_OP = 3 ∧ s.adcSync 0 =
    s.toDev ∧ s.adc ≠ [] ∧ (s.adcOf 0).flight.any calsUrg = true ∧ ((s.adcOf 0).flight.any fun j => calsUrg j &&
    !s.codesReady 0 j codes) = false ∧ codes.any (fun x => decide (x ≤ codeLo s.acfgInput) || decide (codeHi
    s.acfgInput ≤ x)) = false → 
    ∃ t, Sys2Proof.Machine.exec (.calsPointDone codes) s = .next t ∧ (t.get pCALS (CALS.RES 0) = ofSigned (adcMean
    codes) 24 ∧ t.get pCALS CALS.RTEMP_T1 = ofSigned s.tDie 16 ∧ t.get pCALS CALS.STAT_BUSY = 0 ∧ t.bit pCALS
    HDR.IRQFLG CALS.I_DONE = true)) ∧
  (∀ (s : State), s.Writable pCALS ∧ s.calsBusy = false ∧ s.calPt.getD 0 none = none → 
    ∃ t, Sys2Proof.Machine.exec (.calsAcomp) s = .next t ∧ (t.bit pCALS HDR.ERRSTAT CALS.E_MEAS_FAIL = true ∧
    t.staged = s.staged ∧ t.bit pCALS HDR.IRQFLG CALS.I_DONE = true)) ∧
  (∀ (s : State) (m1 m2 t1 t2 : Int), s.Writable pCALS ∧ s.calsBusy = false ∧ s.calPt = [some (m1, t1), some (m2,
    t2)] ∧ s.acfgInput < 16 ∧ s.get pCALS (CALS.STG 2) = 0 ∧ m1 < m2 ∧ (t1 - t2).natAbs ≤ 16 ∧ m2 - m1 < 32 *
    ((s.get pCALS CALS.ATGT_S : Int) - s.get pCALS CALS.ATGT_Z) ∧ 16 * ((s.get pCALS CALS.ATGT_S : Int) - s.get
    pCALS CALS.ATGT_Z) ≤ m2 - m1 + (m2 - m1) / 4 ∧ 0 ≤ m1 ∧ m1 ≤ 2 ^ 18 ∧ s.get pCALS CALS.ATGT_Z ≤ 2 ^ 13 → 
    ∃ t, Sys2Proof.Machine.exec (.calsAcomp) s = .next t ∧ ((2 * (m2 - m1) * t.get pCALS (CALS.STG 0) : Int) ≤ 2 ^
    20 * (2 * 16 * ((s.get pCALS CALS.ATGT_S : Int) - s.get pCALS CALS.ATGT_Z) - (m2 - m1)) + (m2 - m1) ∧ 2 ^ 20 *
    (2 * 16 * ((s.get pCALS CALS.ATGT_S : Int) - s.get pCALS CALS.ATGT_Z) - (m2 - m1)) < (2 * (m2 - m1) * t.get
    pCALS (CALS.STG 0) : Int) + (m2 - m1) ∧ t.bit pCALS HDR.IRQFLG CALS.I_DONE = true ∧ t.calstore = s.calstore)) ∧
  (∀ (s : State), s.Writable pCALS ∧ s.calsBusy = false ∧ s.on pSQL (SQL.SQCFG_FUNC (s.get pCALS CALS.SCFG_CH)) =
    false ∧ s.legsc (s.get pCALS CALS.SCFG_CH) = false → 
    ∃ t, Sys2Proof.Machine.exec (.calsSqmeas) s = .next t ∧ (t.get pCALS CALS.STAT_BUSY = 1 ∧ t.get pCALS
    CALS.STAT_OP = 6)) ∧
  (∀ (s : State), s.Writable pCALS ∧ (s.on pSQL (SQL.SQCFG_FUNC (s.get pCALS CALS.SCFG_CH)) = true ∨ s.calsBusy =
    true) → 
    ∃ t, Sys2Proof.Machine.exec (.calsSqmeas) s = .next t ∧ (t.get pCALS CALS.STAT_BUSY = s.get pCALS
    CALS.STAT_BUSY ∧ t.bit pCALS HDR.ERRSTAT CALS.E_CFG_REJ = true ∧ t.staged = s.staged)) ∧
  (∀ (s : State) (lvl : BitVec 12), s.Live pCALS ∧ s.get pCALS CALS.STAT_OP = 6 ∧ s.get pCALS (CALS.STG 0) = 0 ∧
    s.get pCALS (CALS.STG 1) = 0 ∧ s.get pCALS CALS.SCFG_MODE < 4 ∧ s.get pCALS CALS.SCFG_VKQ ≤ lvl.toNat ∧
    lvl.toNat ≤ s.get pCALS CALS.SCFG_VKQ + 127 → 
    ∃ t, Sys2Proof.Machine.exec (.calsSqmeasDone lvl) s = .next t ∧ (t.get pCALS (CALS.STG 0) = (lvl.toNat - s.get
    pCALS CALS.SCFG_VKQ) * 2 ^ (8 * s.get pCALS CALS.SCFG_MODE) ∧ t.get pCALS CALS.STAT_BUSY = 0 ∧ t.bit pCALS
    HDR.IRQFLG CALS.I_DONE = true)) ∧
  (∀ (s : State), s.Writable pCALS ∧ s.calsBusy = false ∧ s.get pCALS CALS.TREF_SENS < 4 → 
    ∃ t, Sys2Proof.Machine.exec (.calsTsmeas) s = .next t ∧ (t.get pCALS CALS.STAT_BUSY = 1 ∧ t.get pCALS
    CALS.STAT_OP = 7 ∧ t.get pCALS CALS.STGENT_ENTRY = 0x5A + s.get pCALS CALS.TREF_SENS ∧ t.staged = (calEntry
    s.calstore (0x5A + s.get pCALS CALS.TREF_SENS)).tail)) ∧
  (∀ (s : State) (sum : Int), s.Live pCALS ∧ s.get pCALS CALS.STAT_OP = 7 ∧ (16 * toSigned (s.get pCALS
    CALS.TREF_TREF) 16 - sum).natAbs ≤ 8 * 256 ∧ s.get pCALS (CALS.STG 0) = 0 → 
    ∃ t, Sys2Proof.Machine.exec (.calsTsmeasDone sum) s = .next t ∧ (t.get pCALS (CALS.STG 0) = ofSigned (divRound
    (16 * toSigned (s.get pCALS CALS.TREF_TREF) 16 - sum) 16) 16 ∧ t.get pCALS CALS.STAT_BUSY = 0 ∧ t.bit pCALS
    HDR.IRQFLG CALS.I_DONE = true)) ∧
  (∀ (s : State) (sum : Int), s.Live pCALS ∧ s.get pCALS CALS.STAT_OP = 7 ∧ 8 * 256 < (16 * toSigned (s.get pCALS
    CALS.TREF_TREF) 16 - sum).natAbs → 
    ∃ t, Sys2Proof.Machine.exec (.calsTsmeasDone sum) s = .next t ∧ (t.bit pCALS HDR.ERRSTAT CALS.E_MEAS_FAIL =
    true ∧ t.get pCALS CALS.STAT_BUSY = 0))

/-- From a running device whose motor block is settled and which has nothing left to store, each of these commands
answers a next state in which only registers of the named pages changed, and of the hidden state only the named
parts and the model's bookkeeping (the reply, unlock keys under way, latched words, reports); every other field
and, but for the bytes named, every byte of every memory is as before. QSPI: QSPI and THRM pages, the SoC part,
what was sent and THRM's record. UART, I2C, SPI (and pins), MDIO: their page, the SoC part, what was sent. A
UART DATA read: its page and the SoC part; CLAIM and COMPLETE: INTC's page and the SoC part. GPIO: its page.
Ethernet register and link commands: the port's page and the SoC part. An Ethernet frame also INTC (an error of
shared SRAM), what was sent, the count of free values, and of memory only, received, the frame's octets at the
buffer and words 1 and 2 of the descriptor at HEAD, sent, word 2 of its descriptor. TAP: no page. Lockstep:
INTC. Memory errors: INTC, the reply's part, the block memories' and the count of free values.

exec answers a next state, under hypotheses on the state and the operands alone, for: qspiGo, qspiDone,
uartDataWrite, uartByteRx, uartTxEmpty, uartDataRead, i2cGo, i2cDone, i2cBusStuck, spiGo, spiDone, gpioSet,
gpioClr, gpioEdge, mdioGo, mdioDone, pcsModeWrite, tsstatClrovf, ethLinkChange, ethRingEnable, ethTailWrite,
ethFrameRx, ethFrameTx, tapChallenge, tapResponse, intcClaim, intcComplete, lockstepError, memoryEccError. -/
def Obligations.PeripheralFrames : Prop :=
  (∀ (s : State) (v : Word), s.Ready → ∃ t, Sys2Proof.Machine.exec (.qspiGo v) s = .next t ∧ s.KeepsRegs t.toDev
    [pQSPI, pTHRM] ∧ t.toDev = { s.books t.toDev with soc := t.soc, sent := t.sent, thrm := t.thrm } ∧ s.KeepsMem
    t) ∧ (∀ (s : State) (bytes : List Byte), s.Ready → ∃ t, Sys2Proof.Machine.exec (.qspiDone bytes) s = .next t ∧
    s.KeepsRegs t.toDev [pQSPI, pTHRM] ∧ t.toDev =
    { s.books t.toDev with soc := t.soc, sent := t.sent, thrm := t.thrm } ∧ s.KeepsMem t) ∧ (∀ (s : State) (n : Fin
    2) (b : Byte), s.Ready → ∃ t, Sys2Proof.Machine.exec (.uartDataWrite n b) s = .next t ∧ s.KeepsRegs t.toDev
    [pUART n] ∧ t.toDev = { s.books t.toDev with soc := t.soc, sent := t.sent } ∧ s.KeepsMem t) ∧ (∀ (s : State) (n
    : Fin 2) (b : Byte) (frameErr : Bool) (parityErr : Bool), s.Ready → ∃ t, Sys2Proof.Machine.exec (.uartByteRx n
    b frameErr parityErr) s = .next t ∧ s.KeepsRegs t.toDev [pUART n] ∧ t.toDev =
    { s.books t.toDev with soc := t.soc, sent := t.sent } ∧ s.KeepsMem t) ∧ (∀ (s : State) (n : Fin 2), s.Ready → ∃
    t, Sys2Proof.Machine.exec (.uartTxEmpty n) s = .next t ∧ s.KeepsRegs t.toDev [pUART n] ∧ t.toDev =
    { s.books t.toDev with soc := t.soc, sent := t.sent } ∧ s.KeepsMem t) ∧ (∀ (s : State) (n : Fin 2), s.Ready → ∃
    t, Sys2Proof.Machine.exec (.uartDataRead n) s = .next t ∧ s.KeepsRegs t.toDev [pUART n] ∧ t.toDev =
    { s.books t.toDev with soc := t.soc } ∧ s.KeepsMem t) ∧ (∀ (s : State) (v : Word), s.Ready → ∃ t,
    Sys2Proof.Machine.exec (.i2cGo v) s = .next t ∧ s.KeepsRegs t.toDev [pI2C] ∧ t.toDev =
    { s.books t.toDev with soc := t.soc, sent := t.sent } ∧ s.KeepsMem t) ∧ (∀ (s : State) (nack : Bool) (moved :
    Nat) (bytes : List Byte), s.Ready → ∃ t, Sys2Proof.Machine.exec (.i2cDone nack moved bytes) s = .next t ∧
    s.KeepsRegs t.toDev [pI2C] ∧ t.toDev = { s.books t.toDev with soc := t.soc, sent := t.sent } ∧ s.KeepsMem t) ∧
    (∀ (s : State), s.Ready → ∃ t, Sys2Proof.Machine.exec (.i2cBusStuck) s = .next t ∧ s.KeepsRegs t.toDev [pI2C] ∧
    t.toDev = { s.books t.toDev with soc := t.soc, sent := t.sent } ∧ s.KeepsMem t) ∧ (∀ (s : State) (len : BitVec
    9), s.Ready → ∃ t, Sys2Proof.Machine.exec (.spiGo len) s = .next t ∧ s.KeepsRegs t.toDev [pSPI] ∧ t.toDev =
    { s.books t.toDev with soc := t.soc, sent := t.sent, pins := t.pins } ∧ s.KeepsMem t) ∧ (∀ (s : State) (bytes :
    List Byte), s.Ready → ∃ t, Sys2Proof.Machine.exec (.spiDone bytes) s = .next t ∧ s.KeepsRegs t.toDev [pSPI] ∧
    t.toDev = { s.books t.toDev with soc := t.soc, sent := t.sent, pins := t.pins } ∧ s.KeepsMem t) ∧ (∀ (s :
    State) (mask : Word), s.Ready → ∃ t, Sys2Proof.Machine.exec (.gpioSet mask) s = .next t ∧ s.KeepsRegs t.toDev
    [pGPIO] ∧ t.toDev = s.books t.toDev ∧ s.KeepsMem t) ∧ (∀ (s : State) (mask : Word), s.Ready → ∃ t,
    Sys2Proof.Machine.exec (.gpioClr mask) s = .next t ∧ s.KeepsRegs t.toDev [pGPIO] ∧ t.toDev = s.books t.toDev ∧
    s.KeepsMem t) ∧ (∀ (s : State) (n : Fin 24) (rising : Bool), s.Ready → ∃ t, Sys2Proof.Machine.exec (.gpioEdge n
    rising) s = .next t ∧ s.KeepsRegs t.toDev [pGPIO] ∧ t.toDev = s.books t.toDev ∧ s.KeepsMem t) ∧ (∀ (s : State)
    (read : Bool) (phy : BitVec 5) (reg : BitVec 5) (data : BitVec 16), s.Ready → ∃ t, Sys2Proof.Machine.exec
    (.mdioGo read phy reg data) s = .next t ∧ s.KeepsRegs t.toDev [pETH 0] ∧ t.toDev =
    { s.books t.toDev with soc := t.soc, sent := t.sent } ∧ s.KeepsMem t) ∧ (∀ (s : State) (data : BitVec 16),
    s.Ready → ∃ t, Sys2Proof.Machine.exec (.mdioDone data) s = .next t ∧ s.KeepsRegs t.toDev [pETH 0] ∧ t.toDev =
    { s.books t.toDev with soc := t.soc, sent := t.sent } ∧ s.KeepsMem t) ∧ (∀ (s : State) (n : Fin 2) (v : Word),
    s.Ready → ∃ t, Sys2Proof.Machine.exec (.pcsModeWrite n v) s = .next t ∧ s.KeepsRegs t.toDev [pETH n] ∧ t.toDev
    = { s.books t.toDev with soc := t.soc } ∧ s.KeepsMem t) ∧ (∀ (s : State) (n : Fin 2), s.Ready → ∃ t,
    Sys2Proof.Machine.exec (.tsstatClrovf n) s = .next t ∧ s.KeepsRegs t.toDev [pETH n] ∧ t.toDev =
    { s.books t.toDev with soc := t.soc } ∧ s.KeepsMem t) ∧ (∀ (s : State) (n : Fin 2) (up : Bool) (speed : BitVec
    2), s.Ready → ∃ t, Sys2Proof.Machine.exec (.ethLinkChange n up speed) s = .next t ∧ s.KeepsRegs t.toDev [pETH
    n] ∧ t.toDev = { s.books t.toDev with soc := t.soc } ∧ s.KeepsMem t) ∧ (∀ (s : State) (n : Fin 2) (rx : Bool)
    (v : Word), s.Ready → ∃ t, Sys2Proof.Machine.exec (.ethRingEnable n rx v) s = .next t ∧ s.KeepsRegs t.toDev
    [pETH n] ∧ t.toDev = { s.books t.toDev with soc := t.soc } ∧ s.KeepsMem t) ∧ (∀ (s : State) (n : Fin 2) (rx :
    Bool) (tail : Word), s.Ready → ∃ t, Sys2Proof.Machine.exec (.ethTailWrite n rx tail) s = .next t ∧ s.KeepsRegs
    t.toDev [pETH n] ∧ t.toDev = { s.books t.toDev with soc := t.soc } ∧ s.KeepsMem t) ∧ (∀ (s : State) (n : Fin 2)
    (bytes : List Byte) (fcsOk : Bool) (back : Nat × Option Word), s.Ready → ∃ t, Sys2Proof.Machine.exec
    (.ethFrameRx n bytes fcsOk back) s = .next t ∧ s.KeepsRegs t.toDev [pETH n, pINTC] ∧ t.toDev =
    { s.books t.toDev with soc := t.soc, sent := t.sent, fresh := t.fresh } ∧ s.KeepsOutside t (s.rxBytes n
    bytes.length)) ∧ (∀ (s : State) (n : Fin 2 × Option Word), s.Ready → ∃ t, Sys2Proof.Machine.exec (.ethFrameTx
    n) s = .next t ∧ s.KeepsRegs t.toDev [pETH n.1, pINTC] ∧ t.toDev =
    { s.books t.toDev with soc := t.soc, sent := t.sent, fresh := t.fresh } ∧ s.KeepsOutside t (s.txBytes n.1)) ∧
    (∀ (s : State), s.Ready → ∃ t, Sys2Proof.Machine.exec (.tapChallenge) s = .next t ∧ s.KeepsRegs t.toDev [] ∧
    t.toDev = { s.books t.toDev with soc := t.soc, sent := t.sent, fresh := t.fresh } ∧ s.KeepsMem t) ∧ (∀ (s :
    State) (scan : TapScan) (sig : List Byte), s.Ready → ∃ t, Sys2Proof.Machine.exec (.tapResponse scan sig) s =
    .next t ∧ s.KeepsRegs t.toDev [] ∧ t.toDev =
    { s.books t.toDev with soc := t.soc, sent := t.sent, fresh := t.fresh } ∧ s.KeepsMem t) ∧ (∀ (s : State) (pair
    : Fin 2), s.Ready → ∃ t, Sys2Proof.Machine.exec (.intcClaim pair) s = .next t ∧ s.KeepsRegs t.toDev [pINTC] ∧
    t.toDev = { s.books t.toDev with soc := t.soc } ∧ s.KeepsMem t) ∧ (∀ (s : State) (pair : Fin 2) (src : BitVec
    9), s.Ready → ∃ t, Sys2Proof.Machine.exec (.intcComplete pair src) s = .next t ∧ s.KeepsRegs t.toDev [pINTC] ∧
    t.toDev = { s.books t.toDev with soc := t.soc } ∧ s.KeepsMem t) ∧ (∀ (s : State) (pair : Fin 2), s.Ready → ∃ t,
    Sys2Proof.Machine.exec (.lockstepError pair) s = .next t ∧ s.KeepsRegs t.toDev [pINTC] ∧ t.toDev = s.books
    t.toDev ∧ s.KeepsMem t) ∧ (∀ (s : State) (at_ : EccAt) (double : Bool), s.Ready → ∃ t, Sys2Proof.Machine.exec
    (.memoryEccError at_ double) s = .next t ∧ s.KeepsRegs t.toDev [pINTC] ∧ t.toDev =
    { s.books t.toDev with soc := t.soc, an := t.an, iso := t.iso, fcol := t.fcol, calstore := t.calstore, fresh := t.fresh }
    ∧ s.KeepsMem t)

/-- From a running device whose motor block is settled and which has nothing left to store, each of these commands
answers a next state in which only registers of the named pages changed, and of the hidden state only the named
parts and the model's bookkeeping (the reply, unlock keys under way, latched words, reports; with a cell's
timer, the T frames' flags of a request that a bypass voids); every other field and, but for the bytes named,
every byte of every memory is as before. CALSTORE and its measurements: CALS (a reload also both converters'
pages, the entries in use and Squall's corrections; a point measurement the converters' own pages and state;
the end of a Squall measurement its channel and what a trip reaches). DDRC: its page; INIT also Anemograph's
page and descriptors, the pins, the SoC part, and the DRAM, which it makes undefined. Anemograph: its page and
descriptors; triggers and markers also the blocks that the descriptors write and those after them; a block's
end the 32 header bytes of its block; arming a descriptor also the streams' pages and ports, and the
descriptors' blocks. DMA GO: DMA and SYSC pages and the SoC part; DMA STOP its page, the SoC part, and word 6
of the channel's descriptor.

exec answers a next state, under hypotheses on the state and the operands alone, for: calsWrite, calsWriteDone,
calsReload, calsApt1, calsApt2, calsPointDone, calsAcomp, calsSqmeas, calsTsmeas, calsTsmeasDone,
calsSqmeasDone, ddrInitGo, ddrInitDone, ddrPatrolScrub, parAlert, winbaseWrite, anmgDescriptorEnable,
anmgRecordDrop, anmgTrigger, anmgMark, anmgBlockClose, dmaGo, dmaStop. -/
def Obligations.MemorySideFrames : Prop :=
  (∀ (s : State) (key : BitVec 16), s.Ready → ∃ t, Sys2Proof.Machine.exec (.calsWrite key) s = .next t ∧ s.KeepsRegs
    t.toDev [pCALS] ∧ t.toDev =
    { s.books t.toDev with calstore := t.calstore, calBusy := t.calBusy, calPt := t.calPt, fresh := t.fresh } ∧
    s.KeepsMem t) ∧ (∀ (s : State) (same : Bool), s.Ready → ∃ t, Sys2Proof.Machine.exec (.calsWriteDone same) s =
    .next t ∧ s.KeepsRegs t.toDev [pCALS] ∧ t.toDev =
    { s.books t.toDev with calstore := t.calstore, calBusy := t.calBusy, calPt := t.calPt, fresh := t.fresh } ∧
    s.KeepsMem t) ∧ (∀ (s : State) (mask : BitVec 5), s.Ready → ∃ t, Sys2Proof.Machine.exec (.calsReload mask) s =
    .next t ∧ s.KeepsRegs t.toDev [pCALS, pADC 0, pADC 1] ∧ t.toDev =
    { s.books t.toDev with adc := t.adc, calUse := t.calUse, sqCorr := t.sqCorr } ∧ s.KeepsMem t) ∧ (∀ (s : State),
    s.Ready → ∃ t, Sys2Proof.Machine.exec (.calsApt1) s = .next t ∧ s.KeepsRegs t.toDev [pCALS, pADC 0, pADC 1] ∧
    t.toDev = { s.books t.toDev with adc := t.adc, calBusy := t.calBusy, calPt := t.calPt, fresh := t.fresh } ∧
    s.KeepsMem t) ∧ (∀ (s : State), s.Ready → ∃ t, Sys2Proof.Machine.exec (.calsApt2) s = .next t ∧ s.KeepsRegs
    t.toDev [pCALS, pADC 0, pADC 1] ∧ t.toDev =
    { s.books t.toDev with adc := t.adc, calBusy := t.calBusy, calPt := t.calPt, fresh := t.fresh } ∧ s.KeepsMem t)
    ∧ (∀ (s : State) (codes : List Int), s.Ready → ∃ t, Sys2Proof.Machine.exec (.calsPointDone codes) s = .next t ∧
    s.KeepsRegs t.toDev [pCALS, pADC 0, pADC 1] ∧ t.toDev =
    { s.books t.toDev with adc := t.adc, calBusy := t.calBusy, calPt := t.calPt, fresh := t.fresh } ∧ s.KeepsMem t)
    ∧ (∀ (s : State), s.Ready → ∃ t, Sys2Proof.Machine.exec (.calsAcomp) s = .next t ∧ s.KeepsRegs t.toDev [pCALS]
    ∧ t.toDev = { s.books t.toDev with calBusy := t.calBusy } ∧ s.KeepsMem t) ∧ (∀ (s : State), s.Ready → ∃ t,
    Sys2Proof.Machine.exec (.calsSqmeas) s = .next t ∧ s.KeepsRegs t.toDev [pCALS] ∧ t.toDev =
    { s.books t.toDev with calBusy := t.calBusy } ∧ s.KeepsMem t) ∧ (∀ (s : State), s.Ready → ∃ t,
    Sys2Proof.Machine.exec (.calsTsmeas) s = .next t ∧ s.KeepsRegs t.toDev [pCALS] ∧ t.toDev =
    { s.books t.toDev with calBusy := t.calBusy } ∧ s.KeepsMem t) ∧ (∀ (s : State) (sum : Int), s.Ready → ∃ t,
    Sys2Proof.Machine.exec (.calsTsmeasDone sum) s = .next t ∧ s.KeepsRegs t.toDev [pCALS] ∧ t.toDev =
    { s.books t.toDev with calBusy := t.calBusy } ∧ s.KeepsMem t) ∧ (∀ (s : State) (lvl : BitVec 12), s.Ready → ∃
    t, Sys2Proof.Machine.exec (.calsSqmeasDone lvl) s = .next t ∧ s.KeepsRegs t.toDev ([pCALS] ++ tripPages) ∧
    t.toDev =
    { s.books t.toDev with calBusy := t.calBusy, sq := t.sq, sqCorr := t.sqCorr, wake := t.wake, chop := t.chop, gates := t.gates, motr := t.motr, cellTick := t.cellTick, pins := t.pins, ports := t.ports, sent := t.sent, fresh := t.fresh, vn := { s.vn with flags := t.vn.flags } }
    ∧ s.KeepsMem t) ∧ (∀ (s : State), s.Ready → ∃ t, Sys2Proof.Machine.exec (.ddrInitGo) s = .next t ∧ s.KeepsRegs
    t.toDev [pDDRC, pANMG] ∧ t.toDev = { s.books t.toDev with pins := t.pins, an := t.an, soc := t.soc } ∧
    s.DramLost t) ∧ (∀ (s : State) (ok : Bool), s.Ready → ∃ t, Sys2Proof.Machine.exec (.ddrInitDone ok) s = .next t
    ∧ s.KeepsRegs t.toDev [pDDRC] ∧ t.toDev = s.books t.toDev ∧ s.KeepsMem t) ∧ (∀ (s : State) (addr : BitVec 40)
    (ecc : Option Bool), s.Ready → ∃ t, Sys2Proof.Machine.exec (.ddrPatrolScrub addr ecc) s = .next t ∧ s.KeepsRegs
    t.toDev [pDDRC] ∧ t.toDev = s.books t.toDev ∧ s.KeepsMem t) ∧ (∀ (s : State), s.Ready → ∃ t,
    Sys2Proof.Machine.exec (.parAlert) s = .next t ∧ s.KeepsRegs t.toDev [pDDRC] ∧ t.toDev = s.books t.toDev ∧
    s.KeepsMem t) ∧ (∀ (s : State) (v : Word), s.Ready → ∃ t, Sys2Proof.Machine.exec (.winbaseWrite v) s = .next t
    ∧ s.KeepsRegs t.toDev [pDDRC] ∧ t.toDev = s.books t.toDev ∧ s.KeepsMem t) ∧ (∀ (s : State) (n : Fin 512) (v :
    Word), s.Ready → ∃ t, Sys2Proof.Machine.exec (.anmgDescriptorEnable n v) s = .next t ∧ s.KeepsRegs t.toDev
    ([pANMG] ++ linkPages) ∧ t.toDev = { s.books t.toDev with an := t.an, ports := t.ports } ∧ s.KeepsOutside t
    s.anRings) ∧ (∀ (s : State) (n : Fin 512), s.Ready → ∃ t, Sys2Proof.Machine.exec (.anmgRecordDrop n) s = .next
    t ∧ s.KeepsRegs t.toDev [pANMG] ∧ t.toDev = { s.books t.toDev with an := t.an } ∧ s.KeepsMem t) ∧ (∀ (s :
    State) (soft : Bool), s.Ready → ∃ t, Sys2Proof.Machine.exec (.anmgTrigger soft) s = .next t ∧ s.KeepsRegs
    t.toDev [pANMG] ∧ t.toDev =
    { s.books t.toDev with an := t.an, anTrig := t.anTrig, anSoft := t.anSoft, anPast := t.anPast } ∧
    s.KeepsOutside t s.anBlocks) ∧ (∀ (s : State) (ev : BitVec 8), s.Ready → ∃ t, Sys2Proof.Machine.exec (.anmgMark
    ev) s = .next t ∧ s.KeepsRegs t.toDev [pANMG] ∧ t.toDev = { s.books t.toDev with an := t.an } ∧ s.KeepsOutside
    t s.anBlocks) ∧ (∀ (s : State) (n : Fin 512), s.Ready → ∃ t, Sys2Proof.Machine.exec (.anmgBlockClose n) s =
    .next t ∧ s.KeepsRegs t.toDev [pANMG] ∧ t.toDev = { s.books t.toDev with an := t.an } ∧ s.KeepsOutside t
    [(.dram, (s.anDesc n).base + (s.anDesc n).wrblk * 1056, 32)]) ∧ (∀ (s : State) (c : Fin 16) (v : Word), s.Ready
    → ∃ t, Sys2Proof.Machine.exec (.dmaGo c v) s = .next t ∧ s.KeepsRegs t.toDev [pDMA, pSYSC] ∧ t.toDev =
    { s.books t.toDev with soc := t.soc } ∧ s.KeepsMem t) ∧ (∀ (s : State) (c : Fin 16), s.Ready → ∃ t,
    Sys2Proof.Machine.exec (.dmaStop c) s = .next t ∧ s.KeepsRegs t.toDev [pDMA] ∧ t.toDev =
    { s.books t.toDev with soc := t.soc } ∧ s.KeepsOutside t (s.word6 c))

/-- From a running device whose motor block is settled and which has nothing left to store, each of these commands
answers a next state in which only registers of the named pages changed, and of the hidden state only the named
parts and the model's bookkeeping (the reply, unlock keys under way, latched words, reports; with a cell's
timer, the T frames' flags of a request that a bypass voids); every other field and, but for the bytes named,
every byte of every memory is as before. Tailstock: its page, its part and the pins. THRM: its page and, for
the flash record, QSPI's; an evaluation also CKSW's compensation, QSPI's page where it starts a flash record,
and in a cell SYSC, GCH, the cell's timer, gates and pins. The fault collector's register commands, ALIVE and
FAULT_N: its page, its part and the pins. The motor commands: MOTR, GCH, units 3 to 5, what a load of these
reaches (SQL, converters) and what the trip of a leg reaches (SYSC, the cell's timer, pins, ports, what was
sent): the motor's, units', gates', chopper's and converters' parts.

exec answers a next state, under hypotheses on the state and the operands alone, for: tstkInputChange,
tstkDiscrepancy, tstkClrdisc, tstkEnergise, tstkDeenergise, tstkTestnow, tstkTripRequest, tstkStartupStep,
tstkTestDue, tstkTestStep, tstkReadbackFault, tstkOscFail, tstkLockKey, thrmResume, thrmFlashDone, thrmEval,
fcolAck, aliveKick, kickMiss, alivecfgWrite, fcolCntclr, aliveToggle, faultNRelease, rctWrite, grctWrite,
motrStart, motrStop, motrWatchEnd, motrBrakeEnd, motrAlignEnd, motrCommutate, motrZeroCrossing,
motrCrossingTimeout, motrStall, motrEnableWrite. -/
def Obligations.SafetyFrames : Prop :=
  (∀ (s : State) (ch : Fin 4) (lvl : Bool), s.Ready → ∃ t, Sys2Proof.Machine.exec (.tstkInputChange ch lvl) s = .next
    t ∧ s.KeepsRegs t.toDev [pTSTK] ∧ t.toDev = { s.books t.toDev with tstk := t.tstk, pins := t.pins } ∧
    s.KeepsMem t) ∧ (∀ (s : State) (j : Fin 2), s.Ready → ∃ t, Sys2Proof.Machine.exec (.tstkDiscrepancy j) s =
    .next t ∧ s.KeepsRegs t.toDev [pTSTK] ∧ t.toDev = { s.books t.toDev with tstk := t.tstk, pins := t.pins } ∧
    s.KeepsMem t) ∧ (∀ (s : State), s.Ready → ∃ t, Sys2Proof.Machine.exec (.tstkClrdisc) s = .next t ∧ s.KeepsRegs
    t.toDev [pTSTK] ∧ t.toDev = { s.books t.toDev with tstk := t.tstk, pins := t.pins } ∧ s.KeepsMem t) ∧ (∀ (s :
    State) (key : BitVec 16), s.Ready → ∃ t, Sys2Proof.Machine.exec (.tstkEnergise key) s = .next t ∧ s.KeepsRegs
    t.toDev [pTSTK] ∧ t.toDev = { s.books t.toDev with tstk := t.tstk, pins := t.pins } ∧ s.KeepsMem t) ∧ (∀ (s :
    State), s.Ready → ∃ t, Sys2Proof.Machine.exec (.tstkDeenergise) s = .next t ∧ s.KeepsRegs t.toDev [pTSTK] ∧
    t.toDev = { s.books t.toDev with tstk := t.tstk, pins := t.pins } ∧ s.KeepsMem t) ∧ (∀ (s : State), s.Ready → ∃
    t, Sys2Proof.Machine.exec (.tstkTestnow) s = .next t ∧ s.KeepsRegs t.toDev [pTSTK] ∧ t.toDev =
    { s.books t.toDev with tstk := t.tstk, pins := t.pins } ∧ s.KeepsMem t) ∧ (∀ (s : State) (cause : Fin 3),
    s.Ready → ∃ t, Sys2Proof.Machine.exec (.tstkTripRequest cause) s = .next t ∧ s.KeepsRegs t.toDev [pTSTK] ∧
    t.toDev = { s.books t.toDev with tstk := t.tstk, pins := t.pins } ∧ s.KeepsMem t) ∧ (∀ (s : State) (hs : Bool)
    (ls : Bool), s.Ready → ∃ t, Sys2Proof.Machine.exec (.tstkStartupStep hs ls) s = .next t ∧ s.KeepsRegs t.toDev
    [pTSTK] ∧ t.toDev = { s.books t.toDev with tstk := t.tstk, pins := t.pins } ∧ s.KeepsMem t) ∧ (∀ (s : State),
    s.Ready → ∃ t, Sys2Proof.Machine.exec (.tstkTestDue) s = .next t ∧ s.KeepsRegs t.toDev [pTSTK] ∧ t.toDev =
    { s.books t.toDev with tstk := t.tstk, pins := t.pins } ∧ s.KeepsMem t) ∧ (∀ (s : State) (hs : Bool) (ls :
    Bool), s.Ready → ∃ t, Sys2Proof.Machine.exec (.tstkTestStep hs ls) s = .next t ∧ s.KeepsRegs t.toDev [pTSTK] ∧
    t.toDev = { s.books t.toDev with tstk := t.tstk, pins := t.pins } ∧ s.KeepsMem t) ∧ (∀ (s : State) (hs : Bool)
    (ls : Bool), s.Ready → ∃ t, Sys2Proof.Machine.exec (.tstkReadbackFault hs ls) s = .next t ∧ s.KeepsRegs t.toDev
    [pTSTK] ∧ t.toDev = { s.books t.toDev with tstk := t.tstk, pins := t.pins } ∧ s.KeepsMem t) ∧ (∀ (s : State),
    s.Ready → ∃ t, Sys2Proof.Machine.exec (.tstkOscFail) s = .next t ∧ s.KeepsRegs t.toDev [pTSTK] ∧ t.toDev =
    { s.books t.toDev with tstk := t.tstk, pins := t.pins } ∧ s.KeepsMem t) ∧ (∀ (s : State) (key : BitVec 16),
    s.Ready → ∃ t, Sys2Proof.Machine.exec (.tstkLockKey key) s = .next t ∧ s.KeepsRegs t.toDev [pTSTK] ∧ t.toDev =
    { s.books t.toDev with tstk := t.tstk, pins := t.pins } ∧ s.KeepsMem t) ∧ (∀ (s : State), s.Ready → ∃ t,
    Sys2Proof.Machine.exec (.thrmResume) s = .next t ∧ s.KeepsRegs t.toDev [pTHRM] ∧ t.toDev = s.books t.toDev ∧
    s.KeepsMem t) ∧ (∀ (s : State) (ok : Bool), s.Ready → ∃ t, Sys2Proof.Machine.exec (.thrmFlashDone ok) s = .next
    t ∧ s.KeepsRegs t.toDev [pTHRM, pQSPI] ∧ t.toDev =
    { s.books t.toDev with thrm := t.thrm, soc := t.soc, sent := t.sent } ∧ s.KeepsMem t) ∧ (∀ (s : State) (raws :
    List Int), s.Ready → ∃ t, Sys2Proof.Machine.exec (.thrmEval raws) s = .next t ∧ s.KeepsRegs t.toDev [pTHRM,
    pCKSW, pQSPI, pSYSC, pGCH] ∧ t.toDev =
    { s.books t.toDev with thrm := t.thrm, soc := t.soc, sent := t.sent, cellTick := t.cellTick, gates := t.gates, pins := t.pins, vn := { s.vn with flags := t.vn.flags } }
    ∧ s.KeepsMem t) ∧ (∀ (s : State) (gust : Bool) (n : BitVec 6), s.Ready → ∃ t, Sys2Proof.Machine.exec (.fcolAck
    gust n) s = .next t ∧ s.KeepsRegs t.toDev [pFCOL] ∧ t.toDev =
    { s.books t.toDev with fcol := t.fcol, pins := t.pins } ∧ s.KeepsMem t) ∧ (∀ (s : State), s.Ready → ∃ t,
    Sys2Proof.Machine.exec (.aliveKick) s = .next t ∧ s.KeepsRegs t.toDev [pFCOL] ∧ t.toDev =
    { s.books t.toDev with fcol := t.fcol, pins := t.pins } ∧ s.KeepsMem t) ∧ (∀ (s : State), s.Ready → ∃ t,
    Sys2Proof.Machine.exec (.kickMiss) s = .next t ∧ s.KeepsRegs t.toDev [pFCOL] ∧ t.toDev =
    { s.books t.toDev with fcol := t.fcol, pins := t.pins } ∧ s.KeepsMem t) ∧ (∀ (s : State) (v : Word), s.Ready →
    ∃ t, Sys2Proof.Machine.exec (.alivecfgWrite v) s = .next t ∧ s.KeepsRegs t.toDev [pFCOL] ∧ t.toDev =
    { s.books t.toDev with fcol := t.fcol, pins := t.pins } ∧ s.KeepsMem t) ∧ (∀ (s : State), s.Ready → ∃ t,
    Sys2Proof.Machine.exec (.fcolCntclr) s = .next t ∧ s.KeepsRegs t.toDev [pFCOL] ∧ t.toDev =
    { s.books t.toDev with fcol := t.fcol, pins := t.pins } ∧ s.KeepsMem t) ∧ (∀ (s : State), s.Ready → ∃ t,
    Sys2Proof.Machine.exec (.aliveToggle) s = .next t ∧ s.KeepsRegs t.toDev [pFCOL] ∧ t.toDev =
    { s.books t.toDev with fcol := t.fcol, pins := t.pins } ∧ s.KeepsMem t) ∧ (∀ (s : State), s.Ready → ∃ t,
    Sys2Proof.Machine.exec (.faultNRelease) s = .next t ∧ s.KeepsRegs t.toDev [pFCOL] ∧ t.toDev =
    { s.books t.toDev with fcol := t.fcol, pins := t.pins } ∧ s.KeepsMem t) ∧ (∀ (s : State) (n : Fin 48) (v :
    Word), s.Ready → ∃ t, Sys2Proof.Machine.exec (.rctWrite n v) s = .next t ∧ s.KeepsRegs t.toDev [pFCOL] ∧
    t.toDev = { s.books t.toDev with fcol := t.fcol, pins := t.pins } ∧ s.KeepsMem t) ∧ (∀ (s : State) (n : Fin 16)
    (v : Word), s.Ready → ∃ t, Sys2Proof.Machine.exec (.grctWrite n v) s = .next t ∧ s.KeepsRegs t.toDev [pFCOL] ∧
    t.toDev = { s.books t.toDev with fcol := t.fcol, pins := t.pins } ∧ s.KeepsMem t) ∧ (∀ (s : State) (reverse :
    Bool), s.Ready → ∃ t, Sys2Proof.Machine.exec (.motrStart reverse) s = .next t ∧ s.KeepsRegs t.toDev ([pADC 0,
    pADC 1, pPWMU 3, pPWMU 4, pPWMU 5] ++ tripPages) ∧ t.toDev =
    { s.books t.toDev with motr := t.motr, pwm := t.pwm, loadedT := t.loadedT, gates := t.gates, adc := t.adc, chop := t.chop, fresh := t.fresh, wake := t.wake, cellTick := t.cellTick, pins := t.pins, ports := t.ports, sent := t.sent, sq := t.sq, vn := { s.vn with flags := t.vn.flags } }
    ∧ s.KeepsMem t) ∧ (∀ (s : State), s.Ready → ∃ t, Sys2Proof.Machine.exec (.motrStop) s = .next t ∧ s.KeepsRegs
    t.toDev ([pADC 0, pADC 1, pPWMU 3, pPWMU 4, pPWMU 5] ++ tripPages) ∧ t.toDev =
    { s.books t.toDev with motr := t.motr, pwm := t.pwm, loadedT := t.loadedT, gates := t.gates, adc := t.adc, chop := t.chop, fresh := t.fresh, wake := t.wake, cellTick := t.cellTick, pins := t.pins, ports := t.ports, sent := t.sent, sq := t.sq, vn := { s.vn with flags := t.vn.flags } }
    ∧ s.KeepsMem t) ∧ (∀ (s : State), s.Ready → ∃ t, Sys2Proof.Machine.exec (.motrWatchEnd) s = .next t ∧
    s.KeepsRegs t.toDev ([pADC 0, pADC 1, pPWMU 3, pPWMU 4, pPWMU 5] ++ tripPages) ∧ t.toDev =
    { s.books t.toDev with motr := t.motr, pwm := t.pwm, loadedT := t.loadedT, gates := t.gates, adc := t.adc, chop := t.chop, fresh := t.fresh, wake := t.wake, cellTick := t.cellTick, pins := t.pins, ports := t.ports, sent := t.sent, sq := t.sq, vn := { s.vn with flags := t.vn.flags } }
    ∧ s.KeepsMem t) ∧ (∀ (s : State), s.Ready → ∃ t, Sys2Proof.Machine.exec (.motrBrakeEnd) s = .next t ∧
    s.KeepsRegs t.toDev ([pADC 0, pADC 1, pPWMU 3, pPWMU 4, pPWMU 5] ++ tripPages) ∧ t.toDev =
    { s.books t.toDev with motr := t.motr, pwm := t.pwm, loadedT := t.loadedT, gates := t.gates, adc := t.adc, chop := t.chop, fresh := t.fresh, wake := t.wake, cellTick := t.cellTick, pins := t.pins, ports := t.ports, sent := t.sent, sq := t.sq, vn := { s.vn with flags := t.vn.flags } }
    ∧ s.KeepsMem t) ∧ (∀ (s : State), s.Ready → ∃ t, Sys2Proof.Machine.exec (.motrAlignEnd) s = .next t ∧
    s.KeepsRegs t.toDev ([pADC 0, pADC 1, pPWMU 3, pPWMU 4, pPWMU 5] ++ tripPages) ∧ t.toDev =
    { s.books t.toDev with motr := t.motr, pwm := t.pwm, loadedT := t.loadedT, gates := t.gates, adc := t.adc, chop := t.chop, fresh := t.fresh, wake := t.wake, cellTick := t.cellTick, pins := t.pins, ports := t.ports, sent := t.sent, sq := t.sq, vn := { s.vn with flags := t.vn.flags } }
    ∧ s.KeepsMem t) ∧ (∀ (s : State) (us : Nat), s.Ready → ∃ t, Sys2Proof.Machine.exec (.motrCommutate us) s =
    .next t ∧ s.KeepsRegs t.toDev ([pADC 0, pADC 1, pPWMU 3, pPWMU 4, pPWMU 5] ++ tripPages) ∧ t.toDev =
    { s.books t.toDev with motr := t.motr, pwm := t.pwm, loadedT := t.loadedT, gates := t.gates, adc := t.adc, chop := t.chop, fresh := t.fresh, wake := t.wake, cellTick := t.cellTick, pins := t.pins, ports := t.ports, sent := t.sent, sq := t.sq, vn := { s.vn with flags := t.vn.flags } }
    ∧ s.KeepsMem t) ∧ (∀ (s : State) (ph : Fin 3) (us : Nat) (inStep : Nat), s.Ready → ∃ t, Sys2Proof.Machine.exec
    (.motrZeroCrossing ph us inStep) s = .next t ∧ s.KeepsRegs t.toDev ([pADC 0, pADC 1, pPWMU 3, pPWMU 4, pPWMU 5]
    ++ tripPages) ∧ t.toDev =
    { s.books t.toDev with motr := t.motr, pwm := t.pwm, loadedT := t.loadedT, gates := t.gates, adc := t.adc, chop := t.chop, fresh := t.fresh, wake := t.wake, cellTick := t.cellTick, pins := t.pins, ports := t.ports, sent := t.sent, sq := t.sq, vn := { s.vn with flags := t.vn.flags } }
    ∧ s.KeepsMem t) ∧ (∀ (s : State), s.Ready → ∃ t, Sys2Proof.Machine.exec (.motrCrossingTimeout) s = .next t ∧
    s.KeepsRegs t.toDev ([pADC 0, pADC 1, pPWMU 3, pPWMU 4, pPWMU 5] ++ tripPages) ∧ t.toDev =
    { s.books t.toDev with motr := t.motr, pwm := t.pwm, loadedT := t.loadedT, gates := t.gates, adc := t.adc, chop := t.chop, fresh := t.fresh, wake := t.wake, cellTick := t.cellTick, pins := t.pins, ports := t.ports, sent := t.sent, sq := t.sq, vn := { s.vn with flags := t.vn.flags } }
    ∧ s.KeepsMem t) ∧ (∀ (s : State), s.Ready → ∃ t, Sys2Proof.Machine.exec (.motrStall) s = .next t ∧ s.KeepsRegs
    t.toDev ([pADC 0, pADC 1, pPWMU 3, pPWMU 4, pPWMU 5] ++ tripPages) ∧ t.toDev =
    { s.books t.toDev with motr := t.motr, pwm := t.pwm, loadedT := t.loadedT, gates := t.gates, adc := t.adc, chop := t.chop, fresh := t.fresh, wake := t.wake, cellTick := t.cellTick, pins := t.pins, ports := t.ports, sent := t.sent, sq := t.sq, vn := { s.vn with flags := t.vn.flags } }
    ∧ s.KeepsMem t) ∧ (∀ (s : State) (en : Bool), s.Ready → ∃ t, Sys2Proof.Machine.exec (.motrEnableWrite en) s =
    .next t ∧ s.KeepsRegs t.toDev ([pADC 0, pADC 1, pPWMU 3, pPWMU 4, pPWMU 5] ++ tripPages) ∧ t.toDev =
    { s.books t.toDev with motr := t.motr, pwm := t.pwm, loadedT := t.loadedT, gates := t.gates, adc := t.adc, chop := t.chop, fresh := t.fresh, wake := t.wake, cellTick := t.cellTick, pins := t.pins, ports := t.ports, sent := t.sent, sq := t.sq, vn := { s.vn with flags := t.vn.flags } }
    ∧ s.KeepsMem t)

/-- From a running device whose motor block is settled and which has nothing left to store, each of these commands
answers a next state in which only registers of the named pages changed, and of the hidden state only the named
parts and the model's bookkeeping (the reply, unlock keys under way, latched words, reports; with a cell's
timer, the T frames' flags of a request that a bypass voids); every other field and, but for the bytes named,
every byte of every memory is as before. Gate channels: GCH and the gates; where a channel may turn on or off
also what a trip reaches: MOTR's page and part, the chopper's part, pins, ports, what was sent, the count of
free values, and for a cell's bypass SYSC and its timer. Chopper: these and Tailstock's part. Squall: its page
and parts, wake, and what a trip reaches. PWM apexes, timers, events, loads: the PWM pages and parts, the
converters' that their triggers reach, and what a trip reaches; an edge: units, pins, Squall channels, gates
and motor, no register. Delay lines (and their taps) and hold-off count: PWMC. Converters: their page and part;
results also Anemograph's page and descriptors, the ring entry at RINGWR in shared SRAM, and the blocks that
the descriptors write. Lathe: the engine's page and part, and where it writes outputs PWM and ISOB pages and
the count of free values.

exec answers a next state, under hypotheses on the state and the operands alone, for: gchCntclr, chcfgWrite,
gateEnableSettle, gateRequestRise, gateRequestFall, gatePhaseEnd, softEnd, gateFbChange, legTrip,
gateFbTimeout, interlockTimeout, gdenLow, gdenRise, chopperOv1, chopperCheck, chopperOv3, chopperRelease,
squallResultChange, squallResolved, sqcfgWrite, blankWindowEnd, squallLatchRelease, settlingTimeEnd,
sqthrWrite, squallCalUpdate, sqtripWrite, sqcntClr, pwmApex, cotCftTimer, pwmEvent, pwmEdge, dlRecal,
holdcntClr, adcRefenWrite, adcRefReady, adcRefFault, adcEnableWrite, adcReady, adcSlotWrite, adcSwtrig,
adcPendingStart, adcWindowStart, adcUrgent, adcRingcfgWrite, adcRingrdWrite, adcCntclr, latheOpen, latheCntclr,
latheClose, latheCmdTrig, latheTrigger, latheChainEnd, loadall, pwmEnableWrite, adcSlotResult,
adcOpenWireSample, adcUrgentResult. -/
def Obligations.PowerStageFrames : Prop :=
  (∀ (s : State), s.Ready → ∃ t, Sys2Proof.Machine.exec (.gchCntclr) s = .next t ∧ s.KeepsRegs t.toDev [pGCH] ∧
    t.toDev = { s.books t.toDev with gates := t.gates } ∧ s.KeepsMem t) ∧ (∀ (s : State) (n : Fin 12) (v : Word),
    s.Ready → ∃ t, Sys2Proof.Machine.exec (.chcfgWrite n v) s = .next t ∧ s.KeepsRegs t.toDev [pGCH] ∧ t.toDev =
    { s.books t.toDev with gates := t.gates } ∧ s.KeepsMem t) ∧ (∀ (s : State), s.Ready → ∃ t,
    Sys2Proof.Machine.exec (.gateEnableSettle) s = .next t ∧ s.KeepsRegs t.toDev [pGCH] ∧ t.toDev =
    { s.books t.toDev with gates := t.gates } ∧ s.KeepsMem t) ∧ (∀ (s : State) (n : Fin 12), s.Ready → ∃ t,
    Sys2Proof.Machine.exec (.gateRequestRise n) s = .next t ∧ s.KeepsRegs t.toDev [pGCH, pMOTR, pSYSC] ∧ t.toDev =
    { s.books t.toDev with gates := t.gates, motr := t.motr, chop := t.chop, cellTick := t.cellTick, pins := t.pins, ports := t.ports, sent := t.sent, fresh := t.fresh, vn := { s.vn with flags := t.vn.flags } }
    ∧ s.KeepsMem t) ∧ (∀ (s : State) (n : Fin 12), s.Ready → ∃ t, Sys2Proof.Machine.exec (.gateRequestFall n) s =
    .next t ∧ s.KeepsRegs t.toDev [pGCH, pMOTR, pSYSC] ∧ t.toDev =
    { s.books t.toDev with gates := t.gates, motr := t.motr, chop := t.chop, cellTick := t.cellTick, pins := t.pins, ports := t.ports, sent := t.sent, fresh := t.fresh, vn := { s.vn with flags := t.vn.flags } }
    ∧ s.KeepsMem t) ∧ (∀ (s : State) (n : Fin 12), s.Ready → ∃ t, Sys2Proof.Machine.exec (.gatePhaseEnd n) s =
    .next t ∧ s.KeepsRegs t.toDev [pGCH, pMOTR, pSYSC] ∧ t.toDev =
    { s.books t.toDev with gates := t.gates, motr := t.motr, chop := t.chop, cellTick := t.cellTick, pins := t.pins, ports := t.ports, sent := t.sent, fresh := t.fresh, vn := { s.vn with flags := t.vn.flags } }
    ∧ s.KeepsMem t) ∧ (∀ (s : State) (n : Fin 12), s.Ready → ∃ t, Sys2Proof.Machine.exec (.softEnd n) s = .next t ∧
    s.KeepsRegs t.toDev [pGCH, pMOTR, pSYSC] ∧ t.toDev =
    { s.books t.toDev with gates := t.gates, motr := t.motr, chop := t.chop, cellTick := t.cellTick, pins := t.pins, ports := t.ports, sent := t.sent, fresh := t.fresh, vn := { s.vn with flags := t.vn.flags } }
    ∧ s.KeepsMem t) ∧ (∀ (s : State) (n : Fin 12) (off : Bool) (ns : Nat), s.Ready → ∃ t, Sys2Proof.Machine.exec
    (.gateFbChange n off ns) s = .next t ∧ s.KeepsRegs t.toDev [pGCH, pMOTR, pSYSC] ∧ t.toDev =
    { s.books t.toDev with gates := t.gates, motr := t.motr, chop := t.chop, cellTick := t.cellTick, pins := t.pins, ports := t.ports, sent := t.sent, fresh := t.fresh, vn := { s.vn with flags := t.vn.flags } }
    ∧ s.KeepsMem t) ∧ (∀ (s : State) (q : Fin 16), s.Ready → ∃ t, Sys2Proof.Machine.exec (.legTrip q) s = .next t ∧
    s.KeepsRegs t.toDev [pGCH, pMOTR, pSYSC] ∧ t.toDev =
    { s.books t.toDev with gates := t.gates, motr := t.motr, chop := t.chop, cellTick := t.cellTick, pins := t.pins, ports := t.ports, sent := t.sent, fresh := t.fresh, vn := { s.vn with flags := t.vn.flags } }
    ∧ s.KeepsMem t) ∧ (∀ (s : State) (n : Fin 12), s.Ready → ∃ t, Sys2Proof.Machine.exec (.gateFbTimeout n) s =
    .next t ∧ s.KeepsRegs t.toDev [pGCH, pMOTR, pSYSC] ∧ t.toDev =
    { s.books t.toDev with gates := t.gates, gdenPin := t.gdenPin, motr := t.motr, chop := t.chop, cellTick := t.cellTick, pins := t.pins, ports := t.ports, sent := t.sent, fresh := t.fresh, vn := { s.vn with flags := t.vn.flags } }
    ∧ s.KeepsMem t) ∧ (∀ (s : State) (n : Fin 12), s.Ready → ∃ t, Sys2Proof.Machine.exec (.interlockTimeout n) s =
    .next t ∧ s.KeepsRegs t.toDev [pGCH, pMOTR, pSYSC] ∧ t.toDev =
    { s.books t.toDev with gates := t.gates, gdenPin := t.gdenPin, motr := t.motr, chop := t.chop, cellTick := t.cellTick, pins := t.pins, ports := t.ports, sent := t.sent, fresh := t.fresh, vn := { s.vn with flags := t.vn.flags } }
    ∧ s.KeepsMem t) ∧ (∀ (s : State) (ns : Nat), s.Ready → ∃ t, Sys2Proof.Machine.exec (.gdenLow ns) s = .next t ∧
    s.KeepsRegs t.toDev [pGCH, pMOTR, pSYSC] ∧ t.toDev =
    { s.books t.toDev with gates := t.gates, gdenPin := t.gdenPin, motr := t.motr, chop := t.chop, cellTick := t.cellTick, pins := t.pins, ports := t.ports, sent := t.sent, fresh := t.fresh, vn := { s.vn with flags := t.vn.flags } }
    ∧ s.KeepsMem t) ∧ (∀ (s : State) (ns : Nat), s.Ready → ∃ t, Sys2Proof.Machine.exec (.gdenRise ns) s = .next t ∧
    s.KeepsRegs t.toDev [pGCH, pMOTR, pSYSC] ∧ t.toDev =
    { s.books t.toDev with gates := t.gates, gdenPin := t.gdenPin, motr := t.motr, chop := t.chop, cellTick := t.cellTick, pins := t.pins, ports := t.ports, sent := t.sent, fresh := t.fresh, vn := { s.vn with flags := t.vn.flags } }
    ∧ s.KeepsMem t) ∧ (∀ (s : State), s.Ready → ∃ t, Sys2Proof.Machine.exec (.chopperOv1) s = .next t ∧ s.KeepsRegs
    t.toDev [pGCH, pMOTR, pSYSC] ∧ t.toDev =
    { s.books t.toDev with chop := t.chop, pins := t.pins, tstk := t.tstk, gates := t.gates, motr := t.motr, sent := t.sent, ports := t.ports, cellTick := t.cellTick, fresh := t.fresh, vn := { s.vn with flags := t.vn.flags } }
    ∧ s.KeepsMem t) ∧ (∀ (s : State) (k : Fin 3), s.Ready → ∃ t, Sys2Proof.Machine.exec (.chopperCheck k) s = .next
    t ∧ s.KeepsRegs t.toDev [pGCH, pMOTR, pSYSC] ∧ t.toDev =
    { s.books t.toDev with chop := t.chop, pins := t.pins, tstk := t.tstk, gates := t.gates, motr := t.motr, sent := t.sent, ports := t.ports, cellTick := t.cellTick, fresh := t.fresh, vn := { s.vn with flags := t.vn.flags } }
    ∧ s.KeepsMem t) ∧ (∀ (s : State), s.Ready → ∃ t, Sys2Proof.Machine.exec (.chopperOv3) s = .next t ∧ s.KeepsRegs
    t.toDev [pGCH, pMOTR, pSYSC] ∧ t.toDev =
    { s.books t.toDev with chop := t.chop, pins := t.pins, tstk := t.tstk, gates := t.gates, motr := t.motr, sent := t.sent, ports := t.ports, cellTick := t.cellTick, fresh := t.fresh, vn := { s.vn with flags := t.vn.flags } }
    ∧ s.KeepsMem t) ∧ (∀ (s : State), s.Ready → ∃ t, Sys2Proof.Machine.exec (.chopperRelease) s = .next t ∧
    s.KeepsRegs t.toDev [pGCH, pMOTR, pSYSC] ∧ t.toDev =
    { s.books t.toDev with chop := t.chop, pins := t.pins, tstk := t.tstk, gates := t.gates, motr := t.motr, sent := t.sent, ports := t.ports, cellTick := t.cellTick, fresh := t.fresh, vn := { s.vn with flags := t.vn.flags } }
    ∧ s.KeepsMem t) ∧ (∀ (s : State) (q : Fin 16) (v : Nat), s.Ready → ∃ t, Sys2Proof.Machine.exec
    (.squallResultChange q v) s = .next t ∧ s.KeepsRegs t.toDev (tripPages) ∧ t.toDev =
    { s.books t.toDev with sq := t.sq, sqCorr := t.sqCorr, wake := t.wake, chop := t.chop, gates := t.gates, motr := t.motr, cellTick := t.cellTick, pins := t.pins, ports := t.ports, sent := t.sent, fresh := t.fresh, vn := { s.vn with flags := t.vn.flags } }
    ∧ s.KeepsMem t) ∧ (∀ (s : State) (q : Fin 16) (v : Nat), s.Ready → ∃ t, Sys2Proof.Machine.exec (.squallResolved
    q v) s = .next t ∧ s.KeepsRegs t.toDev (tripPages) ∧ t.toDev =
    { s.books t.toDev with sq := t.sq, sqCorr := t.sqCorr, wake := t.wake, chop := t.chop, gates := t.gates, motr := t.motr, cellTick := t.cellTick, pins := t.pins, ports := t.ports, sent := t.sent, fresh := t.fresh, vn := { s.vn with flags := t.vn.flags } }
    ∧ s.KeepsMem t) ∧ (∀ (s : State) (q : Fin 16) (v : Word), s.Ready → ∃ t, Sys2Proof.Machine.exec (.sqcfgWrite q
    v) s = .next t ∧ s.KeepsRegs t.toDev (tripPages) ∧ t.toDev =
    { s.books t.toDev with sq := t.sq, sqCorr := t.sqCorr, wake := t.wake, chop := t.chop, gates := t.gates, motr := t.motr, cellTick := t.cellTick, pins := t.pins, ports := t.ports, sent := t.sent, fresh := t.fresh, vn := { s.vn with flags := t.vn.flags } }
    ∧ s.KeepsMem t) ∧ (∀ (s : State) (q : Fin 16), s.Ready → ∃ t, Sys2Proof.Machine.exec (.blankWindowEnd q) s =
    .next t ∧ s.KeepsRegs t.toDev (tripPages) ∧ t.toDev =
    { s.books t.toDev with sq := t.sq, sqCorr := t.sqCorr, wake := t.wake, chop := t.chop, gates := t.gates, motr := t.motr, cellTick := t.cellTick, pins := t.pins, ports := t.ports, sent := t.sent, fresh := t.fresh, vn := { s.vn with flags := t.vn.flags } }
    ∧ s.KeepsMem t) ∧ (∀ (s : State) (mask : BitVec 16), s.Ready → ∃ t, Sys2Proof.Machine.exec (.squallLatchRelease
    mask) s = .next t ∧ s.KeepsRegs t.toDev (tripPages) ∧ t.toDev =
    { s.books t.toDev with sq := t.sq, sqCorr := t.sqCorr, wake := t.wake, chop := t.chop, gates := t.gates, motr := t.motr, cellTick := t.cellTick, pins := t.pins, ports := t.ports, sent := t.sent, fresh := t.fresh, vn := { s.vn with flags := t.vn.flags } }
    ∧ s.KeepsMem t) ∧ (∀ (s : State) (q : Fin 16), s.Ready → ∃ t, Sys2Proof.Machine.exec (.settlingTimeEnd q) s =
    .next t ∧ s.KeepsRegs t.toDev (tripPages) ∧ t.toDev =
    { s.books t.toDev with sq := t.sq, sqCorr := t.sqCorr, wake := t.wake, chop := t.chop, gates := t.gates, motr := t.motr, cellTick := t.cellTick, pins := t.pins, ports := t.ports, sent := t.sent, fresh := t.fresh, vn := { s.vn with flags := t.vn.flags } }
    ∧ s.KeepsMem t) ∧ (∀ (s : State) (q : Fin 16) (v : Word), s.Ready → ∃ t, Sys2Proof.Machine.exec (.sqthrWrite q
    v) s = .next t ∧ s.KeepsRegs t.toDev (tripPages) ∧ t.toDev =
    { s.books t.toDev with sq := t.sq, sqCorr := t.sqCorr, wake := t.wake, chop := t.chop, gates := t.gates, motr := t.motr, cellTick := t.cellTick, pins := t.pins, ports := t.ports, sent := t.sent, fresh := t.fresh, vn := { s.vn with flags := t.vn.flags } }
    ∧ s.KeepsMem t) ∧ (∀ (s : State), s.Ready → ∃ t, Sys2Proof.Machine.exec (.squallCalUpdate) s = .next t ∧
    s.KeepsRegs t.toDev (tripPages) ∧ t.toDev =
    { s.books t.toDev with sq := t.sq, sqCorr := t.sqCorr, wake := t.wake, chop := t.chop, gates := t.gates, motr := t.motr, cellTick := t.cellTick, pins := t.pins, ports := t.ports, sent := t.sent, fresh := t.fresh, vn := { s.vn with flags := t.vn.flags } }
    ∧ s.KeepsMem t) ∧ (∀ (s : State) (q : Fin 16) (v : Word), s.Ready → ∃ t, Sys2Proof.Machine.exec (.sqtripWrite q
    v) s = .next t ∧ s.KeepsRegs t.toDev (tripPages) ∧ t.toDev =
    { s.books t.toDev with sq := t.sq, sqCorr := t.sqCorr, wake := t.wake, chop := t.chop, gates := t.gates, motr := t.motr, cellTick := t.cellTick, pins := t.pins, ports := t.ports, sent := t.sent, fresh := t.fresh, vn := { s.vn with flags := t.vn.flags } }
    ∧ s.KeepsMem t) ∧ (∀ (s : State) (q : Fin 16), s.Ready → ∃ t, Sys2Proof.Machine.exec (.sqcntClr q) s = .next t
    ∧ s.KeepsRegs t.toDev [pSQL] ∧ t.toDev = s.books t.toDev ∧ s.KeepsMem t) ∧ (∀ (s : State) (m : Fin 6), s.Ready
    → ∃ t, Sys2Proof.Machine.exec (.pwmApex m) s = .next t ∧ s.KeepsRegs t.toDev ([pPWMU m, pADC 0, pADC 1] ++
    tripPages) ∧ t.toDev =
    { s.books t.toDev with pwm := t.pwm, loadedT := t.loadedT, adc := t.adc, chop := t.chop, fresh := t.fresh, gates := t.gates, wake := t.wake, cellTick := t.cellTick, pins := t.pins, ports := t.ports, sent := t.sent, sq := t.sq, motr := t.motr, vn := { s.vn with flags := t.vn.flags } }
    ∧ s.KeepsMem t) ∧ (∀ (s : State) (m : Fin 7) (which : Fin 3), s.Ready → ∃ t, Sys2Proof.Machine.exec
    (.cotCftTimer m which) s = .next t ∧ s.KeepsRegs t.toDev ([pPWMU m, pADC 0, pADC 1] ++ tripPages) ∧ t.toDev =
    { s.books t.toDev with pwm := t.pwm, loadedT := t.loadedT, adc := t.adc, chop := t.chop, fresh := t.fresh, gates := t.gates, wake := t.wake, cellTick := t.cellTick, pins := t.pins, ports := t.ports, sent := t.sent, sq := t.sq, motr := t.motr, vn := { s.vn with flags := t.vn.flags } }
    ∧ s.KeepsMem t) ∧ (∀ (s : State) (m : Fin 7) (isEnd : Bool) (elapsed : Nat), s.Ready → ∃ t,
    Sys2Proof.Machine.exec (.pwmEvent m isEnd elapsed) s = .next t ∧ s.KeepsRegs t.toDev ([pPWMU m, pADC 0, pADC 1]
    ++ tripPages) ∧ t.toDev =
    { s.books t.toDev with pwm := t.pwm, loadedT := t.loadedT, adc := t.adc, chop := t.chop, fresh := t.fresh, gates := t.gates, wake := t.wake, cellTick := t.cellTick, pins := t.pins, ports := t.ports, sent := t.sent, sq := t.sq, motr := t.motr, vn := { s.vn with flags := t.vn.flags } }
    ∧ s.KeepsMem t) ∧ (∀ (s : State) (m : Fin 7), s.Ready → ∃ t, Sys2Proof.Machine.exec (.pwmEdge m) s = .next t ∧
    s.KeepsRegs t.toDev [] ∧ t.toDev =
    { s.books t.toDev with pwm := t.pwm, pins := t.pins, sq := t.sq, gates := t.gates, motr := t.motr } ∧
    s.KeepsMem t) ∧ (∀ (s : State) (line : Fin 13) (ps : Nat), s.Ready → ∃ t, Sys2Proof.Machine.exec (.dlRecal line
    ps) s = .next t ∧ s.KeepsRegs t.toDev [pPWMC] ∧ t.toDev =
    { s.books t.toDev with dlDone := t.dlDone, dlTaps := t.dlTaps } ∧ s.KeepsMem t) ∧ (∀ (s : State), s.Ready → ∃
    t, Sys2Proof.Machine.exec (.holdcntClr) s = .next t ∧ s.KeepsRegs t.toDev [pPWMC] ∧ t.toDev =
    { s.books t.toDev with dlDone := t.dlDone, dlTaps := t.dlTaps } ∧ s.KeepsMem t) ∧ (∀ (s : State) (c : Fin 2)
    (en : Bool), s.Ready → ∃ t, Sys2Proof.Machine.exec (.adcRefenWrite c en) s = .next t ∧ s.KeepsRegs t.toDev
    [pADC c] ∧ t.toDev = { s.books t.toDev with adc := t.adc } ∧ s.KeepsMem t) ∧ (∀ (s : State) (c : Fin 2),
    s.Ready → ∃ t, Sys2Proof.Machine.exec (.adcRefReady c) s = .next t ∧ s.KeepsRegs t.toDev [pADC c] ∧ t.toDev =
    { s.books t.toDev with adc := t.adc } ∧ s.KeepsMem t) ∧ (∀ (s : State) (c : Fin 2), s.Ready → ∃ t,
    Sys2Proof.Machine.exec (.adcRefFault c) s = .next t ∧ s.KeepsRegs t.toDev [pADC c] ∧ t.toDev =
    { s.books t.toDev with adc := t.adc } ∧ s.KeepsMem t) ∧ (∀ (s : State) (c : Fin 2) (en : Bool), s.Ready → ∃ t,
    Sys2Proof.Machine.exec (.adcEnableWrite c en) s = .next t ∧ s.KeepsRegs t.toDev [pADC c] ∧ t.toDev =
    { s.books t.toDev with adc := t.adc } ∧ s.KeepsMem t) ∧ (∀ (s : State) (c : Fin 2), s.Ready → ∃ t,
    Sys2Proof.Machine.exec (.adcReady c) s = .next t ∧ s.KeepsRegs t.toDev [pADC c] ∧ t.toDev =
    { s.books t.toDev with adc := t.adc } ∧ s.KeepsMem t) ∧ (∀ (s : State) (c : Fin 2) (k : Fin 32) (v : Word),
    s.Ready → ∃ t, Sys2Proof.Machine.exec (.adcSlotWrite c k v) s = .next t ∧ s.KeepsRegs t.toDev [pADC c] ∧
    t.toDev = { s.books t.toDev with adc := t.adc } ∧ s.KeepsMem t) ∧ (∀ (s : State) (c : Fin 2) (slot : Fin 32),
    s.Ready → ∃ t, Sys2Proof.Machine.exec (.adcSwtrig c slot) s = .next t ∧ s.KeepsRegs t.toDev [pADC c] ∧ t.toDev
    = { s.books t.toDev with adc := t.adc } ∧ s.KeepsMem t) ∧ (∀ (s : State) (c : Fin 2), s.Ready → ∃ t,
    Sys2Proof.Machine.exec (.adcPendingStart c) s = .next t ∧ s.KeepsRegs t.toDev [pADC c] ∧ t.toDev =
    { s.books t.toDev with adc := t.adc } ∧ s.KeepsMem t) ∧ (∀ (s : State) (c : Fin 2), s.Ready → ∃ t,
    Sys2Proof.Machine.exec (.adcWindowStart c) s = .next t ∧ s.KeepsRegs t.toDev [pADC c] ∧ t.toDev =
    { s.books t.toDev with adc := t.adc } ∧ s.KeepsMem t) ∧ (∀ (s : State) (c : Fin 2) (v : Word), s.Ready → ∃ t,
    Sys2Proof.Machine.exec (.adcUrgent c v) s = .next t ∧ s.KeepsRegs t.toDev [pADC c] ∧ t.toDev =
    { s.books t.toDev with adc := t.adc } ∧ s.KeepsMem t) ∧ (∀ (s : State) (c : Fin 2) (v : Word), s.Ready → ∃ t,
    Sys2Proof.Machine.exec (.adcRingcfgWrite c v) s = .next t ∧ s.KeepsRegs t.toDev [pADC c] ∧ t.toDev =
    { s.books t.toDev with adc := t.adc } ∧ s.KeepsMem t) ∧ (∀ (s : State) (c : Fin 2) (v : Word), s.Ready → ∃ t,
    Sys2Proof.Machine.exec (.adcRingrdWrite c v) s = .next t ∧ s.KeepsRegs t.toDev [pADC c] ∧ t.toDev =
    { s.books t.toDev with adc := t.adc } ∧ s.KeepsMem t) ∧ (∀ (s : State) (c : Fin 2), s.Ready → ∃ t,
    Sys2Proof.Machine.exec (.adcCntclr c) s = .next t ∧ s.KeepsRegs t.toDev [pADC c] ∧ t.toDev =
    { s.books t.toDev with adc := t.adc } ∧ s.KeepsMem t) ∧ (∀ (s : State) (n : Fin 8), s.Ready → ∃ t,
    Sys2Proof.Machine.exec (.latheOpen n) s = .next t ∧ s.KeepsRegs t.toDev ([pLE n, pISOB] ++ pwmPages) ∧ t.toDev
    = { s.books t.toDev with le := t.le, fresh := t.fresh } ∧ s.KeepsMem t) ∧ (∀ (s : State) (n : Fin 8), s.Ready →
    ∃ t, Sys2Proof.Machine.exec (.latheCntclr n) s = .next t ∧ s.KeepsRegs t.toDev [pLE n] ∧ t.toDev =
    { s.books t.toDev with le := t.le } ∧ s.KeepsMem t) ∧ (∀ (s : State) (n : Fin 8), s.Ready → ∃ t,
    Sys2Proof.Machine.exec (.latheClose n) s = .next t ∧ s.KeepsRegs t.toDev [pLE n] ∧ t.toDev =
    { s.books t.toDev with le := t.le } ∧ s.KeepsMem t) ∧ (∀ (s : State) (n : Fin 8), s.Ready → ∃ t,
    Sys2Proof.Machine.exec (.latheCmdTrig n) s = .next t ∧ s.KeepsRegs t.toDev [pLE n] ∧ t.toDev =
    { s.books t.toDev with le := t.le } ∧ s.KeepsMem t) ∧ (∀ (s : State) (n : Fin 8), s.Ready → ∃ t,
    Sys2Proof.Machine.exec (.latheTrigger n) s = .next t ∧ s.KeepsRegs t.toDev ([pLE n, pISOB] ++ pwmPages) ∧
    t.toDev = { s.books t.toDev with iso := t.iso, le := t.le, fresh := t.fresh } ∧ s.KeepsMem t) ∧ (∀ (s : State)
    (n : Fin 8), s.Ready → ∃ t, Sys2Proof.Machine.exec (.latheChainEnd n) s = .next t ∧ s.KeepsRegs t.toDev ([pLE
    n, pISOB] ++ pwmPages) ∧ t.toDev = { s.books t.toDev with iso := t.iso, le := t.le, fresh := t.fresh } ∧
    s.KeepsMem t) ∧ (∀ (s : State), s.Ready → ∃ t, Sys2Proof.Machine.exec (.loadall) s = .next t ∧ s.KeepsRegs
    t.toDev (powerPages ++ tripPages) ∧ t.toDev =
    { s.books t.toDev with adc := t.adc, chop := t.chop, fresh := t.fresh, gates := t.gates, loadedT := t.loadedT, pwm := t.pwm, wake := t.wake, cellTick := t.cellTick, pins := t.pins, ports := t.ports, sent := t.sent, sq := t.sq, motr := t.motr, vn := { s.vn with flags := t.vn.flags } }
    ∧ s.KeepsMem t) ∧ (∀ (s : State) (m : Fin 7) (en : Bool), s.Ready → ∃ t, Sys2Proof.Machine.exec
    (.pwmEnableWrite m en) s = .next t ∧ s.KeepsRegs t.toDev [pPWMU m, pGCH, pMOTR, pSYSC] ∧ t.toDev =
    { s.books t.toDev with gates := t.gates, pins := t.pins, pwm := t.pwm, motr := t.motr, chop := t.chop, cellTick := t.cellTick, ports := t.ports, sent := t.sent, fresh := t.fresh, vn := { s.vn with flags := t.vn.flags } }
    ∧ s.KeepsMem t) ∧ (∀ (s : State) (c : Fin 2) (codes : List Int), s.Ready → ∃ t, Sys2Proof.Machine.exec
    (.adcSlotResult c codes) s = .next t ∧ s.KeepsRegs t.toDev [pADC c, pANMG] ∧ t.toDev =
    { s.books t.toDev with adc := t.adc, an := t.an } ∧ s.KeepsOutside t (s.ringSlot c ++ s.anBlocks)) ∧ (∀ (s :
    State) (c : Fin 2) (code : Int), s.Ready → ∃ t, Sys2Proof.Machine.exec (.adcOpenWireSample c code) s = .next t
    ∧ s.KeepsRegs t.toDev [pADC c, pANMG] ∧ t.toDev = { s.books t.toDev with adc := t.adc, an := t.an } ∧
    s.KeepsOutside t (s.ringSlot c ++ s.anBlocks)) ∧ (∀ (s : State) (c : Fin 2) (codes : List Int), s.Ready → ∃ t,
    Sys2Proof.Machine.exec (.adcUrgentResult c codes) s = .next t ∧ s.KeepsRegs t.toDev [pADC c, pANMG] ∧ t.toDev =
    { s.books t.toDev with adc := t.adc, an := t.an } ∧ s.KeepsOutside t (s.ringSlot c ++ s.anBlocks))

/-- From a running device whose motor block is settled and which has nothing left to store, each of these commands
answers a next state in which only registers of the named pages changed, and of the hidden state only the named
parts and the model's bookkeeping (the reply, unlock keys under way, latched words, reports; with a cell's
timer, the T frames' flags of a request that a bypass voids); every other field and, but for the bytes named,
every byte of every memory is as before. TIME's commands: TIME's page, its part and the pins; a step also TIME
itself, Spindle's part, what PWM, converters and the motor legs take from it, and what a trip reaches. A read
of NOWNS: nothing but the bookkeeping. A fabric tick: TIME and SPDL, the counts and the servo, the LOCK pins
(SYN pages), broadcasts whose frame has ended (LINK pages, ports), UART bytes (their pages, the SoC part, what
was sent). Spindle's commands: its page, part and the count of free values; those that jump the angle or fire
an event what actions reach (converters, Lathe, PWM, SQL, GCH, trips, pulse outputs, marks in the descriptors'
blocks; a time event also a grid's index and change in STRD or VANE). References, relocks, losses, switches and
the hold-off: the clock, power stage, Lathe, Ethernet and DDRC pages and parts, what a trip reaches, and the
DRAM as before or made undefined. The start of a band measurement, FREQ_OK and the margin: the synthesizer's
page, the clocks' part, the count of free values and the LOCK pins; its end and FINE_LOCK, with the boot ROM's
bring-up: what a switch reaches, and UART0's settings.

exec answers a next state, under hypotheses on the state and the operands alone, for: rateWrite, timeModeWrite,
validSet, validClr, holdoverSet, holdoverClr, slewGo, slewDone, tpoArm, tpoDisarm, tpoPulseStart, tpoPulseEnd,
tcapEdge, tcapCfgWrite, timeStep, timeNowRead, trackerSampleSet, freewheelEnd, thofsWrite, angleEventFire,
timeEventFire, spindleEnableWrite, angleEventRearm, tevctlWrite, mergecntClr, oscCheck, fabricTick,
linkClockQualified, referenceRestored, lossOfReference, relockGo, lossOfLock, synCfgWrite, byprefLost,
autoretReturn, debugHalt, stopWake, gobyp, gosyn, refclkQualified, bandcalDone, fineLock, fabricClockStop,
holdoffEnd, bandcalGo, freqOk, tuneMargin. -/
def Obligations.ClockAndTimeFrames : Prop :=
  (∀ (s : State) (v : Word), s.Ready → ∃ t, Sys2Proof.Machine.exec (.rateWrite v) s = .next t ∧ s.KeepsRegs t.toDev
    [pTIME] ∧ t.toDev = { s.books t.toDev with tb := t.tb, pins := t.pins } ∧ s.KeepsMem t) ∧ (∀ (s : State) (mode
    : BitVec 2), s.Ready → ∃ t, Sys2Proof.Machine.exec (.timeModeWrite mode) s = .next t ∧ s.KeepsRegs t.toDev
    [pTIME] ∧ t.toDev = { s.books t.toDev with tb := t.tb, pins := t.pins } ∧ s.KeepsMem t) ∧ (∀ (s : State),
    s.Ready → ∃ t, Sys2Proof.Machine.exec (.validSet) s = .next t ∧ s.KeepsRegs t.toDev [pTIME] ∧ t.toDev =
    { s.books t.toDev with tb := t.tb, pins := t.pins } ∧ s.KeepsMem t) ∧ (∀ (s : State), s.Ready → ∃ t,
    Sys2Proof.Machine.exec (.validClr) s = .next t ∧ s.KeepsRegs t.toDev [pTIME] ∧ t.toDev =
    { s.books t.toDev with tb := t.tb, pins := t.pins } ∧ s.KeepsMem t) ∧ (∀ (s : State), s.Ready → ∃ t,
    Sys2Proof.Machine.exec (.holdoverSet) s = .next t ∧ s.KeepsRegs t.toDev [pTIME] ∧ t.toDev =
    { s.books t.toDev with tb := t.tb, pins := t.pins } ∧ s.KeepsMem t) ∧ (∀ (s : State), s.Ready → ∃ t,
    Sys2Proof.Machine.exec (.holdoverClr) s = .next t ∧ s.KeepsRegs t.toDev [pTIME] ∧ t.toDev =
    { s.books t.toDev with tb := t.tb, pins := t.pins } ∧ s.KeepsMem t) ∧ (∀ (s : State) (spd : BitVec 11), s.Ready
    → ∃ t, Sys2Proof.Machine.exec (.slewGo spd) s = .next t ∧ s.KeepsRegs t.toDev [pTIME] ∧ t.toDev =
    { s.books t.toDev with tb := t.tb, pins := t.pins } ∧ s.KeepsMem t) ∧ (∀ (s : State), s.Ready → ∃ t,
    Sys2Proof.Machine.exec (.slewDone) s = .next t ∧ s.KeepsRegs t.toDev [pTIME] ∧ t.toDev =
    { s.books t.toDev with tb := t.tb, pins := t.pins } ∧ s.KeepsMem t) ∧ (∀ (s : State) (n : Fin 4), s.Ready → ∃
    t, Sys2Proof.Machine.exec (.tpoArm n) s = .next t ∧ s.KeepsRegs t.toDev [pTIME] ∧ t.toDev =
    { s.books t.toDev with tb := t.tb, pins := t.pins } ∧ s.KeepsMem t) ∧ (∀ (s : State) (n : Fin 4), s.Ready → ∃
    t, Sys2Proof.Machine.exec (.tpoDisarm n) s = .next t ∧ s.KeepsRegs t.toDev [pTIME] ∧ t.toDev =
    { s.books t.toDev with tb := t.tb, pins := t.pins } ∧ s.KeepsMem t) ∧ (∀ (s : State) (n : Fin 4), s.Ready → ∃
    t, Sys2Proof.Machine.exec (.tpoPulseStart n) s = .next t ∧ s.KeepsRegs t.toDev [pTIME] ∧ t.toDev =
    { s.books t.toDev with tb := t.tb, pins := t.pins } ∧ s.KeepsMem t) ∧ (∀ (s : State) (n : Fin 4), s.Ready → ∃
    t, Sys2Proof.Machine.exec (.tpoPulseEnd n) s = .next t ∧ s.KeepsRegs t.toDev [pTIME] ∧ t.toDev =
    { s.books t.toDev with tb := t.tb, pins := t.pins } ∧ s.KeepsMem t) ∧ (∀ (s : State) (n : Fin 2) (rising :
    Bool) (sub : BitVec 6), s.Ready → ∃ t, Sys2Proof.Machine.exec (.tcapEdge n rising sub) s = .next t ∧
    s.KeepsRegs t.toDev [pTIME] ∧ t.toDev = { s.books t.toDev with tb := t.tb, pins := t.pins } ∧ s.KeepsMem t) ∧
    (∀ (s : State) (n : Fin 2) (edges : BitVec 2), s.Ready → ∃ t, Sys2Proof.Machine.exec (.tcapCfgWrite n edges) s
    = .next t ∧ s.KeepsRegs t.toDev [pTIME] ∧ t.toDev = { s.books t.toDev with tb := t.tb, pins := t.pins } ∧
    s.KeepsMem t) ∧ (∀ (s : State) (abs : Bool) (neg : Bool), s.Ready → ∃ t, Sys2Proof.Machine.exec (.timeStep abs
    neg) s = .next t ∧ s.KeepsRegs t.toDev ([pTIME, pGCH, pMOTR, pSYSC] ++ pwmPages) ∧ t.toDev =
    { s.books t.toDev with time := t.time, spd := t.spd, tb := t.tb, adc := t.adc, fresh := t.fresh, gates := t.gates, pwm := t.pwm, pins := t.pins, motr := t.motr, chop := t.chop, cellTick := t.cellTick, ports := t.ports, sent := t.sent, vn := { s.vn with flags := t.vn.flags } }
    ∧ s.KeepsMem t) ∧ (∀ (s : State), s.Ready → ∃ t, Sys2Proof.Machine.exec (.timeNowRead) s = .next t ∧
    s.KeepsRegs t.toDev [] ∧ t.toDev = s.books t.toDev ∧ s.KeepsMem t) ∧ (∀ (s : State), s.Ready → ∃ t,
    Sys2Proof.Machine.exec (.trackerSampleSet) s = .next t ∧ s.KeepsRegs t.toDev (eventPages) ∧ t.toDev =
    { s.books t.toDev with spd := t.spd, tb := t.tb, adc := t.adc, le := t.le, pwm := t.pwm, loadedT := t.loadedT, gates := t.gates, chop := t.chop, wake := t.wake, an := t.an, fresh := t.fresh, cellTick := t.cellTick, pins := t.pins, ports := t.ports, sent := t.sent, sq := t.sq, motr := t.motr, vn := { s.vn with flags := t.vn.flags } }
    ∧ s.KeepsOutside t s.anBlocks) ∧ (∀ (s : State), s.Ready → ∃ t, Sys2Proof.Machine.exec (.freewheelEnd) s =
    .next t ∧ s.KeepsRegs t.toDev (eventPages) ∧ t.toDev =
    { s.books t.toDev with spd := t.spd, tb := t.tb, adc := t.adc, le := t.le, pwm := t.pwm, loadedT := t.loadedT, gates := t.gates, chop := t.chop, wake := t.wake, an := t.an, fresh := t.fresh, cellTick := t.cellTick, pins := t.pins, ports := t.ports, sent := t.sent, sq := t.sq, motr := t.motr, vn := { s.vn with flags := t.vn.flags } }
    ∧ s.KeepsOutside t s.anBlocks) ∧ (∀ (s : State) (v : Word), s.Ready → ∃ t, Sys2Proof.Machine.exec (.thofsWrite
    v) s = .next t ∧ s.KeepsRegs t.toDev (eventPages) ∧ t.toDev =
    { s.books t.toDev with spd := t.spd, tb := t.tb, adc := t.adc, le := t.le, pwm := t.pwm, loadedT := t.loadedT, gates := t.gates, chop := t.chop, wake := t.wake, an := t.an, fresh := t.fresh, cellTick := t.cellTick, pins := t.pins, ports := t.ports, sent := t.sent, sq := t.sq, motr := t.motr, vn := { s.vn with flags := t.vn.flags } }
    ∧ s.KeepsOutside t s.anBlocks) ∧ (∀ (s : State) (n : Fin 64), s.Ready → ∃ t, Sys2Proof.Machine.exec
    (.angleEventFire n) s = .next t ∧ s.KeepsRegs t.toDev (eventPages) ∧ t.toDev =
    { s.books t.toDev with spd := t.spd, tb := t.tb, adc := t.adc, le := t.le, pwm := t.pwm, loadedT := t.loadedT, gates := t.gates, chop := t.chop, wake := t.wake, an := t.an, fresh := t.fresh, cellTick := t.cellTick, pins := t.pins, ports := t.ports, sent := t.sent, sq := t.sq, motr := t.motr, vn := { s.vn with flags := t.vn.flags } }
    ∧ s.KeepsOutside t s.anBlocks) ∧ (∀ (s : State) (n : Fin 32), s.Ready → ∃ t, Sys2Proof.Machine.exec
    (.timeEventFire n) s = .next t ∧ s.KeepsRegs t.toDev ([pSTRD, pVANE] ++ eventPages) ∧ t.toDev =
    { s.books t.toDev with spd := t.spd, tb := t.tb, adc := t.adc, le := t.le, pwm := t.pwm, loadedT := t.loadedT, gates := t.gates, chop := t.chop, wake := t.wake, an := t.an, fresh := t.fresh, hub := t.hub, vn := t.vn, hgT0 := t.hgT0, hgTsf := t.hgTsf, hgSo := t.hgSo, cellTick := t.cellTick, pins := t.pins, ports := t.ports, sent := t.sent, sq := t.sq, motr := t.motr }
    ∧ s.KeepsOutside t s.anBlocks) ∧ (∀ (s : State) (en : Bool) (fnom60 : Bool), s.Ready → ∃ t,
    Sys2Proof.Machine.exec (.spindleEnableWrite en fnom60) s = .next t ∧ s.KeepsRegs t.toDev [pSPDL] ∧ t.toDev =
    { s.books t.toDev with spd := t.spd, fresh := t.fresh } ∧ s.KeepsMem t) ∧ (∀ (s : State) (n : Fin 64), s.Ready
    → ∃ t, Sys2Proof.Machine.exec (.angleEventRearm n) s = .next t ∧ s.KeepsRegs t.toDev [pSPDL] ∧ t.toDev =
    { s.books t.toDev with spd := t.spd, fresh := t.fresh } ∧ s.KeepsMem t) ∧ (∀ (s : State) (n : Fin 32) (v :
    Word), s.Ready → ∃ t, Sys2Proof.Machine.exec (.tevctlWrite n v) s = .next t ∧ s.KeepsRegs t.toDev [pSPDL] ∧
    t.toDev = { s.books t.toDev with spd := t.spd, fresh := t.fresh } ∧ s.KeepsMem t) ∧ (∀ (s : State), s.Ready → ∃
    t, Sys2Proof.Machine.exec (.mergecntClr) s = .next t ∧ s.KeepsRegs t.toDev [pSPDL] ∧ t.toDev =
    { s.books t.toDev with spd := t.spd, fresh := t.fresh } ∧ s.KeepsMem t) ∧ (∀ (s : State) (bad : Bool), s.Ready
    → ∃ t, Sys2Proof.Machine.exec (.oscCheck bad) s = .next t ∧ s.KeepsRegs t.toDev [pCKSW] ∧ t.toDev =
    { s.books t.toDev with clk := t.clk } ∧ s.KeepsMem t) ∧ (∀ (s : State), s.Ready → ∃ t, Sys2Proof.Machine.exec
    (.fabricTick) s = .next t ∧ s.KeepsRegs t.toDev ([pTIME, pSPDL, pSYN 0, pSYN 1, pUART 0, pUART 1] ++ linkPages)
    ∧ t.toDev =
    { s.books t.toDev with ticks := t.ticks, ns := t.ns, time := t.time, tb := t.tb, srv := t.srv, spd := t.spd, loadedT := t.loadedT, fcol := t.fcol, ports := t.ports, fresh := t.fresh, pins := t.pins, soc := t.soc, sent := t.sent }
    ∧ s.KeepsMem t) ∧ (∀ (s : State) (p : Fin 2), s.Ready → ∃ t, Sys2Proof.Machine.exec (.linkClockQualified p) s =
    .next t ∧ s.KeepsRegs t.toDev (clockPages) ∧ t.toDev =
    { s.books t.toDev with adc := t.adc, an := t.an, cellTick := t.cellTick, chop := t.chop, clk := t.clk, fresh := t.fresh, gates := t.gates, le := t.le, motr := t.motr, pins := t.pins, ports := t.ports, pwm := t.pwm, loadedT := t.loadedT, sent := t.sent, soc := t.soc, spd := t.spd, wake := t.wake, vn := { s.vn with flags := t.vn.flags } }
    ∧ s.DramLost t) ∧ (∀ (s : State) (src : Fin 3), s.Ready → ∃ t, Sys2Proof.Machine.exec (.referenceRestored src)
    s = .next t ∧ s.KeepsRegs t.toDev (clockPages) ∧ t.toDev =
    { s.books t.toDev with adc := t.adc, an := t.an, cellTick := t.cellTick, chop := t.chop, clk := t.clk, fresh := t.fresh, gates := t.gates, le := t.le, motr := t.motr, pins := t.pins, ports := t.ports, pwm := t.pwm, loadedT := t.loadedT, sent := t.sent, soc := t.soc, spd := t.spd, wake := t.wake, vn := { s.vn with flags := t.vn.flags } }
    ∧ s.DramLost t) ∧ (∀ (s : State) (src : Fin 3), s.Ready → ∃ t, Sys2Proof.Machine.exec (.lossOfReference src) s
    = .next t ∧ s.KeepsRegs t.toDev (clockPages) ∧ t.toDev =
    { s.books t.toDev with adc := t.adc, an := t.an, cellTick := t.cellTick, chop := t.chop, clk := t.clk, fresh := t.fresh, gates := t.gates, le := t.le, motr := t.motr, pins := t.pins, ports := t.ports, pwm := t.pwm, loadedT := t.loadedT, sent := t.sent, soc := t.soc, spd := t.spd, wake := t.wake, vn := { s.vn with flags := t.vn.flags } }
    ∧ s.DramLost t) ∧ (∀ (s : State) (n : Fin 2), s.Ready → ∃ t, Sys2Proof.Machine.exec (.relockGo n) s = .next t ∧
    s.KeepsRegs t.toDev (clockPages) ∧ t.toDev =
    { s.books t.toDev with adc := t.adc, an := t.an, cellTick := t.cellTick, chop := t.chop, clk := t.clk, fresh := t.fresh, gates := t.gates, le := t.le, motr := t.motr, pins := t.pins, ports := t.ports, pwm := t.pwm, loadedT := t.loadedT, sent := t.sent, soc := t.soc, spd := t.spd, wake := t.wake, vn := { s.vn with flags := t.vn.flags } }
    ∧ s.DramLost t) ∧ (∀ (s : State) (n : Fin 2), s.Ready → ∃ t, Sys2Proof.Machine.exec (.lossOfLock n) s = .next t
    ∧ s.KeepsRegs t.toDev (clockPages) ∧ t.toDev =
    { s.books t.toDev with adc := t.adc, an := t.an, cellTick := t.cellTick, chop := t.chop, clk := t.clk, fresh := t.fresh, gates := t.gates, le := t.le, motr := t.motr, pins := t.pins, ports := t.ports, pwm := t.pwm, loadedT := t.loadedT, sent := t.sent, soc := t.soc, spd := t.spd, wake := t.wake, vn := { s.vn with flags := t.vn.flags } }
    ∧ s.DramLost t) ∧ (∀ (s : State) (n : Fin 2) (v : Word), s.Ready → ∃ t, Sys2Proof.Machine.exec (.synCfgWrite n
    v) s = .next t ∧ s.KeepsRegs t.toDev (clockPages) ∧ t.toDev =
    { s.books t.toDev with adc := t.adc, an := t.an, cellTick := t.cellTick, chop := t.chop, clk := t.clk, fresh := t.fresh, gates := t.gates, le := t.le, motr := t.motr, pins := t.pins, ports := t.ports, pwm := t.pwm, loadedT := t.loadedT, sent := t.sent, soc := t.soc, spd := t.spd, wake := t.wake, vn := { s.vn with flags := t.vn.flags } }
    ∧ s.DramLost t) ∧ (∀ (s : State), s.Ready → ∃ t, Sys2Proof.Machine.exec (.byprefLost) s = .next t ∧ s.KeepsRegs
    t.toDev (clockPages) ∧ t.toDev =
    { s.books t.toDev with adc := t.adc, an := t.an, cellTick := t.cellTick, chop := t.chop, clk := t.clk, fresh := t.fresh, gates := t.gates, le := t.le, motr := t.motr, pins := t.pins, ports := t.ports, pwm := t.pwm, loadedT := t.loadedT, sent := t.sent, soc := t.soc, spd := t.spd, wake := t.wake, vn := { s.vn with flags := t.vn.flags } }
    ∧ s.DramLost t) ∧ (∀ (s : State), s.Ready → ∃ t, Sys2Proof.Machine.exec (.autoretReturn) s = .next t ∧
    s.KeepsRegs t.toDev (clockPages) ∧ t.toDev =
    { s.books t.toDev with adc := t.adc, an := t.an, cellTick := t.cellTick, chop := t.chop, clk := t.clk, fresh := t.fresh, gates := t.gates, le := t.le, motr := t.motr, pins := t.pins, ports := t.ports, pwm := t.pwm, loadedT := t.loadedT, sent := t.sent, soc := t.soc, spd := t.spd, wake := t.wake, vn := { s.vn with flags := t.vn.flags } }
    ∧ s.DramLost t) ∧ (∀ (s : State) (pair : Fin 2), s.Ready → ∃ t, Sys2Proof.Machine.exec (.debugHalt pair) s =
    .next t ∧ s.KeepsRegs t.toDev (clockPages) ∧ t.toDev =
    { s.books t.toDev with adc := t.adc, an := t.an, cellTick := t.cellTick, chop := t.chop, clk := t.clk, fresh := t.fresh, gates := t.gates, le := t.le, motr := t.motr, pins := t.pins, ports := t.ports, pwm := t.pwm, loadedT := t.loadedT, sent := t.sent, soc := t.soc, spd := t.spd, wake := t.wake, vn := { s.vn with flags := t.vn.flags } }
    ∧ s.DramLost t) ∧ (∀ (s : State) (cause : Fin 3), s.Ready → ∃ t, Sys2Proof.Machine.exec (.stopWake cause) s =
    .next t ∧ s.KeepsRegs t.toDev (clockPages) ∧ t.toDev =
    { s.books t.toDev with adc := t.adc, an := t.an, cellTick := t.cellTick, chop := t.chop, clk := t.clk, fresh := t.fresh, gates := t.gates, le := t.le, motr := t.motr, pins := t.pins, ports := t.ports, pwm := t.pwm, loadedT := t.loadedT, sent := t.sent, soc := t.soc, spd := t.spd, wake := t.wake, vn := { s.vn with flags := t.vn.flags } }
    ∧ s.DramLost t) ∧ (∀ (s : State), s.Ready → ∃ t, Sys2Proof.Machine.exec (.gobyp) s = .next t ∧ s.KeepsRegs
    t.toDev (clockPages) ∧ t.toDev =
    { s.books t.toDev with adc := t.adc, an := t.an, cellTick := t.cellTick, chop := t.chop, clk := t.clk, fresh := t.fresh, gates := t.gates, le := t.le, motr := t.motr, pins := t.pins, ports := t.ports, pwm := t.pwm, loadedT := t.loadedT, sent := t.sent, soc := t.soc, spd := t.spd, wake := t.wake, thrm := t.thrm, vn := { s.vn with flags := t.vn.flags } }
    ∧ s.DramLost t) ∧ (∀ (s : State), s.Ready → ∃ t, Sys2Proof.Machine.exec (.gosyn) s = .next t ∧ s.KeepsRegs
    t.toDev (clockPages) ∧ t.toDev =
    { s.books t.toDev with adc := t.adc, an := t.an, cellTick := t.cellTick, chop := t.chop, clk := t.clk, fresh := t.fresh, gates := t.gates, le := t.le, motr := t.motr, pins := t.pins, ports := t.ports, pwm := t.pwm, loadedT := t.loadedT, sent := t.sent, soc := t.soc, spd := t.spd, wake := t.wake, thrm := t.thrm, vn := { s.vn with flags := t.vn.flags } }
    ∧ s.DramLost t) ∧ (∀ (s : State), s.Ready → ∃ t, Sys2Proof.Machine.exec (.refclkQualified) s = .next t ∧
    s.KeepsRegs t.toDev ([pUART 0] ++ clockPages) ∧ t.toDev =
    { s.books t.toDev with adc := t.adc, an := t.an, cellTick := t.cellTick, chop := t.chop, clk := t.clk, fresh := t.fresh, gates := t.gates, le := t.le, motr := t.motr, pins := t.pins, ports := t.ports, pwm := t.pwm, loadedT := t.loadedT, sent := t.sent, soc := t.soc, spd := t.spd, wake := t.wake, vn := { s.vn with flags := t.vn.flags } }
    ∧ s.DramLost t) ∧ (∀ (s : State) (n : Fin 2) (count : Option Nat), s.Ready → ∃ t, Sys2Proof.Machine.exec
    (.bandcalDone n count) s = .next t ∧ s.KeepsRegs t.toDev ([pUART 0] ++ clockPages) ∧ t.toDev =
    { s.books t.toDev with adc := t.adc, an := t.an, cellTick := t.cellTick, chop := t.chop, clk := t.clk, fresh := t.fresh, gates := t.gates, le := t.le, motr := t.motr, pins := t.pins, ports := t.ports, pwm := t.pwm, loadedT := t.loadedT, sent := t.sent, soc := t.soc, spd := t.spd, wake := t.wake, vn := { s.vn with flags := t.vn.flags } }
    ∧ s.DramLost t) ∧ (∀ (s : State) (n : Fin 2), s.Ready → ∃ t, Sys2Proof.Machine.exec (.fineLock n) s = .next t ∧
    s.KeepsRegs t.toDev ([pUART 0] ++ clockPages) ∧ t.toDev =
    { s.books t.toDev with adc := t.adc, an := t.an, cellTick := t.cellTick, chop := t.chop, clk := t.clk, fresh := t.fresh, gates := t.gates, le := t.le, motr := t.motr, pins := t.pins, ports := t.ports, pwm := t.pwm, loadedT := t.loadedT, sent := t.sent, soc := t.soc, spd := t.spd, wake := t.wake, vn := { s.vn with flags := t.vn.flags } }
    ∧ s.DramLost t) ∧ (∀ (s : State), s.Ready → ∃ t, Sys2Proof.Machine.exec (.fabricClockStop) s = .next t ∧
    s.KeepsRegs t.toDev ([pFCOL] ++ clockPages) ∧ t.toDev =
    { s.books t.toDev with fcol := t.fcol, adc := t.adc, an := t.an, cellTick := t.cellTick, chop := t.chop, clk := t.clk, fresh := t.fresh, gates := t.gates, le := t.le, motr := t.motr, pins := t.pins, ports := t.ports, pwm := t.pwm, loadedT := t.loadedT, sent := t.sent, soc := t.soc, spd := t.spd, wake := t.wake, vn := { s.vn with flags := t.vn.flags } }
    ∧ s.KeepsMem t) ∧ (∀ (s : State) (cause : Fin 3), s.Ready → ∃ t, Sys2Proof.Machine.exec (.holdoffEnd cause) s =
    .next t ∧ s.KeepsRegs t.toDev ([pSQL] ++ clockPages) ∧ t.toDev =
    { s.books t.toDev with adc := t.adc, an := t.an, cellTick := t.cellTick, clk := t.clk, fresh := t.fresh, gates := t.gates, le := t.le, motr := t.motr, pins := t.pins, ports := t.ports, pwm := t.pwm, loadedT := t.loadedT, sent := t.sent, soc := t.soc, spd := t.spd, wake := t.wake, chop := t.chop, sq := t.sq, vn := { s.vn with flags := t.vn.flags } }
    ∧ s.KeepsMem t) ∧ (∀ (s : State) (n : Fin 2) (gate : BitVec 2) (code : BitVec 6), s.Ready → ∃ t,
    Sys2Proof.Machine.exec (.bandcalGo n gate code) s = .next t ∧ s.KeepsRegs t.toDev [pSYN n] ∧ t.toDev =
    { s.books t.toDev with clk := t.clk, fresh := t.fresh, pins := t.pins } ∧ s.KeepsMem t) ∧ (∀ (s : State) (n :
    Fin 2), s.Ready → ∃ t, Sys2Proof.Machine.exec (.freqOk n) s = .next t ∧ s.KeepsRegs t.toDev [pSYN n] ∧ t.toDev
    = { s.books t.toDev with clk := t.clk, fresh := t.fresh, pins := t.pins } ∧ s.KeepsMem t) ∧ (∀ (s : State) (n :
    Fin 2), s.Ready → ∃ t, Sys2Proof.Machine.exec (.tuneMargin n) s = .next t ∧ s.KeepsRegs t.toDev [pSYN n] ∧
    t.toDev = { s.books t.toDev with clk := t.clk, fresh := t.fresh, pins := t.pins } ∧ s.KeepsMem t)

/-- From a running device whose motor block is settled and which has nothing left to store, each of these commands
answers a next state in which only registers of the named pages changed, and of the hidden state only the named
parts and the model's bookkeeping (the reply, unlock keys under way, latched words, reports); every other field
and, but for the bytes named, every byte of every memory is as before. Receiver and counter commands of a port:
its page and the ports' part; disabling one also what ends the frame it passed on. Code groups, clock loss and
S timeout: the port's page and those of ports 0 and 1 of a cell that forwards, the ports', servo's part, the
count of free values, what was sent. Sending commands: the port's page (the forwarding FIFO both), ports, what
was sent, the count of free values, and Vane's flags for a T slot. Requests and streams of a hub: the port's
page and the ports', hub's part. Strand manager: STRD (enumeration also the port's page). Vane's counters:
VANE. Peer records, claims and takeovers: STRD, VANE and TIME pages (a record sent: ports 8 and 9) and the
hub's part. Isobar's commands: ISOB's page and part, at a start SPDL's prediction.

exec answers a next state, under hypotheses on the state and the operands alone, for: linkCntclr,
portEnableWrite, rxClockLock, commaAligned, invalidCodeGroup, rxClockLoss, sFrameTimeout, gusttxGo,
mResponseSend, creditFrameSend, tSlot, sSlot, forwardFifoSend, mRequestGo, mTimeout, bstrWrite, enumPass,
enumRepass, mapWrite, tsfWrite, recoverGo, strandSuperframeEval, enumfifoRead, vaneCntclr, peerRecordSend,
peerRecordRx, peerRecordMiss, hubClaim, hubctlForce, hubctlStepdn, isobarStart, isobarLoopLate,
isobarEnableWrite, exclSet, exclClr. -/
def Obligations.LinkAndStrandFrames : Prop :=
  (∀ (s : State) (p : Fin 10), s.Ready → ∃ t, Sys2Proof.Machine.exec (.linkCntclr p) s = .next t ∧ s.KeepsRegs
    t.toDev [pLINK p] ∧ t.toDev = { s.books t.toDev with ports := t.ports } ∧ s.KeepsMem t) ∧ (∀ (s : State) (p :
    Fin 10) (v : Word × Option Frame), s.Ready → ∃ t, Sys2Proof.Machine.exec (.portEnableWrite p v) s = .next t ∧
    s.KeepsRegs t.toDev [pLINK p, pLINK 0, pLINK 1] ∧ t.toDev =
    { s.books t.toDev with ports := t.ports, fresh := t.fresh, sent := t.sent } ∧ s.KeepsMem t) ∧ (∀ (s : State) (p
    : Fin 10), s.Ready → ∃ t, Sys2Proof.Machine.exec (.rxClockLock p) s = .next t ∧ s.KeepsRegs t.toDev [pLINK p] ∧
    t.toDev = { s.books t.toDev with ports := t.ports, fresh := t.fresh } ∧ s.KeepsMem t) ∧ (∀ (s : State) (p : Fin
    10), s.Ready → ∃ t, Sys2Proof.Machine.exec (.commaAligned p) s = .next t ∧ s.KeepsRegs t.toDev [pLINK p] ∧
    t.toDev = { s.books t.toDev with ports := t.ports, fresh := t.fresh } ∧ s.KeepsMem t) ∧ (∀ (s : State) (p : Fin
    10) (run : Nat) (part : Option Frame), s.Ready → ∃ t, Sys2Proof.Machine.exec (.invalidCodeGroup p run part) s =
    .next t ∧ s.KeepsRegs t.toDev [pLINK p, pLINK 0, pLINK 1] ∧ t.toDev =
    { s.books t.toDev with ports := t.ports, srv := t.srv, fresh := t.fresh, sent := t.sent } ∧ s.KeepsMem t) ∧ (∀
    (s : State) (p : Fin 10) (part : Option Frame), s.Ready → ∃ t, Sys2Proof.Machine.exec (.rxClockLoss p part) s =
    .next t ∧ s.KeepsRegs t.toDev [pLINK p, pLINK 0, pLINK 1] ∧ t.toDev =
    { s.books t.toDev with ports := t.ports, srv := t.srv, fresh := t.fresh, sent := t.sent } ∧ s.KeepsMem t) ∧ (∀
    (s : State) (p : Fin 10), s.Ready → ∃ t, Sys2Proof.Machine.exec (.sFrameTimeout p) s = .next t ∧ s.KeepsRegs
    t.toDev [pLINK p, pLINK 0, pLINK 1] ∧ t.toDev =
    { s.books t.toDev with ports := t.ports, srv := t.srv, fresh := t.fresh, sent := t.sent } ∧ s.KeepsMem t) ∧ (∀
    (s : State) (p : Fin 10) (code : BitVec 4), s.Ready → ∃ t, Sys2Proof.Machine.exec (.gusttxGo p code) s = .next
    t ∧ s.KeepsRegs t.toDev [pLINK p] ∧ t.toDev =
    { s.books t.toDev with ports := t.ports, sent := t.sent, fresh := t.fresh, vn := t.vn } ∧ s.KeepsMem t) ∧ (∀ (s
    : State) (p : Fin 10), s.Ready → ∃ t, Sys2Proof.Machine.exec (.mResponseSend p) s = .next t ∧ s.KeepsRegs
    t.toDev [pLINK p] ∧ t.toDev =
    { s.books t.toDev with ports := t.ports, sent := t.sent, fresh := t.fresh, vn := t.vn } ∧ s.KeepsMem t) ∧ (∀ (s
    : State) (p : Fin 10) (e : Fin 32), s.Ready → ∃ t, Sys2Proof.Machine.exec (.creditFrameSend p e) s = .next t ∧
    s.KeepsRegs t.toDev [pLINK p] ∧ t.toDev =
    { s.books t.toDev with ports := t.ports, sent := t.sent, fresh := t.fresh, vn := t.vn } ∧ s.KeepsMem t) ∧ (∀ (s
    : State) (p : Fin 2) (wait : Nat), s.Ready → ∃ t, Sys2Proof.Machine.exec (.tSlot p wait) s = .next t ∧
    s.KeepsRegs t.toDev [pLINK p] ∧ t.toDev =
    { s.books t.toDev with ports := t.ports, sent := t.sent, fresh := t.fresh, vn := t.vn } ∧ s.KeepsMem t) ∧ (∀ (s
    : State) (p : Fin 10) (wait : Nat), s.Ready → ∃ t, Sys2Proof.Machine.exec (.sSlot p wait) s = .next t ∧
    s.KeepsRegs t.toDev [pLINK p] ∧ t.toDev =
    { s.books t.toDev with ports := t.ports, sent := t.sent, fresh := t.fresh } ∧ s.KeepsMem t) ∧ (∀ (s : State) (p
    : Fin 10), s.Ready → ∃ t, Sys2Proof.Machine.exec (.forwardFifoSend p) s = .next t ∧ s.KeepsRegs t.toDev [pLINK
    0, pLINK 1] ∧ t.toDev = { s.books t.toDev with ports := t.ports, sent := t.sent, fresh := t.fresh } ∧
    s.KeepsMem t) ∧ (∀ (s : State) (p : Fin 10) (v : Word), s.Ready → ∃ t, Sys2Proof.Machine.exec (.mRequestGo p v)
    s = .next t ∧ s.KeepsRegs t.toDev [pLINK p] ∧ t.toDev =
    { s.books t.toDev with ports := t.ports, fresh := t.fresh, hub := t.hub } ∧ s.KeepsMem t) ∧ (∀ (s : State) (p :
    Fin 10), s.Ready → ∃ t, Sys2Proof.Machine.exec (.mTimeout p) s = .next t ∧ s.KeepsRegs t.toDev [pLINK p] ∧
    t.toDev = { s.books t.toDev with ports := t.ports, fresh := t.fresh, hub := t.hub } ∧ s.KeepsMem t) ∧ (∀ (s :
    State) (p : Fin 10) (e : Fin 32) (hi : Bool) (v : Word), s.Ready → ∃ t, Sys2Proof.Machine.exec (.bstrWrite p e
    hi v) s = .next t ∧ s.KeepsRegs t.toDev [pLINK p] ∧ t.toDev =
    { s.books t.toDev with ports := t.ports, fresh := t.fresh, hub := t.hub } ∧ s.KeepsMem t) ∧ (∀ (s : State) (p :
    Fin 8) (answers : List Answer), s.Ready → ∃ t, Sys2Proof.Machine.exec (.enumPass p answers) s = .next t ∧
    s.KeepsRegs t.toDev [pSTRD, pLINK p] ∧ t.toDev =
    { s.books t.toDev with ports := t.ports, hub := t.hub, fresh := t.fresh } ∧ s.KeepsMem t) ∧ (∀ (s : State) (p :
    Fin 8) (answers : List (Nat × Answer)), s.Ready → ∃ t, Sys2Proof.Machine.exec (.enumRepass p answers) s = .next
    t ∧ s.KeepsRegs t.toDev [pSTRD, pLINK p] ∧ t.toDev =
    { s.books t.toDev with ports := t.ports, hub := t.hub, fresh := t.fresh } ∧ s.KeepsMem t) ∧ (∀ (s : State) (e :
    Fin 384) (v : Word), s.Ready → ∃ t, Sys2Proof.Machine.exec (.mapWrite e v) s = .next t ∧ s.KeepsRegs t.toDev
    [pSTRD] ∧ t.toDev = { s.books t.toDev with hub := t.hub } ∧ s.KeepsMem t) ∧ (∀ (s : State) (v : Word), s.Ready
    → ∃ t, Sys2Proof.Machine.exec (.tsfWrite v) s = .next t ∧ s.KeepsRegs t.toDev [pSTRD] ∧ t.toDev =
    { s.books t.toDev with hub := t.hub } ∧ s.KeepsMem t) ∧ (∀ (s : State) (n : BitVec 8), s.Ready → ∃ t,
    Sys2Proof.Machine.exec (.recoverGo n) s = .next t ∧ s.KeepsRegs t.toDev [pSTRD] ∧ t.toDev =
    { s.books t.toDev with hub := t.hub } ∧ s.KeepsMem t) ∧ (∀ (s : State) (hops : List (List Nat)), s.Ready → ∃ t,
    Sys2Proof.Machine.exec (.strandSuperframeEval hops) s = .next t ∧ s.KeepsRegs t.toDev [pSTRD] ∧ t.toDev =
    { s.books t.toDev with hub := t.hub } ∧ s.KeepsMem t) ∧ (∀ (s : State), s.Ready → ∃ t, Sys2Proof.Machine.exec
    (.enumfifoRead) s = .next t ∧ s.KeepsRegs t.toDev [pSTRD] ∧ t.toDev = { s.books t.toDev with hub := t.hub } ∧
    s.KeepsMem t) ∧ (∀ (s : State), s.Ready → ∃ t, Sys2Proof.Machine.exec (.vaneCntclr) s = .next t ∧ s.KeepsRegs
    t.toDev [pVANE] ∧ t.toDev = s.books t.toDev ∧ s.KeepsMem t) ∧ (∀ (s : State), s.Ready → ∃ t,
    Sys2Proof.Machine.exec (.peerRecordSend) s = .next t ∧ s.KeepsRegs t.toDev [pLINK 8, pLINK 9] ∧ t.toDev =
    { s.books t.toDev with hub := t.hub, ports := t.ports, sent := t.sent, fresh := t.fresh } ∧ s.KeepsMem t) ∧ (∀
    (s : State) (port : Fin 2) (bytes : List Byte), s.Ready → ∃ t, Sys2Proof.Machine.exec (.peerRecordRx port
    bytes) s = .next t ∧ s.KeepsRegs t.toDev [pSTRD, pVANE, pTIME] ∧ t.toDev =
    { s.books t.toDev with hub := t.hub } ∧ s.KeepsMem t) ∧ (∀ (s : State) (port : Fin 2), s.Ready → ∃ t,
    Sys2Proof.Machine.exec (.peerRecordMiss port) s = .next t ∧ s.KeepsRegs t.toDev [pSTRD, pVANE, pTIME] ∧ t.toDev
    = { s.books t.toDev with hub := t.hub } ∧ s.KeepsMem t) ∧ (∀ (s : State), s.Ready → ∃ t, Sys2Proof.Machine.exec
    (.hubClaim) s = .next t ∧ s.KeepsRegs t.toDev [pSTRD, pVANE, pTIME] ∧ t.toDev =
    { s.books t.toDev with hub := t.hub } ∧ s.KeepsMem t) ∧ (∀ (s : State), s.Ready → ∃ t, Sys2Proof.Machine.exec
    (.hubctlForce) s = .next t ∧ s.KeepsRegs t.toDev [pSTRD, pVANE, pTIME] ∧ t.toDev =
    { s.books t.toDev with hub := t.hub } ∧ s.KeepsMem t) ∧ (∀ (s : State), s.Ready → ∃ t, Sys2Proof.Machine.exec
    (.hubctlStepdn) s = .next t ∧ s.KeepsRegs t.toDev [pSTRD, pVANE, pTIME] ∧ t.toDev =
    { s.books t.toDev with hub := t.hub } ∧ s.KeepsMem t) ∧ (∀ (s : State), s.Ready → ∃ t, Sys2Proof.Machine.exec
    (.isobarStart) s = .next t ∧ s.KeepsRegs t.toDev [pISOB, pSPDL] ∧ t.toDev =
    { s.books t.toDev with iso := t.iso, fresh := t.fresh } ∧ s.KeepsMem t) ∧ (∀ (s : State), s.Ready → ∃ t,
    Sys2Proof.Machine.exec (.isobarLoopLate) s = .next t ∧ s.KeepsRegs t.toDev [pISOB, pSPDL] ∧ t.toDev =
    { s.books t.toDev with iso := t.iso, fresh := t.fresh } ∧ s.KeepsMem t) ∧ (∀ (s : State) (v : Word), s.Ready →
    ∃ t, Sys2Proof.Machine.exec (.isobarEnableWrite v) s = .next t ∧ s.KeepsRegs t.toDev [pISOB] ∧ t.toDev =
    { s.books t.toDev with iso := t.iso, fresh := t.fresh } ∧ s.KeepsMem t) ∧ (∀ (s : State) (n : BitVec 8),
    s.Ready → ∃ t, Sys2Proof.Machine.exec (.exclSet n) s = .next t ∧ s.KeepsRegs t.toDev [pISOB] ∧ t.toDev =
    { s.books t.toDev with iso := t.iso, fresh := t.fresh } ∧ s.KeepsMem t) ∧ (∀ (s : State) (n : BitVec 8),
    s.Ready → ∃ t, Sys2Proof.Machine.exec (.exclClr n) s = .next t ∧ s.KeepsRegs t.toDev [pISOB] ∧ t.toDev =
    { s.books t.toDev with iso := t.iso, fresh := t.fresh } ∧ s.KeepsMem t)

/-- From a running device whose motor block is settled and which has nothing left to store, each of these commands
answers a next state in which only registers of the named pages changed, and of the hidden state only the named
parts and the model's bookkeeping (the reply, unlock keys under way, latched words, reports; with a cell's
timer, the T frames' flags of a request that a bypass voids); every other field and, but for the bytes named,
every byte of every memory is as before. RELEASE: SYSC and TSTK, the SoC part, Tailstock's part and pins.
CELLCMD: SYSC, and for BYPASS GCH, the cell's timer, gates and pins. Boot loads: SYSC, UART0's settings, the
SoC part and what was sent; a UART block also the bytes where its image's header asks to be placed. Keys, the
key timeout, ERRINJ and FEATACC: the named page (FEATACC also the ports' and converters' parts). A timestamp
read: at most TIME and Ethernet pages, the time base's and SoC parts. A shadow write of a Lathe engine: its
page, Isobar's and the PWM pages, its part. The end of a consequence window: FCOL.

exec answers a next state, under hypotheses on the state and the operands alone, for: releaseCpu1, releaseTstk,
cellcmdBypass, cellcmdClrcnt, linkBootLoadDone, uartBootBlock, unlockKeyTimeout, errinjWrite, lockKeyWrite,
feataccWrite, timestampFifoRead, lcWrite, conseqWindowEnd. -/
def Obligations.ResetAndPageFrames : Prop :=
  (∀ (s : State) (run : Bool), s.Ready → ∃ t, Sys2Proof.Machine.exec (.releaseCpu1 run) s = .next t ∧ s.KeepsRegs
    t.toDev [pSYSC, pTSTK] ∧ t.toDev = { s.books t.toDev with soc := t.soc, tstk := t.tstk, pins := t.pins } ∧
    s.KeepsMem t) ∧ (∀ (s : State), s.Ready → ∃ t, Sys2Proof.Machine.exec (.releaseTstk) s = .next t ∧ s.KeepsRegs
    t.toDev [pSYSC, pTSTK] ∧ t.toDev = { s.books t.toDev with soc := t.soc, tstk := t.tstk, pins := t.pins } ∧
    s.KeepsMem t) ∧ (∀ (s : State), s.Ready → ∃ t, Sys2Proof.Machine.exec (.cellcmdBypass) s = .next t ∧
    s.KeepsRegs t.toDev [pSYSC, pGCH] ∧ t.toDev =
    { s.books t.toDev with cellTick := t.cellTick, gates := t.gates, pins := t.pins, vn := { s.vn with flags := t.vn.flags } }
    ∧ s.KeepsMem t) ∧ (∀ (s : State), s.Ready → ∃ t, Sys2Proof.Machine.exec (.cellcmdClrcnt) s = .next t ∧
    s.KeepsRegs t.toDev [pSYSC] ∧ t.toDev = s.books t.toDev ∧ s.KeepsMem t) ∧ (∀ (s : State) (ecc : Bool), s.Ready
    → ∃ t, Sys2Proof.Machine.exec (.linkBootLoadDone ecc) s = .next t ∧ s.KeepsRegs t.toDev [pSYSC, pUART 0] ∧
    t.toDev = { s.books t.toDev with soc := t.soc, sent := t.sent } ∧ s.KeepsMem t) ∧ (∀ (s : State) (bytes : List
    Byte) (crc : BitVec 32), s.Ready → ∃ t, Sys2Proof.Machine.exec (.uartBootBlock bytes crc) s = .next t ∧
    s.KeepsRegs t.toDev [pSYSC, pUART 0] ∧ t.toDev = { s.books t.toDev with soc := t.soc, sent := t.sent } ∧
    s.KeepsOutside t (s.imageBytes (s.soc.upload ++ bytes))) ∧ (∀ (s : State) (page : BitVec 15), s.Ready → ∃ t,
    Sys2Proof.Machine.exec (.unlockKeyTimeout page) s = .next t ∧ s.KeepsRegs t.toDev [page.toNat] ∧ t.toDev =
    s.books t.toDev ∧ s.KeepsMem t) ∧ (∀ (s : State) (who : Who) (page : BitVec 15) (v : Word), s.Ready → ∃ t,
    Sys2Proof.Machine.exec (.errinjWrite who page v) s = .next t ∧ s.KeepsRegs t.toDev [page.toNat] ∧ t.toDev =
    s.books t.toDev ∧ s.KeepsMem t) ∧ (∀ (s : State) (who : Who) (page : BitVec 15) (key : BitVec 16), s.Ready → ∃
    t, Sys2Proof.Machine.exec (.lockKeyWrite who page key) s = .next t ∧ s.KeepsRegs t.toDev [page.toNat] ∧ t.toDev
    = s.books t.toDev ∧ s.KeepsMem t) ∧ (∀ (s : State) (who : Who) (page : BitVec 15) (v : Word), s.Ready → ∃ t,
    Sys2Proof.Machine.exec (.feataccWrite who page v) s = .next t ∧ s.KeepsRegs t.toDev [page.toNat] ∧ t.toDev =
    { s.books t.toDev with ports := t.ports, adc := t.adc } ∧ s.KeepsMem t) ∧ (∀ (s : State) (fifo : TsFifo),
    s.Ready → ∃ t, Sys2Proof.Machine.exec (.timestampFifoRead fifo) s = .next t ∧ s.KeepsRegs t.toDev [pTIME, pETH
    0, pETH 1] ∧ t.toDev = { s.books t.toDev with tb := t.tb, soc := t.soc } ∧ s.KeepsMem t) ∧ (∀ (s : State) (n :
    Fin 8) (off : BitVec 12) (v : Word), s.Ready → ∃ t, Sys2Proof.Machine.exec (.lcWrite n off v) s = .next t ∧
    s.KeepsRegs t.toDev ([pLE n, pISOB] ++ pwmPages) ∧ t.toDev = { s.books t.toDev with le := t.le } ∧ s.KeepsMem
    t) ∧ (∀ (s : State) (src : Fin 48), s.Ready → ∃ t, Sys2Proof.Machine.exec (.conseqWindowEnd src) s = .next t ∧
    s.KeepsRegs t.toDev [pFCOL] ∧ t.toDev = { s.books t.toDev with fcol := t.fcol } ∧ s.KeepsMem t)

/-- From a running device whose motor block is settled and which has nothing left to store, each of these commands
answers a next state in which only registers of the named pages changed, and of the hidden state only the named
parts and the model's bookkeeping (the reply, unlock keys under way, latched words, reports; with a cell's
timer, the T frames' flags of a request that a bypass voids); every other field and, but for the bytes named,
every byte of every memory is as before. Arriving frames: the port's page (and ports 0 and 1, to which a cell
forwards), the ports' part, what was sent, the count of free values; S also the servo, TIME, Vane's page, what
a step of TIME moves and what a trip reaches; C Vane; T the strand manager, Isobar's telemetry and Anemograph's
blocks. The servo's check: TIME and VANE. The slot plan: link pages. Grid writes: STRD, SPDL, link pages, the
grid and the hub's part (a cell: VANE, SPDL and the power stage, whose units may wait for the grid). A hub's
commit: STRD, VANE, ISOB, the grid, and what a Spindle event reaches. A cell's commit: VANE, STRD, link pages,
and what a Spindle event reaches; of the memories the 16 application bytes from 0x3FFFC0 of shared SRAM and the
descriptors' blocks. The loop instant, the telemetry deadline, the release and the end of an Isobar run: the
hub's, Isobar's and engines' parts and their pages.

exec answers a next state, under hypotheses on the state and the operands alone, for: sFrameRx,
servoSuperframeCheck, cFrameRx, tFrameRx, creditFrameRx, mResponseRx, cutThroughFrame, slotPlan, gridRunWrite,
vaneGridGo, hubCommit, commitApply, loopInstant, telemetryDeadline, commandRelease, isobarRunEnd. -/
def Obligations.GridAndArrivalFrames : Prop :=
  (∀ (s : State) (p : Fin 10) (f : Frame) (back : Nat), s.Ready → ∃ t, Sys2Proof.Machine.exec (.sFrameRx p f back) s
    = .next t ∧ s.KeepsRegs t.toDev ([pLINK p, pLINK 0, pLINK 1, pTIME, pVANE, pGCH, pMOTR, pSYSC] ++ pwmPages) ∧
    t.toDev =
    { s.books t.toDev with ports := t.ports, srv := t.srv, sent := t.sent, fresh := t.fresh, adc := t.adc, gates := t.gates, pins := t.pins, pwm := t.pwm, spd := t.spd, tb := t.tb, time := t.time, motr := t.motr, chop := t.chop, cellTick := t.cellTick, vn := { s.vn with flags := t.vn.flags } }
    ∧ s.KeepsMem t) ∧ (∀ (s : State), s.Ready → ∃ t, Sys2Proof.Machine.exec (.servoSuperframeCheck) s = .next t ∧
    s.KeepsRegs t.toDev [pTIME, pVANE] ∧ t.toDev = { s.books t.toDev with srv := t.srv } ∧ s.KeepsMem t) ∧ (∀ (s :
    State) (p : Fin 10) (f : Frame), s.Ready → ∃ t, Sys2Proof.Machine.exec (.cFrameRx p f) s = .next t ∧
    s.KeepsRegs t.toDev [pVANE, pLINK p, pLINK 0, pLINK 1] ∧ t.toDev =
    { s.books t.toDev with vn := t.vn, ports := t.ports, sent := t.sent, fresh := t.fresh } ∧ s.KeepsMem t) ∧ (∀ (s
    : State) (p : Fin 10) (f : Frame) (offSlot : Bool), s.Ready → ∃ t, Sys2Proof.Machine.exec (.tFrameRx p f
    offSlot) s = .next t ∧ s.KeepsRegs t.toDev [pSTRD, pVANE, pANMG, pLINK p, pLINK 0, pLINK 1] ∧ t.toDev =
    { s.books t.toDev with an := t.an, fresh := t.fresh, hub := t.hub, iso := t.iso, ports := t.ports, sent := t.sent }
    ∧ s.KeepsOutside t s.anBlocks) ∧ (∀ (s : State) (p : Fin 10) (f : Frame), s.Ready → ∃ t, Sys2Proof.Machine.exec
    (.creditFrameRx p f) s = .next t ∧ s.KeepsRegs t.toDev [pLINK p, pLINK 0, pLINK 1] ∧ t.toDev =
    { s.books t.toDev with ports := t.ports, sent := t.sent, fresh := t.fresh } ∧ s.KeepsMem t) ∧ (∀ (s : State) (p
    : Fin 10) (f : Frame), s.Ready → ∃ t, Sys2Proof.Machine.exec (.mResponseRx p f) s = .next t ∧ s.KeepsRegs
    t.toDev [pLINK p, pLINK 0, pLINK 1] ∧ t.toDev =
    { s.books t.toDev with ports := t.ports, sent := t.sent, fresh := t.fresh } ∧ s.KeepsMem t) ∧ (∀ (s : State) (p
    : Fin 10) (f : Frame), s.Ready → ∃ t, Sys2Proof.Machine.exec (.cutThroughFrame p f) s = .next t ∧ s.KeepsRegs
    t.toDev [pLINK p, pLINK 0, pLINK 1] ∧ t.toDev =
    { s.books t.toDev with ports := t.ports, sent := t.sent, fresh := t.fresh } ∧ s.KeepsMem t) ∧ (∀ (s : State)
    (strand : Fin 8), s.Ready → ∃ t, Sys2Proof.Machine.exec (.slotPlan strand) s = .next t ∧ s.KeepsRegs t.toDev
    (linkPages) ∧ t.toDev = { s.books t.toDev with fresh := t.fresh, ports := t.ports } ∧ s.KeepsMem t) ∧ (∀ (s :
    State) (run : Bool), s.Ready → ∃ t, Sys2Proof.Machine.exec (.gridRunWrite run) s = .next t ∧ s.KeepsRegs
    t.toDev ([pSPDL, pSTRD] ++ linkPages) ∧ t.toDev =
    { s.books t.toDev with hgSo := t.hgSo, hgT0 := t.hgT0, hgTsf := t.hgTsf, hub := t.hub, ports := t.ports, spd := t.spd }
    ∧ s.KeepsMem t) ∧ (∀ (s : State), s.Ready → ∃ t, Sys2Proof.Machine.exec (.vaneGridGo) s = .next t ∧ s.KeepsRegs
    t.toDev ([pSPDL, pVANE] ++ powerPages) ∧ t.toDev =
    { s.books t.toDev with adc := t.adc, chop := t.chop, fresh := t.fresh, gates := t.gates, pwm := t.pwm, spd := t.spd, vn := t.vn, wake := t.wake, gridAt := t.gridAt }
    ∧ s.KeepsMem t) ∧ (∀ (s : State), s.Ready → ∃ t, Sys2Proof.Machine.exec (.hubCommit) s = .next t ∧ s.KeepsRegs
    t.toDev ([pISOB, pSTRD, pVANE] ++ eventPages) ∧ t.toDev =
    { s.books t.toDev with adc := t.adc, chop := t.chop, fresh := t.fresh, gates := t.gates, hgSo := t.hgSo, hgT0 := t.hgT0, hgTsf := t.hgTsf, hub := t.hub, iso := t.iso, loadedT := t.loadedT, pwm := t.pwm, sf := t.sf, spd := t.spd, wake := t.wake, gridAt := t.gridAt, an := t.an, le := t.le, tb := t.tb, vn := t.vn, cellTick := t.cellTick, pins := t.pins, ports := t.ports, sent := t.sent, sq := t.sq, motr := t.motr }
    ∧ s.KeepsOutside t s.anBlocks) ∧ (∀ (s : State), s.Ready → ∃ t, Sys2Proof.Machine.exec (.commitApply) s = .next
    t ∧ s.KeepsRegs t.toDev ([pVANE, pSTRD] ++ eventPages ++ linkPages) ∧ t.toDev =
    { s.books t.toDev with adc := t.adc, an := t.an, applied := t.applied, cellReq := t.cellReq, cellTick := t.cellTick, chop := t.chop, cmdIn := t.cmdIn, fresh := t.fresh, gates := t.gates, le := t.le, loadedT := t.loadedT, pins := t.pins, ports := t.ports, pwm := t.pwm, sf := t.sf, spd := t.spd, tb := t.tb, vn := t.vn, wake := t.wake, hub := t.hub, hgT0 := t.hgT0, hgTsf := t.hgTsf, hgSo := t.hgSo, sent := t.sent, sq := t.sq, motr := t.motr }
    ∧ s.KeepsOutside t ((.sram, 0x3FFFC0, 16) :: s.anBlocks)) ∧ (∀ (s : State), s.Ready → ∃ t,
    Sys2Proof.Machine.exec (.loopInstant) s = .next t ∧ s.KeepsRegs t.toDev ([pISOB, pVANE] ++ lathePages) ∧
    t.toDev = { s.books t.toDev with hub := t.hub, iso := t.iso, le := t.le } ∧ s.KeepsMem t) ∧ (∀ (s : State),
    s.Ready → ∃ t, Sys2Proof.Machine.exec (.telemetryDeadline) s = .next t ∧ s.KeepsRegs t.toDev [pSPDL] ∧ t.toDev
    = { s.books t.toDev with hub := t.hub } ∧ s.KeepsMem t) ∧ (∀ (s : State), s.Ready → ∃ t, Sys2Proof.Machine.exec
    (.commandRelease) s = .next t ∧ s.KeepsRegs t.toDev ([pSTRD, pSPDL] ++ linkPages) ∧ t.toDev =
    { s.books t.toDev with fresh := t.fresh, hub := t.hub, ports := t.ports, sent := t.sent } ∧ s.KeepsMem t) ∧ (∀
    (s : State), s.Ready → ∃ t, Sys2Proof.Machine.exec (.isobarRunEnd) s = .next t ∧ s.KeepsRegs t.toDev ([pISOB,
    pSPDL] ++ linkPages) ∧ t.toDev =
    { s.books t.toDev with fresh := t.fresh, hub := t.hub, iso := t.iso, isoRuns := t.isoRuns, ports := t.ports, sent := t.sent }
    ∧ s.KeepsMem t)
end

