-- ==== Sys2Proof/Laws/RegFile.lean ====
section
/-! SUPPORT. Read after write of the register file, and what setting a field leaves alone. -/

namespace Sys2Proof.Machine

theorem rfLook_rfDel_same (l : RegFile) (k : Nat) : rfLook (rfDel l k) k = none := by
  induction l with
  | nil => rfl
  | cons p t ih =>
    obtain ⟨a, v⟩ := p
    by_cases h : a = k <;> simp [rfDel, rfLook, h, ih]

theorem rfLook_rfDel_ne (l : RegFile) {k k' : Nat} (h : k' ≠ k) : rfLook (rfDel l k) k' = rfLook l k' := by
  induction l with
  | nil => rfl
  | cons p t ih =>
    obtain ⟨a, v⟩ := p
    by_cases ha : a = k
    · subst ha
      simp [rfDel, rfLook, ih, Ne.symm h]
    · simp [rfDel, rfLook, ha, ih]

theorem rfLook_rfPut_same (l : RegFile) (k v rst : Nat) :
    rfLook (rfPut l k v rst) k = if v = rst then none else some v := by
  induction l with
  | nil => by_cases h : v = rst <;> simp [rfPut, rfLook, h]
  | cons p t ih =>
    obtain ⟨a, w⟩ := p
    by_cases ha : a < k
    · simp [rfPut, rfLook, ha, ih, Nat.ne_of_lt ha]
    · by_cases h : v = rst
      · simp [rfPut, ha, h, rfLook_rfDel_same]
      · simp [rfPut, ha, h, rfLook]

theorem rfLook_rfPut_ne (l : RegFile) {k k' : Nat} (v rst : Nat) (h : k' ≠ k) :
    rfLook (rfPut l k v rst) k' = rfLook l k' := by
  induction l with
  | nil => by_cases hv : v = rst <;> simp [rfPut, rfLook, hv, Ne.symm h]
  | cons p t ih =>
    obtain ⟨a, w⟩ := p
    by_cases ha : a < k
    · simp [rfPut, rfLook, ha, ih]
    · by_cases hv : v = rst
      · simp [rfPut, ha, hv, rfLook_rfDel_ne _ h]
      · simp [rfPut, ha, hv, rfLook, rfLook_rfDel_ne _ h, Ne.symm h]

/-- The keys of two fields in their pages differ where the pages, the offsets or the positions differ. -/
theorem key_ne {pg pg' : Nat} {F G : Fld} (hF : F.off < 4096 ∧ F.lsb < 32) (hG : G.off < 4096 ∧ G.lsb < 32)
    (h : pg ≠ pg' ∨ F.off ≠ G.off ∨ F.lsb ≠ G.lsb) : F.key pg ≠ G.key pg' := by
  unfold Fld.key
  omega

/-- A field reads as it was set, cut to its width. -/
@[simp] theorem Dev.get_set_same (d : Dev) (pg : Nat) (F : Fld) (v : Nat) : (d.set pg F v).get pg F = v % 2 ^ F.wid := by
  simp only [Dev.get, Dev.set, rfLook_rfPut_same]
  split <;> simp_all

/-- Setting a field leaves a field under another key alone. -/
theorem Dev.get_set_ne (d : Dev) {pg pg' : Nat} {F G : Fld} (v : Nat) (h : F.key pg ≠ G.key pg') :
    (d.set pg' G v).get pg F = d.get pg F := by
  simp only [Dev.get, Dev.set, rfLook_rfPut_ne _ _ _ h]

/-- Setting a field leaves every field of another page alone. -/
theorem Dev.get_set_page (d : Dev) {pg pg' : Nat} {F G : Fld} (v : Nat) (hF : F.off < 4096 ∧ F.lsb < 32)
    (hG : G.off < 4096 ∧ G.lsb < 32) (h : pg ≠ pg') : (d.set pg' G v).get pg F = d.get pg F :=
  d.get_set_ne v (key_ne hF hG (.inl h))

/-- The value in force reads as it was given. -/
@[simp] theorem Dev.inForce_setForce_same (d : Dev) (pg : Nat) (F : Fld) (v : Nat) :
    (d.setForce pg F v).inForce pg F = v % 2 ^ F.wid := by
  simp only [Dev.inForce, Dev.setForce, rfLook_rfPut_same]
  split <;> simp_all

theorem Dev.inForce_setForce_ne (d : Dev) {pg pg' : Nat} {F G : Fld} (v : Nat) (h : F.key pg ≠ G.key pg') :
    (d.setForce pg' G v).inForce pg F = d.inForce pg F := by
  simp only [Dev.inForce, Dev.setForce, rfLook_rfPut_ne _ _ _ h]

/-- Shadows and values in force are kept apart. -/
@[simp] theorem Dev.inForce_set (d : Dev) (pg pg' : Nat) (F G : Fld) (v : Nat) :
    (d.set pg' G v).inForce pg F = d.inForce pg F := rfl
@[simp] theorem Dev.get_setForce (d : Dev) (pg pg' : Nat) (F G : Fld) (v : Nat) :
    (d.setForce pg' G v).get pg F = d.get pg F := rfl

end Sys2Proof.Machine
end

