-- ==== Sys2Proof/Laws/State.lean ====
section
/-! SUPPORT. One lemma per field of the device for the updates that every meaning is made of: setting a field of a register,
giving it a value in force, and changing what stands behind the registers. All are true by rfl. -/

namespace Sys2Proof.Machine

/-! ### Setting a register field changes nothing but the register file -/

@[simp] theorem Dev.set_phase (d : Dev) (pg : Nat) (F : Fld) (v : Nat) : (d.set pg F v).phase = d.phase := rfl
@[simp] theorem Dev.set_rstN (d : Dev) (pg : Nat) (F : Fld) (v : Nat) : (d.set pg F v).rstN = d.rstN := rfl
@[simp] theorem Dev.set_gdenPin (d : Dev) (pg : Nat) (F : Fld) (v : Nat) : (d.set pg F v).gdenPin = d.gdenPin := rfl
@[simp] theorem Dev.set_pins (d : Dev) (pg : Nat) (F : Fld) (v : Nat) : (d.set pg F v).pins = d.pins := rfl
@[simp] theorem Dev.set_act (d : Dev) (pg : Nat) (F : Fld) (v : Nat) : (d.set pg F v).act = d.act := rfl
@[simp] theorem Dev.set_unlock (d : Dev) (pg : Nat) (F : Fld) (v : Nat) : (d.set pg F v).unlock = d.unlock := rfl
@[simp] theorem Dev.set_latched (d : Dev) (pg : Nat) (F : Fld) (v : Nat) : (d.set pg F v).latched = d.latched := rfl
@[simp] theorem Dev.set_reply (d : Dev) (pg : Nat) (F : Fld) (v : Nat) : (d.set pg F v).reply = d.reply := rfl
@[simp] theorem Dev.set_reports (d : Dev) (pg : Nat) (F : Fld) (v : Nat) : (d.set pg F v).reports = d.reports := rfl
@[simp] theorem Dev.set_told (d : Dev) (pg : Nat) (F : Fld) (v : Nat) : (d.set pg F v).told = d.told := rfl
@[simp] theorem Dev.set_meets (d : Dev) (pg : Nat) (F : Fld) (v : Nat) : (d.set pg F v).meets = d.meets := rfl
@[simp] theorem Dev.set_inBlk (d : Dev) (pg : Nat) (F : Fld) (v : Nat) : (d.set pg F v).inBlk = d.inBlk := rfl
@[simp] theorem Dev.set_causes (d : Dev) (pg : Nat) (F : Fld) (v : Nat) : (d.set pg F v).causes = d.causes := rfl
@[simp] theorem Dev.set_ticks (d : Dev) (pg : Nat) (F : Fld) (v : Nat) : (d.set pg F v).ticks = d.ticks := rfl
@[simp] theorem Dev.set_ns (d : Dev) (pg : Nat) (F : Fld) (v : Nat) : (d.set pg F v).ns = d.ns := rfl
@[simp] theorem Dev.set_fresh (d : Dev) (pg : Nat) (F : Fld) (v : Nat) : (d.set pg F v).fresh = d.fresh := rfl
@[simp] theorem Dev.set_time (d : Dev) (pg : Nat) (F : Fld) (v : Nat) : (d.set pg F v).time = d.time := rfl
@[simp] theorem Dev.set_gates (d : Dev) (pg : Nat) (F : Fld) (v : Nat) : (d.set pg F v).gates = d.gates := rfl
@[simp] theorem Dev.set_chop (d : Dev) (pg : Nat) (F : Fld) (v : Nat) : (d.set pg F v).chop = d.chop := rfl
@[simp] theorem Dev.set_pwm (d : Dev) (pg : Nat) (F : Fld) (v : Nat) : (d.set pg F v).pwm = d.pwm := rfl
@[simp] theorem Dev.set_loadedT (d : Dev) (pg : Nat) (F : Fld) (v : Nat) : (d.set pg F v).loadedT = d.loadedT := rfl
@[simp] theorem Dev.set_dlDone (d : Dev) (pg : Nat) (F : Fld) (v : Nat) : (d.set pg F v).dlDone = d.dlDone := rfl
@[simp] theorem Dev.set_dlTaps (d : Dev) (pg : Nat) (F : Fld) (v : Nat) : (d.set pg F v).dlTaps = d.dlTaps := rfl
@[simp] theorem Dev.set_hgT0 (d : Dev) (pg : Nat) (F : Fld) (v : Nat) : (d.set pg F v).hgT0 = d.hgT0 := rfl
@[simp] theorem Dev.set_hgTsf (d : Dev) (pg : Nat) (F : Fld) (v : Nat) : (d.set pg F v).hgTsf = d.hgTsf := rfl
@[simp] theorem Dev.set_hgSo (d : Dev) (pg : Nat) (F : Fld) (v : Nat) : (d.set pg F v).hgSo = d.hgSo := rfl
@[simp] theorem Dev.set_sq (d : Dev) (pg : Nat) (F : Fld) (v : Nat) : (d.set pg F v).sq = d.sq := rfl
@[simp] theorem Dev.set_wake (d : Dev) (pg : Nat) (F : Fld) (v : Nat) : (d.set pg F v).wake = d.wake := rfl
@[simp] theorem Dev.set_sqCorr (d : Dev) (pg : Nat) (F : Fld) (v : Nat) : (d.set pg F v).sqCorr = d.sqCorr := rfl
@[simp] theorem Dev.set_adc (d : Dev) (pg : Nat) (F : Fld) (v : Nat) : (d.set pg F v).adc = d.adc := rfl
@[simp] theorem Dev.set_calstore (d : Dev) (pg : Nat) (F : Fld) (v : Nat) : (d.set pg F v).calstore = d.calstore := rfl
@[simp] theorem Dev.set_calUse (d : Dev) (pg : Nat) (F : Fld) (v : Nat) : (d.set pg F v).calUse = d.calUse := rfl
@[simp] theorem Dev.set_calBusy (d : Dev) (pg : Nat) (F : Fld) (v : Nat) : (d.set pg F v).calBusy = d.calBusy := rfl
@[simp] theorem Dev.set_calPt (d : Dev) (pg : Nat) (F : Fld) (v : Nat) : (d.set pg F v).calPt = d.calPt := rfl
@[simp] theorem Dev.set_fcol (d : Dev) (pg : Nat) (F : Fld) (v : Nat) : (d.set pg F v).fcol = d.fcol := rfl
@[simp] theorem Dev.set_thrm (d : Dev) (pg : Nat) (F : Fld) (v : Nat) : (d.set pg F v).thrm = d.thrm := rfl
@[simp] theorem Dev.set_motr (d : Dev) (pg : Nat) (F : Fld) (v : Nat) : (d.set pg F v).motr = d.motr := rfl
@[simp] theorem Dev.set_tstk (d : Dev) (pg : Nat) (F : Fld) (v : Nat) : (d.set pg F v).tstk = d.tstk := rfl
@[simp] theorem Dev.set_tb (d : Dev) (pg : Nat) (F : Fld) (v : Nat) : (d.set pg F v).tb = d.tb := rfl
@[simp] theorem Dev.set_spd (d : Dev) (pg : Nat) (F : Fld) (v : Nat) : (d.set pg F v).spd = d.spd := rfl
@[simp] theorem Dev.set_ports (d : Dev) (pg : Nat) (F : Fld) (v : Nat) : (d.set pg F v).ports = d.ports := rfl
@[simp] theorem Dev.set_srv (d : Dev) (pg : Nat) (F : Fld) (v : Nat) : (d.set pg F v).srv = d.srv := rfl
@[simp] theorem Dev.set_vn (d : Dev) (pg : Nat) (F : Fld) (v : Nat) : (d.set pg F v).vn = d.vn := rfl
@[simp] theorem Dev.set_hub (d : Dev) (pg : Nat) (F : Fld) (v : Nat) : (d.set pg F v).hub = d.hub := rfl
@[simp] theorem Dev.set_iso (d : Dev) (pg : Nat) (F : Fld) (v : Nat) : (d.set pg F v).iso = d.iso := rfl
@[simp] theorem Dev.set_le (d : Dev) (pg : Nat) (F : Fld) (v : Nat) : (d.set pg F v).le = d.le := rfl
@[simp] theorem Dev.set_applied (d : Dev) (pg : Nat) (F : Fld) (v : Nat) : (d.set pg F v).applied = d.applied := rfl
@[simp] theorem Dev.set_cmdIn (d : Dev) (pg : Nat) (F : Fld) (v : Nat) : (d.set pg F v).cmdIn = d.cmdIn := rfl
@[simp] theorem Dev.set_isoRuns (d : Dev) (pg : Nat) (F : Fld) (v : Nat) : (d.set pg F v).isoRuns = d.isoRuns := rfl
@[simp] theorem Dev.set_an (d : Dev) (pg : Nat) (F : Fld) (v : Nat) : (d.set pg F v).an = d.an := rfl
@[simp] theorem Dev.set_anTrig (d : Dev) (pg : Nat) (F : Fld) (v : Nat) : (d.set pg F v).anTrig = d.anTrig := rfl
@[simp] theorem Dev.set_anPast (d : Dev) (pg : Nat) (F : Fld) (v : Nat) : (d.set pg F v).anPast = d.anPast := rfl
@[simp] theorem Dev.set_anSoft (d : Dev) (pg : Nat) (F : Fld) (v : Nat) : (d.set pg F v).anSoft = d.anSoft := rfl
@[simp] theorem Dev.set_gridAt (d : Dev) (pg : Nat) (F : Fld) (v : Nat) : (d.set pg F v).gridAt = d.gridAt := rfl
@[simp] theorem Dev.set_sf (d : Dev) (pg : Nat) (F : Fld) (v : Nat) : (d.set pg F v).sf = d.sf := rfl
@[simp] theorem Dev.set_stores (d : Dev) (pg : Nat) (F : Fld) (v : Nat) : (d.set pg F v).stores = d.stores := rfl
@[simp] theorem Dev.set_cellTick (d : Dev) (pg : Nat) (F : Fld) (v : Nat) : (d.set pg F v).cellTick = d.cellTick := rfl
@[simp] theorem Dev.set_cellReq (d : Dev) (pg : Nat) (F : Fld) (v : Nat) : (d.set pg F v).cellReq = d.cellReq := rfl
@[simp] theorem Dev.set_cellBad (d : Dev) (pg : Nat) (F : Fld) (v : Nat) : (d.set pg F v).cellBad = d.cellBad := rfl
@[simp] theorem Dev.set_clk (d : Dev) (pg : Nat) (F : Fld) (v : Nat) : (d.set pg F v).clk = d.clk := rfl
@[simp] theorem Dev.set_soc (d : Dev) (pg : Nat) (F : Fld) (v : Nat) : (d.set pg F v).soc = d.soc := rfl
@[simp] theorem Dev.set_sent (d : Dev) (pg : Nat) (F : Fld) (v : Nat) : (d.set pg F v).sent = d.sent := rfl

/-! ### Giving a field a value in force changes nothing but the values in force -/

@[simp] theorem Dev.setForce_phase (d : Dev) (pg : Nat) (F : Fld) (v : Nat) : (d.setForce pg F v).phase = d.phase := rfl
@[simp] theorem Dev.setForce_rstN (d : Dev) (pg : Nat) (F : Fld) (v : Nat) : (d.setForce pg F v).rstN = d.rstN := rfl
@[simp] theorem Dev.setForce_gdenPin (d : Dev) (pg : Nat) (F : Fld) (v : Nat) : (d.setForce pg F v).gdenPin = d.gdenPin := rfl
@[simp] theorem Dev.setForce_pins (d : Dev) (pg : Nat) (F : Fld) (v : Nat) : (d.setForce pg F v).pins = d.pins := rfl
@[simp] theorem Dev.setForce_regs (d : Dev) (pg : Nat) (F : Fld) (v : Nat) : (d.setForce pg F v).regs = d.regs := rfl
@[simp] theorem Dev.setForce_unlock (d : Dev) (pg : Nat) (F : Fld) (v : Nat) : (d.setForce pg F v).unlock = d.unlock := rfl
@[simp] theorem Dev.setForce_latched (d : Dev) (pg : Nat) (F : Fld) (v : Nat) : (d.setForce pg F v).latched = d.latched := rfl
@[simp] theorem Dev.setForce_reply (d : Dev) (pg : Nat) (F : Fld) (v : Nat) : (d.setForce pg F v).reply = d.reply := rfl
@[simp] theorem Dev.setForce_reports (d : Dev) (pg : Nat) (F : Fld) (v : Nat) : (d.setForce pg F v).reports = d.reports := rfl
@[simp] theorem Dev.setForce_told (d : Dev) (pg : Nat) (F : Fld) (v : Nat) : (d.setForce pg F v).told = d.told := rfl
@[simp] theorem Dev.setForce_meets (d : Dev) (pg : Nat) (F : Fld) (v : Nat) : (d.setForce pg F v).meets = d.meets := rfl
@[simp] theorem Dev.setForce_inBlk (d : Dev) (pg : Nat) (F : Fld) (v : Nat) : (d.setForce pg F v).inBlk = d.inBlk := rfl
@[simp] theorem Dev.setForce_causes (d : Dev) (pg : Nat) (F : Fld) (v : Nat) : (d.setForce pg F v).causes = d.causes := rfl
@[simp] theorem Dev.setForce_ticks (d : Dev) (pg : Nat) (F : Fld) (v : Nat) : (d.setForce pg F v).ticks = d.ticks := rfl
@[simp] theorem Dev.setForce_ns (d : Dev) (pg : Nat) (F : Fld) (v : Nat) : (d.setForce pg F v).ns = d.ns := rfl
@[simp] theorem Dev.setForce_fresh (d : Dev) (pg : Nat) (F : Fld) (v : Nat) : (d.setForce pg F v).fresh = d.fresh := rfl
@[simp] theorem Dev.setForce_time (d : Dev) (pg : Nat) (F : Fld) (v : Nat) : (d.setForce pg F v).time = d.time := rfl
@[simp] theorem Dev.setForce_gates (d : Dev) (pg : Nat) (F : Fld) (v : Nat) : (d.setForce pg F v).gates = d.gates := rfl
@[simp] theorem Dev.setForce_chop (d : Dev) (pg : Nat) (F : Fld) (v : Nat) : (d.setForce pg F v).chop = d.chop := rfl
@[simp] theorem Dev.setForce_pwm (d : Dev) (pg : Nat) (F : Fld) (v : Nat) : (d.setForce pg F v).pwm = d.pwm := rfl
@[simp] theorem Dev.setForce_loadedT (d : Dev) (pg : Nat) (F : Fld) (v : Nat) : (d.setForce pg F v).loadedT = d.loadedT := rfl
@[simp] theorem Dev.setForce_dlDone (d : Dev) (pg : Nat) (F : Fld) (v : Nat) : (d.setForce pg F v).dlDone = d.dlDone := rfl
@[simp] theorem Dev.setForce_dlTaps (d : Dev) (pg : Nat) (F : Fld) (v : Nat) : (d.setForce pg F v).dlTaps = d.dlTaps := rfl
@[simp] theorem Dev.setForce_hgT0 (d : Dev) (pg : Nat) (F : Fld) (v : Nat) : (d.setForce pg F v).hgT0 = d.hgT0 := rfl
@[simp] theorem Dev.setForce_hgTsf (d : Dev) (pg : Nat) (F : Fld) (v : Nat) : (d.setForce pg F v).hgTsf = d.hgTsf := rfl
@[simp] theorem Dev.setForce_hgSo (d : Dev) (pg : Nat) (F : Fld) (v : Nat) : (d.setForce pg F v).hgSo = d.hgSo := rfl
@[simp] theorem Dev.setForce_sq (d : Dev) (pg : Nat) (F : Fld) (v : Nat) : (d.setForce pg F v).sq = d.sq := rfl
@[simp] theorem Dev.setForce_wake (d : Dev) (pg : Nat) (F : Fld) (v : Nat) : (d.setForce pg F v).wake = d.wake := rfl
@[simp] theorem Dev.setForce_sqCorr (d : Dev) (pg : Nat) (F : Fld) (v : Nat) : (d.setForce pg F v).sqCorr = d.sqCorr := rfl
@[simp] theorem Dev.setForce_adc (d : Dev) (pg : Nat) (F : Fld) (v : Nat) : (d.setForce pg F v).adc = d.adc := rfl
@[simp] theorem Dev.setForce_calstore (d : Dev) (pg : Nat) (F : Fld) (v : Nat) : (d.setForce pg F v).calstore = d.calstore := rfl
@[simp] theorem Dev.setForce_calUse (d : Dev) (pg : Nat) (F : Fld) (v : Nat) : (d.setForce pg F v).calUse = d.calUse := rfl
@[simp] theorem Dev.setForce_calBusy (d : Dev) (pg : Nat) (F : Fld) (v : Nat) : (d.setForce pg F v).calBusy = d.calBusy := rfl
@[simp] theorem Dev.setForce_calPt (d : Dev) (pg : Nat) (F : Fld) (v : Nat) : (d.setForce pg F v).calPt = d.calPt := rfl
@[simp] theorem Dev.setForce_fcol (d : Dev) (pg : Nat) (F : Fld) (v : Nat) : (d.setForce pg F v).fcol = d.fcol := rfl
@[simp] theorem Dev.setForce_thrm (d : Dev) (pg : Nat) (F : Fld) (v : Nat) : (d.setForce pg F v).thrm = d.thrm := rfl
@[simp] theorem Dev.setForce_motr (d : Dev) (pg : Nat) (F : Fld) (v : Nat) : (d.setForce pg F v).motr = d.motr := rfl
@[simp] theorem Dev.setForce_tstk (d : Dev) (pg : Nat) (F : Fld) (v : Nat) : (d.setForce pg F v).tstk = d.tstk := rfl
@[simp] theorem Dev.setForce_tb (d : Dev) (pg : Nat) (F : Fld) (v : Nat) : (d.setForce pg F v).tb = d.tb := rfl
@[simp] theorem Dev.setForce_spd (d : Dev) (pg : Nat) (F : Fld) (v : Nat) : (d.setForce pg F v).spd = d.spd := rfl
@[simp] theorem Dev.setForce_ports (d : Dev) (pg : Nat) (F : Fld) (v : Nat) : (d.setForce pg F v).ports = d.ports := rfl
@[simp] theorem Dev.setForce_srv (d : Dev) (pg : Nat) (F : Fld) (v : Nat) : (d.setForce pg F v).srv = d.srv := rfl
@[simp] theorem Dev.setForce_vn (d : Dev) (pg : Nat) (F : Fld) (v : Nat) : (d.setForce pg F v).vn = d.vn := rfl
@[simp] theorem Dev.setForce_hub (d : Dev) (pg : Nat) (F : Fld) (v : Nat) : (d.setForce pg F v).hub = d.hub := rfl
@[simp] theorem Dev.setForce_iso (d : Dev) (pg : Nat) (F : Fld) (v : Nat) : (d.setForce pg F v).iso = d.iso := rfl
@[simp] theorem Dev.setForce_le (d : Dev) (pg : Nat) (F : Fld) (v : Nat) : (d.setForce pg F v).le = d.le := rfl
@[simp] theorem Dev.setForce_applied (d : Dev) (pg : Nat) (F : Fld) (v : Nat) : (d.setForce pg F v).applied = d.applied := rfl
@[simp] theorem Dev.setForce_cmdIn (d : Dev) (pg : Nat) (F : Fld) (v : Nat) : (d.setForce pg F v).cmdIn = d.cmdIn := rfl
@[simp] theorem Dev.setForce_isoRuns (d : Dev) (pg : Nat) (F : Fld) (v : Nat) : (d.setForce pg F v).isoRuns = d.isoRuns := rfl
@[simp] theorem Dev.setForce_an (d : Dev) (pg : Nat) (F : Fld) (v : Nat) : (d.setForce pg F v).an = d.an := rfl
@[simp] theorem Dev.setForce_anTrig (d : Dev) (pg : Nat) (F : Fld) (v : Nat) : (d.setForce pg F v).anTrig = d.anTrig := rfl
@[simp] theorem Dev.setForce_anPast (d : Dev) (pg : Nat) (F : Fld) (v : Nat) : (d.setForce pg F v).anPast = d.anPast := rfl
@[simp] theorem Dev.setForce_anSoft (d : Dev) (pg : Nat) (F : Fld) (v : Nat) : (d.setForce pg F v).anSoft = d.anSoft := rfl
@[simp] theorem Dev.setForce_gridAt (d : Dev) (pg : Nat) (F : Fld) (v : Nat) : (d.setForce pg F v).gridAt = d.gridAt := rfl
@[simp] theorem Dev.setForce_sf (d : Dev) (pg : Nat) (F : Fld) (v : Nat) : (d.setForce pg F v).sf = d.sf := rfl
@[simp] theorem Dev.setForce_stores (d : Dev) (pg : Nat) (F : Fld) (v : Nat) : (d.setForce pg F v).stores = d.stores := rfl
@[simp] theorem Dev.setForce_cellTick (d : Dev) (pg : Nat) (F : Fld) (v : Nat) : (d.setForce pg F v).cellTick = d.cellTick := rfl
@[simp] theorem Dev.setForce_cellReq (d : Dev) (pg : Nat) (F : Fld) (v : Nat) : (d.setForce pg F v).cellReq = d.cellReq := rfl
@[simp] theorem Dev.setForce_cellBad (d : Dev) (pg : Nat) (F : Fld) (v : Nat) : (d.setForce pg F v).cellBad = d.cellBad := rfl
@[simp] theorem Dev.setForce_clk (d : Dev) (pg : Nat) (F : Fld) (v : Nat) : (d.setForce pg F v).clk = d.clk := rfl
@[simp] theorem Dev.setForce_soc (d : Dev) (pg : Nat) (F : Fld) (v : Nat) : (d.setForce pg F v).soc = d.soc := rfl
@[simp] theorem Dev.setForce_sent (d : Dev) (pg : Nat) (F : Fld) (v : Nat) : (d.setForce pg F v).sent = d.sent := rfl

/-! ### What stands behind the registers is apart from them -/

@[simp] theorem Dev.modSoc_phase (d : Dev) (f : Soc → Soc) : (d.modSoc f).phase = d.phase := rfl
@[simp] theorem Dev.modSoc_regs (d : Dev) (f : Soc → Soc) : (d.modSoc f).regs = d.regs := rfl
@[simp] theorem Dev.modSoc_act (d : Dev) (f : Soc → Soc) : (d.modSoc f).act = d.act := rfl
@[simp] theorem Dev.modSoc_reports (d : Dev) (f : Soc → Soc) : (d.modSoc f).reports = d.reports := rfl
@[simp] theorem Dev.modSoc_told (d : Dev) (f : Soc → Soc) : (d.modSoc f).told = d.told := rfl
@[simp] theorem Dev.modSoc_inBlk (d : Dev) (f : Soc → Soc) : (d.modSoc f).inBlk = d.inBlk := rfl
@[simp] theorem Dev.modSoc_stores (d : Dev) (f : Soc → Soc) : (d.modSoc f).stores = d.stores := rfl
@[simp] theorem Dev.modSoc_pins (d : Dev) (f : Soc → Soc) : (d.modSoc f).pins = d.pins := rfl
@[simp] theorem Dev.modSoc_sent (d : Dev) (f : Soc → Soc) : (d.modSoc f).sent = d.sent := rfl
@[simp] theorem Dev.modSoc_get (d : Dev) (f : Soc → Soc) (pg : Nat) (F : Fld) : (d.modSoc f).get pg F = d.get pg F := rfl
@[simp] theorem Dev.modSoc_inForce (d : Dev) (f : Soc → Soc) (pg : Nat) (F : Fld) : (d.modSoc f).inForce pg F = d.inForce pg F := rfl
@[simp] theorem Dev.modClk_phase (d : Dev) (f : Clk → Clk) : (d.modClk f).phase = d.phase := rfl
@[simp] theorem Dev.modClk_regs (d : Dev) (f : Clk → Clk) : (d.modClk f).regs = d.regs := rfl
@[simp] theorem Dev.modClk_act (d : Dev) (f : Clk → Clk) : (d.modClk f).act = d.act := rfl
@[simp] theorem Dev.modClk_reports (d : Dev) (f : Clk → Clk) : (d.modClk f).reports = d.reports := rfl
@[simp] theorem Dev.modClk_told (d : Dev) (f : Clk → Clk) : (d.modClk f).told = d.told := rfl
@[simp] theorem Dev.modClk_inBlk (d : Dev) (f : Clk → Clk) : (d.modClk f).inBlk = d.inBlk := rfl
@[simp] theorem Dev.modClk_stores (d : Dev) (f : Clk → Clk) : (d.modClk f).stores = d.stores := rfl
@[simp] theorem Dev.modClk_soc (d : Dev) (f : Clk → Clk) : (d.modClk f).soc = d.soc := rfl
@[simp] theorem Dev.modClk_pins (d : Dev) (f : Clk → Clk) : (d.modClk f).pins = d.pins := rfl
@[simp] theorem Dev.modClk_sent (d : Dev) (f : Clk → Clk) : (d.modClk f).sent = d.sent := rfl
@[simp] theorem Dev.modClk_get (d : Dev) (f : Clk → Clk) (pg : Nat) (F : Fld) : (d.modClk f).get pg F = d.get pg F := rfl
@[simp] theorem Dev.modClk_inForce (d : Dev) (f : Clk → Clk) (pg : Nat) (F : Fld) : (d.modClk f).inForce pg F = d.inForce pg F := rfl
@[simp] theorem Dev.modMotr_phase (d : Dev) (f : Motr → Motr) : (d.modMotr f).phase = d.phase := rfl
@[simp] theorem Dev.modMotr_regs (d : Dev) (f : Motr → Motr) : (d.modMotr f).regs = d.regs := rfl
@[simp] theorem Dev.modMotr_act (d : Dev) (f : Motr → Motr) : (d.modMotr f).act = d.act := rfl
@[simp] theorem Dev.modMotr_reports (d : Dev) (f : Motr → Motr) : (d.modMotr f).reports = d.reports := rfl
@[simp] theorem Dev.modMotr_told (d : Dev) (f : Motr → Motr) : (d.modMotr f).told = d.told := rfl
@[simp] theorem Dev.modMotr_inBlk (d : Dev) (f : Motr → Motr) : (d.modMotr f).inBlk = d.inBlk := rfl
@[simp] theorem Dev.modMotr_stores (d : Dev) (f : Motr → Motr) : (d.modMotr f).stores = d.stores := rfl
@[simp] theorem Dev.modMotr_soc (d : Dev) (f : Motr → Motr) : (d.modMotr f).soc = d.soc := rfl
@[simp] theorem Dev.modMotr_pins (d : Dev) (f : Motr → Motr) : (d.modMotr f).pins = d.pins := rfl
@[simp] theorem Dev.modMotr_sent (d : Dev) (f : Motr → Motr) : (d.modMotr f).sent = d.sent := rfl
@[simp] theorem Dev.modMotr_get (d : Dev) (f : Motr → Motr) (pg : Nat) (F : Fld) : (d.modMotr f).get pg F = d.get pg F := rfl
@[simp] theorem Dev.modMotr_inForce (d : Dev) (f : Motr → Motr) (pg : Nat) (F : Fld) : (d.modMotr f).inForce pg F = d.inForce pg F := rfl
@[simp] theorem Dev.modTstk_phase (d : Dev) (f : Tstk → Tstk) : (d.modTstk f).phase = d.phase := rfl
@[simp] theorem Dev.modTstk_regs (d : Dev) (f : Tstk → Tstk) : (d.modTstk f).regs = d.regs := rfl
@[simp] theorem Dev.modTstk_act (d : Dev) (f : Tstk → Tstk) : (d.modTstk f).act = d.act := rfl
@[simp] theorem Dev.modTstk_reports (d : Dev) (f : Tstk → Tstk) : (d.modTstk f).reports = d.reports := rfl
@[simp] theorem Dev.modTstk_told (d : Dev) (f : Tstk → Tstk) : (d.modTstk f).told = d.told := rfl
@[simp] theorem Dev.modTstk_inBlk (d : Dev) (f : Tstk → Tstk) : (d.modTstk f).inBlk = d.inBlk := rfl
@[simp] theorem Dev.modTstk_stores (d : Dev) (f : Tstk → Tstk) : (d.modTstk f).stores = d.stores := rfl
@[simp] theorem Dev.modTstk_soc (d : Dev) (f : Tstk → Tstk) : (d.modTstk f).soc = d.soc := rfl
@[simp] theorem Dev.modTstk_pins (d : Dev) (f : Tstk → Tstk) : (d.modTstk f).pins = d.pins := rfl
@[simp] theorem Dev.modTstk_sent (d : Dev) (f : Tstk → Tstk) : (d.modTstk f).sent = d.sent := rfl
@[simp] theorem Dev.modTstk_get (d : Dev) (f : Tstk → Tstk) (pg : Nat) (F : Fld) : (d.modTstk f).get pg F = d.get pg F := rfl
@[simp] theorem Dev.modTstk_inForce (d : Dev) (f : Tstk → Tstk) (pg : Nat) (F : Fld) : (d.modTstk f).inForce pg F = d.inForce pg F := rfl
@[simp] theorem Dev.modTb_phase (d : Dev) (f : Tb → Tb) : (d.modTb f).phase = d.phase := rfl
@[simp] theorem Dev.modTb_regs (d : Dev) (f : Tb → Tb) : (d.modTb f).regs = d.regs := rfl
@[simp] theorem Dev.modTb_act (d : Dev) (f : Tb → Tb) : (d.modTb f).act = d.act := rfl
@[simp] theorem Dev.modTb_reports (d : Dev) (f : Tb → Tb) : (d.modTb f).reports = d.reports := rfl
@[simp] theorem Dev.modTb_told (d : Dev) (f : Tb → Tb) : (d.modTb f).told = d.told := rfl
@[simp] theorem Dev.modTb_inBlk (d : Dev) (f : Tb → Tb) : (d.modTb f).inBlk = d.inBlk := rfl
@[simp] theorem Dev.modTb_stores (d : Dev) (f : Tb → Tb) : (d.modTb f).stores = d.stores := rfl
@[simp] theorem Dev.modTb_soc (d : Dev) (f : Tb → Tb) : (d.modTb f).soc = d.soc := rfl
@[simp] theorem Dev.modTb_pins (d : Dev) (f : Tb → Tb) : (d.modTb f).pins = d.pins := rfl
@[simp] theorem Dev.modTb_sent (d : Dev) (f : Tb → Tb) : (d.modTb f).sent = d.sent := rfl
@[simp] theorem Dev.modTb_get (d : Dev) (f : Tb → Tb) (pg : Nat) (F : Fld) : (d.modTb f).get pg F = d.get pg F := rfl
@[simp] theorem Dev.modTb_inForce (d : Dev) (f : Tb → Tb) (pg : Nat) (F : Fld) : (d.modTb f).inForce pg F = d.inForce pg F := rfl
@[simp] theorem Dev.modVn_phase (d : Dev) (f : Vn → Vn) : (d.modVn f).phase = d.phase := rfl
@[simp] theorem Dev.modVn_regs (d : Dev) (f : Vn → Vn) : (d.modVn f).regs = d.regs := rfl
@[simp] theorem Dev.modVn_act (d : Dev) (f : Vn → Vn) : (d.modVn f).act = d.act := rfl
@[simp] theorem Dev.modVn_reports (d : Dev) (f : Vn → Vn) : (d.modVn f).reports = d.reports := rfl
@[simp] theorem Dev.modVn_told (d : Dev) (f : Vn → Vn) : (d.modVn f).told = d.told := rfl
@[simp] theorem Dev.modVn_inBlk (d : Dev) (f : Vn → Vn) : (d.modVn f).inBlk = d.inBlk := rfl
@[simp] theorem Dev.modVn_stores (d : Dev) (f : Vn → Vn) : (d.modVn f).stores = d.stores := rfl
@[simp] theorem Dev.modVn_soc (d : Dev) (f : Vn → Vn) : (d.modVn f).soc = d.soc := rfl
@[simp] theorem Dev.modVn_pins (d : Dev) (f : Vn → Vn) : (d.modVn f).pins = d.pins := rfl
@[simp] theorem Dev.modVn_sent (d : Dev) (f : Vn → Vn) : (d.modVn f).sent = d.sent := rfl
@[simp] theorem Dev.modVn_get (d : Dev) (f : Vn → Vn) (pg : Nat) (F : Fld) : (d.modVn f).get pg F = d.get pg F := rfl
@[simp] theorem Dev.modVn_inForce (d : Dev) (f : Vn → Vn) (pg : Nat) (F : Fld) : (d.modVn f).inForce pg F = d.inForce pg F := rfl
@[simp] theorem Dev.modSpd_phase (d : Dev) (f : Spd → Spd) : (d.modSpd f).phase = d.phase := rfl
@[simp] theorem Dev.modSpd_regs (d : Dev) (f : Spd → Spd) : (d.modSpd f).regs = d.regs := rfl
@[simp] theorem Dev.modSpd_act (d : Dev) (f : Spd → Spd) : (d.modSpd f).act = d.act := rfl
@[simp] theorem Dev.modSpd_reports (d : Dev) (f : Spd → Spd) : (d.modSpd f).reports = d.reports := rfl
@[simp] theorem Dev.modSpd_told (d : Dev) (f : Spd → Spd) : (d.modSpd f).told = d.told := rfl
@[simp] theorem Dev.modSpd_inBlk (d : Dev) (f : Spd → Spd) : (d.modSpd f).inBlk = d.inBlk := rfl
@[simp] theorem Dev.modSpd_stores (d : Dev) (f : Spd → Spd) : (d.modSpd f).stores = d.stores := rfl
@[simp] theorem Dev.modSpd_soc (d : Dev) (f : Spd → Spd) : (d.modSpd f).soc = d.soc := rfl
@[simp] theorem Dev.modSpd_pins (d : Dev) (f : Spd → Spd) : (d.modSpd f).pins = d.pins := rfl
@[simp] theorem Dev.modSpd_sent (d : Dev) (f : Spd → Spd) : (d.modSpd f).sent = d.sent := rfl
@[simp] theorem Dev.modSpd_get (d : Dev) (f : Spd → Spd) (pg : Nat) (F : Fld) : (d.modSpd f).get pg F = d.get pg F := rfl
@[simp] theorem Dev.modSpd_inForce (d : Dev) (f : Spd → Spd) (pg : Nat) (F : Fld) : (d.modSpd f).inForce pg F = d.inForce pg F := rfl
@[simp] theorem Dev.modSrv_phase (d : Dev) (f : Srv → Srv) : (d.modSrv f).phase = d.phase := rfl
@[simp] theorem Dev.modSrv_regs (d : Dev) (f : Srv → Srv) : (d.modSrv f).regs = d.regs := rfl
@[simp] theorem Dev.modSrv_act (d : Dev) (f : Srv → Srv) : (d.modSrv f).act = d.act := rfl
@[simp] theorem Dev.modSrv_reports (d : Dev) (f : Srv → Srv) : (d.modSrv f).reports = d.reports := rfl
@[simp] theorem Dev.modSrv_told (d : Dev) (f : Srv → Srv) : (d.modSrv f).told = d.told := rfl
@[simp] theorem Dev.modSrv_inBlk (d : Dev) (f : Srv → Srv) : (d.modSrv f).inBlk = d.inBlk := rfl
@[simp] theorem Dev.modSrv_stores (d : Dev) (f : Srv → Srv) : (d.modSrv f).stores = d.stores := rfl
@[simp] theorem Dev.modSrv_soc (d : Dev) (f : Srv → Srv) : (d.modSrv f).soc = d.soc := rfl
@[simp] theorem Dev.modSrv_pins (d : Dev) (f : Srv → Srv) : (d.modSrv f).pins = d.pins := rfl
@[simp] theorem Dev.modSrv_sent (d : Dev) (f : Srv → Srv) : (d.modSrv f).sent = d.sent := rfl
@[simp] theorem Dev.modSrv_get (d : Dev) (f : Srv → Srv) (pg : Nat) (F : Fld) : (d.modSrv f).get pg F = d.get pg F := rfl
@[simp] theorem Dev.modSrv_inForce (d : Dev) (f : Srv → Srv) (pg : Nat) (F : Fld) : (d.modSrv f).inForce pg F = d.inForce pg F := rfl
@[simp] theorem Dev.modIso_phase (d : Dev) (f : Iso → Iso) : (d.modIso f).phase = d.phase := rfl
@[simp] theorem Dev.modIso_regs (d : Dev) (f : Iso → Iso) : (d.modIso f).regs = d.regs := rfl
@[simp] theorem Dev.modIso_act (d : Dev) (f : Iso → Iso) : (d.modIso f).act = d.act := rfl
@[simp] theorem Dev.modIso_reports (d : Dev) (f : Iso → Iso) : (d.modIso f).reports = d.reports := rfl
@[simp] theorem Dev.modIso_told (d : Dev) (f : Iso → Iso) : (d.modIso f).told = d.told := rfl
@[simp] theorem Dev.modIso_inBlk (d : Dev) (f : Iso → Iso) : (d.modIso f).inBlk = d.inBlk := rfl
@[simp] theorem Dev.modIso_stores (d : Dev) (f : Iso → Iso) : (d.modIso f).stores = d.stores := rfl
@[simp] theorem Dev.modIso_soc (d : Dev) (f : Iso → Iso) : (d.modIso f).soc = d.soc := rfl
@[simp] theorem Dev.modIso_pins (d : Dev) (f : Iso → Iso) : (d.modIso f).pins = d.pins := rfl
@[simp] theorem Dev.modIso_sent (d : Dev) (f : Iso → Iso) : (d.modIso f).sent = d.sent := rfl
@[simp] theorem Dev.modIso_get (d : Dev) (f : Iso → Iso) (pg : Nat) (F : Fld) : (d.modIso f).get pg F = d.get pg F := rfl
@[simp] theorem Dev.modIso_inForce (d : Dev) (f : Iso → Iso) (pg : Nat) (F : Fld) : (d.modIso f).inForce pg F = d.inForce pg F := rfl
@[simp] theorem Dev.modHub_phase (d : Dev) (f : Hub → Hub) : (d.modHub f).phase = d.phase := rfl
@[simp] theorem Dev.modHub_regs (d : Dev) (f : Hub → Hub) : (d.modHub f).regs = d.regs := rfl
@[simp] theorem Dev.modHub_act (d : Dev) (f : Hub → Hub) : (d.modHub f).act = d.act := rfl
@[simp] theorem Dev.modHub_reports (d : Dev) (f : Hub → Hub) : (d.modHub f).reports = d.reports := rfl
@[simp] theorem Dev.modHub_told (d : Dev) (f : Hub → Hub) : (d.modHub f).told = d.told := rfl
@[simp] theorem Dev.modHub_inBlk (d : Dev) (f : Hub → Hub) : (d.modHub f).inBlk = d.inBlk := rfl
@[simp] theorem Dev.modHub_stores (d : Dev) (f : Hub → Hub) : (d.modHub f).stores = d.stores := rfl
@[simp] theorem Dev.modHub_soc (d : Dev) (f : Hub → Hub) : (d.modHub f).soc = d.soc := rfl
@[simp] theorem Dev.modHub_pins (d : Dev) (f : Hub → Hub) : (d.modHub f).pins = d.pins := rfl
@[simp] theorem Dev.modHub_sent (d : Dev) (f : Hub → Hub) : (d.modHub f).sent = d.sent := rfl
@[simp] theorem Dev.modHub_get (d : Dev) (f : Hub → Hub) (pg : Nat) (F : Fld) : (d.modHub f).get pg F = d.get pg F := rfl
@[simp] theorem Dev.modHub_inForce (d : Dev) (f : Hub → Hub) (pg : Nat) (F : Fld) : (d.modHub f).inForce pg F = d.inForce pg F := rfl
@[simp] theorem Dev.modGate_phase (d : Dev) (n : Nat) (f : Gate → Gate) : (d.modGate n f).phase = d.phase := rfl
@[simp] theorem Dev.modGate_regs (d : Dev) (n : Nat) (f : Gate → Gate) : (d.modGate n f).regs = d.regs := rfl
@[simp] theorem Dev.modGate_act (d : Dev) (n : Nat) (f : Gate → Gate) : (d.modGate n f).act = d.act := rfl
@[simp] theorem Dev.modGate_reports (d : Dev) (n : Nat) (f : Gate → Gate) : (d.modGate n f).reports = d.reports := rfl
@[simp] theorem Dev.modGate_told (d : Dev) (n : Nat) (f : Gate → Gate) : (d.modGate n f).told = d.told := rfl
@[simp] theorem Dev.modGate_inBlk (d : Dev) (n : Nat) (f : Gate → Gate) : (d.modGate n f).inBlk = d.inBlk := rfl
@[simp] theorem Dev.modGate_stores (d : Dev) (n : Nat) (f : Gate → Gate) : (d.modGate n f).stores = d.stores := rfl
@[simp] theorem Dev.modGate_soc (d : Dev) (n : Nat) (f : Gate → Gate) : (d.modGate n f).soc = d.soc := rfl
@[simp] theorem Dev.modGate_pins (d : Dev) (n : Nat) (f : Gate → Gate) : (d.modGate n f).pins = d.pins := rfl
@[simp] theorem Dev.modGate_sent (d : Dev) (n : Nat) (f : Gate → Gate) : (d.modGate n f).sent = d.sent := rfl
@[simp] theorem Dev.modGate_get (d : Dev) (n : Nat) (f : Gate → Gate) (pg : Nat) (F : Fld) : (d.modGate n f).get pg F = d.get pg F := rfl
@[simp] theorem Dev.modGate_inForce (d : Dev) (n : Nat) (f : Gate → Gate) (pg : Nat) (F : Fld) : (d.modGate n f).inForce pg F = d.inForce pg F := rfl
@[simp] theorem Dev.modUnit_phase (d : Dev) (n : Nat) (f : PwmU → PwmU) : (d.modUnit n f).phase = d.phase := rfl
@[simp] theorem Dev.modUnit_regs (d : Dev) (n : Nat) (f : PwmU → PwmU) : (d.modUnit n f).regs = d.regs := rfl
@[simp] theorem Dev.modUnit_act (d : Dev) (n : Nat) (f : PwmU → PwmU) : (d.modUnit n f).act = d.act := rfl
@[simp] theorem Dev.modUnit_reports (d : Dev) (n : Nat) (f : PwmU → PwmU) : (d.modUnit n f).reports = d.reports := rfl
@[simp] theorem Dev.modUnit_told (d : Dev) (n : Nat) (f : PwmU → PwmU) : (d.modUnit n f).told = d.told := rfl
@[simp] theorem Dev.modUnit_inBlk (d : Dev) (n : Nat) (f : PwmU → PwmU) : (d.modUnit n f).inBlk = d.inBlk := rfl
@[simp] theorem Dev.modUnit_stores (d : Dev) (n : Nat) (f : PwmU → PwmU) : (d.modUnit n f).stores = d.stores := rfl
@[simp] theorem Dev.modUnit_soc (d : Dev) (n : Nat) (f : PwmU → PwmU) : (d.modUnit n f).soc = d.soc := rfl
@[simp] theorem Dev.modUnit_pins (d : Dev) (n : Nat) (f : PwmU → PwmU) : (d.modUnit n f).pins = d.pins := rfl
@[simp] theorem Dev.modUnit_sent (d : Dev) (n : Nat) (f : PwmU → PwmU) : (d.modUnit n f).sent = d.sent := rfl
@[simp] theorem Dev.modUnit_get (d : Dev) (n : Nat) (f : PwmU → PwmU) (pg : Nat) (F : Fld) : (d.modUnit n f).get pg F = d.get pg F := rfl
@[simp] theorem Dev.modUnit_inForce (d : Dev) (n : Nat) (f : PwmU → PwmU) (pg : Nat) (F : Fld) : (d.modUnit n f).inForce pg F = d.inForce pg F := rfl
@[simp] theorem Dev.modAdc_phase (d : Dev) (n : Nat) (f : Adc → Adc) : (d.modAdc n f).phase = d.phase := rfl
@[simp] theorem Dev.modAdc_regs (d : Dev) (n : Nat) (f : Adc → Adc) : (d.modAdc n f).regs = d.regs := rfl
@[simp] theorem Dev.modAdc_act (d : Dev) (n : Nat) (f : Adc → Adc) : (d.modAdc n f).act = d.act := rfl
@[simp] theorem Dev.modAdc_reports (d : Dev) (n : Nat) (f : Adc → Adc) : (d.modAdc n f).reports = d.reports := rfl
@[simp] theorem Dev.modAdc_told (d : Dev) (n : Nat) (f : Adc → Adc) : (d.modAdc n f).told = d.told := rfl
@[simp] theorem Dev.modAdc_inBlk (d : Dev) (n : Nat) (f : Adc → Adc) : (d.modAdc n f).inBlk = d.inBlk := rfl
@[simp] theorem Dev.modAdc_stores (d : Dev) (n : Nat) (f : Adc → Adc) : (d.modAdc n f).stores = d.stores := rfl
@[simp] theorem Dev.modAdc_soc (d : Dev) (n : Nat) (f : Adc → Adc) : (d.modAdc n f).soc = d.soc := rfl
@[simp] theorem Dev.modAdc_pins (d : Dev) (n : Nat) (f : Adc → Adc) : (d.modAdc n f).pins = d.pins := rfl
@[simp] theorem Dev.modAdc_sent (d : Dev) (n : Nat) (f : Adc → Adc) : (d.modAdc n f).sent = d.sent := rfl
@[simp] theorem Dev.modAdc_get (d : Dev) (n : Nat) (f : Adc → Adc) (pg : Nat) (F : Fld) : (d.modAdc n f).get pg F = d.get pg F := rfl
@[simp] theorem Dev.modAdc_inForce (d : Dev) (n : Nat) (f : Adc → Adc) (pg : Nat) (F : Fld) : (d.modAdc n f).inForce pg F = d.inForce pg F := rfl
@[simp] theorem Dev.modLe_phase (d : Dev) (n : Nat) (f : Le → Le) : (d.modLe n f).phase = d.phase := rfl
@[simp] theorem Dev.modLe_regs (d : Dev) (n : Nat) (f : Le → Le) : (d.modLe n f).regs = d.regs := rfl
@[simp] theorem Dev.modLe_act (d : Dev) (n : Nat) (f : Le → Le) : (d.modLe n f).act = d.act := rfl
@[simp] theorem Dev.modLe_reports (d : Dev) (n : Nat) (f : Le → Le) : (d.modLe n f).reports = d.reports := rfl
@[simp] theorem Dev.modLe_told (d : Dev) (n : Nat) (f : Le → Le) : (d.modLe n f).told = d.told := rfl
@[simp] theorem Dev.modLe_inBlk (d : Dev) (n : Nat) (f : Le → Le) : (d.modLe n f).inBlk = d.inBlk := rfl
@[simp] theorem Dev.modLe_stores (d : Dev) (n : Nat) (f : Le → Le) : (d.modLe n f).stores = d.stores := rfl
@[simp] theorem Dev.modLe_soc (d : Dev) (n : Nat) (f : Le → Le) : (d.modLe n f).soc = d.soc := rfl
@[simp] theorem Dev.modLe_pins (d : Dev) (n : Nat) (f : Le → Le) : (d.modLe n f).pins = d.pins := rfl
@[simp] theorem Dev.modLe_sent (d : Dev) (n : Nat) (f : Le → Le) : (d.modLe n f).sent = d.sent := rfl
@[simp] theorem Dev.modLe_get (d : Dev) (n : Nat) (f : Le → Le) (pg : Nat) (F : Fld) : (d.modLe n f).get pg F = d.get pg F := rfl
@[simp] theorem Dev.modLe_inForce (d : Dev) (n : Nat) (f : Le → Le) (pg : Nat) (F : Fld) : (d.modLe n f).inForce pg F = d.inForce pg F := rfl
@[simp] theorem Dev.modPort_phase (d : Dev) (n : Nat) (f : Port → Port) : (d.modPort n f).phase = d.phase := rfl
@[simp] theorem Dev.modPort_regs (d : Dev) (n : Nat) (f : Port → Port) : (d.modPort n f).regs = d.regs := rfl
@[simp] theorem Dev.modPort_act (d : Dev) (n : Nat) (f : Port → Port) : (d.modPort n f).act = d.act := rfl
@[simp] theorem Dev.modPort_reports (d : Dev) (n : Nat) (f : Port → Port) : (d.modPort n f).reports = d.reports := rfl
@[simp] theorem Dev.modPort_told (d : Dev) (n : Nat) (f : Port → Port) : (d.modPort n f).told = d.told := rfl
@[simp] theorem Dev.modPort_inBlk (d : Dev) (n : Nat) (f : Port → Port) : (d.modPort n f).inBlk = d.inBlk := rfl
@[simp] theorem Dev.modPort_stores (d : Dev) (n : Nat) (f : Port → Port) : (d.modPort n f).stores = d.stores := rfl
@[simp] theorem Dev.modPort_soc (d : Dev) (n : Nat) (f : Port → Port) : (d.modPort n f).soc = d.soc := rfl
@[simp] theorem Dev.modPort_pins (d : Dev) (n : Nat) (f : Port → Port) : (d.modPort n f).pins = d.pins := rfl
@[simp] theorem Dev.modPort_sent (d : Dev) (n : Nat) (f : Port → Port) : (d.modPort n f).sent = d.sent := rfl
@[simp] theorem Dev.modPort_get (d : Dev) (n : Nat) (f : Port → Port) (pg : Nat) (F : Fld) : (d.modPort n f).get pg F = d.get pg F := rfl
@[simp] theorem Dev.modPort_inForce (d : Dev) (n : Nat) (f : Port → Port) (pg : Nat) (F : Fld) : (d.modPort n f).inForce pg F = d.inForce pg F := rfl
@[simp] theorem Dev.modAn_phase (d : Dev) (n : Nat) (f : AnDesc → AnDesc) : (d.modAn n f).phase = d.phase := rfl
@[simp] theorem Dev.modAn_regs (d : Dev) (n : Nat) (f : AnDesc → AnDesc) : (d.modAn n f).regs = d.regs := rfl
@[simp] theorem Dev.modAn_act (d : Dev) (n : Nat) (f : AnDesc → AnDesc) : (d.modAn n f).act = d.act := rfl
@[simp] theorem Dev.modAn_reports (d : Dev) (n : Nat) (f : AnDesc → AnDesc) : (d.modAn n f).reports = d.reports := rfl
@[simp] theorem Dev.modAn_told (d : Dev) (n : Nat) (f : AnDesc → AnDesc) : (d.modAn n f).told = d.told := rfl
@[simp] theorem Dev.modAn_inBlk (d : Dev) (n : Nat) (f : AnDesc → AnDesc) : (d.modAn n f).inBlk = d.inBlk := rfl
@[simp] theorem Dev.modAn_stores (d : Dev) (n : Nat) (f : AnDesc → AnDesc) : (d.modAn n f).stores = d.stores := rfl
@[simp] theorem Dev.modAn_soc (d : Dev) (n : Nat) (f : AnDesc → AnDesc) : (d.modAn n f).soc = d.soc := rfl
@[simp] theorem Dev.modAn_pins (d : Dev) (n : Nat) (f : AnDesc → AnDesc) : (d.modAn n f).pins = d.pins := rfl
@[simp] theorem Dev.modAn_sent (d : Dev) (n : Nat) (f : AnDesc → AnDesc) : (d.modAn n f).sent = d.sent := rfl
@[simp] theorem Dev.modAn_get (d : Dev) (n : Nat) (f : AnDesc → AnDesc) (pg : Nat) (F : Fld) : (d.modAn n f).get pg F = d.get pg F := rfl
@[simp] theorem Dev.modAn_inForce (d : Dev) (n : Nat) (f : AnDesc → AnDesc) (pg : Nat) (F : Fld) : (d.modAn n f).inForce pg F = d.inForce pg F := rfl

/-! ### The end of a command -/

@[simp] theorem State.flush_get (s : State) (pg : Nat) (F : Fld) : s.flush.get pg F = s.get pg F := rfl
@[simp] theorem State.flush_inForce (s : State) (pg : Nat) (F : Fld) : s.flush.inForce pg F = s.inForce pg F := rfl
@[simp] theorem State.flush_phase (s : State) : s.flush.phase = s.phase := rfl
@[simp] theorem State.flush_rstN (s : State) : s.flush.rstN = s.rstN := rfl
@[simp] theorem State.flush_gdenPin (s : State) : s.flush.gdenPin = s.gdenPin := rfl
@[simp] theorem State.flush_pins (s : State) : s.flush.pins = s.pins := rfl
@[simp] theorem State.flush_regs (s : State) : s.flush.regs = s.regs := rfl
@[simp] theorem State.flush_act (s : State) : s.flush.act = s.act := rfl
@[simp] theorem State.flush_unlock (s : State) : s.flush.unlock = s.unlock := rfl
@[simp] theorem State.flush_latched (s : State) : s.flush.latched = s.latched := rfl
@[simp] theorem State.flush_reply (s : State) : s.flush.reply = s.reply := rfl
@[simp] theorem State.flush_reports (s : State) : s.flush.reports = s.reports := rfl
@[simp] theorem State.flush_told (s : State) : s.flush.told = s.told := rfl
@[simp] theorem State.flush_meets (s : State) : s.flush.meets = s.meets := rfl
@[simp] theorem State.flush_inBlk (s : State) : s.flush.inBlk = s.inBlk := rfl
@[simp] theorem State.flush_causes (s : State) : s.flush.causes = s.causes := rfl
@[simp] theorem State.flush_ticks (s : State) : s.flush.ticks = s.ticks := rfl
@[simp] theorem State.flush_ns (s : State) : s.flush.ns = s.ns := rfl
@[simp] theorem State.flush_fresh (s : State) : s.flush.fresh = s.fresh := rfl
@[simp] theorem State.flush_time (s : State) : s.flush.time = s.time := rfl
@[simp] theorem State.flush_gates (s : State) : s.flush.gates = s.gates := rfl
@[simp] theorem State.flush_chop (s : State) : s.flush.chop = s.chop := rfl
@[simp] theorem State.flush_pwm (s : State) : s.flush.pwm = s.pwm := rfl
@[simp] theorem State.flush_loadedT (s : State) : s.flush.loadedT = s.loadedT := rfl
@[simp] theorem State.flush_dlDone (s : State) : s.flush.dlDone = s.dlDone := rfl
@[simp] theorem State.flush_dlTaps (s : State) : s.flush.dlTaps = s.dlTaps := rfl
@[simp] theorem State.flush_hgT0 (s : State) : s.flush.hgT0 = s.hgT0 := rfl
@[simp] theorem State.flush_hgTsf (s : State) : s.flush.hgTsf = s.hgTsf := rfl
@[simp] theorem State.flush_hgSo (s : State) : s.flush.hgSo = s.hgSo := rfl
@[simp] theorem State.flush_sq (s : State) : s.flush.sq = s.sq := rfl
@[simp] theorem State.flush_wake (s : State) : s.flush.wake = s.wake := rfl
@[simp] theorem State.flush_sqCorr (s : State) : s.flush.sqCorr = s.sqCorr := rfl
@[simp] theorem State.flush_adc (s : State) : s.flush.adc = s.adc := rfl
@[simp] theorem State.flush_calstore (s : State) : s.flush.calstore = s.calstore := rfl
@[simp] theorem State.flush_calUse (s : State) : s.flush.calUse = s.calUse := rfl
@[simp] theorem State.flush_calBusy (s : State) : s.flush.calBusy = s.calBusy := rfl
@[simp] theorem State.flush_calPt (s : State) : s.flush.calPt = s.calPt := rfl
@[simp] theorem State.flush_fcol (s : State) : s.flush.fcol = s.fcol := rfl
@[simp] theorem State.flush_thrm (s : State) : s.flush.thrm = s.thrm := rfl
@[simp] theorem State.flush_motr (s : State) : s.flush.motr = s.motr := rfl
@[simp] theorem State.flush_tstk (s : State) : s.flush.tstk = s.tstk := rfl
@[simp] theorem State.flush_tb (s : State) : s.flush.tb = s.tb := rfl
@[simp] theorem State.flush_spd (s : State) : s.flush.spd = s.spd := rfl
@[simp] theorem State.flush_ports (s : State) : s.flush.ports = s.ports := rfl
@[simp] theorem State.flush_srv (s : State) : s.flush.srv = s.srv := rfl
@[simp] theorem State.flush_vn (s : State) : s.flush.vn = s.vn := rfl
@[simp] theorem State.flush_hub (s : State) : s.flush.hub = s.hub := rfl
@[simp] theorem State.flush_iso (s : State) : s.flush.iso = s.iso := rfl
@[simp] theorem State.flush_le (s : State) : s.flush.le = s.le := rfl
@[simp] theorem State.flush_applied (s : State) : s.flush.applied = s.applied := rfl
@[simp] theorem State.flush_cmdIn (s : State) : s.flush.cmdIn = s.cmdIn := rfl
@[simp] theorem State.flush_isoRuns (s : State) : s.flush.isoRuns = s.isoRuns := rfl
@[simp] theorem State.flush_an (s : State) : s.flush.an = s.an := rfl
@[simp] theorem State.flush_anTrig (s : State) : s.flush.anTrig = s.anTrig := rfl
@[simp] theorem State.flush_anPast (s : State) : s.flush.anPast = s.anPast := rfl
@[simp] theorem State.flush_anSoft (s : State) : s.flush.anSoft = s.anSoft := rfl
@[simp] theorem State.flush_gridAt (s : State) : s.flush.gridAt = s.gridAt := rfl
@[simp] theorem State.flush_sf (s : State) : s.flush.sf = s.sf := rfl
@[simp] theorem State.flush_cellTick (s : State) : s.flush.cellTick = s.cellTick := rfl
@[simp] theorem State.flush_cellReq (s : State) : s.flush.cellReq = s.cellReq := rfl
@[simp] theorem State.flush_cellBad (s : State) : s.flush.cellBad = s.cellBad := rfl
@[simp] theorem State.flush_clk (s : State) : s.flush.clk = s.clk := rfl
@[simp] theorem State.flush_sent (s : State) : s.flush.sent = s.sent := rfl

end Sys2Proof.Machine
end

