-- ==== Sys2Proof/Laws/Motor.lean ====
section
/-! SUPPORT. What MOTR's following of the hold-off, GDEN and the latches can do (`Dev.motrSync`, R414): change registers of
MOTR's own page, its state, the gate channels' view of the outputs it moves, and report an error. -/

namespace Sys2Proof.Machine

/-- `d'` differs from `d` in registers of MOTR's page, in MOTR, the gate channels and the reports, and in nothing else. -/
def Dev.MotrOnly (d d' : Dev) : Prop :=
  (∀ pg (F : Fld), F.ok → pg ≠ pMOTR → d'.get pg F = d.get pg F) ∧
  ∃ r g m rp tl ne, d' = { d with regs := r, gates := g, motr := m, reports := rp, told := tl, meets := ne }

theorem Dev.MotrOnly.refl (d : Dev) : Dev.MotrOnly d d := ⟨fun _ _ _ _ => rfl, d.regs, d.gates, d.motr, d.reports, d.told, d.meets, rfl⟩

theorem Dev.MotrOnly.trans {a b c : Dev} (h : Dev.MotrOnly a b) (h' : Dev.MotrOnly b c) : Dev.MotrOnly a c := by
  obtain ⟨h1, r, g, m, rp, tl, ne, rfl⟩ := h
  obtain ⟨h2, r', g', m', rp', tl', ne', rfl⟩ := h'
  exact ⟨fun pg F hF hp => (h2 pg F hF hp).trans (h1 pg F hF hp), r', g', m', rp', tl', ne', rfl⟩

theorem Dev.MotrOnly.set (d : Dev) {F : Fld} (hF : F.ok) (v : Nat) : Dev.MotrOnly d (d.set pMOTR F v) :=
  ⟨fun _ _ hG hp => d.get_set_page v hG hF hp, _, d.gates, d.motr, d.reports, d.told, d.meets, rfl⟩

theorem Dev.MotrOnly.foldl {α : Type} (f : Dev → α → Dev) (hf : ∀ d a, Dev.MotrOnly d (f d a)) (l : List α) (d : Dev) :
    Dev.MotrOnly d (l.foldl f d) := by
  induction l generalizing d with
  | nil => exact .refl d
  | cons a l ih => exact (hf d a).trans (ih _)

theorem Dev.MotrOnly.modMotr (d : Dev) (f : Motr → Motr) : Dev.MotrOnly d (d.modMotr f) :=
  ⟨fun _ _ _ _ => rfl, d.regs, d.gates, _, d.reports, d.told, d.meets, rfl⟩

theorem Dev.MotrOnly.modGate (d : Dev) (n : Nat) (f : Gate → Gate) : Dev.MotrOnly d (d.modGate n f) :=
  ⟨fun _ _ _ _ => rfl, d.regs, _, d.motr, d.reports, d.told, d.meets, rfl⟩

theorem Dev.MotrOnly.reports (d : Dev) (rp : List Report) (tl : List (Nat × Nat)) :
    Dev.MotrOnly d { d with reports := rp, told := tl } :=
  ⟨fun _ _ _ _ => rfl, d.regs, d.gates, d.motr, rp, tl, d.meets, rfl⟩

theorem HDR.ERRSTAT_ok : HDR.ERRSTAT.ok := by decide
theorem HDR.IRQFLG_ok : HDR.IRQFLG.ok := by decide
theorem HDR.FIRST_ok : HDR.FIRST.ok := by decide

theorem Dev.MotrOnly.report (d : Dev) (pg b : Nat) : Dev.MotrOnly d (d.report pg b) := by
  unfold Dev.report
  by_cases h : d.told.contains (pg, b)
  · rw [if_pos h]; exact .refl d
  · rw [if_neg h]; exact .reports d _ _

theorem Dev.MotrOnly.fresh (d : Dev) (ne : Meets) : Dev.MotrOnly d { d with meets := ne } :=
  ⟨fun _ _ _ _ => rfl, d.regs, d.gates, d.motr, d.reports, d.told, ne, rfl⟩

theorem Dev.MotrOnly.meet (d : Dev) (f : Meets → Meets) : Dev.MotrOnly d (d.meet f) := .fresh d _

theorem Dev.MotrOnly.inc (d : Dev) {F : Fld} (hF : F.ok) : Dev.MotrOnly d (d.inc pMOTR F) :=
  (Dev.MotrOnly.set d hF _).trans (.meet _ _)

theorem Dev.MotrOnly.errSet (d : Dev) (b : Nat) : Dev.MotrOnly d (d.errSet pMOTR b) := by
  unfold Dev.errSet; split
  · exact .refl d
  · dsimp only [Dev.setBit]
    generalize d.firstAfter pMOTR b = v
    exact ((Dev.MotrOnly.set d HDR.ERRSTAT_ok (d.get pMOTR HDR.ERRSTAT ||| 1 <<< b)).trans (.set _ HDR.FIRST_ok v)).trans
      (.meet _ _)

theorem Dev.MotrOnly.err (d : Dev) (b : Nat) : Dev.MotrOnly d (d.err pMOTR b) := by
  unfold Dev.err; split
  · exact .refl d
  · exact (Dev.MotrOnly.errSet d b).trans (.report _ _ _)

theorem Dev.MotrOnly.irqIf (d : Dev) (c : Bool) (b : Nat) : Dev.MotrOnly d (d.irqIf c pMOTR b) := by
  unfold Dev.irqIf Dev.irq; split
  · split
    · exact .refl d
    · exact (Dev.MotrOnly.set d HDR.IRQFLG_ok _).trans (.meet _ _)
  · exact .refl d

theorem Dev.MotrOnly.gateSeeOut (d : Dev) (m : Nat) : Dev.MotrOnly d (d.gateSeeOut m) := by
  unfold Dev.gateSeeOut
  refine .foldl _ (fun d n => ?_) _ _
  dsimp only
  split
  · exact .modGate _ _ _
  · exact .refl _

theorem Dev.MotrOnly.legsSet (d : Dev) : Dev.MotrOnly d d.legsSet := by
  refine .foldl _ (fun d ph => ?_) _ _
  unfold Dev.legSet
  dsimp only
  split
  · exact .refl _
  · exact (Dev.MotrOnly.modMotr _ _).trans (.gateSeeOut _ _)

theorem Dev.MotrOnly.brakeKeep (d : Dev) : Dev.MotrOnly d d.brakeKeep := by
  unfold Dev.brakeKeep; split
  · exact .set _ (by decide) _
  · exact .refl d

theorem Dev.MotrOnly.motrTo (d : Dev) (st : Nat) : Dev.MotrOnly d (d.motrTo st) := by
  unfold Dev.motrTo
  dsimp only
  refine Dev.MotrOnly.trans ?_ (.legsSet _)
  have h0 := (((Dev.MotrOnly.brakeKeep d).trans (.irqIf _ (st != d.brakeKeep.motrState) MOTR.I_STATE_CHG)).trans
    (.set _ (F := MOTR.MSTAT_STATE) (by decide) st)).trans
      (.modMotr _ fun t => { t with obs := false, sched := false, misses := 0 })
  have h1 : ∀ x : Dev, Dev.MotrOnly x (if st = 1 then x.modMotr fun t => { t with last := none, run := (false, 0, 0), best := none } else x) := by
    intro x; split
    · exact .modMotr _ _
    · exact .refl _
  have h5 : ∀ x : Dev, Dev.MotrOnly x (if st = 5 then ((x.inc pMOTR MOTR.CNT_BRAKES).set pMOTR MOTR.BRKTIME 0).modMotr fun t => { t with brk := 0, brkAt := x.ns } else x) := by
    intro x; split
    · exact ((Dev.MotrOnly.inc x (by decide)).trans (.set _ (by decide) _)).trans (.modMotr _ _)
    · exact .refl _
  exact (h0.trans (h1 _)).trans (h5 _)

theorem Dev.MotrOnly.motrFault (d : Dev) (b : Nat) : Dev.MotrOnly d (d.motrFault b) :=
  (Dev.MotrOnly.err d b).trans (.motrTo _ 6)

/-- The second half of the following: MOTR is suspended or resumes. -/
theorem Dev.MotrOnly.follow (d : Dev) (hold : Bool) : Dev.MotrOnly d
    (if hold && !d.motr.susp then (d.brakeKeep.modMotr fun t => { t with susp := true }).legsSet
     else if !hold && d.motr.susp then
      let d := if d.motrState = 6 then d else if d.on pMOTR MOTR.MSTAT_TRUN then d.motrTo 1 else d.motrTo 0
      (d.modMotr fun t => { t with susp := false }).legsSet
     else d) := by
  split
  · exact ((Dev.MotrOnly.brakeKeep d).trans (.modMotr _ _)).trans (.legsSet _)
  · split
    · dsimp only
      refine Dev.MotrOnly.trans ?_ ((Dev.MotrOnly.modMotr _ _).trans (.legsSet _))
      split
      · exact .refl _
      · split
        · exact .motrTo _ _
        · exact .motrTo _ _
    · exact .refl _

/-- Everything that following the hold-off, GDEN and the latches can change. -/
theorem Dev.MotrOnly.motrSync (d0 d : Dev) : Dev.MotrOnly d (Dev.motrSync d0 d) := by
  unfold Dev.motrSync
  split
  · exact .refl d
  · have h : Dev.MotrOnly d (if d0.bridge1New d then d.motrFault MOTR.E_BRIDGE_FAULT else d) := by
      split
      · exact .motrFault _ _
      · exact .refl _
    exact h.trans (.follow _ _)

/-- A register of another page reads the same after MOTR has followed. -/
theorem Dev.motrSync_get (d0 d : Dev) {pg : Nat} {F : Fld} (hF : F.ok) (h : pg ≠ pMOTR) :
    (Dev.motrSync d0 d).get pg F = d.get pg F := (Dev.MotrOnly.motrSync d0 d).1 pg F hF h

@[simp] theorem Dev.motrSync_inForce (d0 d : Dev) (pg : Nat) (F : Fld) : (Dev.motrSync d0 d).inForce pg F = d.inForce pg F := by
  obtain ⟨-, r, g, m, rp, tl, ne, h⟩ := Dev.MotrOnly.motrSync d0 d; rw [h]; rfl
@[simp] theorem Dev.motrSync_phase (d0 d : Dev) : (Dev.motrSync d0 d).phase = d.phase := by
  obtain ⟨-, r, g, m, rp, tl, ne, h⟩ := Dev.MotrOnly.motrSync d0 d; rw [h]
@[simp] theorem Dev.motrSync_rstN (d0 d : Dev) : (Dev.motrSync d0 d).rstN = d.rstN := by
  obtain ⟨-, r, g, m, rp, tl, ne, h⟩ := Dev.MotrOnly.motrSync d0 d; rw [h]
@[simp] theorem Dev.motrSync_gdenPin (d0 d : Dev) : (Dev.motrSync d0 d).gdenPin = d.gdenPin := by
  obtain ⟨-, r, g, m, rp, tl, ne, h⟩ := Dev.MotrOnly.motrSync d0 d; rw [h]
@[simp] theorem Dev.motrSync_pins (d0 d : Dev) : (Dev.motrSync d0 d).pins = d.pins := by
  obtain ⟨-, r, g, m, rp, tl, ne, h⟩ := Dev.MotrOnly.motrSync d0 d; rw [h]
@[simp] theorem Dev.motrSync_act (d0 d : Dev) : (Dev.motrSync d0 d).act = d.act := by
  obtain ⟨-, r, g, m, rp, tl, ne, h⟩ := Dev.MotrOnly.motrSync d0 d; rw [h]
@[simp] theorem Dev.motrSync_unlock (d0 d : Dev) : (Dev.motrSync d0 d).unlock = d.unlock := by
  obtain ⟨-, r, g, m, rp, tl, ne, h⟩ := Dev.MotrOnly.motrSync d0 d; rw [h]
@[simp] theorem Dev.motrSync_latched (d0 d : Dev) : (Dev.motrSync d0 d).latched = d.latched := by
  obtain ⟨-, r, g, m, rp, tl, ne, h⟩ := Dev.MotrOnly.motrSync d0 d; rw [h]
@[simp] theorem Dev.motrSync_reply (d0 d : Dev) : (Dev.motrSync d0 d).reply = d.reply := by
  obtain ⟨-, r, g, m, rp, tl, ne, h⟩ := Dev.MotrOnly.motrSync d0 d; rw [h]
@[simp] theorem Dev.motrSync_inBlk (d0 d : Dev) : (Dev.motrSync d0 d).inBlk = d.inBlk := by
  obtain ⟨-, r, g, m, rp, tl, ne, h⟩ := Dev.MotrOnly.motrSync d0 d; rw [h]
@[simp] theorem Dev.motrSync_ticks (d0 d : Dev) : (Dev.motrSync d0 d).ticks = d.ticks := by
  obtain ⟨-, r, g, m, rp, tl, ne, h⟩ := Dev.MotrOnly.motrSync d0 d; rw [h]
@[simp] theorem Dev.motrSync_ns (d0 d : Dev) : (Dev.motrSync d0 d).ns = d.ns := by
  obtain ⟨-, r, g, m, rp, tl, ne, h⟩ := Dev.MotrOnly.motrSync d0 d; rw [h]
@[simp] theorem Dev.motrSync_fresh (d0 d : Dev) : (Dev.motrSync d0 d).fresh = d.fresh := by
  obtain ⟨-, r, g, m, rp, tl, ne, h⟩ := Dev.MotrOnly.motrSync d0 d; rw [h]
@[simp] theorem Dev.motrSync_time (d0 d : Dev) : (Dev.motrSync d0 d).time = d.time := by
  obtain ⟨-, r, g, m, rp, tl, ne, h⟩ := Dev.MotrOnly.motrSync d0 d; rw [h]
@[simp] theorem Dev.motrSync_chop (d0 d : Dev) : (Dev.motrSync d0 d).chop = d.chop := by
  obtain ⟨-, r, g, m, rp, tl, ne, h⟩ := Dev.MotrOnly.motrSync d0 d; rw [h]
@[simp] theorem Dev.motrSync_pwm (d0 d : Dev) : (Dev.motrSync d0 d).pwm = d.pwm := by
  obtain ⟨-, r, g, m, rp, tl, ne, h⟩ := Dev.MotrOnly.motrSync d0 d; rw [h]
@[simp] theorem Dev.motrSync_loadedT (d0 d : Dev) : (Dev.motrSync d0 d).loadedT = d.loadedT := by
  obtain ⟨-, r, g, m, rp, tl, ne, h⟩ := Dev.MotrOnly.motrSync d0 d; rw [h]
@[simp] theorem Dev.motrSync_dlDone (d0 d : Dev) : (Dev.motrSync d0 d).dlDone = d.dlDone := by
  obtain ⟨-, r, g, m, rp, tl, ne, h⟩ := Dev.MotrOnly.motrSync d0 d; rw [h]
@[simp] theorem Dev.motrSync_hgT0 (d0 d : Dev) : (Dev.motrSync d0 d).hgT0 = d.hgT0 := by
  obtain ⟨-, r, g, m, rp, tl, ne, h⟩ := Dev.MotrOnly.motrSync d0 d; rw [h]
@[simp] theorem Dev.motrSync_hgTsf (d0 d : Dev) : (Dev.motrSync d0 d).hgTsf = d.hgTsf := by
  obtain ⟨-, r, g, m, rp, tl, ne, h⟩ := Dev.MotrOnly.motrSync d0 d; rw [h]
@[simp] theorem Dev.motrSync_hgSo (d0 d : Dev) : (Dev.motrSync d0 d).hgSo = d.hgSo := by
  obtain ⟨-, r, g, m, rp, tl, ne, h⟩ := Dev.MotrOnly.motrSync d0 d; rw [h]
@[simp] theorem Dev.motrSync_wake (d0 d : Dev) : (Dev.motrSync d0 d).wake = d.wake := by
  obtain ⟨-, r, g, m, rp, tl, ne, h⟩ := Dev.MotrOnly.motrSync d0 d; rw [h]
@[simp] theorem Dev.motrSync_sqCorr (d0 d : Dev) : (Dev.motrSync d0 d).sqCorr = d.sqCorr := by
  obtain ⟨-, r, g, m, rp, tl, ne, h⟩ := Dev.MotrOnly.motrSync d0 d; rw [h]
@[simp] theorem Dev.motrSync_adc (d0 d : Dev) : (Dev.motrSync d0 d).adc = d.adc := by
  obtain ⟨-, r, g, m, rp, tl, ne, h⟩ := Dev.MotrOnly.motrSync d0 d; rw [h]
@[simp] theorem Dev.motrSync_calstore (d0 d : Dev) : (Dev.motrSync d0 d).calstore = d.calstore := by
  obtain ⟨-, r, g, m, rp, tl, ne, h⟩ := Dev.MotrOnly.motrSync d0 d; rw [h]
@[simp] theorem Dev.motrSync_calUse (d0 d : Dev) : (Dev.motrSync d0 d).calUse = d.calUse := by
  obtain ⟨-, r, g, m, rp, tl, ne, h⟩ := Dev.MotrOnly.motrSync d0 d; rw [h]
@[simp] theorem Dev.motrSync_calBusy (d0 d : Dev) : (Dev.motrSync d0 d).calBusy = d.calBusy := by
  obtain ⟨-, r, g, m, rp, tl, ne, h⟩ := Dev.MotrOnly.motrSync d0 d; rw [h]
@[simp] theorem Dev.motrSync_calPt (d0 d : Dev) : (Dev.motrSync d0 d).calPt = d.calPt := by
  obtain ⟨-, r, g, m, rp, tl, ne, h⟩ := Dev.MotrOnly.motrSync d0 d; rw [h]
@[simp] theorem Dev.motrSync_fcol (d0 d : Dev) : (Dev.motrSync d0 d).fcol = d.fcol := by
  obtain ⟨-, r, g, m, rp, tl, ne, h⟩ := Dev.MotrOnly.motrSync d0 d; rw [h]
@[simp] theorem Dev.motrSync_thrm (d0 d : Dev) : (Dev.motrSync d0 d).thrm = d.thrm := by
  obtain ⟨-, r, g, m, rp, tl, ne, h⟩ := Dev.MotrOnly.motrSync d0 d; rw [h]
@[simp] theorem Dev.motrSync_tstk (d0 d : Dev) : (Dev.motrSync d0 d).tstk = d.tstk := by
  obtain ⟨-, r, g, m, rp, tl, ne, h⟩ := Dev.MotrOnly.motrSync d0 d; rw [h]
@[simp] theorem Dev.motrSync_tb (d0 d : Dev) : (Dev.motrSync d0 d).tb = d.tb := by
  obtain ⟨-, r, g, m, rp, tl, ne, h⟩ := Dev.MotrOnly.motrSync d0 d; rw [h]
@[simp] theorem Dev.motrSync_spd (d0 d : Dev) : (Dev.motrSync d0 d).spd = d.spd := by
  obtain ⟨-, r, g, m, rp, tl, ne, h⟩ := Dev.MotrOnly.motrSync d0 d; rw [h]
@[simp] theorem Dev.motrSync_ports (d0 d : Dev) : (Dev.motrSync d0 d).ports = d.ports := by
  obtain ⟨-, r, g, m, rp, tl, ne, h⟩ := Dev.MotrOnly.motrSync d0 d; rw [h]
@[simp] theorem Dev.motrSync_srv (d0 d : Dev) : (Dev.motrSync d0 d).srv = d.srv := by
  obtain ⟨-, r, g, m, rp, tl, ne, h⟩ := Dev.MotrOnly.motrSync d0 d; rw [h]
@[simp] theorem Dev.motrSync_vn (d0 d : Dev) : (Dev.motrSync d0 d).vn = d.vn := by
  obtain ⟨-, r, g, m, rp, tl, ne, h⟩ := Dev.MotrOnly.motrSync d0 d; rw [h]
@[simp] theorem Dev.motrSync_hub (d0 d : Dev) : (Dev.motrSync d0 d).hub = d.hub := by
  obtain ⟨-, r, g, m, rp, tl, ne, h⟩ := Dev.MotrOnly.motrSync d0 d; rw [h]
@[simp] theorem Dev.motrSync_iso (d0 d : Dev) : (Dev.motrSync d0 d).iso = d.iso := by
  obtain ⟨-, r, g, m, rp, tl, ne, h⟩ := Dev.MotrOnly.motrSync d0 d; rw [h]
@[simp] theorem Dev.motrSync_le (d0 d : Dev) : (Dev.motrSync d0 d).le = d.le := by
  obtain ⟨-, r, g, m, rp, tl, ne, h⟩ := Dev.MotrOnly.motrSync d0 d; rw [h]
@[simp] theorem Dev.motrSync_applied (d0 d : Dev) : (Dev.motrSync d0 d).applied = d.applied := by
  obtain ⟨-, r, g, m, rp, tl, ne, h⟩ := Dev.MotrOnly.motrSync d0 d; rw [h]
@[simp] theorem Dev.motrSync_cmdIn (d0 d : Dev) : (Dev.motrSync d0 d).cmdIn = d.cmdIn := by
  obtain ⟨-, r, g, m, rp, tl, ne, h⟩ := Dev.MotrOnly.motrSync d0 d; rw [h]
@[simp] theorem Dev.motrSync_isoRuns (d0 d : Dev) : (Dev.motrSync d0 d).isoRuns = d.isoRuns := by
  obtain ⟨-, r, g, m, rp, tl, ne, h⟩ := Dev.MotrOnly.motrSync d0 d; rw [h]
@[simp] theorem Dev.motrSync_an (d0 d : Dev) : (Dev.motrSync d0 d).an = d.an := by
  obtain ⟨-, r, g, m, rp, tl, ne, h⟩ := Dev.MotrOnly.motrSync d0 d; rw [h]
@[simp] theorem Dev.motrSync_anTrig (d0 d : Dev) : (Dev.motrSync d0 d).anTrig = d.anTrig := by
  obtain ⟨-, r, g, m, rp, tl, ne, h⟩ := Dev.MotrOnly.motrSync d0 d; rw [h]
@[simp] theorem Dev.motrSync_sf (d0 d : Dev) : (Dev.motrSync d0 d).sf = d.sf := by
  obtain ⟨-, r, g, m, rp, tl, ne, h⟩ := Dev.MotrOnly.motrSync d0 d; rw [h]
@[simp] theorem Dev.motrSync_stores (d0 d : Dev) : (Dev.motrSync d0 d).stores = d.stores := by
  obtain ⟨-, r, g, m, rp, tl, ne, h⟩ := Dev.MotrOnly.motrSync d0 d; rw [h]
@[simp] theorem Dev.motrSync_cellTick (d0 d : Dev) : (Dev.motrSync d0 d).cellTick = d.cellTick := by
  obtain ⟨-, r, g, m, rp, tl, ne, h⟩ := Dev.MotrOnly.motrSync d0 d; rw [h]
@[simp] theorem Dev.motrSync_cellReq (d0 d : Dev) : (Dev.motrSync d0 d).cellReq = d.cellReq := by
  obtain ⟨-, r, g, m, rp, tl, ne, h⟩ := Dev.MotrOnly.motrSync d0 d; rw [h]
@[simp] theorem Dev.motrSync_clk (d0 d : Dev) : (Dev.motrSync d0 d).clk = d.clk := by
  obtain ⟨-, r, g, m, rp, tl, ne, h⟩ := Dev.MotrOnly.motrSync d0 d; rw [h]
@[simp] theorem Dev.motrSync_soc (d0 d : Dev) : (Dev.motrSync d0 d).soc = d.soc := by
  obtain ⟨-, r, g, m, rp, tl, ne, h⟩ := Dev.MotrOnly.motrSync d0 d; rw [h]
@[simp] theorem Dev.motrSync_sent (d0 d : Dev) : (Dev.motrSync d0 d).sent = d.sent := by
  obtain ⟨-, r, g, m, rp, tl, ne, h⟩ := Dev.MotrOnly.motrSync d0 d; rw [h]
@[simp] theorem Dev.motrSync_causes (d0 d : Dev) : (Dev.motrSync d0 d).causes = d.causes := by
  obtain ⟨-, r, g, m, rp, tl, ne, h⟩ := Dev.MotrOnly.motrSync d0 d; rw [h]
@[simp] theorem Dev.motrSync_sq (d0 d : Dev) : (Dev.motrSync d0 d).sq = d.sq := by
  obtain ⟨-, r, g, m, rp, tl, ne, h⟩ := Dev.MotrOnly.motrSync d0 d; rw [h]
@[simp] theorem Dev.motrSync_gridAt (d0 d : Dev) : (Dev.motrSync d0 d).gridAt = d.gridAt := by
  obtain ⟨-, r, g, m, rp, tl, ne, h⟩ := Dev.MotrOnly.motrSync d0 d; rw [h]

end Sys2Proof.Machine
end

