-- ==== Sys2Proof/Laws/Flags.lean ====
section
/-! SUPPORT. What raising an error or an interrupt does (`Dev.err`, `Dev.irq`): the bit is set on a live page, and no field
but ERRSTAT, FIRST and IRQFLG of that page changes. -/

namespace Sys2Proof.Machine

theorem bitAt_testBit (v n : Nat) : bitAt v n = v.testBit n := by
  rw [bitAt, Nat.shiftRight_eq_div_pow, ← Nat.toNat_testBit]
  cases v.testBit n <;> rfl

/-- A bit that is set inside the field's width reads as set. -/
theorem Dev.bit_setBit_true (d : Dev) (pg : Nat) (F : Fld) {n : Nat} (h : n < F.wid) :
    (d.setBit pg F n true).bit pg F n = true := by
  simp only [Dev.bit, Dev.setBit, if_true, Dev.get_set_same, bitAt_testBit, Nat.testBit_mod_two_pow, Nat.testBit_or]
  simp [h, Nat.testBit_shiftLeft]

theorem Dev.get_setBit_ne (d : Dev) {pg pg' : Nat} {F G : Fld} (n : Nat) (b : Bool) (h : F.key pg ≠ G.key pg') :
    (d.setBit pg' G n b).get pg F = d.get pg F := d.get_set_ne _ h

/-- `d'` differs from `d` in registers of a page and in the reports, and in nothing else. -/
def Dev.PageOnly (pg : Nat) (d d' : Dev) : Prop :=
  (∀ pg' (F : Fld), F.ok → pg' ≠ pg → d'.get pg' F = d.get pg' F) ∧
  ∃ r rp tl ne, d' = { d with regs := r, reports := rp, told := tl, meets := ne }

theorem Dev.PageOnly.refl (pg : Nat) (d : Dev) : Dev.PageOnly pg d d := ⟨fun _ _ _ _ => rfl, d.regs, d.reports, d.told, d.meets, rfl⟩

theorem Dev.PageOnly.trans {pg : Nat} {a b c : Dev} (h : Dev.PageOnly pg a b) (h' : Dev.PageOnly pg b c) : Dev.PageOnly pg a c := by
  obtain ⟨h1, r, rp, tl, ne, rfl⟩ := h
  obtain ⟨h2, r', rp', tl', ne', rfl⟩ := h'
  exact ⟨fun pg F hF hp => (h2 pg F hF hp).trans (h1 pg F hF hp), r', rp', tl', ne', rfl⟩

theorem Dev.PageOnly.set (d : Dev) (pg : Nat) {F : Fld} (hF : F.ok) (v : Nat) : Dev.PageOnly pg d (d.set pg F v) :=
  ⟨fun _ _ hG hp => d.get_set_page v hG hF hp, _, d.reports, d.told, d.meets, rfl⟩

theorem Dev.PageOnly.report (d : Dev) (p pg b : Nat) : Dev.PageOnly p d (d.report pg b) := by
  unfold Dev.report
  by_cases h : d.told.contains (pg, b)
  · rw [if_pos h]; exact .refl p d
  · rw [if_neg h]; exact ⟨fun _ _ _ _ => rfl, _, _, _, _, rfl⟩

theorem Dev.PageOnly.fresh (pg : Nat) (d : Dev) (ne : Meets) : Dev.PageOnly pg d { d with meets := ne } :=
  ⟨fun _ _ _ _ => rfl, d.regs, d.reports, d.told, ne, rfl⟩

theorem Dev.PageOnly.errSet (d : Dev) (pg b : Nat) : Dev.PageOnly pg d (d.errSet pg b) := by
  unfold Dev.errSet; split
  · exact .refl pg d
  · dsimp only [Dev.setBit]
    generalize d.firstAfter pg b = v
    exact ((Dev.PageOnly.set d pg HDR.ERRSTAT_ok (d.get pg HDR.ERRSTAT ||| 1 <<< b)).trans (.set _ pg HDR.FIRST_ok v)).trans
      (.fresh _ _ _)

theorem Dev.PageOnly.meet (pg : Nat) (d : Dev) (f : Meets → Meets) : Dev.PageOnly pg d (d.meet f) := .fresh pg d _

theorem Dev.PageOnly.err (d : Dev) (pg b : Nat) : Dev.PageOnly pg d (d.err pg b) := by
  unfold Dev.err; split
  · exact .refl pg d
  · exact (Dev.PageOnly.errSet d pg b).trans (.report _ _ _ _)

theorem Dev.PageOnly.errIf (d : Dev) (c : Bool) (pg b : Nat) : Dev.PageOnly pg d (d.errIf c pg b) := by
  unfold Dev.errIf; split
  · exact .err d pg b
  · exact .refl pg d

theorem Dev.PageOnly.irq (d : Dev) (pg b : Nat) : Dev.PageOnly pg d (d.irq pg b) := by
  unfold Dev.irq; split
  · exact .refl pg d
  · exact (Dev.PageOnly.set d pg HDR.IRQFLG_ok _).trans (.meet _ _ _)

theorem Dev.PageOnly.irqIf (d : Dev) (c : Bool) (pg b : Nat) : Dev.PageOnly pg d (d.irqIf c pg b) := by
  unfold Dev.irqIf; split
  · exact .irq d pg b
  · exact .refl pg d

@[simp] theorem Dev.report_get (d : Dev) (pg b p : Nat) (F : Fld) : (d.report pg b).get p F = d.get p F := by
  unfold Dev.report; split <;> rfl

theorem Dev.errSet_get (d : Dev) (pg b p : Nat) {F : Fld} (hF : F.ok) (h : p ≠ pg ∨ (F.off ≠ 0x020 ∧ F.off ≠ 0x028)) :
    (d.errSet pg b).get p F = d.get p F := by
  have h1 : F.key p ≠ HDR.FIRST.key pg := key_ne hF HDR.FIRST_ok (h.imp id fun x => .inl x.2)
  have h2 : F.key p ≠ HDR.ERRSTAT.key pg := key_ne hF HDR.ERRSTAT_ok (h.imp id fun x => .inl x.1)
  unfold Dev.errSet; split
  · rfl
  · exact (Dev.get_set_ne _ _ h1).trans (Dev.get_setBit_ne _ _ _ h2)

/-- An error changes no field of its page but ERRSTAT and FIRST. -/
theorem Dev.err_get (d : Dev) (pg b p : Nat) {F : Fld} (hF : F.ok) (h : p ≠ pg ∨ (F.off ≠ 0x020 ∧ F.off ≠ 0x028)) :
    (d.err pg b).get p F = d.get p F := by
  unfold Dev.err; split
  · rfl
  · rw [Dev.report_get, Dev.errSet_get d pg b p hF h]

/-- An interrupt changes no field of its page but IRQFLG. -/
theorem Dev.irq_get (d : Dev) (pg b p : Nat) {F : Fld} (hF : F.ok) (h : p ≠ pg ∨ F.off ≠ 0x01C) :
    (d.irq pg b).get p F = d.get p F := by
  unfold Dev.irq; split
  · rfl
  · exact Dev.get_setBit_ne _ _ _ (key_ne hF HDR.IRQFLG_ok (h.imp id .inl))

theorem Dev.errSet_bit (d : Dev) (pg : Nat) {b : Nat} (hb : b < 32) : (d.errSet pg b).bit pg HDR.ERRSTAT b = true := by
  unfold Dev.errSet; split
  · assumption
  · exact (congrArg (bitAt · b) (Dev.get_set_ne _ _ (key_ne HDR.ERRSTAT_ok HDR.FIRST_ok (.inr (.inl (by decide)))))).trans
      (d.bit_setBit_true pg HDR.ERRSTAT hb)

/-- On a live page the error's bit reads as set (R104). -/
theorem Dev.err_bit (d : Dev) (pg : Nat) {b : Nat} (hb : b < 32) (ha : d.absent pg = false) (hi : d.inBlk.contains pg = false) :
    (d.err pg b).bit pg HDR.ERRSTAT b = true := by
  unfold Dev.err
  rw [hi, ha]
  simp only [Bool.or_self, Bool.false_eq_true, if_false, Dev.bit, Dev.report_get]
  exact d.errSet_bit pg hb

/-- On a live page the interrupt's bit reads as set. -/
theorem Dev.irq_bit (d : Dev) (pg : Nat) {b : Nat} (hb : b < 32) (ha : d.absent pg = false) (hi : d.inBlk.contains pg = false) :
    (d.irq pg b).bit pg HDR.IRQFLG b = true := by
  unfold Dev.irq
  rw [hi, ha]
  exact d.bit_setBit_true pg HDR.IRQFLG hb

/-- A saturating counter after one more count. -/
theorem Dev.get_inc_same (d : Dev) (pg : Nat) (F : Fld) :
    (d.inc pg F).get pg F = min (d.get pg F + 1) (2 ^ F.wid - 1) :=
  (Dev.get_set_same ..).trans (Nat.mod_eq_of_lt (Nat.lt_of_le_of_lt (Nat.min_le_right ..)
    (Nat.sub_lt (Nat.two_pow_pos _) Nat.one_pos)))

theorem Dev.get_inc_ne (d : Dev) {pg pg' : Nat} {F G : Fld} (h : F.key pg ≠ G.key pg') :
    (d.inc pg' G).get pg F = d.get pg F := d.get_set_ne _ h

end Sys2Proof.Machine
end

