-- ==== Sys2Proof/Laws/Memory.lean ====
section
/-! SUPPORT. The memories keep their canonical form under every operation, and read after write. -/

namespace Sys2Proof.Machine

/-! ### One memory -/

/-- Addresses rise, and the first one is above a bound. -/
def Memory.above (lo : Nat) : Memory → Prop
  | [] => True
  | (k, _) :: t => lo < k ∧ Memory.above k t

theorem Memory.sorted_cons (k : Nat) (b : Byte) (t : Memory) :
    Memory.sorted ((k, b) :: t) = true ↔ Memory.above k t := by
  induction t generalizing k b with
  | nil => simp [Memory.sorted, Memory.above]
  | cons p t ih =>
    obtain ⟨a, c⟩ := p
    simp [Memory.sorted, Memory.above, ih a c]

theorem Memory.above_put (m : Memory) {lo a : Nat} (b : Byte) (h : Memory.above lo m) (ha : lo < a) :
    Memory.above lo (memPut m a b) := by
  induction m generalizing lo with
  | nil => simp [memPut, Memory.above, ha]
  | cons p t ih =>
    obtain ⟨k, c⟩ := p
    obtain ⟨h1, h2⟩ := h
    unfold memPut
    split
    · exact ⟨h1, ih h2 ‹_›⟩
    · split
      · subst k; exact ⟨h1, h2⟩
      · exact ⟨ha, by omega, h2⟩

theorem Memory.sorted_put (m : Memory) (a : Nat) (b : Byte) (h : Memory.sorted m = true) :
    Memory.sorted (memPut m a b) = true := by
  cases m with
  | nil => rfl
  | cons p t =>
    obtain ⟨k, c⟩ := p
    rw [Memory.sorted_cons] at h
    unfold memPut
    split
    · exact (Memory.sorted_cons ..).2 (Memory.above_put t b h ‹_›)
    · split
      · subst k; exact (Memory.sorted_cons ..).2 h
      · exact (Memory.sorted_cons ..).2 ⟨by omega, h⟩

theorem Memory.sorted_puts (m : Memory) (a : Nat) (bs : List Byte) (h : Memory.sorted m = true) :
    Memory.sorted (memPuts m a bs) = true := by
  induction bs generalizing m a with
  | nil => exact h
  | cons b bs ih => exact ih _ _ (Memory.sorted_put m a b h)

/-- A written byte is listed. -/
@[simp] theorem memLook_put_same (m : Memory) (a : Nat) (b : Byte) : memLook (memPut m a b) a = some b := by
  induction m with
  | nil => simp [memPut, memLook]
  | cons p t ih =>
    obtain ⟨k, c⟩ := p
    unfold memPut
    split
    · simp [memLook, ih, Nat.ne_of_lt ‹k < a›, Nat.not_lt_of_lt ‹k < a›]
    · split <;> simp [memLook]

/-- A write leaves every other address alone. -/
theorem memLook_put_ne (m : Memory) {a x : Nat} (b : Byte) (h : x ≠ a) : memLook (memPut m a b) x = memLook m x := by
  induction m with
  | nil =>
    simp only [memPut, memLook, Ne.symm h, if_false]
    split <;> rfl
  | cons p t ih =>
    obtain ⟨k, c⟩ := p
    unfold memPut
    split
    · simp [memLook, ih]
    · split
      · subst k; simp [memLook, Ne.symm h]
      · simp only [memLook, Ne.symm h, if_false]
        split
        · rw [if_neg (by omega), if_pos (by omega)]
        · rfl

theorem memLook_puts_ne (m : Memory) {a x : Nat} (bs : List Byte) (h : x < a ∨ a + bs.length ≤ x) :
    memLook (memPuts m a bs) x = memLook m x := by
  induction bs generalizing m a with
  | nil => rfl
  | cons b bs ih =>
    simp only [List.length_cons] at h
    rw [memPuts, ih _ (by omega), memLook_put_ne _ _ (by omega)]

theorem memLook_puts_same (m : Memory) (a i : Nat) (bs : List Byte) (h : i < bs.length) :
    memLook (memPuts m a bs) (a + i) = some bs[i] := by
  induction bs generalizing m a i with
  | nil => simp at h
  | cons b bs ih =>
    cases i with
    | zero =>
      rw [memPuts, memLook_puts_ne _ _ (by omega)]
      simp
    | succ i =>
      have := ih (memPut m a b) (a + 1) i (by simpa using h)
      rw [memPuts, show a + (i + 1) = a + 1 + i by omega, this]
      simp

/-! ### The memories of the device -/

theorem Memory.wf_upd (m : Mems) (id : MemId) (f : Memory → Memory) (hf : ∀ x, Memory.sorted x = true → Memory.sorted (f x) = true)
    (h : Memory.wf m = true) : Memory.wf (m.upd id f) = true := by
  simp only [Memory.wf, Bool.and_eq_true] at h ⊢
  obtain ⟨⟨⟨h0, h1⟩, h2⟩, h3⟩ := h
  cases id <;> simp only [Mems.upd] <;> refine ⟨⟨⟨?_, ?_⟩, ?_⟩, ?_⟩ <;> first | assumption | exact hf _ ‹_›

theorem Memory.wf_put (m : Mems) (id : MemId) (a : Nat) (bs : List Byte) (h : Memory.wf m = true) :
    Memory.wf (m.put id a bs) = true :=
  Memory.wf_upd m id _ (fun x hx => Memory.sorted_puts x a bs hx) h

theorem Memory.wf_wipe (m : Mems) (w : Option Bool) (h : Memory.wf m = true) : Memory.wf (m.wipe w) = true := by
  match w with
  | none => exact h
  | some true => rfl
  | some false =>
    simp only [Memory.wf, Bool.and_eq_true] at h
    simp [Mems.wipe, Mems.loseDram, Memory.wf, Memory.sorted, h.1.1.1, h.1.1.2, h.1.2]

theorem Memory.wf_stores (l : List (MemId × Nat × List Byte)) (m : Mems) (h : Memory.wf m = true) :
    Memory.wf (l.foldl (fun m x => m.put x.1 x.2.1 x.2.2) m) = true := by
  induction l generalizing m with
  | nil => exact h
  | cons x l ih => exact ih _ (Memory.wf_put m _ _ _ h)

/-! ### The end of a command -/

/-- The end of a command keeps the canonical form, and leaves nothing to store. -/
theorem State.flush_wf (s : State) (h : Memory.wf s.mems = true) : Memory.wf s.flush.mems = true :=
  Memory.wf_stores _ _ (Memory.wf_wipe _ _ h)
@[simp] theorem State.flush_stores (s : State) : s.flush.stores = [] := rfl
@[simp] theorem State.flush_wipe (s : State) : s.flush.soc.wipe = none := rfl
@[simp] theorem State.flush_pending (s : State) : s.flush.pending = s.pending := rfl

/-- With nothing stored and nothing wiped, the end of a command leaves the memories alone. -/
theorem State.flush_mems (s : State) (h : s.stores = []) (hw : s.soc.wipe = none) : s.flush.mems = s.mems := by
  simp [State.flush, h, hw, Mems.wipe]

end Sys2Proof.Machine
end

