-- ==== Sys2Proof/Laws/Run.lean ====
section
/-! SUPPORT. What the frame of every meaning does around the command's own effect (`State.does` and its kin): on a running
device the effect, then MOTR's following, then the bytes stored; and a write of software on a page that takes it. -/

namespace Sys2Proof.Machine

/-- Registers outside MOTR's page read after a command as the command's own effect leaves them. -/
theorem State.does_get (s : State) (f : Dev → Dev) (h : s.phase = .running) :
    ∃ t, s.does f = .next t ∧ (∀ pg (F : Fld), F.ok → pg ≠ pMOTR → t.get pg F = (f s.toDev).get pg F) ∧
      (∀ pg (F : Fld), t.inForce pg F = (f s.toDev).inForce pg F) := by
  refine ⟨_, rfl, fun pg F hF hp => ?_, fun pg F => ?_⟩
  · simp only [State.run, State.flush_get, Dev.acting, h, if_true]
    exact Dev.motrSync_get _ _ hF hp
  · simp only [State.run, State.flush_inForce, Dev.acting, h, if_true, Dev.motrSync_inForce]

/-- A command on a device in reset changes nothing. -/
theorem State.does_held (s : State) (f : Dev → Dev) (h : s.phase ≠ .running) : s.does f = .next s.flush := by
  simp [State.does, State.run, Dev.acting, h]

theorem State.does_pending (s t : State) (f : Dev → Dev) (h : s.does f = .next t) : t.pending = s.pending := by
  cases h; rfl
theorem State.doesM_pending (s t : State) (f : Mems → Dev → Dev) (h : s.doesM f = .next t) : t.pending = s.pending := by
  cases h; rfl
theorem State.always_pending (s t : State) (f : Dev → Dev) (h : s.always f = .next t) : t.pending = s.pending := by
  cases h; rfl

/-- On a page that takes writes, a write of a block register reaches the block's own rule; only the answer of the bus, a
waiting unlock key and the note of the write for this tick change besides (EPOCH of VANE, which only management writes, apart). -/
theorem Dev.pageWrite_block (d : Dev) (mg : Option Nat) (pg off v : Nat) (hd : d.deaf pg = false) (hl : d.locked pg = false)
    (ho : off = 0x010 ∨ 0x040 ≤ off) (hv : pg ≠ pVANE ∨ off ≠ 0x040) :
    ∃ u, d.pageWrite mg pg off v = (Dev.blockWrite { d with reply := none, unlock := u } mg pg off v).noteSoft pg off v := by
  have habs : d.absent pg = false ∧ d.inBlk.contains pg = false := by
    simp only [Dev.deaf, Bool.or_eq_false_iff] at hd; exact hd.1
  have key : ∀ u, ∃ u', Dev.guard { d with reply := none, unlock := u } pg off v
      (fun d v => (d.blockWrite mg pg off v).noteSoft pg off v) =
        (Dev.blockWrite { d with reply := none, unlock := u' } mg pg off v).noteSoft pg off v := by
    intro u
    have ha : Dev.absent { d with reply := none, unlock := u } pg = false := habs.1
    have hi : ({ d with reply := none, unlock := u } : Dev).inBlk.contains pg = false := habs.2
    have hl0 : ∀ u', Dev.locked { d with reply := none, unlock := u' } pg = false := fun _ => hl
    unfold Dev.guard Dev.dropKey
    rw [ha, hi]
    by_cases hu : u.contains pg = true
    · refine ⟨u.filter (· != pg), ?_⟩
      simp only [hu, if_true, hl0, Dev.errIf, Bool.or_self, Bool.false_eq_true, if_false]
    · refine ⟨u, ?_⟩
      simp only [hu, hl0, Bool.or_self, Bool.false_eq_true, if_false]
  unfold Dev.pageWrite
  have hd' : Dev.deaf { d with reply := none } pg = false := hd
  have hn : off ≠ 0x00C ∧ off ≠ 0x024 ∧ off ≠ 0x02C ∧ off ≠ 0x01C ∧ off ≠ 0x020 ∧ off ≠ 0x018 ∧ 
      ¬ ((off < 0x040 ∧ off ≠ 0x010) ∨ (pg = pVANE ∧ off = 0x040 ∧ mg.isNone = true)) := by
    omega
  obtain ⟨h1, h2, h3, h4, h5, h6, h7⟩ := hn
  simp only [hd', Bool.false_eq_true, if_false, h1, h2, h3, h4, h5, h6, h7]
  unfold Dev.tstkKey
  split
  · exact key _
  · exact key _

end Sys2Proof.Machine
end

