-- ==== Sys2Proof/Laws/Frames.lean ====
section
/-! SUPPORT. How frames are put together: what keeps the registers of every page but those listed composes, a write of a
listed page keeps them, and MOTR has nothing to do where the hold-off, GDEN and the latches of bridge 1 are as before. -/

namespace Sys2Proof.Machine

theorem Dev.KeepsRegs.refl (d : Dev) (l : List Nat) : d.KeepsRegs d l := fun _ _ _ _ => ⟨rfl, rfl⟩

theorem Dev.KeepsRegs.trans {a b c : Dev} {l : List Nat} (h : a.KeepsRegs b l) (h' : b.KeepsRegs c l) : a.KeepsRegs c l :=
  fun pg F hF hp => ⟨(h' pg F hF hp).1.trans (h pg F hF hp).1, (h' pg F hF hp).2.trans (h pg F hF hp).2⟩

theorem Dev.KeepsRegs.mono {a b : Dev} {l l' : List Nat} (h : a.KeepsRegs b l) (hl : ∀ p ∈ l, p ∈ l') : a.KeepsRegs b l' :=
  fun pg F hF hp => h pg F hF fun hm => hp (hl pg hm)

theorem Dev.KeepsRegs.set (d : Dev) {pg : Nat} {F : Fld} {l : List Nat} (hF : F.ok) (v : Nat) (hp : pg ∈ l) :
    d.KeepsRegs (d.set pg F v) l :=
  fun _ _ hG hq => ⟨d.get_set_page v hG hF fun e => hq (e ▸ hp), d.inForce_set ..⟩

theorem Dev.KeepsRegs.setForce (d : Dev) {pg : Nat} {F : Fld} {l : List Nat} (hF : F.ok) (v : Nat) (hp : pg ∈ l) :
    d.KeepsRegs (d.setForce pg F v) l :=
  fun _ _ hG hq => ⟨d.get_setForce .., d.inForce_setForce_ne v (key_ne hG hF (.inl fun e => hq (e ▸ hp)))⟩

/-- Raising an error or an interrupt of a listed page. -/
theorem Dev.PageOnly.keeps {a b : Dev} {pg : Nat} {l : List Nat} (h : Dev.PageOnly pg a b) (hp : pg ∈ l) : a.KeepsRegs b l := by
  obtain ⟨h1, r, rp, tl, ne, rfl⟩ := h
  exact fun q F hF hq => ⟨h1 q F hF fun e => hq (e ▸ hp), rfl⟩

theorem Dev.KeepsRegs.foldl {α : Type} {l : List Nat} (f : Dev → α → Dev) (hf : ∀ (d : Dev) (a : α), d.KeepsRegs (f d a) l) (xs : List α)
    (d : Dev) : d.KeepsRegs (xs.foldl f d) l := by
  induction xs generalizing d with
  | nil => exact .refl d l
  | cons x t ih => exact (hf d x).trans (ih (f d x))

/-- Where MOTR is settled and no new latch of bridge 1 has come, it has nothing to follow (R414). -/
theorem Dev.motrSync_settled (d0 d : Dev) (h : d.MotrSettled) (hb : d0.bridge1New d = false) :
    Dev.motrSync d0 d = d := by
  unfold Dev.motrSync
  by_cases hc : d.isCell = true
  · simp [hc]
  · by_cases he : d.on pMOTR MOTR.CTRL_EN = true
    · have hs := h (by simpa using hc) he
      generalize hh : (d.holdOff || !d.on pGCH GCH.GDSTAT_GDEN) = b at hs
      simp only [hc, he, hb, hh, hs, Bool.not_true, Bool.or_self, Bool.false_eq_true, if_false, Bool.and_not_self,
        Bool.not_and_self]
    · simp [he]

end Sys2Proof.Machine
end

