-- ==== Sys2Proof/Tests/Wit.lean ====
section
/-! SUPPORT. Small states for the tests and for the witnesses of the statements. -/

namespace Sys2Proof.Machine

/-- A state with register fields given: page, field, value. -/
def State.having (s : State) (l : List (Nat × Fld × Nat)) : State :=
  { s with toDev := l.foldl (fun d x => d.set x.1 x.2.1 x.2.2) s.toDev }

/-- A state with the device behind its registers changed. -/
def State.but (s : State) (f : Dev → Dev) : State := { s with toDev := f s.toDev }

/-- A meaning answers a next state in which `p` holds. -/
def answer (f : State → Host.Outcome State Fault Refusal) (s : State) (p : State → Bool) : Bool :=
  match f s with
  | .next t => p t
  | _ => false

/-- A cell node after reset. -/
def cellS : State := State.reset

/-- A hub after reset, as far as the witnesses need it: the strap, and the LINK pages enabled. -/
def hubS : State := State.reset.having [(pSYSC, SYSC.STRAP_ROLE, 1)]

/-- A hub with Ethernet port 0 up: rings at the start of shared SRAM, the first buffer at offset 0x1000. -/
def ethS : State :=
  let s := hubS.having [(pSYNB, SYN.LOCKSTAT_GATED, 0), (pETH 0, ETH.PCSCFG_LINKUP, 1), (pETH 0, ETH.MACCTL_RXEN, 1),
    (pETH 0, ETH.MACCTL_TXEN, 1), (pETH 0, ETH.MACCTL_PROMISC, 1), (pETH 0, ETH.RXCFG_EN, 1), (pETH 0, ETH.TXCFG_EN, 1),
    (pETH 0, ETH.RXCFG_K, 2), (pETH 0, ETH.TXCFG_K, 2), (pETH 0, ETH.RXTAIL, 1), (pETH 0, ETH.TXTAIL, 1),
    (pETH 0, ETH.RXRING, 0x2000000), (pETH 0, ETH.TXRING, 0x2000000)]
  { s with mems := s.mems.put .sram 0 [0, 0x10, 0, 0x20, 60, 0, 0, 0] }

/-- A cell with both strand ports aligned, on SYNA. -/
def linkS : State := cellS.having [(pCKSW, CKSW.CKSTAT_SRC, 0), (pLINK 0, LINK.STAT_STATE, 2), (pLINK 1, LINK.STAT_STATE, 2)]

/-- A hub with port 7 aligned, on SYNA. -/
def hlinkS : State :=
  hubS.having [(pCKSW, CKSW.CKSTAT_SRC, 0), (pLINK 7, LINK.STAT_STATE, 2), (pLINK 7, LINK.PCFG_EN, 1), (pLINK 7, LINK.PCFG_TXON, 1)]

/-- A cell on SYNA without the gate hold-off. -/
def pwmS : State := linkS.having [(pPWMC, PWMC.HOLDSTAT_ACTIVE, 0), (pPWMC, PWMC.HOLDSTAT_CKSW, 0)]

/-- A hub whose motor may start: legs 3 to 5 bound and enabled, three Squall channels compare, no hold-off, GDEN high. -/
def motrS : State :=
  hubS.having ([(pPWMC, PWMC.HOLDSTAT_ACTIVE, 0), (pPWMC, PWMC.HOLDSTAT_CKSW, 0), (pGCH, GCH.GDSTAT_GDEN, 1),
    (pMOTR, MOTR.CTRL_EN, 1), (pMOTR, MOTR.CFG_SQA, 0), (pMOTR, MOTR.CFG_SQB, 1), (pMOTR, MOTR.CFG_SQC, 2),
    (pMOTR, MOTR.RATED, 500), (pMOTR, MOTR.RAMPF_FSTART, 10), (pMOTR, MOTR.RAMPF_FHAND, 100)] ++
    (List.range 3).map (fun k => (pPWMU (3 + k), PWMU.CTRL_EN, 1)) ++
    (List.range 3).map (fun k => (pPWMU (3 + k), PWMU.CFG_MODE, 1)) ++
    (List.range 6).map (fun k => (pGCH, GCH.CHCFG_SRC (6 + k), 6 + k)) ++
    (List.range 3).map fun q => (pSQL, SQL.SQCFG_FUNC q, 1))

end Sys2Proof.Machine
end

