-- ==== Sys2Proof/WellFormed.lean ====
section
/-! DEFINITION. Which commands can occur: their operands have the form that the row of the table of operations gives them.
Every check has a name. The meanings are total and need none of them; a command that fails one describes an event that no
sender or wire produces. -/

namespace Sys2Proof

/-- Why a command cannot occur. -/
inductive IllFormed where
  /-- the access is not of the size or alignment its row is for (R100) -/
  | accessForm
  /-- the address lies outside what the row is for (R110) -/
  | addressForm
  /-- a frame's payload is longer than any frame's (R177) -/
  | frameForm
  /-- a frame of another class or type than the row receives (R181) -/
  | frameClass
  /-- more octets, bytes or samples than the row's event can carry -/
  | tooLong
  /-- a number of conversion codes that no acquisition has -/
  | codeCount
  /-- a raw code outside the ranges of both kinds of input (R325) -/
  | codeRange
  deriving DecidableEq, Repr

/-- The bytes of an access. -/
def Size.bytes : Size → Nat
  | .byte => 1
  | .half => 2
  | .word => 4

/-- A payload has 0 to 512 bytes (R177); a frame that was cut off has fewer than its LEN says. -/
def Frame.wf (f : Frame) : Bool := decide (f.payload.length ≤ 512)

/-- The checks of a frame, and of a frame received as one of a class and a type (R181). -/
def Frame.checks (f : Frame) (cls : Option (Nat × Nat)) : List IllFormed :=
  (if f.wf then [] else [.frameForm]) ++
  (if cls.all (fun c => c.1 == f.cls.toNat && c.2 == f.typ.toNat) then [] else [.frameClass])

/-- A condition, or the name of the check that fails. -/
def need (b : Bool) (e : IllFormed) : List IllFormed := if b then [] else [e]

/-- The address of a register page or of a block memory window (R109, R111). -/
def inPages (a : Nat) : Bool := decide (0x40000000 ≤ a) && decide (a < 0x48040000)

/-- The raw codes of an acquisition: 1 to 256 of them (R330, R474), each in a code range of R325. -/
def codeChecks (codes : List Int) : List IllFormed :=
  need (decide (1 ≤ codes.length) && decide (codes.length ≤ 256)) .codeCount ++
  need (codes.all fun c => decide (-32768 ≤ c) && decide (c ≤ 65535)) .codeRange

/-- The checks that a command fails. -/
def Instr.problems : Instr → List IllFormed
  | .subWordWrite _ a sz _ => need (sz != .word && a.toNat % sz.bytes == 0) .accessForm ++ need (inPages a.toNat) .addressForm
  | .misalignedAccess _ a sz _ => need (a.toNat % sz.bytes != 0) .accessForm ++ need (inPages a.toNat) .addressForm
  | .unmappedAccess _ a sz _ => need (a.toNat % sz.bytes == 0) .accessForm
  | .wideReadLatch _ a _ => need (a.toNat % 4 == 0) .accessForm ++ need (inPages a.toNat) .addressForm
  | .registerWrite _ a sz _ => need (sz == .word && a.toNat % 4 == 0) .accessForm ++ need (inPages a.toNat) .addressForm
  | .lcWrite _ off _ => need (off.toNat % 4 == 0) .accessForm
  | .ddrWindowAccess _ a sz _ _ => need (a.toNat % sz.bytes == 0) .accessForm
  | .uartBootBlock bs _ => need (decide (bs.length ≤ 1024)) .tooLong
  | .ethFrameRx _ bs _ _ => need (decide (bs.length ≤ 16384)) .tooLong
  | .portEnableWrite _ v => (v.2.map fun f => f.checks none).getD []
  | .invalidCodeGroup _ _ part => (part.map fun f => f.checks none).getD []
  | .rxClockLoss _ part => (part.map fun f => f.checks none).getD []
  | .sFrameRx _ f _ => f.checks (some (5, 0))
  | .cFrameRx _ f => f.checks (some (1, 0))
  | .tFrameRx _ f _ => f.checks (some (2, 0))
  | .bDataFrameRx _ f => f.checks (some (3, 0))
  | .creditFrameRx _ f => f.checks (some (3, 1))
  | .mRequestRx _ f => f.checks (some (4, 0))
  | .mResponseRx _ f => f.checks (some (4, 1))
  | .cutThroughFrame _ f => f.checks none
  | .enumPass _ as => need (decide (as.length ≤ 49)) .tooLong
  | .enumRepass _ as => need (decide (as.length ≤ 49)) .tooLong
  | .strandSuperframeEval hops => need (decide (hops.length ≤ 8) && hops.all fun h => decide (h.length ≤ 49)) .tooLong
  | .adcSlotResult _ codes => codeChecks codes
  | .adcUrgentResult _ codes => codeChecks codes
  | .thrmEval raws => need (decide (raws.length ≤ 8)) .codeCount
  | .calsPointDone codes => codeChecks codes
  | .qspiDone bs => need (decide (bs.length ≤ 256)) .tooLong
  | .i2cDone _ _ bs => need (decide (bs.length ≤ 256)) .tooLong
  | .spiDone bs => need (decide (bs.length ≤ 256)) .tooLong
  | _ => []

/-- A command that can occur. -/
def Instr.wf (i : Instr) : Bool := i.problems.isEmpty

end Sys2Proof
end

