-- ==== Sys2Proof/Tests/Slice0.lean ====
section
/-! SUPPORT. Tests: the state after reset, the spec's worked examples, one ill-formed command for each check, and a few
values read off the register tables. -/

namespace Sys2Proof.Machine

/-! ### Reset (R60) -/

/-- The stored reset state is the one that the straps latch from an empty device with every strap low (R42, R60). -/
theorem test_reset_is_strap_latch : State.reset.toDev = (Dev.fresh0.strapLatch 0 .failed .failed) := by decide +kernel

theorem test_reset_inv : State.reset.pending = [] ∧ Memory.wf State.reset.mems = true := by decide +kernel

/-! ### A leg short from detection to record (the example after R393) -/

/-- Cell 66 at C(k) + 9.056 µs: RCT32 written with 0x1970_6C00, and the leg's error reported by GCH. -/
def legShortS : State :=
  (cellS.having [(pFCOL, FCOL.RCT_UNC 32, 0x1B)]).but fun d =>
    { d with time := (1726000100 * 10 ^ 9 + 250009056) * 2 ^ 40, fcol := { d.fcol with seq := 0x137 } }.err pGCH GCH.E_LEG_SHORT

/-- The record is open, and OFF_FAIL is reported 1.8 µs later. -/
def offFailS : State :=
  (legShortS.but fun d => d.faultEvent 32).but fun d =>
    { d with time := (1726000100 * 10 ^ 9 + 250010856) * 2 ^ 40, ticks := d.ticks + 450 }.err pGCH GCH.E_OFF_FAIL

/-- The eight words of the first ring entry. -/
def State.entry0 (s : State) : List Nat := (List.range 8).map fun i => s.ringWord (4 * i)

/-- RCT32 as written asks for REC, IRQ, BYPASS and GUST of an uncorrected-contained error (R375, R378). -/
theorem test_rct : answer (execRctWrite 32 0x19706C00) cellS (fun t => t.get pFCOL (FCOL.RCT_UNC 32) = 0x1B) = true := by
  decide +kernel

theorem test_leg_short_record :
    answer (execFaultEvent 32) legShortS (fun t =>
      t.entry0 = [0xE2800000, 0x8, 0x0EE6D5E0, 0x66E0ABE4, 0, 0x137, 0, 0x1B] ∧ t.get pFCOL FCOL.FSTATHI = 1 ∧
      t.pins.cbyp = .high) = true := by decide +kernel

theorem test_off_fail_merges :
    answer (execFaultEvent 32) offFailS (fun t =>
      t.entry0 = [0xE2800000, 0x48, 0x0EE6D5E0, 0x66E0ABE4, 0, 0x10137, 0xEE6DCE80, 0x1B]) = true := by decide +kernel

/-- The write of 0x8000_0020 to ACK closes the record. -/
theorem test_ack :
    answer (execFcolAck false 32) (offFailS.but fun d => d.faultEvent 32) (fun t =>
      t.entry0.headD 0 = 0xA2800000 ∧ t.get pFCOL FCOL.FSTATHI = 0) = true := by decide +kernel

/-! ### Feature acceptance of LE2 (the example of R118) -/

theorem test_le2_offer :
    answer (execWideReadLatch .cpu0 0x40602008 .word) hubS (fun t => t.reply = some (some 1)) = true := by decide +kernel

theorem test_le2_accept :
    answer (execFeataccWrite .cpu0 0x602 0x80000001) hubS (fun t =>
      t.readWord (pLE 2) 0x00C = 0x80000001 ∧ t.readWord (pLE 2) 0x014 / 2 ^ 31 = 1) = true := by decide +kernel

/-- LE2 locked after its acceptance: step 3. -/
def le2S : State := (hubS.having [(pLE 2, ⟨0x00C, 31, 1, 0⟩, 1), (pLE 2, ⟨0x00C, 0, 1, 0⟩, 1)])

theorem test_le2_lock :
    answer (execLockKeyWrite .cpu0 0x602 0x5A5A) le2S (fun t => t.readWord (pLE 2) 0x02C = 0x80000000) = true := by
  decide +kernel

theorem test_le2_locked_refuses :
    answer (execFeataccWrite .cpu0 0x602 0x80000000) (le2S.but fun d => d.pageWrite none (pLE 2) 0x02C 0x5A5A) (fun t =>
      t.readWord (pLE 2) 0x00C = 0x80000001 ∧ t.readWord (pLE 2) 0x020 = 2 ^ HDR.E_LOCK_ERR) = true := by decide +kernel

/-! ### A two-point calibration (the example of R476) -/

/-- Points measured at 0 °C: 16 × 7,175.50 and 16 × 50,191.25; the factory entry has no slope of temperature. -/
def acompS : State :=
  (cellS.having [(pCALS, CALS.ATGT_S, 57344), (pCALS, CALS.ATGT_Z, 8192), (pCALS, CALS.ACFG_INPUT, 0)]).but fun d =>
    { d with calPt := [some (114808, 0), some (803060, 0)] }

theorem test_acomp_example :
    answer execCalsAcomp acompS (fun t => t.get pCALS (CALS.STG 0) = 0xA484D ∧ t.get pCALS (CALS.STG 1) = 0x63) = true := by
  decide +kernel

/-! ### One ill-formed command for each check -/

/-- A frame with a given number of payload bytes. -/
def frameOf (cls typ : BitVec 4) (n : Nat) : Frame :=
  { cls, typ, ver := 1, rsv := 0, src := 0x8000, dst := 0xFFFE, mid := 0, seq := 0, len := 0, hchk := 0,
    payload := List.replicate n 0, crc := 0, good := true }

theorem test_bad_size : (Instr.registerWrite .cpu0 0x40000010 .half 0).problems = [.accessForm] := by decide
theorem test_bad_address : (Instr.registerWrite .cpu0 0x50000010 .word 0).problems = [.addressForm] := by decide
theorem test_bad_frame : (Instr.cutThroughFrame 0 (frameOf 5 0 513)).problems = [.frameForm] := by decide +kernel
theorem test_bad_class : (Instr.cFrameRx 0 (frameOf 2 0 8)).problems = [.frameClass] := by decide +kernel
theorem test_too_long : (Instr.qspiDone (List.replicate 257 0)).problems = [.tooLong] := by decide +kernel
theorem test_no_code : (Instr.calsPointDone []).problems = [.codeCount] := by decide
theorem test_bad_code : (Instr.calsPointDone [65536]).problems = [.codeRange] := by decide
theorem test_good : (Instr.registerWrite .cpu0 0x40602010 .word 5).wf = true := by decide

end Sys2Proof.Machine
end

