-- ==== Sys2Proof/Tests/Witness.lean ====
section
/-! SUPPORT. States and operands that meet the hypotheses of the statements: one theorem for each statement that has
hypotheses (a long one in parts), one conjunct for each of its clauses, in the statement's order. -/

section
set_option Elab.async false
set_option linter.unusedVariables false
open Sys2Proof Sys2Proof.Machine

theorem wit_AbsentPagesReadZeroAndIgnoreWrites : (∃ (s : State) (who : Who) (addr : BitVec 32) (pg off : Nat),
    s.Ready ∧ s.onBus who = true ∧ addr.toNat = 0x40000000 + pg * 4096 + off ∧ off < 4096 ∧ off % 4 = 0 ∧ (pageKind
    pg).isSome = true ∧ s.gone pg = true) ∧ (∃ (s : State) (who : Who) (addr : BitVec 32) (v : Word) (pg off :
    Nat), s.Ready ∧ s.onBus who = true ∧ addr.toNat = 0x40000000 + pg * 4096 + off ∧ off < 4096 ∧ off % 4 = 0 ∧
    (pageKind pg).isSome = true ∧ s.gone pg = true) :=
  ⟨⟨cellS, .cpu0, 0x40710FFC, 0x710, 0xFFC, by decide +kernel⟩, ⟨cellS, .cpu0, 0x40710020, 5, 0x710, 0x20,
    by decide +kernel⟩⟩

theorem wit_TimeThroughResetsAndClocks_1 : (∃ (s : State) (ns : Nat), (s.phase = .running ∨ s.phase = .held) ∧ 1000
    ≤ ns) ∧ (∃ (s : State) (v : Word), s.Writable pSYSC ∧ v.toNat / 65536 = 0xD1E5 ∧ v.toNat % 2 = 1) ∧ (∃ (s :
    State), s.phase = .running ∧ s.soc.unlocked = true) ∧ (∃ (s : State) (straps : BitVec 6) (a b : Source),
    s.phase = .held ∧ s.time = 0 ∧ s.get pTIME TIME.STAT_VALID = 0 ∧ s.get pTIME TIME.STAT_HOLDOVER = 0) ∧ (∃ (s :
    State) (straps : BitVec 6) (a b : Source), s.phase = .interval ∧ s.time = 0 ∧ s.get pTIME TIME.STAT_VALID = 0 ∧
    s.get pTIME TIME.STAT_HOLDOVER = 0) ∧ (∃ (s : State), s.phase = .running ∧ s.onSyna = false) ∧ (∃ (s : State),
    s.phase = .running ∧ s.onSyna = true ∧ s.get pTIME TIME.CFG_MODE = s.timeMode) ∧ (∃ (s : State), s.Writable
    pCKSW ∧ s.onSyna = true) :=
  ⟨⟨cellS.having [(pTIME, TIME.STAT_VALID, 1)], 1000, by decide +kernel⟩, ⟨cellS.having [(pTIME, TIME.STAT_VALID,
    1)], 0xD1E50001, by decide +kernel⟩, ⟨cellS.but fun d => { d with soc := { d.soc with unlocked := true } },
    by decide +kernel⟩, ⟨cellS.but fun d => { d with phase := .held }, 0x3F, .failed, .image [1] true,
    by decide +kernel⟩, ⟨cellS.but fun d => { d with phase := .interval }, 0x11, .failed, .failed,
    by decide +kernel⟩, ⟨cellS, by decide +kernel⟩, ⟨cellS.having [(pCKSW, CKSW.CKSTAT_SRC, 0)],
    by decide +kernel⟩, ⟨cellS.having [(pCKSW, CKSW.CKSTAT_SRC, 0)], by decide +kernel⟩⟩

theorem wit_TimeThroughResetsAndClocks_2 : (∃ (s : State), s.Live pSYNA ∧ s.on pSYNA SYN.LOCKSTAT_GATED = false ∧
    s.onSyna = true) ∧ (∃ (s : State), s.Writable pCKSW ∧ s.onSyna = false ∧ s.on pSYNA SYN.LOCKSTAT_FINE_LOCK =
    true) ∧ (∃ (s : State), s.isCell = false ∧ s.Live pSYNB ∧ s.on pSYNB SYN.LOCKSTAT_GATED = false) :=
  ⟨⟨cellS.having [(pSYNA, SYN.LOCKSTAT_GATED, 0), (pCKSW, CKSW.CKSTAT_SRC, 0)], by decide +kernel⟩, ⟨cellS.having
    [(pSYNA, SYN.LOCKSTAT_FINE_LOCK, 1)], by decide +kernel⟩, ⟨hubS.having [(pSYNB, SYN.LOCKSTAT_GATED, 0)],
    by decide +kernel⟩⟩

theorem wit_PowerAndPinResetsAct : (∃ (s : State) (straps : BitVec 6) (a b : Source), s.phase = .interval) ∧ (∃ (s
    : State) (straps : BitVec 6) (a b : Source), s.phase = .interval) ∧ (∃ (s : State) (straps : BitVec 6) (a b :
    Source), s.phase = .held) ∧ (∃ (s : State) (r : Fin 6), s.phase = .running ∨ s.phase = .held) ∧ (∃ (s : State)
    (ns : Nat), (s.phase = .running ∨ s.phase = .held) ∧ 1000 ≤ ns) :=
  ⟨⟨cellS.but fun d => { d with phase := .interval }, 0x11, .failed, .failed, by decide +kernel⟩, ⟨cellS.but fun d
    => { d with phase := .interval }, 0x11, .failed, .failed, by decide +kernel⟩, ⟨cellS.but fun d =>
    { d with phase := .held }, 0x3F, .failed, .image [1] true, by decide +kernel⟩, ⟨cellS, 5, by decide +kernel⟩,
    ⟨cellS, 1000, by decide +kernel⟩⟩

theorem wit_SystemResetsAndReleasesAct_1 : (∃ (s : State) (v : Word), s.Writable pSYSC ∧ v.toNat / 65536 = 0xD1E5 ∧
    v.toNat % 2 = 1) ∧ (∃ (s : State) (v : Word), s.Writable pSYSC ∧ (v.toNat / 65536 ≠ 0xD1E5 ∨ v.toNat % 2 = 0))
    ∧ (∃ (s : State), s.phase = .running ∧ s.soc.unlocked = true) ∧ (∃ (s : State) (page : BitVec 16), s.Writable
    pSYSC ∧ (pageKind page.toNat).isSome = true ∧ page.toNat ≠ pSYSC ∧ page.toNat ≠ pFCOL ∧ page.toNat ≠ pTSTK ∧
    page.toNat ≠ pTIME ∧ s.absent page.toNat = false ∧ s.inBlk.contains page.toNat = false) ∧ (∃ (s : State) (page
    : BitVec 16), s.Writable pSYSC ∧ ((pageKind page.toNat).isNone = true ∨ page.toNat = pSYSC ∨ page.toNat = pFCOL
    ∨ page.toNat = pTSTK ∨ page.toNat = pTIME)) ∧ (∃ (s : State) (page : BitVec 16), s.phase = .running ∧
    s.inBlk.contains page.toNat = true ∧ (page.toNat ≠ pCALS ∨ s.calBusy = none)) ∧ (∃ (s : State) (run : Bool),
    s.Writable pSYSC) ∧ (∃ (s : State), s.Writable pSYSC) :=
  ⟨⟨cellS, 0xD1E50001, by decide +kernel⟩, ⟨cellS, 0xD1E50000, by decide +kernel⟩, ⟨cellS.but fun d =>
    { d with soc := { d.soc with unlocked := true } }, by decide +kernel⟩, ⟨cellS, 0x0500, by decide +kernel⟩,
    ⟨cellS, 0x0020, by decide +kernel⟩, ⟨cellS.but (fun d => { d with inBlk := [0x0723] }), 0x0723,
    by decide +kernel⟩, ⟨cellS, true, by decide +kernel⟩, ⟨cellS, by decide +kernel⟩⟩

theorem wit_SystemResetsAndReleasesAct_2 : (∃ (s : State), s.Writable pSYSC ∧ s.isCell = true ∧ s.stateBefore =
    s.get pSYSC SYSC.CELLSTATE_STATE ∧ (s.get pSYSC SYSC.CELLSTATE_STATE = 1 ∨ s.get pSYSC SYSC.CELLSTATE_STATE = 2
    ∨ s.get pSYSC SYSC.CELLSTATE_STATE = 3)) ∧ (∃ (s : State), s.Writable pSYSC) ∧ (∃ (s : State) (bytes : List
    Byte) (crc : BitVec 32), s.phase = .running ∧ s.soc.loading = true) ∧ (∃ (s : State) (ecc : Bool), s.phase =
    .running ∧ s.linkBoot = true ∧ s.soc.bootDma = true ∧ s.on pDMA (DMA.CHSTAT_BUSY 0) = false ∧ s.on pDMA
    (DMA.CHSTAT_ERR 0) = false) :=
  ⟨⟨cellS.having [(pSYSC, SYSC.CELLSTATE_STATE, 3)], by decide +kernel⟩, ⟨cellS.having [(pSYSC,
    SYSC.CELLSTATE_INVALID_CNT, 9)], by decide +kernel⟩, ⟨cellS.but (fun d =>
    { d with soc := { d.soc with loading := true } }), [1, 2], 0xB6CC4292, by decide +kernel⟩, ⟨(cellS.having
    [(pSYSC, SYSC.STRAP_BOOT, 1), (pSYSC, SYSC.BOOTSTAT_PHASE, 3)]).but (fun d =>
    { d with soc := { d.soc with bootDma := true } }), false, by decide +kernel⟩⟩

theorem wit_ClockSwitchActs_1 : (∃ (s : State), s.phase = .running ∧ s.get pSYSC SYSC.STRAP_INV = 0 ∧ (s.isCell =
    false ∨ s.get pSYSC SYSC.STRAP_REF ≠ 3) ∧ s.get pCKSW CKSW.CKSTAT_REFQ = 0) ∧ (∃ (s : State) (src : Fin 3),
    s.phase = .running) ∧ (∃ (s : State) (src : Fin 3), s.Live pSYNA ∧ s.synRef 0 = src.val ∧ (src.val = 0 ∨ s.get
    pSYNA SYN.LOCKSTAT_ACTREF = src.val) ∧ s.on pSYNA SYN.CFG_EN = true ∧ s.get pSYNA SYN.CFG_REFSEL ≠ 3 ∧
    s.clk.lost.getD 0 false = false) ∧ (∃ (s : State) (p : Fin 2), s.phase = .running ∧ s.on (pLINK p.val)
    LINK.PCFG_EN = true ∧ p.val + 1 < s.clk.refs.length) ∧ (∃ (s : State) (src : Fin 3), s.phase = .running ∧
    src.val < s.clk.refs.length) ∧ (∃ (s : State), s.Live pCKSW ∧ s.get pCKSW CKSW.CKSTAT_SRC = 1) ∧ (∃ (s :
    State), s.Writable pCKSW ∧ s.onSyna = true) ∧ (∃ (s : State), s.Writable pCKSW ∧ s.onSyna = false ∧ s.on pSYNA
    SYN.LOCKSTAT_FINE_LOCK = true) :=
  ⟨⟨cellS, by decide +kernel⟩, ⟨cellS, 0, by decide +kernel⟩, ⟨cellS, 0, by decide +kernel⟩, ⟨cellS.having [(pLINK
    1, LINK.PCFG_EN, 1)], 1, by decide +kernel⟩, ⟨cellS, 2, by decide +kernel⟩, ⟨cellS.having [(pCKSW,
    CKSW.CKSTAT_SRC, 1)], by decide +kernel⟩, ⟨cellS.having [(pCKSW, CKSW.CKSTAT_SRC, 0)], by decide +kernel⟩,
    ⟨cellS.having [(pSYNA, SYN.LOCKSTAT_FINE_LOCK, 1)], by decide +kernel⟩⟩

theorem wit_ClockSwitchActs_2 : (∃ (s : State), s.Writable pCKSW ∧ s.on pSYNA SYN.LOCKSTAT_FINE_LOCK = false) ∧ (∃
    (s : State), s.phase = .running ∧ s.onSyna = false ∧ s.on pCKSW CKSW.CKCTL_AUTORET = true ∧ s.on pSYNA
    SYN.LOCKSTAT_FINE_LOCK = true) ∧ (∃ (s : State) (bad : Bool), s.Live pCKSW ∧ s.on pSYNA SYN.LOCKSTAT_FINE_LOCK
    = true) ∧ (∃ (s : State), s.phase = .running) :=
  ⟨⟨cellS, by decide +kernel⟩, ⟨cellS.having [(pSYNA, SYN.LOCKSTAT_FINE_LOCK, 1), (pCKSW, CKSW.CKCTL_AUTORET, 1)],
    by decide +kernel⟩, ⟨cellS.having [(pSYNA, SYN.LOCKSTAT_FINE_LOCK, 1)], true, by decide +kernel⟩, ⟨cellS,
    by decide +kernel⟩⟩

theorem wit_SynthesizersAct_1 : (∃ (s : State) (n : Fin 2) (gate : BitVec 2) (code : BitVec 6), s.Writable (pSYN n)
    ∧ (s.on (pSYN n) SYN.CFG_EN = false ∨ s.get (pSYN n) SYN.LOCKSTAT_PHASE = 0) ∧ n.val < s.clk.band.length) ∧ (∃
    (s : State) (n : Fin 2) (k : Nat), s.phase = .running ∧ s.clk.band.getD n false = true ∧ (n.val = 0 → s.clk.rom
    = .idle)) ∧ (∃ (s : State) (k : Nat) (i : Fin 63), s.Live pSYNA ∧ s.Unwritten pSYNA (SYN.BANDTBL_FCTR i.val) ∧
    s.clk.band.getD 0 false = true ∧ s.clk.rom = .band i.val ∧ s.isHub = true ∧ (s.on pSYNA SYN.CFG_EN = false ∨
    s.get pSYNA SYN.LOCKSTAT_PHASE = 0)) ∧ (∃ (s : State) (n : Fin 2), s.Live (pSYN n) ∧ s.clk.band.getD n false =
    true) ∧ (∃ (s : State) (n : Fin 2), s.Writable (pSYN n) ∧ s.on (pSYN n) SYN.CFG_EN = true ∧ s.on pSYSC
    SYSC.STRAP_INV = false ∧ s.relockBad n.val = false) ∧ (∃ (s : State) (n : Fin 2), s.Live (pSYN n) ∧ (s.get
    (pSYN n) SYN.LOCKSTAT_PHASE = 2 ∨ s.get (pSYN n) SYN.LOCKSTAT_PHASE = 3)) ∧ (∃ (s : State) (n : Fin 2), s.Live
    (pSYN n) ∧ s.get (pSYN n) SYN.LOCKSTAT_PHASE = 4) ∧ (∃ (s : State) (n : Fin 2), s.Live (pSYN n) ∧ s.on (pSYN n)
    SYN.LOCKSTAT_GATED = false) :=
  ⟨⟨cellS, 0, 2, 63, by decide +kernel⟩, ⟨cellS.but (fun d => d.modClk fun c => { c with band := [true, true] }),
    1, 12345, by decide +kernel⟩, ⟨hubS.but (fun d => d.modClk fun c =>
    { c with band := [true, true], rom := .band 62 }), 800, 62, by decide +kernel⟩, ⟨cellS.but (fun d => d.modClk
    fun c => { c with band := [true, true] }), 0, by decide +kernel⟩, ⟨cellS, 0, by decide +kernel⟩, ⟨cellS.having
    [(pSYNA, SYN.LOCKSTAT_PHASE, 2)], 0, by decide +kernel⟩, ⟨cellS.having [(pSYNA, SYN.LOCKSTAT_PHASE, 4)], 0,
    by decide +kernel⟩, ⟨cellS.having [(pSYNA, SYN.LOCKSTAT_GATED, 0)], 0, by decide +kernel⟩⟩

theorem wit_SynthesizersAct_2 : (∃ (s : State) (n : Fin 2) (v : Word), s.Writable (pSYN n) ∧ s.cfgRefused n.val (if
    n.val = 1 then v.toNat - bitsOf v.toNat 1 2 * 2 else v.toNat) = false) ∧ (∃ (s : State) (n : Fin 2) (v : Word),
    s.Writable (pSYN n) ∧ 5 ≤ bitsOf v.toNat 8 3) ∧ (∃ (s : State) (n : Fin 2), s.Live (pSYN n) ∧ s.on (pSYN n)
    SYN.LOCKSTAT_FREQ_OK = true) :=
  ⟨⟨cellS, 0, 0x001, by decide +kernel⟩, ⟨cellS, 0, 0x700, by decide +kernel⟩, ⟨cellS.having [(pSYNA,
    SYN.LOCKSTAT_FREQ_OK, 1)], 0, by decide +kernel⟩⟩

theorem wit_TimeStepsAndSlewsAct_1 : (∃ (s : State) (v : Word), s.Writable pTIME ∧ s.timeMode = 0) ∧ (∃ (s : State)
    (v : Word), s.Writable pTIME ∧ s.timeMode ≠ 0) ∧ (∃ (s : State) (abs neg : Bool), s.Writable pTIME ∧ s.get
    pTIME TIME.STEPNS < 1000000000 ∧ s.timeMode = 0 ∧ s.gridUp = false ∧ s.onSyna = true) ∧ (∃ (s : State) (abs neg
    : Bool), s.Writable pTIME ∧ (1000000000 ≤ s.get pTIME TIME.STEPNS ∨ s.timeMode ≠ 0 ∨ s.gridUp = true ∨ s.onSyna
    = false)) ∧ (∃ (s : State) (spd : BitVec 11), s.Writable pTIME ∧ s.timeMode = 0 ∧ spd ≠ 0) ∧ (∃ (s : State)
    (spd : BitVec 11), s.Writable pTIME ∧ (s.timeMode ≠ 0 ∨ spd = 0)) ∧ (∃ (s : State), s.Live pTIME ∧ s.on pTIME
    TIME.SLEWCTL_BUSY = true ∧ s.tb.slew = 0) ∧ (∃ (s : State) (mode : BitVec 2), s.Writable pTIME ∧ mode.toNat ≠ 3
    ∧ (s.isCell = true → mode.toNat ≠ 2) ∧ (s.isCell = false → mode.toNat ≠ 1)) :=
  ⟨⟨cellS.having [(pTIME, TIME.STAT_MODE, 0)], 0xFFFFFFFF, by decide +kernel⟩, ⟨cellS, 1, by decide +kernel⟩,
    ⟨cellS.having [(pTIME, TIME.STAT_MODE, 0), (pCKSW, CKSW.CKSTAT_SRC, 0), (pTIME, TIME.STEPNS, 999999999)], true,
    false, by decide +kernel⟩, ⟨cellS.having [(pTIME, TIME.STAT_MODE, 0), (pCKSW, CKSW.CKSTAT_SRC, 0), (pTIME,
    TIME.STEPNS, 1000000000)], true, false, by decide +kernel⟩, ⟨cellS.having [(pTIME, TIME.STAT_MODE, 0)], 2047,
    by decide +kernel⟩, ⟨cellS, 0, by decide +kernel⟩, ⟨cellS.having [(pTIME, TIME.SLEWCTL_BUSY, 1)],
    by decide +kernel⟩, ⟨cellS, 1, by decide +kernel⟩⟩

theorem wit_TimeStepsAndSlewsAct_2 : (∃ (s : State) (mode : BitVec 2), s.Writable pTIME ∧ (mode.toNat = 3 ∨
    s.isCell = true ∧ mode.toNat = 2 ∨ s.isCell = false ∧ mode.toNat = 1)) ∧ (∃ (s : State), s.Writable pTIME ∧
    s.timeMode = 0 ∧ s.onSyna = true) ∧ (∃ (s : State), s.Writable pTIME ∧ s.onSyna = false) ∧ (∃ (s : State),
    s.Writable pTIME ∧ s.timeMode = 0) ∧ (∃ (s : State), s.Writable pTIME ∧ s.timeMode = 0) ∧ (∃ (s : State),
    s.Writable pTIME ∧ s.timeMode = 0) :=
  ⟨⟨cellS, 2, by decide +kernel⟩, ⟨cellS.having [(pTIME, TIME.STAT_MODE, 0), (pCKSW, CKSW.CKSTAT_SRC, 0)],
    by decide +kernel⟩, ⟨cellS.having [(pTIME, TIME.STAT_MODE, 0)], by decide +kernel⟩, ⟨cellS.having [(pTIME,
    TIME.STAT_MODE, 0), (pTIME, TIME.STAT_VALID, 1)], by decide +kernel⟩, ⟨cellS.having [(pTIME, TIME.STAT_MODE,
    0)], by decide +kernel⟩, ⟨cellS.having [(pTIME, TIME.STAT_MODE, 0)], by decide +kernel⟩⟩

theorem wit_PulseOutputsAndCaptureAct_1 : (∃ (s : State) (n : Fin 4), s.Writable pTIME ∧ s.tpoRefused n.val = false
    ∧ (s.tpoMode n.val = 1 → s.now16 + guard16 ≤ s.tpoStart n.val)) ∧ (∃ (s : State) (n : Fin 4), s.Writable pTIME
    ∧ s.tpoRefused n.val = true) ∧ (∃ (s : State) (n : Fin 4), s.Writable pTIME) ∧ (∃ (s : State) (n : Fin 4),
    s.Live pTIME ∧ n.val < s.tb.tpo.length ∧ s.tpoArmed n.val = true ∧ (s.tpo n.val).stop = none ∧ s.tpoMode n.val
    = 1 ∧ (s.tpo n.val).j = 0 ∧ s.tpoEdge n.val (s.tpoStart n.val) < s.now16 + tick16 ∧ s.on pTIME
    (TIME.TPOCFG_VALIDONLY n.val) = false) ∧ (∃ (s : State) (n : Fin 4), s.phase = .running ∧ (s.tpo n.val).pend =
    false ∧ (∃ e, (s.tpo n.val).stop = some e ∧ e < s.elapsed16 + s.tickNs * ns16)) ∧ (∃ (s : State) (n : Fin 2)
    (rising : Bool) (sub : BitVec 6), s.Live pTIME ∧ s.bit pTIME (TIME.TCAPCFG_EDGE n.val) (if rising then 0 else
    1) = true ∧ s.tb.capAt.getD n.val none = none ∧ n.val < s.tb.tcap.length ∧ (s.tb.tcap.getD n.val []).length < 4
    ∧ s.onSyna = true ∧ s.tb.steps = []) ∧ (∃ (s : State) (n : Fin 2) (rising : Bool) (sub : BitVec 6), s.Live
    pTIME ∧ s.bit pTIME (TIME.TCAPCFG_EDGE n.val) (if rising then 0 else 1) = true ∧ (4 ≤ (s.tb.tcap.getD n.val
    []).length ∨ s.onSyna = false)) ∧ (∃ (s : State) (n : Fin 2) (edges : BitVec 2), s.Writable pTIME) :=
  ⟨⟨cellS.having [(pTIME, TIME.TPOWIDTH 3, 4)], 3, by decide +kernel⟩, ⟨cellS.having [(pTIME, TIME.TPOWIDTH 3, 3)],
    3, by decide +kernel⟩, ⟨cellS.having [(pTIME, TIME.TPOCMD_ARMED 0, 1)], 0, by decide +kernel⟩, ⟨cellS.having
    [(pTIME, TIME.TPOCMD_ARMED 1, 1), (pTIME, TIME.TPOCFG_MODE 1, 1), (pTIME, TIME.TPOCFG_VALIDONLY 1, 0)], 1,
    by decide +kernel⟩, ⟨cellS.but (fun d => d.modTpo 2 fun p => { p with stop := some 5 }), 2, by decide +kernel⟩,
    ⟨cellS.having [(pTIME, TIME.TCAPCFG_EDGE 1, 1), (pCKSW, CKSW.CKSTAT_SRC, 0)], 1, true, 63, by decide +kernel⟩,
    ⟨cellS.having [(pTIME, TIME.TCAPCFG_EDGE 1, 2)], 1, false, 0, by decide +kernel⟩, ⟨cellS.having [(pTIME,
    TIME.TCAPINFO_MISS 1, 5)], 1, 3, by decide +kernel⟩⟩

theorem wit_PulseOutputsAndCaptureAct_2 : ∃ (s : State) (n : Fin 2) (e : Ts) (rest : List Ts), s.Awake ∧ s.Live
    pTIME ∧ s.latched.lookup (pTIME * 4096 + (0xA00 + 16 * n.val)) = none ∧ s.tb.tcap.getD n.val [] = e :: rest :=
  ⟨cellS.but (fun d => { d with tb := { d.tb with tcap := [[⟨0, 7⟩], []] } }), 0, ⟨0, 7⟩, [], by decide +kernel⟩

theorem wit_TimeNowReadLatchesOneTick : ∃ (s : State), s.Awake ∧ s.Live pTIME ∧ s.latched.lookup (pTIME * 4096 +
    0x800) = none :=
  ⟨cellS.but fun d => { d with time := 123456789 * 2 ^ 40 }, by decide +kernel⟩

theorem wit_FabricTickAdvancesTime : (∃ (s : State), s.phase = .running ∧ s.onSyna = true ∧ s.get pTIME
    TIME.CFG_MODE = s.timeMode) ∧ (∃ (s : State), s.phase = .running ∧ s.onSyna = false) :=
  ⟨⟨cellS.having [(pCKSW, CKSW.CKSTAT_SRC, 0)], by decide +kernel⟩, ⟨cellS, by decide +kernel⟩⟩

theorem wit_EthernetPortsAct_1 : (∃ (s : State) (n : Fin 2) (fr : List Byte) (back desc buf len : Nat), s.Live
    (pETH n) ∧ s.stores = [] ∧ s.soc.wipe = none ∧ s.ethClock = true ∧ s.on (pETH n) ETH.PCSCFG_LINKUP = true ∧
    s.on (pETH n) ETH.MACCTL_RXEN = true ∧ s.on (pETH n) ETH.PTPCFG_TSEN = false ∧ 60 ≤ fr.length ∧ fr.length ≤
    1518 ∧ isPause fr = false ∧ s.ethAccepts n fr = true ∧ s.ringReady n true = true ∧ Dev.ringDesc s.mems s.toDev
    n true = some (desc, buf, len) ∧ (buf + fr.length ≤ desc + 4 ∨ desc + 12 ≤ buf)) ∧ (∃ (s : State) (n : Fin 2)
    (fr : List Byte) (fcs : Bool) (back : Nat) (ue : Option Word), s.Live (pETH n) ∧ s.ethClock = true ∧ s.on (pETH
    n) ETH.PCSCFG_LINKUP = true ∧ s.on (pETH n) ETH.MACCTL_RXEN = true ∧ (fcs = false ∨ fr.length < 60 ∨ 1518 <
    fr.length)) ∧ (∃ (s : State) (n : Fin 2) (desc buf len : Nat), s.Live (pETH n) ∧ s.stores = [] ∧ s.soc.wipe =
    none ∧ s.ethClock = true ∧ s.on (pETH n) ETH.PCSCFG_LINKUP = true ∧ s.on (pETH n) ETH.MACCTL_TXEN = true ∧ s.on
    (pETH n) ETH.PTPCFG_TSEN = false ∧ s.ringReady n false = true ∧ Dev.ringDesc s.mems s.toDev n false = some
    (desc, buf, len) ∧ 60 ≤ len) ∧ (∃ (s : State) (n : Fin 2) (rx : Bool) (v : Word), s.Writable (pETH n) ∧ 2 ≤
    v.toNat % 16 ∧ v.toNat % 16 ≤ 8 ∧ 2 ^ 31 ≤ v.toNat ∧ s.on (pETH n) (if rx then ETH.RXCFG_EN else ETH.TXCFG_EN)
    = false) ∧ (∃ (s : State) (n : Fin 2) (rx : Bool) (tail : Word), s.Writable (pETH n) ∧ tail.toNat % 256 <
    s.ringLen n rx) ∧ (∃ (s : State) (read : Bool) (phy reg : BitVec 5) (data : BitVec 16), s.Writable (pETH 0) ∧
    s.on (pETH 0) ETH.MDIOSTAT_BUSY = false) ∧ (∃ (s : State) (data : BitVec 16) (read : Bool) (phy reg x : Nat),
    s.Live (pETH 0) ∧ s.soc.mdio = some (read, phy, reg, x)) ∧ (∃ (s : State) (n : Fin 2) (v : Word), s.Writable
    (pETH n)) :=
  ⟨⟨ethS, 0, List.replicate 60 1, 0, 0, 0x1000, 60, by decide +kernel⟩, ⟨ethS, 0, List.replicate 59 1, true, 0,
    none, by decide +kernel⟩, ⟨ethS, 0, 0, 0x1000, 60, by decide +kernel⟩, ⟨hubS, 1, true, 0x80000008,
    by decide +kernel⟩, ⟨hubS, 1, true, 3, by decide +kernel⟩, ⟨hubS, true, 31, 31, 0xFFFF, by decide +kernel⟩,
    ⟨hubS.but (fun d => d.modSoc fun x => { x with mdio := some (true, 1, 2, 3) }), 0xABCD, true, 1, 2, 3,
    by decide +kernel⟩, ⟨hubS, 0, 1, by decide +kernel⟩⟩

theorem wit_EthernetPortsAct_2 : (∃ (s : State) (n : Fin 2), s.Writable (pETH n)) ∧ (∃ (s : State) (n : Fin 2) (sp
    : BitVec 2), s.phase = .running ∧ s.ethClock = true) ∧ (∃ (s : State) (n : Fin 2) (sp : BitVec 2), s.Live (pETH
    n) ∧ s.on (pETH n) ETH.PCSCFG_LINKUP = true) ∧ (∃ (s : State) (n : Fin 2) (rx : Bool) (e : Ts) (rest : List
    Ts), s.Awake ∧ s.Live (pETH n) ∧ s.latched.lookup (pETH n * 4096 + (0xC00 + 16 * b2n rx)) = none ∧ (if rx then
    (s.ethOf n).rx else (s.ethOf n).tx) = e :: rest) :=
  ⟨⟨hubS.having [(pETH 1, ETH.TSSTAT_TXOVF, 7)], 1, by decide +kernel⟩, ⟨ethS, 1, 1, by decide +kernel⟩, ⟨ethS, 0,
    1, by decide +kernel⟩, ⟨hubS.but (fun d => d.modEth 1 fun x => { x with rx := [⟨5, 7⟩] }), 1, true, ⟨5, 7⟩, [],
    by decide +kernel⟩⟩

theorem wit_SpindleAngleAndEventsAct_1 : (∃ (s : State), s.phase = .running ∧ s.isCell = false ∧ s.spdEn = true ∧
    s.on pSPDL SPDL.TRKIN_TEN = true ∧ s.onSyna = true ∧ s.trkNew = true) ∧ (∃ (s : State) (b : Nat), s.Live pSPDL
    ∧ s.isCell = false ∧ s.spd.fwV = true ∧ s.spd.back = some b ∧ b + max 1 (s.get pSPDL SPDL.RECOV) * 1000000 ≤
    s.ns ∧ s.on pSPDL SPDL.TRKLOOP_JUMPSNAP = false) ∧ (∃ (s : State) (v : Word), s.Writable pSPDL ∧ s.isCell =
    false) ∧ (∃ (s : State) (en fnom60 : Bool), s.Writable pSPDL) ∧ (∃ (s : State) (n : Fin 64), s.Live pSPDL ∧
    s.aevOn n.val = true ∧ s.aevArmed n.val = true ∧ s.spdValid = true ∧ s.spd.prevValid = true ∧ s.onSyna = true ∧
    s.crossed (s.aevAng n.val) = true) ∧ (∃ (s : State) (n : Fin 64), s.phase = .running ∧ s.aevOn n.val = true ∧
    s.aevArmed n.val = false ∧ s.crossed (s.aevBack n.val) = true) ∧ (∃ (s : State) (n : Fin 32), s.Live pSPDL ∧
    s.on pSPDL (SPDL.TEVCTL_EN n.val) = true ∧ s.on pSPDL (SPDL.TEVCTL_PERIODIC n.val) = false ∧ tevBy n.val
    (s.tevDue n.val) s.now16 = true ∧ s.onSyna = true ∧ s.spd.tevLate.getD n.val false = false ∧ 2 ≤ n.val ∧
    s.Unwritten pSPDL (SPDL.TEVCTL_EN n.val)) ∧ (∃ (s : State) (n : Fin 32), s.Live pSPDL ∧ s.on pSPDL
    (SPDL.TEVCTL_EN n.val) = true ∧ s.on pSPDL (SPDL.TEVCTL_PERIODIC n.val) = true ∧ tevBy n.val (s.tevDue n.val)
    s.now16 = true ∧ s.onSyna = true ∧ n.val < s.spd.tevJ.length ∧ s.spd.tevLate.getD n.val false = false) :=
  ⟨⟨(hubS.having [(pSPDL, SPDL.CFG_EN, 1), (pSPDL, SPDL.TRKIN_TEN, 1), (pCKSW, CKSW.CKSTAT_SRC, 0)]).but (fun d =>
    { d with spd := { d.spd with cnts := [7, 7, 7] } }), by decide +kernel⟩, ⟨(hubS.having [(pSPDL,
    SPDL.TRKLOOP_JUMPSNAP, 0), (pSPDL, SPDL.RECOV, 1)]).but (fun d =>
    { d with ns := 1000000, spd := { d.spd with fwV := true, back := some 0 } }), 0, by decide +kernel⟩, ⟨hubS,
    0xFFFFFFFF, by decide +kernel⟩, ⟨hubS, false, true, by decide +kernel⟩, ⟨(hubS.having [(pSPDL, SPDL.AEVEN 1, 2
    ^ 31), (pSPDL, SPDL.AEVANG 63, 5), (pSPDL, SPDL.STAT_VALID, 1), (pSPDL, SPDL.AEVACT 63, 2 ^ 31), (pCKSW,
    CKSW.CKSTAT_SRC, 0), (pSPDL, SPDL.THOFS, 0)]).but (fun d =>
    { d with spd := { d.spd with armed := 2 ^ 63, prevValid := true, prev := 4, theta := 5 * 2 ^ 32 } }), 63,
    by decide +kernel⟩, ⟨(hubS.having [(pSPDL, SPDL.AEVEN 0, 1), (pSPDL, SPDL.AEVANG 0, 5)]).but (fun d =>
    { d with spd := { d.spd with prev := 2 ^ 31 + 4, theta := (2 ^ 31 + 5) * 2 ^ 32 } }), 0, by decide +kernel⟩,
    ⟨hubS.having [(pSPDL, SPDL.TEVCTL_EN 31, 1), (pSPDL, SPDL.TEVACT 31, 2 ^ 31), (pCKSW, CKSW.CKSTAT_SRC, 0)], 31,
    by decide +kernel⟩, ⟨hubS.having [(pSPDL, SPDL.TEVCTL_EN 31, 1), (pSPDL, SPDL.TEVCTL_PERIODIC 31, 1), (pCKSW,
    CKSW.CKSTAT_SRC, 0)], 31, by decide +kernel⟩⟩

theorem wit_SpindleAngleAndEventsAct_2 : (∃ (s : State) (n : Fin 32) (v : Word), s.Writable pSPDL ∧ 2 ≤ n.val ∧
    (s.on pSPDL (SPDL.TEVCTL_EN n.val) = false ∨ bitAt v.toNat 16 = s.on pSPDL (SPDL.TEVCTL_PERIODIC n.val)) ∧
    (bitAt v.toNat 31 = false ∨ s.tevRefused n.val (bitAt v.toNat 16) = false)) ∧ (∃ (s : State) (n : Fin 32) (v :
    Word), s.Writable pSPDL ∧ 2 ≤ n.val ∧ bitAt v.toNat 31 = true ∧ s.tevRefused n.val (bitAt v.toNat 16) = true) ∧
    (∃ (s : State), s.Writable pSPDL) :=
  ⟨⟨hubS, 2, 0x80020000, by decide +kernel⟩, ⟨hubS.having [(pSPDL, SPDL.TEVNS 2, 1000000000)], 2, 0x80000000,
    by decide +kernel⟩, ⟨hubS.having [(pSPDL, SPDL.MERGECNT_CNT, 3)], by decide +kernel⟩⟩

theorem wit_LinkReceiversAct_1 : (∃ (s : State) (p : Fin 10) (v : Word) (part : Option Frame), s.Writable (pLINK
    p)) ∧ (∃ (s : State) (p : Fin 10), s.rxRuns p = true ∧ s.phase = .running ∧ s.linkSt p = 0) ∧ (∃ (s : State) (p
    : Fin 10), s.rxRuns p = true ∧ s.phase = .running ∧ s.linkSt p = 1) ∧ (∃ (s : State) (p : Fin 10) (run : Nat)
    (part : Option Frame), s.rxRuns p = true ∧ s.phase = .running ∧ s.linkSt p = 2 ∧ 3 + run / 4 ≤ (s.port
    p).score) ∧ (∃ (s : State) (p : Fin 10) (run : Nat) (part : Option Frame), s.rxRuns p = true ∧ s.phase =
    .running ∧ s.linkSt p = 1 ∧ s.get (pLINK p) LINK.CNTA_CGERR < 65535) ∧ (∃ (s : State) (p : Fin 10) (part :
    Option Frame), s.rxRuns p = true ∧ s.phase = .running ∧ 2 ≤ s.linkSt p) ∧ (∃ (s : State) (p : Fin 10), s.rxRuns
    p = true ∧ s.phase = .running ∧ s.linkSt p = 3) ∧ (∃ (s : State) (p : Fin 10) (c1 c2 c3 : Option Byte) (back c
    : Nat), s.rxSync p = true ∧ s.lpbk p = false ∧ s.phase = .running ∧ gustCode c1 c2 c3 = some c) :=
  ⟨⟨cellS, 1, 2, none, by decide +kernel⟩, ⟨linkS.having [(pLINK 0, LINK.STAT_STATE, 0)], 0, by decide +kernel⟩,
    ⟨linkS.having [(pLINK 0, LINK.STAT_STATE, 1)], 0, by decide +kernel⟩, ⟨linkS.but (fun d => d.modPort 0 fun x =>
    { x with score := 3 }), 0, 3, none, by decide +kernel⟩, ⟨linkS.having [(pLINK 0, LINK.STAT_STATE, 1), (pLINK 0,
    LINK.CNTA_CGERR, 65534)], 0, 3, none, by decide +kernel⟩, ⟨linkS, 0, none, by decide +kernel⟩, ⟨linkS.having
    [(pLINK 0, LINK.STAT_STATE, 3)], 0, by decide +kernel⟩, ⟨linkS, 0, some 0xF0, some 0, some 0xF0, 5, 15,
    by decide +kernel⟩⟩

theorem wit_LinkReceiversAct_2 : (∃ (s : State) (p : Fin 10) (c1 c2 c3 : Option Byte) (back : Nat), s.rxSync p =
    true ∧ s.lpbk p = false ∧ s.phase = .running ∧ gustCode c1 c2 c3 = none ∧ s.get (pLINK p) LINK.CNTC_GUSTERR <
    65535) ∧ (∃ (s : State) (p : Fin 10) (code : BitVec 4) (q : Fin 8), s.Writable (pLINK p) ∧ s.txRuns q = true ∧
    s.on (pLINK q) LINK.PCFG_GORIG = true ∧ s.lpbk q = false) ∧ (∃ (s : State) (p : Fin 10), s.Writable (pLINK p))
    :=
  ⟨⟨linkS, 0, some 0xF0, none, some 0xE1, 5, by decide +kernel⟩, ⟨linkS, 0, 9, 1, by decide +kernel⟩, ⟨linkS, 1,
    by decide +kernel⟩⟩

theorem wit_LinkFramesArrive_1 : (∃ (s : State) (p : Fin 10) (f : Frame) (back : Nat), s.phase = .running ∧
    s.rxSync p = true ∧ s.lpbk p = false ∧ frameSound f ∧ f.cls = 5 ∧ f.dst = 0xFFFE ∧ s.linkSt p = 2) ∧ (∃ (s :
    State), s.phase = .running ∧ s.follows = true ∧ s.onSyna = true ∧ s.srv.pair.getD s.folPort false = false) ∧ (∃
    (s : State) (p : Fin 10) (f : Frame) (k : Nat), s.phase = .running ∧ s.isCell = true ∧ s.rxSync p = true ∧
    s.lpbk p = false ∧ frameSound f ∧ f.cls = 1 ∧ f.dst ≠ 0xFFFF ∧ s.myPos = some f.dst.toNat ∧ s.gridOn = true ∧
    (k = s.vn.idx ∨ k = s.vn.idx + 1) ∧ f.seq.toNat = k % 65536 ∧ 200 * 65536 ≤ since s.now16 (s.commitAt k) ∧
    s.get pVANE VANE.FLOOR ≤ f.mid.toNat / 2 ∧ (s.vn.cands.find? fun c => c.idx == k) = none) ∧ (∃ (s : State) (p :
    Fin 10) (f : Frame) (k : Nat), s.Live pVANE ∧ s.isCell = true ∧ s.rxSync p = true ∧ s.lpbk p = false ∧
    frameSound f ∧ f.cls = 1 ∧ f.dst ≠ 0xFFFF ∧ s.myPos = some f.dst.toNat ∧ s.gridOn = true ∧ (k = s.vn.idx ∨ k =
    s.vn.idx + 1) ∧ f.seq.toNat = k % 65536 ∧ since s.now16 (s.commitAt k) < 200 * 65536) ∧ (∃ (s : State) (p : Fin
    10) (f : Frame), s.Live pVANE ∧ s.isCell = true ∧ s.rxSync p = true ∧ s.lpbk p = false ∧ frameSound f ∧ f.cls =
    1 ∧ f.dst ≠ 0xFFFF ∧ s.myPos = some f.dst.toNat ∧ (s.gridOn = false ∨ f.seq.toNat ≠ s.vn.idx % 65536 ∧
    f.seq.toNat ≠ (s.vn.idx + 1) % 65536)) ∧ (∃ (s : State) (p : Fin 10) (f : Frame) (offSlot : Bool), s.phase =
    .running ∧ s.isCell = false ∧ p.val < 8 ∧ s.rxSync p = true ∧ s.lpbk p = false ∧ frameSound f ∧ f.cls = 2 ∧
    s.strandEn (s.portStrand p) = true ∧ f.src.toNat < s.slen (s.portStrand p) ∧ s.Unwritten pSTRD (STRD.MINSLACK
    (s.portStrand p))) ∧ (∃ (s : State) (p : Fin 10) (f : Frame) (e : Nat), s.phase = .running ∧ s.isCell = false ∧
    p.val < 8 ∧ p.val < s.ports.length ∧ s.rxSync p = true ∧ s.lpbk p = false ∧ frameSound f ∧ f.cls = 3 ∧ f.typ =
    0 ∧ s.findStr p (f.mid.toNat / 65536) false = some e ∧ f.seq.toNat = (s.stream p e).rxSeq ∧ credits
    f.payload.length ≤ (s.get (pLINK p) (LINK.BSTAT_G e) + 65536 - (s.stream p e).got) % 65536 ∧ (s.get (pLINK p)
    (LINK.BSTAT_G e) + 65536 - (s.stream p e).got) % 65536 < 32768) ∧ (∃ (s : State) (p : Fin 10) (f : Frame),
    s.Live (pLINK p) ∧ s.isCell = false ∧ p.val < 8 ∧ s.rxSync p = true ∧ s.lpbk p = false ∧ frameSound f ∧ f.cls =
    3 ∧ f.typ = 0 ∧ s.findStr p (f.mid.toNat / 65536) false = none) :=
  ⟨⟨linkS, 0, mkFrame 5 0 0 0xFFFE 0 0 (List.replicate 26 0), 3, by decide +kernel⟩, ⟨linkS, by decide +kernel⟩,
    ⟨(linkS.having [(pVANE, VANE.POS_ASSIGNED, 1), (pVANE, VANE.POS_APOS, 5), (pVANE, VANE.GRIDCTL_RUN, 1), (pVANE,
    VANE.GT0NS, 1000000)]), 0, mkFrame 1 0 0x8000 5 2 1 (List.replicate 50 0), 1, by decide +kernel⟩,
    ⟨(linkS.having [(pVANE, VANE.POS_ASSIGNED, 1), (pVANE, VANE.POS_APOS, 5), (pVANE, VANE.GRIDCTL_RUN, 1), (pVANE,
    VANE.GT0NS, 100)]), 0, mkFrame 1 0 0x8000 5 2 0 (List.replicate 50 0), 0, by decide +kernel⟩, ⟨(linkS.having
    [(pVANE, VANE.POS_ASSIGNED, 1), (pVANE, VANE.POS_APOS, 5), (pVANE, VANE.GRIDCTL_RUN, 1)]), 0, mkFrame 1 0
    0x8000 5 2 2 (List.replicate 50 0), by decide +kernel⟩, ⟨hlinkS.having [(pSTRD, STRD.SCFG_EN 7, 1), (pSTRD,
    STRD.SCFG_SLEN 7, 8)], 7, mkFrame 2 0 3 0x8000 5 0 (List.replicate 66 1), false, by decide +kernel⟩,
    ⟨hlinkS.having [(pLINK 7, LINK.BSTRB_EN 31, 1), (pLINK 7, LINK.BSTRA_STREAM 31, 9), (pLINK 7, LINK.BSTAT_G 31,
    1)], 7, mkFrame 3 0 3 0x8000 (9 * 65536) 0 [7, 8], 31, by decide +kernel⟩, ⟨hlinkS, 7, mkFrame 3 0 3 0x8000 (9
    * 65536) 0 [7, 8], by decide +kernel⟩⟩

theorem wit_LinkFramesArrive_2 : (∃ (s : State) (p : Fin 10) (f : Frame) (e : Nat), s.phase = .running ∧ s.isCell =
    false ∧ s.rxSync p = true ∧ s.lpbk p = false ∧ frameSound f ∧ f.cls = 3 ∧ f.typ = 1 ∧ s.findStr p (f.mid.toNat
    / 65536) true = some e ∧ (f.mid.toNat % 65536 + 65536 - s.get (pLINK p) (LINK.BSTAT_G e)) % 65536 < 32768) ∧ (∃
    (s : State) (p : Fin 2) (f : Frame), s.phase = .running ∧ s.isCell = true ∧ s.rxSync p = true ∧ s.lpbk p =
    false ∧ p.val < s.ports.length ∧ frameSound f ∧ f.cls = 4 ∧ f.typ = 0 ∧ f.dst ≠ 0xFFFF ∧ s.myPos = some
    f.dst.toNat ∧ ((s.port p.val).kept.find? fun k => k.1 == f.src.toNat && k.2.1 == f.seq.toNat) = none ∧ (∀ e ∈
    mEntries f.payload, e.1 % 4 = 0)) ∧ (∃ (s : State) (p : Fin 2) (f : Frame) (pg : Nat), s.phase = .running ∧
    s.isCell = true ∧ s.rxSync p = true ∧ s.lpbk p = false ∧ p.val < s.ports.length ∧ frameSound f ∧ f.cls = 4 ∧
    f.typ = 0 ∧ f.dst ≠ 0xFFFF ∧ s.myPos = some f.dst.toNat ∧ ((s.port p.val).kept.find? fun k => k.1 ==
    f.src.toNat && k.2.1 == f.seq.toNat) = none ∧ f.payload.length = 8 ∧ fieldBE f.payload 0 4 = 0x40000000 + pg *
    4096 + 0x019 ∧ (pageKind pg).isSome = true ∧ s.deaf pg = false ∧ s.locked pg = false) ∧ (∃ (s : State) (p : Fin
    2) (f : Frame) (pg : Nat), s.phase = .running ∧ s.isCell = true ∧ s.rxSync p = true ∧ s.lpbk p = false ∧ p.val
    < s.ports.length ∧ frameSound f ∧ f.cls = 4 ∧ f.typ = 0 ∧ f.dst ≠ 0xFFFF ∧ s.myPos = some f.dst.toNat ∧
    ((s.port p.val).kept.find? fun k => k.1 == f.src.toNat && k.2.1 == f.seq.toNat) = none ∧ f.payload.length = 8 ∧
    fieldBE f.payload 0 4 = 0x40000000 + pg * 4096 + 0x019 ∧ (pageKind pg).isSome = true ∧ s.deaf pg = false ∧
    s.locked pg = true ∧ fieldBE f.payload 4 4 &&& irqDefined pg ≠ s.get pg HDR.IRQEN) ∧ (∃ (s : State) (p : Fin 2)
    (f : Frame), s.phase = .running ∧ s.isCell = true ∧ s.rxSync p = true ∧ s.lpbk p = false ∧ p.val <
    s.ports.length ∧ frameSound f ∧ f.cls = 4 ∧ f.typ = 0 ∧ f.dst ≠ 0xFFFF ∧ s.myPos = some f.dst.toNat ∧ ((s.port
    p.val).kept.find? fun k => k.1 == f.src.toNat && k.2.1 == f.seq.toNat) = none ∧ f.payload.length = 8 ∧ fieldBE
    f.payload 0 4 % 4 = 1 ∧ (fieldBE f.payload 0 4 < 0x40000000 ∨ 0x48040000 ≤ fieldBE f.payload 0 4) ∧ s.stores =
    [] ∧ s.soc.wipe = none) ∧ (∃ (s : State) (p : Fin 10) (f : Frame), s.Live (pLINK p) ∧ s.isCell = false ∧
    s.rxSync p = true ∧ s.lpbk p = false ∧ frameSound f ∧ f.cls = 4 ∧ f.typ = 1 ∧ s.on (pLINK p) LINK.MSTAT_BUSY =
    true ∧ s.Unwritten (pLINK p) (LINK.MBUF 0) ∧ (s.port p).mreq = none ∧ f.seq.toNat = s.get (pLINK p)
    LINK.MSTAT_SEQ) ∧ (∃ (s : State) (p : Fin 10) (f : Frame), s.phase = .running ∧ s.isCell = true ∧ p.val < 2 ∧
    s.rxSync p = true ∧ s.lpbk p = false ∧ headOk f = true ∧ f.ver = 1 ∧ f.good = true ∧ payOk f = true ∧ 1 ≤
    f.cls.toNat ∧ f.cls.toNat ≤ 4 ∧ f.dst ≠ 0xFFFF ∧ s.myPos ≠ some f.dst.toNat ∧ (f.dst.toNat < 0x4000 ∨ 0x403F <
    f.dst.toNat) ∧ s.on (pLINK p) LINK.PCFG_FWD = true ∧ 2 ≤ s.linkSt (otherPort p) ∧ s.txRuns (otherPort p) = true
    ∧ (s.port (otherPort p)).txEnd ≤ s.ticks + 24 ∧ (s.port (otherPort p)).own ≤ s.ticks + 24 ∧ (s.port (otherPort
    p)).fifo = [] ∧ s.headHit (otherPort p) (s.ticks + 24) (groups f + 1) = false ∧ s.lpbk (otherPort p) = false) :=
  ⟨⟨hlinkS.having [(pLINK 7, LINK.BSTRB_EN 31, 1), (pLINK 7, LINK.BSTRB_DIR 31, 1), (pLINK 7, LINK.BSTRA_STREAM 31,
    9)], 7, mkFrame 3 1 3 0x8000 (9 * 65536 + 40) 0 [], 31, by decide +kernel⟩, ⟨(linkS.having [(pVANE,
    VANE.POS_ASSIGNED, 1), (pVANE, VANE.POS_APOS, 5)]), 0, mkFrame 4 0 0x8000 5 2 77 (toBE 4 0x40000000 ++ toBE 4
    0), by decide +kernel⟩, ⟨(linkS.having [(pVANE, VANE.POS_ASSIGNED, 1), (pVANE, VANE.POS_APOS, 5)]), 0, mkFrame
    4 0 0x8000 5 2 77 (toBE 4 0x40020019 ++ toBE 4 5), 0x20, by decide +kernel⟩, ⟨(linkS.having [(pVANE,
    VANE.POS_ASSIGNED, 1), (pVANE, VANE.POS_APOS, 5), (0x20, HDR.LOCK_LOCKED, 1)]), 0, mkFrame 4 0 0x8000 5 2 77
    (toBE 4 0x40020019 ++ toBE 4 5), 0x20, by decide +kernel⟩, ⟨(linkS.having [(pVANE, VANE.POS_ASSIGNED, 1),
    (pVANE, VANE.POS_APOS, 5)]), 0, mkFrame 4 0 0x8000 5 2 77 (toBE 4 0x20000001 ++ toBE 4 5), by decide +kernel⟩,
    ⟨hlinkS.having [(pLINK 7, LINK.MSTAT_BUSY, 1), (pLINK 7, LINK.MSTAT_SEQ, 77)], 7, mkFrame 4 1 0 0x8000 2 77 [1,
    2, 3, 4, 5, 6, 7, 8], by decide +kernel⟩, ⟨linkS, 0, mkFrame 3 0 3 0x8000 (9 * 65536) 0 [7, 8],
    by decide +kernel⟩⟩

theorem wit_LinkPortsSend_1 : (∃ (s : State) (p : Fin 10) (wait : Nat), s.phase = .running ∧ s.txRuns p = true ∧
    s.lpbk p = false ∧ (s.port p).fifo = [] ∧ p.val < s.ports.length ∧ (s.port p).outEnd ≤ s.ticks ∧ wait = 0 ∧
    s.headHit p s.ticks 49 = false) ∧ (∃ (s : State) (p : Fin 10) (wait at_ : Nat), s.phase = .running ∧ s.txRuns p
    = true ∧ (s.port p).fifo = [] ∧ p.val < s.ports.length ∧ at_ = max s.ticks (s.port p).outEnd + wait ∧ s.ticks <
    at_ ∧ s.headHit p at_ 49 = false) ∧ (∃ (s : State) (p : Fin 10) (wait h : Nat), s.phase = .running ∧ s.txRuns p
    = true ∧ (s.port p).fifo = [] ∧ p.val < s.ports.length ∧ s.headTick p = some h ∧ max s.ticks (s.port p).outEnd
    + wait < h + 89 ∧ h < max s.ticks (s.port p).outEnd + wait + 49) ∧ (∃ (s : State) (p : Fin 10) (rest : List
    Wait), s.phase = .running ∧ s.txRuns p = true ∧ s.lpbk p = false ∧ p.val < s.ports.length ∧ (s.port p).waits =
    ⟨s.ticks + 1, .slot⟩ :: rest) ∧ (∃ (s : State) (p : Fin 2) (wait : Nat), s.phase = .running ∧ s.isCell = true ∧
    s.gridOn = true ∧ s.txRuns p = true ∧ s.lpbk p = false ∧ 2 ≤ s.linkSt p ∧ p.val < s.ports.length ∧
    s.spd.tevJ.getD 1 0 ≠ 0 ∧ notAfter (s.tSlotAt p % wrap16) s.now16 = true ∧ wait = 0 ∧ (if s.on (pLINK p)
    LINK.SLOTCFG_THEAD then (s.port p).txEnd ≤ s.ticks else (s.port p).fifo = [] ∧ (s.port p).outEnd ≤ s.ticks)) ∧
    (∃ (s : State) (p : Fin 2) (wait at_ : Nat), s.phase = .running ∧ s.isCell = true ∧ s.gridOn = true ∧ s.txRuns
    p = true ∧ 2 ≤ s.linkSt p ∧ p.val < s.ports.length ∧ s.spd.tevJ.getD 1 0 ≠ 0 ∧ notAfter (s.tSlotAt p % wrap16)
    s.now16 = true ∧ (s.on (pLINK p) LINK.SLOTCFG_THEAD = true ∨ (s.port p).fifo = []) ∧ at_ = (if s.on (pLINK p)
    LINK.SLOTCFG_THEAD then s.ticks + min (max wait ((s.port p).txEnd - s.ticks)) 6 else max s.ticks (s.port
    p).outEnd + wait) ∧ s.ticks < at_) ∧ (∃ (s : State) (p : Fin 10) (f : Frame), s.phase = .running ∧ (s.port
    p).mgmt = [] ∧ (s.port p).mreq = some f ∧ s.outDown p = false ∧ s.lpbk p = false ∧ s.outFree p f = true) ∧ (∃
    (s : State) (p : Fin 10) (f : Frame), s.phase = .running ∧ (s.port p).mgmt = [] ∧ (s.port p).mreq = some f ∧
    s.onSyna = true ∧ s.absent (pLINK p) = false ∧ s.linkSt p < 2 ∧ s.get (pLINK p) LINK.CNTD_DROP + 1 < 2 ^
    LINK.CNTD_DROP.wid) :=
  ⟨⟨linkS, 1, 0, by decide +kernel⟩, ⟨linkS.but (fun d => { d with ticks := 100 }), 1, 3, 103, by decide +kernel⟩,
    ⟨(linkS.having [(pVANE, VANE.GRIDCTL_RUN, 1), (pLINK 0, LINK.SLOTCFG_THEAD, 1)]).but (fun d =>
    { d with time := 2 ^ 56 }), 0, 2490, 2491, by decide +kernel⟩, ⟨linkS.but (fun d => d.modPort 1 fun x =>
    { x with waits := [⟨d.ticks + 1, .slot⟩] }), 1, [], by decide +kernel⟩, ⟨(linkS.having [(pVANE,
    VANE.GRIDCTL_RUN, 1)]).but (fun d => { d with time := 2 ^ 56, spd := { d.spd with tevJ := [1, 1] } }), 0, 0,
    by decide +kernel⟩, ⟨(linkS.having [(pVANE, VANE.GRIDCTL_RUN, 1)]).but (fun d =>
    { d with time := 2 ^ 56, spd := { d.spd with tevJ := [1, 1] } }), 0, 3, 3, by decide +kernel⟩, ⟨hlinkS.but (fun
    d => d.modPort 7 fun x => { x with mreq := some (mkFrame 4 0 3 5 0 0 [1]) }), 7, mkFrame 4 0 3 5 0 0 [1],
    by decide +kernel⟩, ⟨(hlinkS.having [(pLINK 7, LINK.STAT_STATE, 1)]).but (fun d => d.modPort 7 fun x =>
    { x with mreq := some (mkFrame 4 0 3 5 0 0 [1]) }), 7, mkFrame 4 0 3 5 0 0 [1], by decide +kernel⟩⟩

theorem wit_LinkPortsSend_2 : (∃ (s : State) (p : Fin 10) (e : Fin 32), s.phase = .running ∧ s.strEn p e = true ∧
    s.strOut p e = false ∧ (s.stream p e).sent = none ∧ s.outDown p = false ∧ s.lpbk p = false ∧ s.outFree p
    (mkFrame 3 1 0 0 0 0 []) = true) ∧ (∃ (s : State) (p : Fin 10) (f : Frame) (at_ : Nat) (rest : List (Frame ×
    Nat)), s.phase = .running ∧ s.isCell = true ∧ p.val < 2 ∧ (s.port p).fifo = (f, at_) :: rest ∧ 2 ≤ s.linkSt p ∧
    s.txRuns p = true ∧ (s.port p).outEnd ≤ s.ticks ∧ s.lpbk p = false ∧ s.headHit p s.ticks (groups f + 1) = false
    ∧ (f.cls = 3 ∨ f.cls = 4 → s.winOk p f = true)) ∧ (∃ (s : State) (p : Fin 10) (f : Frame) (rest : List Frame),
    s.phase = .running ∧ s.isCell = true ∧ (s.port p).resp = f :: rest ∧ s.outDown p = false ∧ s.lpbk p = false ∧
    s.outFree p f = true) ∧ (∃ (s : State) (p : Fin 10) (v : Word), s.Writable (pLINK p) ∧ s.isCell = false ∧ s.on
    (pLINK p) LINK.MSTAT_BUSY = false ∧ 1 ≤ bitsOf v.toNat 16 6 ∧ bitsOf v.toNat 16 6 ≤ 32) ∧ (∃ (s : State) (p :
    Fin 10), s.Live (pLINK p) ∧ s.isCell = false ∧ s.on (pLINK p) LINK.MSTAT_BUSY = true ∧ (s.port p).bcast = none)
    ∧ (∃ (s : State) (p : Fin 10) (e : Fin 32) (v : Word), s.Writable (pLINK p) ∧ p.val < 8) ∧ (∃ (s : State) (p :
    Fin 10) (e : Fin 32) (v : Word), s.Writable (pLINK p) ∧ p.val < 8 ∧ v.toNat < 2 ^ 31) :=
  ⟨⟨hlinkS.having [(pLINK 7, LINK.BSTRB_EN 31, 1)], 7, 31, by decide +kernel⟩, ⟨linkS.but (fun d => d.modPort 1 fun
    x => { x with fifo := [(mkFrame 2 0 3 5 0 0 [1], 7)] }), 1, mkFrame 2 0 3 5 0 0 [1], 7, [], by decide +kernel⟩,
    ⟨linkS.but (fun d => d.modPort 0 fun x =>
    { x with resp := [mkFrame 4 1 3 5 0 0 [1], mkFrame 4 1 3 5 0 1 []] }), 0, mkFrame 4 1 3 5 0 0 [1], [mkFrame 4 1
    3 5 0 1 []], by decide +kernel⟩, ⟨hlinkS, 7, 0x00200005, by decide +kernel⟩, ⟨hlinkS.having [(pLINK 7,
    LINK.MSTAT_BUSY, 1)], 7, by decide +kernel⟩, ⟨cellS, 1, 31, 0xFFFF0001, by decide +kernel⟩, ⟨cellS, 1, 0,
    0x40000001, by decide +kernel⟩⟩

theorem wit_StrandManagerActs_1 : (∃ (s : State) (p : Fin 8) (a : Answer) (m : Nat), s.phase = .running ∧
    s.enumReady p = true ∧ 0 < s.slen (s.portStrand p) ∧ s.slen (s.portStrand p) ≤ 48 ∧ (bitAt a.pos.toNat 31 =
    false ∨ VANE.POS_APOS.pick a.pos.toNat = posAt (s.slen (s.portStrand p)) 0 (s.portEndB p)) ∧ m = 48 *
    s.portStrand p + posAt (s.slen (s.portStrand p)) 0 (s.portEndB p) ∧ s.on pSTRD (STRD.MAP_ENUMD m) = false ∧
    s.hub.enumFifo.length < 16) ∧ (∃ (s : State) (p : Fin 8) (h : Nat) (a : Answer) (m : Nat), s.phase = .running ∧
    s.enumReady p = true ∧ h < s.slen (s.portStrand p) ∧ s.slen (s.portStrand p) ≤ 48 ∧ (bitAt a.pos.toNat 31 =
    false ∨ VANE.POS_APOS.pick a.pos.toNat = posAt (s.slen (s.portStrand p)) h (s.portEndB p)) ∧ m = 48 *
    s.portStrand p + posAt (s.slen (s.portStrand p)) h (s.portEndB p) ∧ s.on pSTRD (STRD.MAP_ENUMD m) = false ∧
    s.hub.enumFifo.length < 16 ∧ ((List.range h).all fun i => !s.enumAgain p i) = true) ∧ (∃ (s : State) (m : Fin
    384) (v : Word), s.Writable pSTRD ∧ (bitAt v.toNat 31 = true → ∀ j : Fin 384, j ≠ m → s.on pSTRD
    (STRD.MAP_VALID j) = true → s.get pSTRD (STRD.MAP_N j) ≠ v.toNat % 256)) ∧ (∃ (s : State) (m j : Fin 384) (v :
    Word), s.Writable pSTRD ∧ bitAt v.toNat 31 = true ∧ j ≠ m ∧ s.on pSTRD (STRD.MAP_VALID j) = true ∧ s.get pSTRD
    (STRD.MAP_N j) = v.toNat % 256) ∧ (∃ (s : State) (i q uid : Nat) (rest : List (Nat × Nat × Nat)), s.Awake ∧
    s.Live pSTRD ∧ s.latched.lookup (pSTRD * 4096 + 0x840) = none ∧ s.hub.enumFifo = (i, q, uid) :: rest) ∧ (∃ (s :
    State) (hops : List (List Nat)), s.phase = .running ∧ s.isCell = false ∧ s.on pSTRD STRD.STAT_RUN = true) ∧ (∃
    (s : State) (i : Fin 8), s.phase = .running ∧ s.isHub = true ∧ s.standalone = false ∧ s.on pSTRD STRD.CTRL_PLAN
    = true ∧ s.strandEn i = true) ∧ (∃ (s : State) (k ang f : Nat) (valid : Bool) (rest : List (Nat × Nat × Nat ×
    Bool)), s.phase = .running ∧ s.isCell = false ∧ s.hub.pred = (k, ang, f, valid) :: rest) :=
  ⟨⟨hlinkS.having [(pSTRD, STRD.CTRL_ENUM, 1), (pSTRD, STRD.SCFG_EN 7, 1), (pSTRD, STRD.SCFG_SLEN 7, 8), (pLINK 7,
    LINK.STAT_STATE, 3)], 7, ⟨0, 5, 6, 7, true⟩, 336, by decide +kernel⟩, ⟨(hlinkS.having [(pSTRD, STRD.CTRL_ENUM,
    1), (pSTRD, STRD.SCFG_EN 7, 1), (pSTRD, STRD.SCFG_SLEN 7, 8), (pSTRD, STRD.MAP_ENUMD 336, 1), (pLINK 7,
    LINK.STAT_STATE, 3)]).but (fun d => (d.modStrand 7 fun x => { x with reachA := 1 }).modPos 336 fun x =>
    { x with a1 := true }), 7, 1, ⟨0, 5, 6, 7, true⟩, 337, by decide +kernel⟩, ⟨hubS, 383, 0x800000BF,
    by decide +kernel⟩, ⟨hubS.having [(pSTRD, STRD.MAP_VALID 9, 1), (pSTRD, STRD.MAP_N 9, 5)], 8, 9, 0x80000005,
    by decide +kernel⟩, ⟨hubS.but (fun d => d.modHub fun h =>
    { h with enumFifo := [(7, 5, 2 ^ 40 + 3), (1, 2, 3)] }), 7, 5, 2 ^ 40 + 3, [(1, 2, 3)], by decide +kernel⟩,
    ⟨hubS.having [(pSTRD, STRD.STAT_RUN, 1)], [[1, 2], [3]], by decide +kernel⟩, ⟨hubS.having [(pSTRD,
    STRD.CTRL_PLAN, 1), (pSTRD, STRD.SCFG_EN 7, 1)], 7, by decide +kernel⟩, ⟨hubS.but (fun d => d.modHub fun h =>
    { h with pred := [(7, 1, 2, true), (8, 3, 4, false)] }), 7, 1, 2, true, [(8, 3, 4, false)], by decide +kernel⟩⟩

theorem wit_StrandManagerActs_2 : (∃ (s : State) (n : BitVec 8), s.Writable pSTRD ∧ (s.mapOf n.toNat).isSome =
    true) ∧ (∃ (s : State) (n : BitVec 8), s.Writable pSTRD ∧ s.mapOf n.toNat = none) :=
  ⟨⟨hubS.having [(pSTRD, STRD.MAP_VALID 9, 1), (pSTRD, STRD.MAP_N 9, 5)], 5, by decide +kernel⟩, ⟨hubS, 5,
    by decide +kernel⟩⟩

theorem wit_GridAndCommitsAct_1 : (∃ (s : State) (v : Word), s.Writable pSTRD ∧ (s.standalone = false ∨ ∀ k : Fin
    4, s.strandEn k = true → s.slen k ≤ 24) ∧ 2500 ≤ v.toNat % 2 ^ 15 ∧ v.toNat % 2 ^ 15 ≤ 25000) ∧ (∃ (s : State)
    (v : Word) (k : Fin 4), s.Writable pSTRD ∧ s.standalone = true ∧ s.strandEn k = true ∧ 24 < s.slen k ∧ (∀ j :
    Fin 4, s.strandEn j = true → s.slen j ≤ s.slen k) ∧ 2500 ≤ v.toNat % 2 ^ 15 ∧ v.toNat % 2 ^ 15 ≤ 25000 ∧
    s.gridUp = false) ∧ (∃ (s : State) (v : Word), s.Writable pSTRD ∧ (v.toNat % 2 ^ 15 < 2500 ∨ 25000 < v.toNat %
    2 ^ 15)) ∧ (∃ (s : State), s.Writable pSTRD ∧ s.on pSTRD STRD.CTRL_RUN = false ∧ s.now16 + 2 * s.get pSTRD
    STRD.TSF_PERIOD * tick16 ≤ s.getTrip pSTRD t0Trip) ∧ (∃ (s : State), s.Writable pSTRD ∧ s.on pSTRD
    STRD.CTRL_RUN = false ∧ s.getTrip pSTRD t0Trip < s.now16 + 2 * s.get pSTRD STRD.TSF_PERIOD * tick16) ∧ (∃ (s :
    State), s.Writable pSTRD) ∧ (∃ (s : State), s.Writable pVANE ∧ s.isCell = true) ∧ (∃ (s : State), s.phase =
    .running ∧ s.gridUp = true ∧ s.onSyna = true ∧ s.commitDue s.hub.idx = true ∧ s.commitPassed = false) :=
  ⟨⟨(hubS.having [(pSTRD, STRD.CTRL_RUN, 1)]).but (fun d => d.modHub fun h => { h with grid := true }), 25000,
    by decide +kernel⟩, ⟨hubS.having [(pSYSC, SYSC.STRAP_ROLE, 3), (pSTRD, STRD.SCFG_EN 2, 1), (pSTRD,
    STRD.SCFG_SLEN 2, 25)], 2500, 2, by decide +kernel⟩, ⟨hubS, 2499, by decide +kernel⟩, ⟨hubS.having [(pSTRD,
    STRD.T0SL, 5)], by decide +kernel⟩, ⟨hubS, by decide +kernel⟩, ⟨hubS.having [(pSTRD, STRD.CTRL_RUN, 1), (pLINK
    8, LINK.BSTRB_EN 30, 1)], by decide +kernel⟩, ⟨cellS.having [(pPWMU 2, PWMU.STAT_WAITGRID, 1)],
    by decide +kernel⟩, ⟨(hlinkS.having [(pSTRD, STRD.CTRL_RUN, 1)]).but (fun d => d.modHub fun h =>
    { h with grid := true }), by decide +kernel⟩⟩

theorem wit_GridAndCommitsAct_2 : (∃ (s : State), s.phase = .running ∧ s.isCell = true ∧ s.gridOn = true ∧ s.onSyna
    = true ∧ s.commitDue s.vn.idx = true ∧ s.commitPassed = false ∧ (s.vn.cands.find? fun c => c.idx == s.vn.idx) =
    none ∧ s.vn.begun = true ∧ s.get pVANE VANE.STAT_MISSED < 2) ∧ (∃ (s : State) (c : Cand), s.phase = .running ∧
    s.isCell = true ∧ s.gridOn = true ∧ s.onSyna = true ∧ s.commitDue s.vn.idx = true ∧ s.commitPassed = false ∧
    (s.vn.cands.find? fun c => c.idx == s.vn.idx) = some c ∧ s.get pSYSC SYSC.CELLSTATE_STATE ≠ 5) ∧ (∃ (s :
    State), s.phase = .running ∧ s.isCell = false ∧ s.on pSTRD STRD.STAT_RUN = true ∧ s.hub.loopAt = none ∧
    s.loopDue = true) ∧ (∃ (s : State), s.phase = .running ∧ s.isCell = false ∧ s.on pSTRD STRD.STAT_RUN = true ∧
    s.hub.teleDone = false ∧ s.teleDue = true) ∧ (∃ (s : State), s.Writable pVANE ∧ s.isCell = true) :=
  ⟨⟨(linkS.having [(pVANE, VANE.GRIDCTL_RUN, 1)]).but (fun d => d.modVn fun v => { v with begun := true }),
    by decide +kernel⟩, ⟨(linkS.having [(pVANE, VANE.GRIDCTL_RUN, 1)]).but (fun d => d.modVn fun v =>
    { v with idx := 0, cands := [⟨0, 9, true, List.replicate 50 0, 100, false, 0⟩] }), ⟨0, 9, true, List.replicate
    50 0, 100, false, 0⟩, by decide +kernel⟩, ⟨(hubS.having [(pSTRD, STRD.STAT_RUN, 1)]).but (fun d =>
    { d.modHub (fun h => { h with idx := 1 }) with time := 2 ^ 64 }), by decide +kernel⟩, ⟨(hubS.having [(pSTRD,
    STRD.STAT_RUN, 1)]).but (fun d => { d.modHub (fun h => { h with idx := 1 }) with time := 2 ^ 64 }),
    by decide +kernel⟩, ⟨cellS.having [(pVANE, VANE.LATE_CNT, 3)], by decide +kernel⟩⟩

theorem wit_HubsOfAPairAct : (∃ (s : State), s.phase = .running ∧ s.isCell = false ∧ s.on pSTRD STRD.STAT_RUN =
    true ∧ s.hub.sending = true ∧ 2 ≤ s.linkSt 8 ∧ s.addsSection 0 = false ∧ s.strEn 8 30 = false ∧ 0 <
    s.hub.peers.length) ∧ (∃ (s : State) (i : Fin 2) (bs : List Byte), s.phase = .running ∧ s.isCell = false ∧
    s.rxRuns (8 + i) = true ∧ i.val < s.hub.peers.length ∧ 64 ≤ bs.length ∧ s.get pVANE VANE.FLOOR < 2 ^ 31) ∧ (∃
    (s : State) (i : Fin 2), s.phase = .running ∧ s.isCell = false ∧ s.on pSTRD STRD.STAT_RUN = true ∧ i.val <
    s.hub.peers.length ∧ s.loopDue = true ∧ (s.peer i).came ≠ some ((s.hub.idx + 65534) % 65536)) ∧ (∃ (s : State),
    s.phase = .running ∧ s.isCell = false ∧ s.standalone = false ∧ s.hubB = false ∧ s.hub.decided = false ∧
    s.hub.sawOther = false ∧ s.on pSTRD STRD.STAT_RUN = true ∧ 8 ≤ s.hub.observed ∧ s.get pVANE VANE.FLOOR < 2 ^ 31
    - 1) ∧ (∃ (s : State), s.phase = .running ∧ s.isCell = false ∧ s.standalone = false ∧ s.hub.decided = false ∧
    s.hub.sawOther = true ∧ s.on pSTRD STRD.STAT_RUN = true ∧ 8 ≤ s.hub.observed) ∧ (∃ (s : State), s.Writable
    pVANE ∧ s.partner.isSome = true ∧ s.on pVANE VANE.STAT_ACTIVE = false ∧ s.get pVANE VANE.FLOOR < 2 ^ 31 - 1 ∧
    s.get pVANE VANE.TAKECNT_TAKES < 65535) ∧ (∃ (s : State), s.Writable pVANE ∧ s.partner.isSome = true) :=
  ⟨⟨hlinkS.having [(pSTRD, STRD.STAT_RUN, 1), (pLINK 8, LINK.STAT_STATE, 2)], by decide +kernel⟩, ⟨hlinkS.having
    [(pLINK 9, LINK.PCFG_EN, 1)], 1, List.replicate 64 3, by decide +kernel⟩, ⟨(hubS.having [(pSTRD, STRD.STAT_RUN,
    1)]).but (fun d => { d with time := 2 ^ 56 }), 1, by decide +kernel⟩, ⟨(hubS.having [(pSTRD, STRD.STAT_RUN,
    1)]).but (fun d => d.modHub fun h => { h with observed := 8 }), by decide +kernel⟩, ⟨(hubS.having [(pSTRD,
    STRD.STAT_RUN, 1)]).but (fun d => d.modHub fun h => { h with observed := 8, sawOther := true }),
    by decide +kernel⟩, ⟨hubS, by decide +kernel⟩, ⟨hubS.having [(pVANE, VANE.STAT_ACTIVE, 1)], by decide +kernel⟩⟩

theorem wit_IsobarActs : (∃ (s : State), s.phase = .running ∧ s.isCell = false ∧ s.on pISOB ISOB.CTRL_EN = true ∧
    s.hub.teleDone = true ∧ s.iso.started = false ∧ s.loopsDone = true ∧ s.on pISOB ISOB.STAT_BUSY = false) ∧ (∃ (s
    : State), s.phase = .running ∧ s.isCell = false ∧ s.on pISOB ISOB.CTRL_EN = true ∧ s.hub.teleDone = true ∧
    s.iso.started = false ∧ s.loopsDone = true ∧ s.on pISOB ISOB.STAT_BUSY = true ∧ s.iso.pend = false) ∧ (∃ (s :
    State), s.Live pISOB ∧ s.isCell = false ∧ s.on pISOB ISOB.CTRL_EN = true ∧ s.hub.teleDone = true ∧
    s.iso.started = false ∧ s.loopsDone = false ∧ s.on pISOB ISOB.STAT_BUSY = false) ∧ (∃ (s : State) (r : IsoRun),
    s.Live pISOB ∧ s.iso.run = some r ∧ s.iso.pend = false ∧ (∀ x ∈ r.regs, x.1.key pISOB ≠ ISOB.STAT_BUSY.key
    pISOB ∧ x.1.key pISOB ≠ ISOB.RUNSTAT_DUR.key pISOB)) ∧ (∃ (s : State) (v : Word), s.Writable pISOB) ∧ (∃ (s :
    State) (n : BitVec 8), s.Writable pISOB ∧ n.toNat < 192) ∧ (∃ (s : State) (n : BitVec 8), s.Writable pISOB ∧
    192 ≤ n.toNat) ∧ (∃ (s : State) (n : BitVec 8), s.Writable pISOB ∧ n.toNat < 192) :=
  ⟨⟨(hubS.having [(pISOB, ISOB.CTRL_EN, 1)]).but (fun d => d.modHub fun h => { h with teleDone := true }),
    by decide +kernel⟩, ⟨(hubS.having [(pISOB, ISOB.CTRL_EN, 1), (pISOB, ISOB.STAT_BUSY, 1)]).but (fun d =>
    d.modHub fun h => { h with teleDone := true }), by decide +kernel⟩, ⟨(hubS.having [(pISOB, ISOB.CTRL_EN, 1),
    (pISOB, ISOB.CFG_LEWAIT, 128)]).but (fun d => d.modHub fun h => { h with teleDone := true }),
    by decide +kernel⟩, ⟨hubS.but (fun d => d.modIso fun i =>
    { i with run := some ⟨3, [(ISOB.RUNSTAT_IDX, 2)], [], [], [], false, 0⟩ }), ⟨3, [(ISOB.RUNSTAT_IDX, 2)], [],
    [], [], false, 0⟩, by decide +kernel⟩, ⟨hubS, 1, by decide +kernel⟩, ⟨hubS, 191, by decide +kernel⟩, ⟨hubS,
    192, by decide +kernel⟩, ⟨hubS, 191, by decide +kernel⟩⟩

theorem wit_BusAccessesAct_1 : (∃ (s : State) (who : Who) (addr : BitVec 32) (size : Size) (v : Word) (pg : Nat),
    s.Ready ∧ s.onBus who = true ∧ 0x40000000 ≤ addr.toNat ∧ pg = (addr.toNat - 0x40000000) / 4096 ∧ (pageKind
    pg).isSome = true ∧ size ≠ .word ∧ addr.toNat % sizeLen size = 0 ∧ s.deaf pg = false) ∧ (∃ (s : State) (who :
    Who) (addr : BitVec 32) (size : Size) (write : Option Word), s.Ready ∧ s.onBus who = true ∧ 0x40000000 ≤
    addr.toNat ∧ addr.toNat < 0x48040000 ∧ (addr.toNat < 0x48000000 → (pageKind ((addr.toNat - 0x40000000) /
    4096)).isSome = true) ∧ addr.toNat % sizeLen size ≠ 0) ∧ (∃ (s : State) (who : Who) (addr : BitVec 32) (size :
    Size) (write : Option Word), s.Ready ∧ s.onBus who = true ∧ (0x20400000 ≤ addr.toNat ∧ addr.toNat < 0x40000000
    ∨ 0x48040000 ≤ addr.toNat ∧ addr.toNat < 0x80000000 ∨ 0x40000000 ≤ addr.toNat ∧ addr.toNat < 0x48000000 ∧
    pageKind ((addr.toNat - 0x40000000) / 4096) = none ∨ 0x10000000 ≤ addr.toNat ∧ addr.toNat < 0x10010000 ∧
    write.isSome = true ∨ (∃ p : Fin 2, who = .mgmt p) ∧ (addr.toNat < 0x40000000 ∨ 0x48040000 ≤ addr.toNat))) ∧ (∃
    (s : State) (who : Who) (addr : BitVec 32) (size : Size) (write : Option Word), s.Ready ∧ s.onBus who = true ∧
    (0x10000000 ≤ addr.toNat ∧ addr.toNat < 0x10010000 ∨ 0x48010000 ≤ addr.toNat ∧ addr.toNat < 0x48020000 ∨
    0x48030000 ≤ addr.toNat ∧ addr.toNat < 0x48040000) ∧ write.isSome = true) ∧ (∃ (s : State) (who : Who) (addr :
    BitVec 32) (k : Kind) (n pg off : Nat), s.phase = .running ∧ s.onBus who = true ∧ addr.toNat = 0x40000000 + pg
    * 4096 + off ∧ off < 4096 ∧ off % 4 = 0 ∧ pageKind pg = some (k, n) ∧ wideRest k off ≠ [] ∧ s.latched.lookup
    (pg * 4096 + off) = none ∧ s.absent pg = false ∧ s.inBlk.contains pg = false) ∧ (∃ (s : State) (who : Who)
    (addr : BitVec 32) (v : Word) (pg : Nat), s.Ready ∧ s.onBus who = true ∧ (pageKind pg).isSome = true ∧
    addr.toNat = 0x40000000 + pg * 4096 + 0x018 ∧ s.deaf pg = false ∧ s.locked pg = false ∧ s.unlock.contains pg =
    false) ∧ (∃ (s : State) (who : Who) (addr : BitVec 32) (v : Word) (pg : Nat), s.Ready ∧ s.onBus who = true ∧
    (pageKind pg).isSome = true ∧ addr.toNat = 0x40000000 + pg * 4096 + 0x018 ∧ s.deaf pg = false ∧ s.locked pg =
    true ∧ v.toNat &&& irqDefined pg ≠ s.get pg HDR.IRQEN) ∧ (∃ (s : State) (who : Who) (addr : BitVec 32) (v :
    Word) (pg : Nat), s.Ready ∧ s.onBus who = true ∧ (pageKind pg).isSome = true ∧ pg ≠ pGPIO ∧ pg ≠ pUART 0 ∧ pg ≠
    pUART 1 ∧ addr.toNat = 0x40000000 + pg * 4096 + 0x01C ∧ s.deaf pg = false ∧ s.unlock.contains pg = false ∧
    s.get pg HDR.IRQFLG < 2 ^ 32) :=
  ⟨⟨cellS, .cpu0, 0x40725042, .half, 7, 0x725, by decide +kernel⟩, ⟨cellS, .dma, 0x40725042, .word, some 3,
    by decide +kernel⟩, ⟨cellS, .cpu0, 0x40013042, .word, some 3, by decide +kernel⟩, ⟨cellS, .cpu0, 0x48030000,
    .word, some 3, by decide +kernel⟩, ⟨cellS, .cpu0, 0x40211044, .vane, 0, 0x211, 0x044, by decide +kernel⟩,
    ⟨cellS, .cpu0, 0x40020018, 5, 0x20, by decide +kernel⟩, ⟨cellS.having [(0x20, HDR.LOCK_LOCKED, 1)], .cpu0,
    0x40020018, 5, 0x20, by decide +kernel⟩, ⟨cellS.having [(0x20, HDR.IRQFLG, 7)], .cpu0, 0x4002001C, 5, 0x20,
    by decide +kernel⟩⟩

theorem wit_BusAccessesAct_2 : (∃ (s : State) (who : Who) (addr : BitVec 32) (v : Word) (pg : Nat), s.Ready ∧
    s.onBus who = true ∧ (pageKind pg).isSome = true ∧ addr.toNat = 0x40000000 + pg * 4096 + 0x020 ∧ s.deaf pg =
    false ∧ s.unlock.contains pg = false) ∧ (∃ (s : State) (who : Who) (addr : BitVec 32) (v : Word) (i : Fin 4),
    s.Ready ∧ s.onBus who = true ∧ (∀ p : Fin 2, who ≠ .mgmt p) ∧ 0x20000000 ≤ addr.toNat ∧ addr.toNat + 4 ≤
    0x20400000) ∧ (∃ (s : State) (who : Who) (addr : BitVec 31) (size : Size) (v : Word) (i : Fin 4), s.phase =
    .running ∧ s.onBus who = true ∧ s.isCell = false ∧ i.val < sizeLen size ∧ s.get pDDRC DDRC.WINBASE_BASE * 2 ^
    28 + addr.toNat + sizeLen size ≤ s.dramSize ∧ s.on pDDRC DDRC.STAT_READY = true) ∧ (∃ (s : State) (who : Who)
    (addr : BitVec 31) (size : Size), s.Ready ∧ s.onBus who = true ∧ s.isCell = false ∧ s.get pDDRC
    DDRC.WINBASE_BASE * 2 ^ 28 + addr.toNat + sizeLen size ≤ s.dramSize ∧ s.on pDDRC DDRC.STAT_READY = true) ∧ (∃
    (s : State) (who : Who) (addr : BitVec 31) (size : Size) (write : Option Word) (ecc : Option Bool), s.Live
    pDDRC ∧ s.onBus who = true ∧ s.isCell = false ∧ s.dramSize < s.get pDDRC DDRC.WINBASE_BASE * 2 ^ 28 +
    addr.toNat + sizeLen size) ∧ (∃ (s : State) (v : Word), s.Writable pDDRC) :=
  ⟨⟨cellS.having [(0x20, HDR.ERRSTAT, 7)], .cpu0, 0x40020020, 5, 0x20, by decide +kernel⟩, ⟨cellS, .cpu0,
    0x203FFFFC, 5, 3, by decide +kernel⟩, ⟨hubS.having [(pDDRC, DDRC.STAT_READY, 1)], .cpu0, 0x7FFFFFC, .word,
    0x12345678, 0, by decide +kernel⟩, ⟨hubS.having [(pDDRC, DDRC.STAT_READY, 1)], .cpu0, 0x7FFFFFC, .word,
    by decide +kernel⟩, ⟨hubS.having [(pDDRC, DDRC.STAT_READY, 1), (pDDRC, DDRC.WINBASE_BASE, 4095)], .cpu0,
    0x7FFFFFFF, .word, none, none, by decide +kernel⟩, ⟨hubS, 5, by decide +kernel⟩⟩

theorem wit_PageRulesAct_1 : (∃ (s : State) (n : Fin 8) (off : BitVec 12) (v : Word), s.Ready ∧ s.soc.stop = false
    ∧ s.deaf (pLE n) = false ∧ s.locked (pLE n) = false ∧ 0x040 ≤ off.toNat ∧ off.toNat < 0x400 ∧ ((pageFields (pLE
    n) off.toNat).any fun f => f.acc == .lc) = true ∧ (s.leState n ≠ 0 ∨ s.on (pLE n) LTH.STAT_CLOSEARM = true)) ∧
    (∃ (s : State) (n : Fin 8) (off : BitVec 12) (v : Word), s.Writable (pLE n) ∧ s.leState n = 0 ∧ s.on (pLE n)
    LTH.STAT_CLOSEARM = false ∧ (s.stepSp n = true → off ≠ 0x04C ∧ (off.toNat < 0x050 ∨ 0x060 ≤ off.toNat)) ∧ 0x040
    ≤ off.toNat ∧ off.toNat < 0x400) ∧ (∃ (s : State) (n : Fin 8) (off : BitVec 12) (v : Word), s.Ready ∧
    s.Writable (pLE n) ∧ s.leState n = 0 ∧ s.on (pLE n) LTH.STAT_CLOSEARM = false ∧ s.stepSp n = true ∧ (off =
    0x04C ∨ 0x050 ≤ off.toNat ∧ off.toNat < 0x060)) ∧ (∃ (s : State) (who : Who) (page : BitVec 15) (v : Word) (pg
    : Nat), s.phase = .running ∧ s.onBus who = true ∧ (∀ p : Fin 2, who ≠ .mgmt p) ∧ pg = page.toNat ∧ (pageKind
    pg).isSome = true ∧ s.deaf pg = false ∧ s.locked pg = false ∧ s.unlock.contains pg = false ∧ ¬ (s.isCell = true
    ∧ (pg = pLINK 0 ∨ pg = pLINK 1)) ∧ s.on pg HDR.FEATACC_DONE = false ∧ (bitAt v.toNat 31 = true → s.quiescent pg
    false = true)) ∧ (∃ (s : State) (who : Who) (page : BitVec 15) (v : Word) (pg : Nat), s.Ready ∧ s.onBus who =
    true ∧ pg = page.toNat ∧ (pageKind pg).isSome = true ∧ s.deaf pg = false ∧ s.locked pg = false ∧ s.on pg
    HDR.FEATACC_DONE = true) ∧ (∃ (s : State) (who : Who) (page : BitVec 15) (key : BitVec 16) (pg : Nat), s.Ready
    ∧ s.onBus who = true ∧ pg = page.toNat ∧ (pageKind pg).isSome = true ∧ pg ≠ pTSTK ∧ s.deaf pg = false ∧
    s.unlock.contains pg = false) ∧ (∃ (s : State) (who : Who) (page : BitVec 15) (pg : Nat), s.Ready ∧ s.onBus who
    = true ∧ pg = page.toNat ∧ (pageKind pg).isSome = true ∧ pg ≠ pTSTK ∧ s.deaf pg = false ∧ s.unlock.contains pg
    = true) ∧ (∃ (s : State) (page : BitVec 15) (pg : Nat), s.Live pg ∧ pg = page.toNat ∧ pg ≠ pTSTK ∧
    s.unlock.contains pg = true) :=
  ⟨⟨cellS.having [(pLE 7, LTH.STAT_CLOSEARM, 1)], 7, 0x040, 5, by decide +kernel⟩, ⟨cellS, 7, 0x40, 0xFFFFFFFF,
    by decide +kernel⟩, ⟨cellS.having [(pLE 7, HDR.FEATACC_DONE, 1), (pLE 7, HDR.FEATACC_ACC, 1)], 7, 0x050, 5,
    by decide +kernel⟩, ⟨cellS, .cpu0, 0x0725, 0x80000000, 0x725, by decide +kernel⟩, ⟨cellS.having [(0x725,
    HDR.FEATACC_DONE, 1)], .cpu0, 0x0725, 0x80000000, 0x725, by decide +kernel⟩, ⟨cellS, .cpu0, 0x0725, 0xA5C3,
    0x725, by decide +kernel⟩, ⟨cellS.but (fun d => { d with unlock := [0x725] }), .cpu0, 0x0725, 0x725,
    by decide +kernel⟩, ⟨cellS.but (fun d => { d with unlock := [0x725] }), 0x0725, 0x725, by decide +kernel⟩⟩

theorem wit_PageRulesAct_2 : (∃ (s : State) (who : Who) (page : BitVec 15) (v : Word) (pg b : Nat), s.phase =
    .running ∧ s.onBus who = true ∧ pg = page.toNat ∧ (pageKind pg).isSome = true ∧ pg ≠ pTSTK ∧ s.deaf pg = false
    ∧ s.locked pg = false ∧ b ∈ definedErrs pg ∧ bitAt v.toNat b = true ∧ 0 < s.errClass pg b) ∧ (∃ (s : State)
    (who : Who) (page : BitVec 15) (v : Word) (pg : Nat), s.phase = .running ∧ s.onBus who = true ∧ pg = page.toNat
    ∧ (pageKind pg).isSome = true ∧ s.deaf pg = false ∧ s.locked pg = true ∧ (definedErrs pg).any (bitAt v.toNat) =
    true) ∧ (∃ (s : State) (who : Who) (addr : BitVec 32) (v : Word) (pg off : Nat), s.Ready ∧ s.onBus who = true ∧
    addr.toNat = 0x40000000 + pg * 4096 + off ∧ off < 4096 ∧ off % 4 = 0 ∧ s.isCell = true ∧ 0x202 ≤ pg ∧ pg ≤
    0x209) :=
  ⟨⟨cellS, .cpu0, 0x0725, 0x80000000, 0x725, 31, by decide +kernel⟩, ⟨cellS.having [(0x725, HDR.LOCK_LOCKED, 1)],
    .cpu0, 0x0725, 0x80000000, 0x725, by decide +kernel⟩, ⟨cellS, .cpu0, 0x40209040, 5, 0x209, 0x40,
    by decide +kernel⟩⟩

theorem wit_PwmUnitsAct : (∃ (s : State) (m : Fin 7), s.Writable (pPWMU m) ∧ s.on (pPWMU m) PWMU.CTRL_EN = false) ∧
    (∃ (s : State) (m : Fin 7), s.Writable (pPWMU m) ∧ s.on (pPWMU m) PWMU.CTRL_EN = true) ∧ (∃ (s : State) (m :
    Fin 7), s.Writable pPWMC ∧ s.bit pPWMC PWMC.LDSEL_SOFT m = true ∧ s.loadedT.contains m.val = false) ∧ (∃ (s :
    State) (m : Fin 6) (tv : Nat), s.phase = .running ∧ m.val < s.pwm.length ∧ s.pwmLive m = true ∧ s.pwmMode m < 2
    ∧ s.nextApex m = (tv, false) ∧ s.commitWaits tv = false ∧ s.due tv = true ∧ s.on (pPWMU m) PWMU.STAT_DABBLK =
    false) ∧ (∃ (s : State) (m : Fin 6) (tv per D : Nat), s.phase = .running ∧ m.val < s.pwm.length ∧ s.pwmLive m =
    true ∧ s.pwmMode m < 2 ∧ s.nextApex m = (tv, false) ∧ s.commitWaits tv = false ∧ s.due tv = true ∧ (s.unit
    m).run = false ∧ s.get (pPWMU m) PWMU.CFG_SPP = 1 ∧ s.on (pPWMU m) PWMU.CFG_REFSRC = false ∧ per = s.pwmLen m
    PWMU.PER ∧ D = min per (s.pwmLen m PWMU.DUTY) ∧ s.dta m + s.minpw m ≤ D ∧ D + s.dtb m + s.minpw m ≤ per) ∧ (∃
    (s : State) (m : Fin 6) (tp : Nat), s.phase = .running ∧ s.pwmLive m = true ∧ s.pwmMode m < 2 ∧ s.nextApex m =
    (tp, true) ∧ s.commitWaits tp = false ∧ s.due tp = true) ∧ (∃ (s : State) (m : Fin 7) (e : PwmEdge) (rest :
    List PwmEdge), s.phase = .running ∧ ((s.sFlush m (s.now16 + tick16)).unit m).edges = e :: rest ∧ s.due e.at_ =
    true) :=
  ⟨⟨cellS, 5, by decide +kernel⟩, ⟨cellS.having [(pPWMU 5, PWMU.CTRL_EN, 1)], 5, by decide +kernel⟩, ⟨cellS.having
    [(pPWMC, PWMC.LDSEL_SOFT, 127)], 6, by decide +kernel⟩, ⟨(pwmS.having [(pPWMU 2, PWMU.CTRL_EN, 1), (pPWMU 2,
    PWMU.STAT_WAITLOAD, 0)]).but (fun d => d.modUnit 2 fun u =>
    { u with run := true, vs := 4096, len := 4096, peak := false }), 2, 8192, by decide +kernel⟩, ⟨(pwmS.having
    [(pPWMU 2, PWMU.CTRL_EN, 1), (pPWMU 2, PWMU.CFG_SPP, 1)]).but (fun d => (d.setForce (pPWMU 2) PWMU.PER
    64000).setForce (pPWMU 2) PWMU.DUTY 32000), 2, 0, 64000, 32000, by decide +kernel⟩, ⟨(pwmS.having [(pPWMU 2,
    PWMU.CTRL_EN, 1), (pPWMU 2, PWMU.STAT_WAITLOAD, 0)]).but (fun d => d.modUnit 2 fun u =>
    { u with run := true, vs := 4096, len := 8192, peak := true }), 2, 8192, by decide +kernel⟩, ⟨cellS.but (fun d
    => d.modUnit 6 fun u => { u with edges := [⟨5, false, true⟩] }), 6, ⟨5, false, true⟩, [], by decide +kernel⟩⟩

theorem wit_TimedPwmModesAct_1 : (∃ (s : State) (m : Fin 7), s.phase = .running ∧ s.pwmLive m = true ∧ 2 ≤
    s.pwmMode m ∧ (s.unit m).cot = .on) ∧ (∃ (s : State) (m : Fin 7), s.phase = .running ∧ s.pwmLive m = true ∧ 2 ≤
    s.pwmMode m ∧ (s.unit m).cot = .off ∧ (s.pwmMode m = 2 → s.on (pPWMU m) PWMU.EVCFG_STARTEN = false)) ∧ (∃ (s :
    State) (m : Fin 7), s.phase = .running ∧ s.pwmLive m = true ∧ s.pwmMode m = 2 ∧ (s.unit m).cot = .wait ∧ s.Live
    (pPWMU m)) ∧ (∃ (s : State) (m : Fin 7) (el : Nat), s.phase = .running ∧ m ≠ 6 ∧ s.pwmLive m = true ∧ s.pwmMode
    m = 2 ∧ s.sqOut (s.get (pPWMU m) PWMU.EVCFG_ENDSQ) = true ∧ s.on (pPWMU m) PWMU.EVCFG_ENDEN = true ∧ (s.unit
    m).cot = .on ∧ s.get (pPWMU m) PWMU.SPCNT_ABORT + 1 < 2 ^ PWMU.SPCNT_ABORT.wid) ∧ (∃ (s : State) (m : Fin 7)
    (el : Nat), s.phase = .running ∧ m ≠ 6 ∧ s.pwmLive m = true ∧ s.pwmMode m = 2 ∧ s.sqOut (s.get (pPWMU m)
    PWMU.EVCFG_STARTSQ) = true ∧ s.on (pPWMU m) PWMU.EVCFG_STARTEN = true ∧ (s.unit m).cot = .wait ∧ s.on (pPWMU m)
    PWMU.STAT_DABBLK = false) ∧ (∃ (s : State) (line : Fin 13) (ps : Nat), s.Live pPWMC) ∧ (∃ (s : State) (pair :
    Fin 2) (m : Fin 6), s.phase = .running ∧ s.holdOff = false) ∧ (∃ (s : State) (m : Fin 6), s.phase = .running ∧
    s.holdOff = true ∧ s.on pPWMC PWMC.HOLDSTAT_DBG1 = false ∧ s.on pPWMC PWMC.HOLDSTAT_CKSW = false ∧ s.on pPWMC
    PWMC.HOLDSTAT_CKMON = false) :=
  ⟨⟨(cellS.having [(pPWMU 6, PWMU.CTRL_EN, 1), (pPWMU 6, PWMU.CFG_MODE, 2)]).but (fun d => d.modUnit 6 fun u =>
    { u with cot := .on }), 6, by decide +kernel⟩, ⟨(cellS.having [(pPWMU 6, PWMU.CTRL_EN, 1), (pPWMU 6,
    PWMU.CFG_MODE, 2)]).but (fun d => d.modUnit 6 fun u => { u with cot := .off }), 6, by decide +kernel⟩,
    ⟨(cellS.having [(pPWMU 6, PWMU.CTRL_EN, 1), (pPWMU 6, PWMU.CFG_MODE, 2)]).but (fun d => d.modUnit 6 fun u =>
    { u with cot := .wait }), 6, by decide +kernel⟩, ⟨(pwmS.having [(pPWMU 5, PWMU.CTRL_EN, 1), (pPWMU 5,
    PWMU.CFG_MODE, 2), (pPWMU 5, PWMU.EVCFG_ENDEN, 1), (pSQL, SQL.OUT_LVL, 1)]).but (fun d => d.modUnit 5 fun u =>
    { u with cot := .on }), 5, 3, by decide +kernel⟩, ⟨(pwmS.having [(pPWMU 5, PWMU.CTRL_EN, 1), (pPWMU 5,
    PWMU.CFG_MODE, 2), (pPWMU 5, PWMU.EVCFG_STARTEN, 1), (pSQL, SQL.OUT_LVL, 1)]).but (fun d => d.modUnit 5 fun u
    => { u with cot := .wait }), 5, 3, by decide +kernel⟩, ⟨cellS, 12, 4401, by decide +kernel⟩, ⟨pwmS, 1, 5,
    by decide +kernel⟩, ⟨pwmS.having [(pPWMC, PWMC.HOLDSTAT_ACTIVE, 1), (pPWMC, PWMC.HOLDSTAT_DBG0, 1)], 5,
    by decide +kernel⟩⟩

theorem wit_TimedPwmModesAct_2 : (∃ (s : State), s.phase = .running ∧ s.holdOff = true ∧ s.on pPWMC
    PWMC.HOLDSTAT_DBG1 = true) ∧ (∃ (s : State), s.Writable pPWMC) :=
  ⟨⟨cellS.having [(pPWMC, PWMC.HOLDSTAT_ACTIVE, 1), (pPWMC, PWMC.HOLDSTAT_DBG1, 1)], by decide +kernel⟩,
    ⟨cellS.having [(pPWMC, PWMC.HOLDCNT_CNT, 7)], by decide +kernel⟩⟩

theorem wit_GateChannelsAct_1 : (∃ (s : State) (n : Fin 12), s.phase = .running ∧ (s.gate n).rise = true ∧ s.effReq
    n = true ∧ s.gst n = 1 ∧ s.on pGCH (GCH.LEGCFG_ILEN (n / 2)) = false ∧ (∀ k : Fin 12, s.routed k = false)) ∧ (∃
    (s : State) (n : Fin 12), s.phase = .running ∧ (s.gate n).rise = true ∧ s.effReq n = true ∧ s.gst n = 1 ∧
    s.interlockOk n = false ∧ (s.gate (partner n)).rise = false ∧ s.leftOff (partner n) (s.gate n).riseAt = false ∧
    (∀ k : Fin 12, s.routed k = false)) ∧ (∃ (s : State) (n : Fin 12), s.phase = .running ∧ s.gst n = 1 ∧ s.routed
    n = true) ∧ (∃ (s : State) (n : Fin 12), s.phase = .running ∧ s.effReq n = false ∧ 3 ≤ s.gst n ∧ s.gst n ≤ 5 ∧
    s.phaseOn n (GCH.POFF_T1 n) = true ∧ (∀ k : Fin 12, s.routed k = false)) ∧ (∃ (s : State) (n : Fin 12), s.phase
    = .running ∧ s.gst n = 3 ∧ (∀ k : Fin 12, s.routed k = false)) ∧ (∃ (s : State) (n : Fin 12), s.phase =
    .running ∧ s.gst n = 6 ∧ s.phaseOn n (GCH.POFF_T2 n) = true ∧ (∀ k : Fin 12, s.routed k = false)) ∧ (∃ (s :
    State) (n : Fin 12), s.phase = .running ∧ s.gst n = 7 ∧ s.chLatched n = true ∧ (∀ k : Fin 12, s.routed k =
    false)) ∧ (∃ (s : State) (n : Fin 12) (off : Bool) (ns : Nat), s.phase = .running) :=
  ⟨⟨(pwmS.having [(pGCH, GCH.CHSTAT_STATE 11, 1), (pGCH, GCH.LEGCFG_ILEN 5, 0), (pGCH, GCH.GDSTAT_GDEN, 1), (pGCH,
    GCH.CHCFG_SRC 11, 1), (pSYSC, SYSC.CELLSTATE_STATE, 3)]).but (fun d => (d.modGate 11 fun g =>
    { g with rise := true }).modUnit 0 fun u => { u with outB := true }), 11, by decide +kernel⟩, ⟨(pwmS.having
    [(pGCH, GCH.CHSTAT_STATE 11, 1), (pGCH, GCH.LEGCFG_ILEN 5, 1), (pGCH, GCH.CHSTAT_STATE 10, 5), (pGCH,
    GCH.GDSTAT_GDEN, 1), (pGCH, GCH.CHCFG_SRC 11, 1), (pSYSC, SYSC.CELLSTATE_STATE, 3)]).but (fun d => (d.modGate
    11 fun g => { g with rise := true }).modUnit 0 fun u => { u with outB := true }), 11, by decide +kernel⟩,
    ⟨(pwmS.having [(pGCH, GCH.CHSTAT_STATE 11, 1), (pGCH, GCH.LEGCFG_ILEN 5, 0), (pGCH, GCH.GDSTAT_GDEN, 1), (pGCH,
    GCH.CHCFG_SRC 11, 1), (pSYSC, SYSC.CELLSTATE_STATE, 3), (pSQL, SQL.SQTRIP_TRIPSEL 3, 0xFFF), (pSQL,
    SQL.OUT_LVL, 8)]).but (fun d => (d.modGate 11 fun g => { g with rise := true }).modUnit 0 fun u =>
    { u with outB := true }), 11, by decide +kernel⟩, ⟨cellS.having [(pGCH, GCH.CHSTAT_STATE 11, 5), (pGCH,
    GCH.POFF_T1 11, 64)], 11, by decide +kernel⟩, ⟨cellS.having [(pGCH, GCH.CHSTAT_STATE 11, 3)], 11,
    by decide +kernel⟩, ⟨cellS.having [(pGCH, GCH.CHSTAT_STATE 11, 6), (pGCH, GCH.POFF_T2 11, 64)], 11,
    by decide +kernel⟩, ⟨cellS.having [(pGCH, GCH.CHSTAT_STATE 11, 7), (pGCH, GCH.CHSTAT_ONFAIL 11, 1)], 11,
    by decide +kernel⟩, ⟨cellS, 11, true, 5, by decide +kernel⟩⟩

theorem wit_GateChannelsAct_2 : (∃ (s : State) (n : Fin 12), s.Live pGCH ∧ 3 ≤ s.gst n ∧ s.gst n ≤ 5 ∧ s.fbOff n =
    true ∧ (s.gate n).onSeen = false) ∧ (∃ (s : State) (n : Fin 12), s.Live pGCH ∧ s.gst n = 2) :=
  ⟨⟨cellS.having [(pGCH, GCH.CHSTAT_STATE 11, 5), (pGCH, GCH.CHSTAT_FB 11, 1)], 11, by decide +kernel⟩,
    ⟨cellS.having [(pGCH, GCH.CHSTAT_STATE 11, 2)], 11, by decide +kernel⟩⟩

theorem wit_LegProtectionActs_1 : (∃ (s : State) (q : Fin 16) (m : Fin 6) (c : Fin 2), s.phase = .running ∧ s.sqOut
    q = true ∧ s.lscBound q m = true ∧ s.conducting (2 * m + c) = true) ∧ (∃ (s : State) (n : Fin 12), s.phase =
    .running ∧ s.gst n = 8) ∧ (∃ (s : State) (ns : Nat), s.phase = .running ∧ 100 ≤ ns) ∧ (∃ (s : State) (ns :
    Nat), s.Ready ∧ ns < 40 ∧ (∀ k : Fin 12, s.routed k = false)) ∧ (∃ (s : State) (ns : Nat) (n : Fin 12) (m : Fin
    6), s.phase = .running ∧ s.on pGCH GCH.GDSTAT_GDEN = false ∧ 10000 ≤ ns) ∧ (∃ (s : State) (ns : Nat) (n : Fin
    12) (m : Fin 6), s.phase = .running ∧ s.on pGCH GCH.GDSTAT_GDEN = false ∧ ns < 9000 ∧ (∀ k : Fin 12, s.routed k
    = false)) ∧ (∃ (s : State) (n : Fin 12), s.Live pGCH ∧ s.on pSYSC SYSC.STRAP_INV = false ∧ s.on pGCH
    GCH.GDSTAT_GDEN = true ∧ s.gst n = 0 ∧ s.get pGCH (GCH.CHCFG_SRC n) < 12 ∧ s.chLatched n = false ∧ s.legLatched
    (n / 2) = false) ∧ (∃ (s : State) (n : Fin 12) (v : Word), s.Writable pGCH ∧ (v.toNat % 16 ≤ 11 ∨ v.toNat % 16
    = 15) ∧ s.unitOff (s.get pGCH (GCH.CHCFG_SRC n)) = true ∧ s.unitOff (v.toNat % 16) = true ∧ (s.gst n = 0 ∨
    s.gst n = 1 ∨ s.gst n = 9)) :=
  ⟨⟨cellS.having [(pGCH, GCH.CHSTAT_STATE 11, 5), (pGCH, GCH.LEGCFG_LSCEN 5, 1), (pGCH, GCH.LEGCFG_LSCSQ 5, 3),
    (pSQL, SQL.OUT_LVL, 8)], 3, 5, 1, by decide +kernel⟩, ⟨cellS.having [(pGCH, GCH.CHSTAT_STATE 11, 8)], 11,
    by decide +kernel⟩, ⟨cellS.having [(pGCH, GCH.GDSTAT_GDEN, 1)], 100, by decide +kernel⟩, ⟨cellS, 39,
    by decide +kernel⟩, ⟨cellS, 10000, 11, 5, by decide +kernel⟩, ⟨cellS, 8999, 11, 5, by decide +kernel⟩,
    ⟨cellS.having [(pGCH, GCH.GDSTAT_GDEN, 1), (pGCH, GCH.CHCFG_SRC 11, 11)], 11, by decide +kernel⟩, ⟨cellS, 11,
    0x3B, by decide +kernel⟩⟩

theorem wit_LegProtectionActs_2 : (∃ (s : State) (n : Fin 12) (v : Word), s.Writable pGCH ∧ 12 ≤ v.toNat % 16 ∧
    v.toNat % 16 ≤ 14) ∧ (∃ (s : State) (m : Fin 6), s.Writable pGCH) :=
  ⟨⟨cellS, 11, 0x3C, by decide +kernel⟩, ⟨cellS, 5, by decide +kernel⟩⟩

theorem wit_BrakeChopperActs : (∃ (s : State), s.phase = .running ∧ s.csRuns = true ∧ s.sqOut (s.get pGCH
    GCH.CSCFG_OV1SQ) = true ∧ s.on pGCH GCH.CSSTAT_OV1 = false) ∧ (∃ (s : State), s.Live pGCH ∧ s.csRuns = true ∧
    s.chop.due1 = true ∧ s.on pGCH GCH.CSSTAT_OV1 = true ∧ s.chop.seen1 = false) ∧ (∃ (s : State), s.Live pGCH ∧
    s.csRuns = true ∧ s.chop.dueV = true ∧ s.on pGCH GCH.CSSTAT_OV1 = true ∧ s.chop.v0 + s.get pGCH GCH.CSVBUS_RISE
    < s.busResult) ∧ (∃ (s : State), s.Live pGCH ∧ s.csRuns = true ∧ s.chop.due2 = 1 ∧ s.chop.seen2 = false) ∧ (∃
    (s : State), s.Live pGCH ∧ s.csRuns = true ∧ s.sqOut (s.get pGCH GCH.CSCFG_OV3SQ) = true ∧ s.on pGCH
    GCH.CSSTAT_OV3 = false) ∧ (∃ (s : State), s.Writable pGCH ∧ s.isCell = false ∧ s.on pGCH GCH.CSSTAT_OV1 = false
    ∧ s.on pGCH GCH.CSSTAT_OV3 = false) ∧ (∃ (s : State), s.Writable pGCH ∧ s.isCell = false ∧ (s.on pGCH
    GCH.CSSTAT_OV1 = true ∨ s.on pGCH GCH.CSSTAT_OV3 = true)) :=
  ⟨⟨hubS.having [(pGCH, GCH.CSCFG_EN, 1), (pSQL, SQL.OUT_LVL, 0xFFFF)], by decide +kernel⟩, ⟨(hubS.having [(pGCH,
    GCH.CSCFG_EN, 1), (pGCH, GCH.CSSTAT_OV1, 1)]).but (fun d => { d with chop := { d.chop with due1 := true } }),
    by decide +kernel⟩, ⟨(hubS.having [(pGCH, GCH.CSCFG_EN, 1), (pGCH, GCH.CSSTAT_OV1, 1), (pADC 0, ADC.RES_VALUE
    0, 9), (pGCH, GCH.CSVBUS_RISE, 1)]).but (fun d => { d with chop := { d.chop with dueV := true } }),
    by decide +kernel⟩, ⟨(hubS.having [(pGCH, GCH.CSCFG_EN, 1)]).but (fun d =>
    { d with chop := { d.chop with due2 := 1 } }), by decide +kernel⟩, ⟨hubS.having [(pGCH, GCH.CSCFG_EN, 1),
    (pSQL, SQL.OUT_LVL, 0xFFFF)], by decide +kernel⟩, ⟨hubS.having [(pGCH, GCH.CSSTAT_FAIL1, 1)],
    by decide +kernel⟩, ⟨hubS.having [(pGCH, GCH.CSSTAT_OV3, 1)], by decide +kernel⟩⟩

theorem wit_SquallChannelsAct_1 : (∃ (s : State) (q : Fin 16) (v : Nat), s.Live pSQL ∧ q.val < s.sq.length ∧
    s.sqUnres q = false ∧ s.sqHeld q = false ∧ (s.sqCh q).dac = none ∧ s.bit pSQL SQL.RAW q = false ∧ (s.sqFunc q =
    1 ∧ (s.sqNear q (s.sqLevels q).1).2 < v ∨ s.sqFunc q = 2 ∧ v < (s.sqNear q (s.sqLevels q).2).1 ∨ s.sqFunc q = 3
    ∧ ((s.sqNear q (s.sqLevels q).1).2 < v ∨ v < (s.sqNear q (s.sqLevels q).2).1) ∨ s.sqFunc q = 4 ∧ v + s.sqHysMax
    q < (s.sqNear q (s.sqLevels q).1).1 ∧ (s.sqNear q (s.sqLevels q).2).2 + s.sqHysMax q < v)) ∧ (∃ (s : State) (q
    : Fin 16) (v : Nat), s.Live pSQL ∧ q.val < s.sq.length ∧ s.sqUnres q = false ∧ s.sqHeld q = false ∧ (s.sqCh
    q).dac = none ∧ s.bit pSQL SQL.RAW q = true ∧ s.get pSQL (SQL.SQCFG_LATCH q) = 0 ∧ (s.sqFunc q = 1 ∧ v +
    s.sqHysMax q < (s.sqNear q (s.sqLevels q).1).1 ∨ s.sqFunc q = 2 ∧ (s.sqNear q (s.sqLevels q).2).2 + s.sqHysMax
    q < v ∨ s.sqFunc q = 3 ∧ v + s.sqHysMax q < (s.sqNear q (s.sqLevels q).1).1 ∧ (s.sqNear q (s.sqLevels q).2).2 +
    s.sqHysMax q < v ∨ s.sqFunc q = 4 ∧ ((s.sqNear q (s.sqLevels q).1).2 < v ∨ v < (s.sqNear q (s.sqLevels
    q).2).1))) ∧ (∃ (s : State) (q : Fin 16) (v : Nat), s.Live pSQL ∧ q.val < s.sq.length ∧ s.sqUnres q = false ∧
    s.sqHeld q = false ∧ (s.sqCh q).dac = none ∧ s.bit pSQL SQL.RAW q = false ∧ s.sqOut q = false ∧ s.clockLost =
    false ∧ (s.sqFunc q = 1 ∧ (s.sqNear q (s.sqLevels q).1).2 < v ∨ s.sqFunc q = 2 ∧ v < (s.sqNear q (s.sqLevels
    q).2).1 ∨ s.sqFunc q = 3 ∧ ((s.sqNear q (s.sqLevels q).1).2 < v ∨ v < (s.sqNear q (s.sqLevels q).2).1) ∨
    s.sqFunc q = 4 ∧ v + s.sqHysMax q < (s.sqNear q (s.sqLevels q).1).1 ∧ (s.sqNear q (s.sqLevels q).2).2 +
    s.sqHysMax q < v) ∧ s.get pSQL (SQL.SQCNT_CNT q) + 1 < 2 ^ (SQL.SQCNT_CNT q).wid) ∧ (∃ (s : State) (q : Fin 16)
    (v : Nat), s.phase = .running ∧ s.sqPowered q = true ∧ s.sqUnres q = false ∧ s.sqHeld q = true) ∧ (∃ (s :
    State) (q : Fin 16) (v : Nat), s.Live pSQL ∧ q.val < s.sq.length ∧ s.sqPowered q = true ∧ s.sqUnres q = true ∧
    (s.sqCh q).blk = none ∧ s.get pSQL (SQL.SQCFG_LATCH q) = 0 ∧ (s.sqNear q (s.sqLevels q).1).2 < v ∧ (s.sqNear q
    (s.sqLevels q).2).2 + s.sqHysMax q < v) ∧ (∃ (s : State) (q : Fin 16) (v : Word), s.Writable pSQL ∧ s.get pSQL
    (SQL.SQCFG_FUNC q) = 0 ∧ s.legsc q = false ∧ 1 ≤ (SQL.SQCFG_FUNC q).pick v.toNat ∧ (SQL.SQCFG_FUNC q).pick
    v.toNat ≤ 4 ∧ (SQL.SQCFG_LATCH q).pick v.toNat ≤ 1) ∧ (∃ (s : State) (q : Fin 16) (v : Word), s.Writable pSQL ∧
    5 ≤ (SQL.SQCFG_FUNC q).pick v.toNat) ∧ (∃ (s : State) (q : Fin 16) (v : Word), s.Writable pSQL ∧ (twoState
    (s.get pSQL (SQL.SQCFG_FUNC q)) = true ∨ s.legsc q = true → (SQL.SQTHR_LO q).pick v.toNat + 2 * (SQL.SQTHR_HYS
    q).pick v.toNat < (SQL.SQTHR_HI q).pick v.toNat)) :=
  ⟨⟨cellS.having [(pSQL, SQL.SQCFG_FUNC 15, 1), (pSQL, SQL.SQTHR_HI 15, 0)], 15, 99, by decide +kernel⟩,
    ⟨(cellS.having [(pSQL, SQL.SQCFG_FUNC 15, 1), (pSQL, SQL.SQTHR_HI 15, 9), (pSQL, SQL.RAW, 0x8000), (pSQL,
    SQL.OUT_LVL, 0x8000)]).but (fun d => d.modSq 15 fun c => { c with aHi := true }), 15, 3, by decide +kernel⟩,
    ⟨cellS.having [(pSQL, SQL.SQCFG_FUNC 15, 1), (pSQL, SQL.SQTHR_HI 15, 0), (pSQL, SQL.SQCFG_ECLS 15, 2)], 15, 99,
    by decide +kernel⟩, ⟨(cellS.having [(pSQL, SQL.SQCFG_FUNC 15, 1)]).but (fun d => d.modSq 15 fun c =>
    { c with blk := some 99 }), 15, 3, by decide +kernel⟩, ⟨cellS.having [(pSQL, SQL.SQCFG_FUNC 15, 1), (pSQL,
    SQL.SQTHR_HI 15, 0), (pSQL, SQL.OUT_UNRES, 0x8000)], 15, 99, by decide +kernel⟩, ⟨cellS, 15, 1,
    by decide +kernel⟩, ⟨cellS, 15, 7, by decide +kernel⟩, ⟨cellS, 15, 7, by decide +kernel⟩⟩

theorem wit_SquallChannelsAct_2 : (∃ (s : State) (q : Fin 16) (x : Nat), s.phase = .running ∧ (s.sqCh q).blk = some
    x ∧ x ≤ s.ticks ∧ (s.sqCh q).hold = false ∧ s.sqPowered q = true ∧ s.sqUnres q = false ∧ s.get pSQL
    (SQL.SQCFG_LATCH q) = 0) ∧ (∃ (s : State) (mask : BitVec 16) (q : Fin 16), s.Writable pSQL ∧ bitAt mask.toNat q
    = true ∧ s.get pSQL (SQL.SQCFG_LATCH q) = 1 ∧ s.bit pSQL SQL.RAW q = false ∧ (s.sqCh q).asrt ≠ some s.ticks ∧
    s.sqHeld q = false ∧ s.sqPowered q = true ∧ s.sqUnres q = false) ∧ (∃ (s : State) (q : Fin 16) (v : Word),
    s.Writable pSQL) ∧ (∃ (s : State) (q : Fin 16), s.phase = .running) ∧ (∃ (s : State) (q : Fin 16), s.Writable
    pSQL) ∧ (∃ (s : State) (q : Fin 16), s.phase = .running ∧ q.val < s.sq.length ∧ s.bit pSQL SQL.SETL q = true ∧
    s.sqPowered q = true ∧ s.sqUnres q = false ∧ (s.sqCh q).blk = none ∧ s.get pSQL (SQL.SQCFG_LATCH q) = 0) :=
  ⟨⟨(cellS.having [(pSQL, SQL.SQCFG_FUNC 15, 1), (pSQL, SQL.RAW, 0x8000)]).but (fun d =>
    { d.modSq 15 fun c => { c with blk := some 9 } with ticks := 9 }), 15, 9, by decide +kernel⟩, ⟨cellS.having
    [(pSQL, SQL.SQCFG_FUNC 15, 1), (pSQL, SQL.SQCFG_LATCH 15, 1), (pSQL, SQL.OUT_LVL, 0x8000), (pSQL, SQL.LATCH,
    0x8000)], 0x8000, 15, by decide +kernel⟩, ⟨cellS, 15, 0xFFF, by decide +kernel⟩, ⟨cellS, 15,
    by decide +kernel⟩, ⟨cellS, 15, by decide +kernel⟩, ⟨(cellS.having [(pSQL, SQL.SQCFG_FUNC 15, 1), (pSQL,
    SQL.SETL, 0x8000), (pSQL, SQL.RAW, 0x8000)]).but (fun d => d.modSq 15 fun c => { c with hold := true }), 15,
    by decide +kernel⟩⟩

theorem wit_ConvertersAct_1 : (∃ (s : State) (c : Fin 2) (en : Bool), s.Writable (pADC c)) ∧ (∃ (s : State) (c :
    Fin 2), s.Live (pADC c) ∧ s.on (pADC c) ADC.REFCTL_REFEN = true ∧ s.on (pADC c) ADC.REFCTL_REFRDY = false) ∧ (∃
    (s : State) (c : Fin 2), s.Live (pADC c) ∧ s.on (pADC c) ADC.REFCTL_REFEN = true) ∧ (∃ (s : State) (c : Fin 2)
    (en : Bool), s.Writable (pADC c)) ∧ (∃ (s : State) (c : Fin 2), s.phase = .running ∧ s.on (pADC c) ADC.CTRL_EN
    = true ∧ s.on (pADC c) ADC.REFCTL_REFRDY = true ∧ s.onSyna = true) ∧ (∃ (s : State) (c : Fin 2) (k : Fin 32) (v
    : Word), s.Writable (pADC c) ∧ (s.adcOf c).cur = none ∧ s.adcIdle c = true ∧ (ADC.SLOT_INPUT k).pick v.toNat <
    24 ∧ (ADC.SLOT_AVG k).pick v.toNat ≤ 8 ∧ (ADC.SLOT_OW k).pick v.toNat ≠ 3) ∧ (∃ (s : State) (c : Fin 2) (k :
    Fin 32) (v : Word), s.Writable (pADC c) ∧ 24 ≤ (ADC.SLOT_INPUT k).pick v.toNat) ∧ (∃ (s : State) (c : Fin 2)
    (slot : Fin 32), s.Writable (pADC c) ∧ c.val < s.adc.length ∧ s.on (pADC c) ADC.CTRL_EN = true ∧ s.adcReady c =
    true ∧ (s.adcOf c).cur = none ∧ s.adcIdle c = true ∧ s.trigNow c = none) :=
  ⟨⟨cellS, 1, false, by decide +kernel⟩, ⟨cellS.having [(pADC 1, ADC.REFCTL_REFEN, 1)], 1, by decide +kernel⟩,
    ⟨cellS.having [(pADC 1, ADC.REFCTL_REFEN, 1)], 1, by decide +kernel⟩, ⟨cellS, 1, true, by decide +kernel⟩,
    ⟨linkS.having [(pADC 1, ADC.CTRL_EN, 1), (pADC 1, ADC.REFCTL_REFRDY, 1)], 1, by decide +kernel⟩, ⟨cellS, 1, 31,
    0x8000000F, by decide +kernel⟩, ⟨cellS, 1, 31, 0x1F, by decide +kernel⟩, ⟨linkS.having [(pADC 1, ADC.CTRL_EN,
    1), (pADC 1, ADC.STAT_READY, 1)], 1, 31, by decide +kernel⟩⟩

theorem wit_ConvertersAct_2 : (∃ (s : State) (c : Fin 2) (slot : Fin 32), s.Writable (pADC c) ∧ s.on (pADC c)
    ADC.CTRL_EN = true ∧ s.adcReady c = false ∧ (s.adcOf c).cur = none ∧ s.trigNow c = none) ∧ (∃ (s : State) (c :
    Fin 2) (slot tt : Nat), s.phase = .running ∧ (s.adcOf c).pend = some (slot, tt) ∧ (s.adcOf c).cur = none ∧
    (s.adcOf c).back = [] ∧ (s.adcOf c).uwait = none) ∧ (∃ (s : State) (c : Fin 2) (k x : Nat), s.phase = .running
    ∧ c.val < s.adc.length ∧ s.adcReady c = true ∧ (s.adcOf c).cur = none ∧ s.winNext c s.tickAt = some (k, x)) ∧
    (∃ (s : State) (c : Fin 2) (k x : Nat), s.Live (pADC c) ∧ s.adcReady c = false ∧ (s.adcOf c).cur = none ∧
    s.winNext c s.tickAt = some (k, x)) :=
  ⟨⟨linkS.having [(pADC 1, ADC.CTRL_EN, 1)], 1, 31, by decide +kernel⟩, ⟨cellS.but (fun d => d.modAdc 1 fun a =>
    { a with pend := some (7, 8) }), 1, 7, 8, by decide +kernel⟩, ⟨(linkS.having [(pVANE, VANE.GRIDCTL_RUN, 1),
    (pVANE, VANE.GTSF, 6250), (pADC 1, ADC.ANCHCFG_EN, 1), (pADC 1, ADC.ANCHCFG_SLOT, 7), (pADC 1, ADC.CTRL_EN, 1),
    (pADC 1, ADC.STAT_READY, 1)]).but (fun d => { d with time := 2 ^ 48, ticks := 99 }), 1, 7, 1638400000,
    by decide +kernel⟩, ⟨(linkS.having [(pVANE, VANE.GRIDCTL_RUN, 1), (pVANE, VANE.GTSF, 6250), (pADC 1,
    ADC.ANCHCFG_EN, 1), (pADC 1, ADC.ANCHCFG_SLOT, 7), (pADC 1, ADC.CTRL_EN, 1)]).but (fun d =>
    { d with time := 2 ^ 48, ticks := 99 }), 1, 7, 1638400000, by decide +kernel⟩⟩

theorem wit_ConversionResultsAct_1 : (∃ (s : State) (c : Fin 2) (codes : List Int) (j : AdcJob) (rest : List
    AdcJob) (g : AdcCfg), s.phase = .running ∧ (s.adcOf c).cur = none ∧ (s.adcOf c).flight = j :: rest ∧ j.urg =
    none ∧ j.held = none ∧ g = s.jobCfg c j ∧ g.ow = 0 ∧ g.dest < 16 ∧ codes.length = 2 ^ g.avg ∧ notAfter (j.t0 +
    (2 ^ g.avg - 1) * conv16 + ready16) s.now16 = true) ∧ (∃ (s : State) (c : Fin 2) (code : Int) (j : AdcJob)
    (rest : List AdcJob) (v : Int) (clip : Bool) (g : AdcCfg), s.Live (pADC c) ∧ (s.adcOf c).cur = none ∧ (s.adcOf
    c).flight = j :: rest ∧ j.held = some (v, clip) ∧ g = s.jobCfg c j ∧ g.ow = 1 ∧ g.input < 24 ∧ g.dest < 16 ∧
    notAfter (s.jobLast c j + ready16) s.now16 = true ∧ v + (s.get (pADC c) ADC.OWCFG_OWTH : Nat) < (g.value s.tDie
    [code]).1) ∧ (∃ (s : State) (c : Fin 2) (v : Word), s.Writable (pADC c) ∧ c.val < s.adc.length ∧ s.on (pADC c)
    ADC.CTRL_EN = true ∧ s.adcReady c = true ∧ (s.adcOf c).cur = none ∧ s.adcIdle c = true ∧ s.on (pADC c)
    ADC.ANCHCFG_EN = false ∧ ADC.URGCTL_INPUT.pick v.toNat < 24 ∧ ADC.URGCTL_AVG.pick v.toNat ≤ 8) ∧ (∃ (s : State)
    (c : Fin 2) (codes : List Int) (j : AdcJob) (rest : List AdcJob) (g : AdcCfg), s.Live (pADC c) ∧ (s.adcOf
    c).cur = none ∧ (s.adcOf c).flight = j :: rest ∧ j.urg.isSome = true ∧ g = s.jobCfg c j ∧ g.dest < 16 ∧
    codes.length = 2 ^ g.avg ∧ notAfter (j.t0 + (2 ^ g.avg - 1) * conv16 + ready16) s.now16 = true) ∧ (∃ (s :
    State) (c : Fin 2) (v : Word), s.Writable (pADC c) ∧ s.on (pADC c) ADC.RINGCFG_EN = false ∧
    ADC.RINGCFG_SIZE.pick v.toNat ≤ 10 ∧ 0x20000000 ≤ s.get (pADC c) ADC.RINGBASE * 64 ∧ s.get (pADC c)
    ADC.RINGBASE * 64 + 64 * 2 ^ ADC.RINGCFG_SIZE.pick v.toNat ≤ 0x20400000) ∧ (∃ (s : State) (c : Fin 2) (v :
    Word), s.Writable (pADC c) ∧ 10 < ADC.RINGCFG_SIZE.pick v.toNat) ∧ (∃ (s : State) (c : Fin 2) (v : Word),
    s.Writable (pADC c) ∧ ADC.RINGRD.pick v.toNat % 8 = 0 ∧ ADC.RINGRD.pick v.toNat < s.ringSize c) ∧ (∃ (s :
    State) (c : Fin 2) (v : Word), s.Writable (pADC c) ∧ (ADC.RINGRD.pick v.toNat % 8 ≠ 0 ∨ s.ringSize c ≤
    ADC.RINGRD.pick v.toNat)) :=
  ⟨⟨cellS.but (fun d =>
    { d.modAdc 1 fun a => { a with flight := [{ job0 with slot := 7 }] } with time := 2 ^ 48 }), 1, [500],
    { job0 with slot := 7 }, [], cellS.slotCfg 1 7, by decide +kernel⟩, ⟨(cellS.having [(pADC 1, HDR.FEATACC_DONE,
    1), (pADC 1, HDR.FEATACC_ACC, 1), (pADC 1, ADC.SLOT_OW 7, 1)]).but (fun d =>
    { d.modAdc 1 fun a => { a with flight := [{ job0 with slot := 7, held := some (5, false) }] } with time := 2 ^ 56 }),
    1, 60000, { job0 with slot := 7, held := some (5, false) }, [], 5, false, { cellS.slotCfg 1 7 with ow := 1 },
    by decide +kernel⟩, ⟨linkS.having [(pADC 1, ADC.CTRL_EN, 1), (pADC 1, ADC.STAT_READY, 1)], 1, 5,
    by decide +kernel⟩, ⟨cellS.but (fun d =>
    { d.modAdc 1 fun a => { a with flight := [{ job0 with urg := some (3, 0, 15) }] } with time := 2 ^ 48 }), 1,
    [500], { job0 with urg := some (3, 0, 15) }, [], cellS.coefCfg 1 3 15 0 0 true, by decide +kernel⟩,
    ⟨cellS.having [(pADC 1, ADC.RINGBASE, 0x800000)], 1, 0x80000000, by decide +kernel⟩, ⟨cellS, 1, 0x00FF0000,
    by decide +kernel⟩, ⟨cellS.having [(pADC 1, ADC.RINGCFG_SIZE, 10)], 1, 65528, by decide +kernel⟩, ⟨cellS, 1,
    64, by decide +kernel⟩⟩

theorem wit_ConversionResultsAct_2 : ∃ (s : State) (c : Fin 2), s.Writable (pADC c) :=
  ⟨cellS, 1, by decide +kernel⟩

theorem wit_LatheEnginesAct_1 : (∃ (s : State) (n : Fin 8), s.phase = .running ∧ s.inBlk.contains (pLE n) = false ∧
    (s.leOf n).req = true ∧ s.leState n = 0 ∧ s.on (pLE n) LTH.STAT_CLOSEARM = false ∧ s.get (pLE n) LTH.CNT_MERGE
    + 1 < 2 ^ LTH.CNT_MERGE.wid) ∧ (∃ (s : State) (n : Fin 8), s.phase = .running ∧ (s.leOf n).req = true ∧
    s.leState n = 0 ∧ s.absent (pLE n) = false ∧ s.inBlk.contains (pLE n) = false ∧ s.on (pLE n) LTH.STAT_CLOSEARM
    = true) ∧ (∃ (s : State) (n : Fin 8), s.Live (pLE n) ∧ (s.leOf n).req = true ∧ s.leState n = 1 ∧ s.on (pLE n)
    LTH.STAT_PEND = true ∧ s.get (pLE n) LTH.CNT_TRIGOVR + 1 < 2 ^ LTH.CNT_TRIGOVR.wid) ∧ (∃ (s : State) (n : Fin
    8), s.Live (pLE n) ∧ (s.leOf n).req = true ∧ s.leState n = 1 ∧ s.on (pLE n) LTH.STAT_PEND = false ∧ s.on (pLE
    n) LTH.STAT_BUSY = true ∧ s.get (pLE n) LTH.STAT_CONSEC < 3) ∧ (∃ (s : State) (n : Fin 8) (r : LeRun) (i : Fin
    64) (k : Fin 16), s.Live (pLE n) ∧ (s.leOf n).run = some r ∧ r.void = false ∧ r.arith = false) ∧ (∃ (s : State)
    (n : Fin 8) (r : LeRun) (i : Fin 64) (k : Fin 16), s.Live (pLE n) ∧ (s.leOf n).run = some r ∧ r.void = true) ∧
    (∃ (s : State) (n : Fin 8), s.Writable (pLE n) ∧ s.leState n = 0 ∧ s.closeRefused n = false ∧ (s.onSyna = true
    ∨ (s.leOf n).clkOpen = false)) ∧ (∃ (s : State) (n : Fin 8), s.Writable (pLE n) ∧ (s.leState n ≠ 0 ∨
    s.closeRefused n = true)) :=
  ⟨⟨cellS.but (fun d => d.modLe 7 fun e => { e with req := true }), 7, by decide +kernel⟩, ⟨(linkS.having [(pLE 7,
    LTH.STAT_CLOSEARM, 1)]).but (fun d => d.modLe 7 fun e => { e with req := true }), 7, by decide +kernel⟩,
    ⟨(cellS.having [(pLE 7, LTH.STAT_STATE, 1), (pLE 7, LTH.STAT_PEND, 1)]).but (fun d => d.modLe 7 fun e =>
    { e with req := true }), 7, by decide +kernel⟩, ⟨(cellS.having [(pLE 7, LTH.STAT_STATE, 1), (pLE 7,
    LTH.STAT_BUSY, 1)]).but (fun d => d.modLe 7 fun e => { e with req := true }), 7, by decide +kernel⟩, ⟨cellS.but
    (fun d => d.modLe 7 fun e => { e with run := some ⟨[5], [6], [7], true, false, false, false⟩ }), 7, ⟨[5], [6],
    [7], true, false, false, false⟩, 63, 15, by decide +kernel⟩, ⟨cellS.but (fun d => d.modLe 7 fun e =>
    { e with run := some ⟨[5], [6], [7], true, false, false, true⟩ }), 7, ⟨[5], [6], [7], true, false, false,
    true⟩, 63, 15, by decide +kernel⟩, ⟨linkS.having [(pLE 7, LTH.TSAMP, 0x3F800000)], 7, by decide +kernel⟩,
    ⟨cellS.having [(pLE 7, LTH.STAT_STATE, 1)], 7, by decide +kernel⟩⟩

theorem wit_LatheEnginesAct_2 : (∃ (s : State) (n : Fin 8), s.Writable (pLE n)) ∧ (∃ (s : State) (n : Fin 8),
    s.Writable (pLE n) ∧ n.val < s.le.length) ∧ (∃ (s : State) (n : Fin 8), s.Writable (pLE n)) :=
  ⟨⟨cellS.having [(pLE 7, LTH.STAT_STATE, 1)], 7, by decide +kernel⟩, ⟨cellS, 7, by decide +kernel⟩, ⟨cellS, 7,
    by decide +kernel⟩⟩

theorem wit_FaultCollectorActs_1 : (∃ (s : State) (i : Fin 48) (x : Report), s.phase = .running ∧ s.reports = [x] ∧
    x.src = i.val ∧ x.cls = 1 ∧ x.inj = false ∧ s.inWindow i = false ∧ s.openRec i 0 = none ∧ s.classReact i 1
    false = 1 ∧ (s.get pFCOL FCOL.RECWR + 1) % 2048 ≠ s.get pFCOL FCOL.RECRD ∧ s.get pFCOL FCOL.RECWR < 2048 ∧
    x.bit < 32) ∧ (∃ (s : State) (i : Fin 48) (x : Report), s.phase = .running ∧ s.isCell = true ∧ s.reports = [x]
    ∧ x.src = i.val ∧ x.cls = 3 ∧ x.inj = false ∧ s.fcol.fatalDone = false ∧ s.get pSYSC SYSC.CELLSTATE_STATE < 5)
    ∧ (∃ (s : State) (n : BitVec 6) (at_ : Option Nat) (r : Rec), s.Writable pFCOL ∧ n.toNat < 48 ∧ s.fcol.opened =
    [(at_, r)] ∧ r.src = n.toNat ∧ r.gcode = 0) ∧ (∃ (s : State) (i : Fin 48), s.phase = .running ∧ (∀ pg ∈
    sourcePages i.val, s.inBlk.contains pg = false) ∧ (i.val = 7 → s.cpu1Held = false)) ∧ (∃ (s : State),
    s.Writable pFCOL ∧ s.on pFCOL FCOL.STAT_FATAL = false ∧ s.stopRecord = false ∧ s.on pSYSC SYSC.STRAP_INV =
    false ∧ s.on pFCOL FCOL.STAT_FNASSERT = true) ∧ (∃ (s : State), s.Writable pFCOL ∧ s.on pFCOL FCOL.STAT_FATAL =
    true) ∧ (∃ (s : State), s.phase = .running ∧ s.on pFCOL FCOL.STAT_ALIVERUN = true) ∧ (∃ (s : State), s.Writable
    pFCOL ∧ s.fcol.kickAt.isSome = true ∧ s.on pFCOL FCOL.STAT_ALIVERUN = true ∧ s.on pFCOL FCOL.ALIVECFG_KICKTO =
    true) :=
  ⟨⟨(cellS.having [(pFCOL, FCOL.RCT_COR 7, 1)]).but (fun d =>
    { d with reports := [⟨7, 0, 31, 1, false, 5, 6, 0⟩] }), 7, ⟨7, 0, 31, 1, false, 5, 6, 0⟩, by decide +kernel⟩,
    ⟨cellS.but (fun d => { d with reports := [⟨7, 0, 31, 3, false, 5, 6, 0⟩] }), 7, ⟨7, 0, 31, 3, false, 5, 6, 0⟩,
    by decide +kernel⟩, ⟨cellS.but (fun d =>
    { d with fcol := { d.fcol with opened := [(some 0, recOf 7 0 1 4 5 6 0 true false)] } }), 7, some 0, recOf 7 0
    1 4 5 6 0 true false, by decide +kernel⟩, ⟨(cellS.having [(pSYSC, SYSC.RELEASE_CPU1, 1)]).but (fun d =>
    { d with fcol := { d.fcol with windows := [7] } }), 7, by decide +kernel⟩, ⟨cellS.having [(pFCOL,
    FCOL.STAT_FNASSERT, 1), (pSYSC, SYSC.STRAP_INV, 0)], by decide +kernel⟩, ⟨cellS.having [(pFCOL,
    FCOL.STAT_FATAL, 1)], by decide +kernel⟩, ⟨cellS.having [(pFCOL, FCOL.STAT_ALIVERUN, 1)], by decide +kernel⟩,
    ⟨(cellS.having [(pFCOL, FCOL.STAT_ALIVERUN, 1), (pFCOL, FCOL.ALIVECFG_KICKTO, 1)]).but (fun d =>
    { d with fcol := { d.fcol with kickAt := some 0 }, ticks := 9 }), by decide +kernel⟩⟩

theorem wit_FaultCollectorActs_2 : (∃ (s : State) (tk : Nat), s.Live pFCOL ∧ s.fcol.kickAt = some tk ∧ tk <
    s.ticks) ∧ (∃ (s : State) (v : Word), s.Writable pFCOL ∧ 50 ≤ FCOL.ALIVECFG_HALF.pick v.toNat ∧
    FCOL.ALIVECFG_HALF.pick v.toNat ≤ 5000) ∧ (∃ (s : State) (v : Word), s.Writable pFCOL ∧
    (FCOL.ALIVECFG_HALF.pick v.toNat < 50 ∨ 5000 < FCOL.ALIVECFG_HALF.pick v.toNat)) ∧ (∃ (s : State) (n : Fin 48)
    (v : Word), s.Writable pFCOL ∧ (blkRefused n = true → bitAt v.toNat 5 = false ∧ bitAt v.toNat 15 = false)) ∧ (∃
    (s : State) (n : Fin 48) (v : Word), s.Writable pFCOL ∧ blkRefused n = true ∧ (bitAt v.toNat 5 = true ∨ bitAt
    v.toNat 15 = true)) ∧ (∃ (s : State) (n : Fin 16) (v : Word), s.Writable pFCOL ∧ bitAt v.toNat 4 = false ∧
    bitAt v.toNat 5 = false) ∧ (∃ (s : State) (n : Fin 16) (v : Word), s.Writable pFCOL ∧ (bitAt v.toNat 4 = true ∨
    bitAt v.toNat 5 = true)) ∧ (∃ (s : State) (n : Fin 48), s.Writable pFCOL) :=
  ⟨⟨cellS.but (fun d => { d with fcol := { d.fcol with kickAt := some 0 }, ticks := 9 }), 0, by decide +kernel⟩,
    ⟨cellS, 5000, by decide +kernel⟩, ⟨cellS, 49, by decide +kernel⟩, ⟨cellS, 47, 0xFFFFFFFF, by decide +kernel⟩,
    ⟨cellS, 10, 0x20, by decide +kernel⟩, ⟨cellS, 15, 0xF, by decide +kernel⟩, ⟨cellS, 15, 0x10,
    by decide +kernel⟩, ⟨cellS, 47, by decide +kernel⟩⟩

theorem wit_ThermalActs : (∃ (s : State) (raws : List Int), s.phase = .running) ∧ (∃ (s : State) (raws : List Int),
    s.phase = .running ∧ raws.length = 4 ∧ (∀ n : Fin 4, s.sensorTrim n (raws.getD n 0) = some 400 ∧ s.senOn n =
    true)) ∧ (∃ (s : State), s.Writable pTHRM ∧ s.on pTHRM THRM.LEVEL_SHUTDOWN = false) ∧ (∃ (s : State),
    s.Writable pTHRM ∧ s.on pTHRM THRM.LEVEL_SHUTDOWN = true) ∧ (∃ (s : State) (ok : Bool), s.Live pTHRM ∧
    s.Unwritten pTHRM THRM.EVNEXT ∧ s.on pQSPI QSPI.STAT_THRMHOLD = true ∧ s.thrm.next = none ∧ s.get pTHRM
    THRM.EVNEXT + 32 < 2 ^ 32 ∧ s.get pTHRM THRM.EVNEXT % 32 = 0) :=
  ⟨⟨cellS, [400, 400, 400, 400], by decide +kernel⟩, ⟨cellS, [400, 400, 400, 400], by decide +kernel⟩, ⟨hubS.having
    [(pTHRM, THRM.STAT_HOLDSTBY, 1)], by decide +kernel⟩, ⟨hubS.having [(pTHRM, THRM.LEVEL_SHUTDOWN, 1)],
    by decide +kernel⟩, ⟨hubS.having [(pQSPI, QSPI.STAT_THRMHOLD, 1)], true, by decide +kernel⟩⟩

theorem wit_MotorActs_1 : (∃ (s : State) (rev : Bool), s.Ready ∧ s.Writable pMOTR ∧ s.isCell = false ∧
    s.startRefused = false ∧ (s.motrState = 0 ∨ s.motrState = 6)) ∧ (∃ (s : State) (rev : Bool), s.Ready ∧
    s.Writable pMOTR ∧ s.isCell = false ∧ s.startRefused = true) ∧ (∃ (s : State), s.Ready ∧ s.Writable pMOTR ∧
    s.isCell = false) ∧ (∃ (s : State), s.Ready ∧ s.motr.susp = false ∧ s.motrState = 1 ∧ s.motr.best = none) ∧ (∃
    (s : State) (dir : Bool) (n us : Nat), s.Ready ∧ s.motr.susp = false ∧ s.motrState = 1 ∧ s.motr.best = some
    (dir, n, us) ∧ dir = s.on pMOTR MOTR.MSTAT_TDIR ∧ s.fAtLeast (n - 1) us 5 = true) ∧ (∃ (s : State), s.Ready ∧
    s.motr.susp = false ∧ s.motrState = 5 ∧ s.motr.obs = false ∧ max (s.motr.brk + s.get pMOTR MOTR.BRAKE_BRKON)
    ((s.ns - s.motr.brkAt) / 1000000) < s.get pMOTR MOTR.BRAKE_BRKMAX * 100) ∧ (∃ (s : State), s.Ready ∧ s.Live
    pMOTR ∧ s.motr.susp = false ∧ s.motrState = 5 ∧ s.motr.obs = false ∧ s.get pMOTR MOTR.BRAKE_BRKMAX * 100 ≤ max
    (s.motr.brk + s.get pMOTR MOTR.BRAKE_BRKON) ((s.ns - s.motr.brkAt) / 1000000)) ∧ (∃ (s : State), s.Ready ∧
    s.motr.susp = false ∧ s.motrState = 2) :=
  ⟨⟨motrS, true, by decide +kernel⟩, ⟨hubS, true, by decide +kernel⟩, ⟨motrS.having [(pMOTR, MOTR.MSTAT_STATE, 4)],
    by decide +kernel⟩, ⟨motrS.having [(pMOTR, MOTR.MSTAT_STATE, 1)], by decide +kernel⟩, ⟨(motrS.having [(pMOTR,
    MOTR.MSTAT_STATE, 1)]).but (fun d => d.modMotr fun x => { x with best := some (false, 4, 300) }), false, 4,
    300, by decide +kernel⟩, ⟨motrS.having [(pMOTR, MOTR.MSTAT_STATE, 5)], by decide +kernel⟩, ⟨(motrS.having
    [(pMOTR, MOTR.MSTAT_STATE, 5)]).but (fun d => d.modMotr fun x => { x with brk := 1000000 }),
    by decide +kernel⟩, ⟨motrS.having [(pMOTR, MOTR.MSTAT_STATE, 2)], by decide +kernel⟩⟩

theorem wit_MotorActs_2 : (∃ (s : State) (us : Nat), s.Ready ∧ s.motr.susp = false ∧ s.motrState = 4 ∧ s.motr.sched
    = true ∧ s.get pMOTR MOTR.MSTAT_STEP < 6) ∧ (∃ (s : State) (ph : Fin 3) (us inStep : Nat), s.Ready ∧
    s.motr.susp = false ∧ s.on pMOTR MOTR.CTRL_EN = true ∧ s.motrState = 4 ∧ floating (s.get pMOTR MOTR.MSTAT_STEP)
    = ph.val ∧ s.motr.sched = false ∧ s.get pMOTR MOTR.STEPIVL ≤ 4 * inStep ∧ 4 * inStep ≤ 3 * s.get pMOTR
    MOTR.STEPIVL) ∧ (∃ (s : State), s.Ready ∧ s.Live pMOTR ∧ s.motr.susp = false ∧ s.motrState = 4 ∧ s.motr.sched =
    false ∧ 2 ≤ s.motr.misses) ∧ (∃ (s : State), s.Ready ∧ s.motr.susp = false ∧ s.motrState = 4 ∧ s.motr.sched =
    false ∧ s.motr.misses < 2) ∧ (∃ (s : State), s.Ready ∧ s.Live pMOTR ∧ s.motr.susp = false ∧ s.motrState = 3) ∧
    (∃ (s : State) (en : Bool), s.Writable pMOTR ∧ s.isCell = false) :=
  ⟨⟨(motrS.having [(pMOTR, MOTR.MSTAT_STATE, 4), (pMOTR, MOTR.MSTAT_STEP, 5)]).but (fun d => d.modMotr fun x =>
    { x with sched := true }), 100, by decide +kernel⟩, ⟨(motrS.having [(pMOTR, MOTR.CTRL_EN, 1), (pMOTR,
    MOTR.MSTAT_STATE, 4), (pMOTR, MOTR.STEPIVL, 100)]), 2, 100, 50, by decide +kernel⟩, ⟨(motrS.having [(pMOTR,
    MOTR.MSTAT_STATE, 4)]).but (fun d => d.modMotr fun x => { x with misses := 2 }), by decide +kernel⟩,
    ⟨motrS.having [(pMOTR, MOTR.MSTAT_STATE, 4)], by decide +kernel⟩, ⟨motrS.having [(pMOTR, MOTR.MSTAT_STATE, 3)],
    by decide +kernel⟩, ⟨hubS, true, by decide +kernel⟩⟩

theorem wit_TailstockActs : (∃ (s : State) (ch : Fin 4) (lvl : Bool), s.phase = .running ∧ s.tstkHeld = false) ∧ (∃
    (s : State) (j : Fin 2), s.Live pTSTK ∧ s.tstkHeld = false ∧ s.inEn j = true ∧ s.sfi (2 * j) ≠ s.sfi (2 * j +
    1)) ∧ (∃ (s : State), s.Writable pTSTK ∧ s.inEn 0 = false ∧ s.inEn 1 = false) ∧ (∃ (s : State), s.Writable
    pTSTK ∧ s.inEn 0 = true ∧ s.tstk.high = [none, none]) ∧ (∃ (s : State) (key : BitVec 16), s.Awake ∧ s.deaf
    pTSTK = false ∧ key = 0x3E6A ∧ s.tstkState = 1 ∧ s.locked pTSTK = true ∧ s.inDemand 0 = false ∧ s.inDemand 1 =
    false ∧ s.get pTSTK TSTK.TSTAT_DLOCK = 0 ∧ s.on pTSTK TSTK.TSTAT_TRIPREQ = false ∧ s.on pTSTK TSTK.RBSTAT_HSFB
    = false ∧ s.on pTSTK TSTK.RBSTAT_LSFB = true ∧ s.on pSYSC SYSC.STRAP_INV = false) ∧ (∃ (s : State) (key :
    BitVec 16), s.Awake ∧ s.deaf pTSTK = false ∧ (key ≠ 0x3E6A ∨ s.tstkState ≠ 1 ∨ s.locked pTSTK = false)) ∧ (∃ (s
    : State), s.Awake ∧ s.deaf pTSTK = false) :=
  ⟨⟨hubS.having [(pTSTK, TSTK.TSTAT_STATE, 3)], 3, false, by decide +kernel⟩, ⟨hubS.having [(pTSTK,
    TSTK.INSTAT_ACC, 4), (pTSTK, TSTK.CFG_IN1EN, 1)], 1, by decide +kernel⟩, ⟨hubS.having [(pTSTK, TSTK.CFG_IN0EN,
    0), (pTSTK, TSTK.CFG_IN1EN, 0)], by decide +kernel⟩, ⟨hubS.having [(pTSTK, TSTK.CFG_IN0EN, 1)],
    by decide +kernel⟩, ⟨hubS.having [(pTSTK, TSTK.TSTAT_STATE, 1), (pTSTK, HDR.LOCK_LOCKED, 1), (pTSTK,
    TSTK.INSTAT_ACC, 15), (pTSTK, TSTK.RBSTAT_LSFB, 1)], 0x3E6A, by decide +kernel⟩, ⟨hubS, 0x3E6B,
    by decide +kernel⟩, ⟨hubS.having [(pTSTK, TSTK.TSTAT_STATE, 3)], by decide +kernel⟩⟩

theorem wit_TailstockTripsAndTestsAct_1 : (∃ (s : State), s.Awake ∧ s.deaf pTSTK = false ∧ s.tstkState = 3 ∧ s.on
    pSYSC SYSC.STRAP_INV = false) ∧ (∃ (s : State), s.Awake ∧ s.deaf pTSTK = false ∧ s.tstkState ≠ 3) ∧ (∃ (s :
    State), s.phase = .running ∧ s.tstkHeld = false ∧ s.tstk.req.contains 3 = true ∧ s.on pTSTK TSTK.CFG_TRFCOL =
    true ∧ s.tstkRuns = true ∧ s.meets.energised = none) ∧ (∃ (s : State) (hs ls : Bool), s.phase = .running ∧
    s.tstkHeld = false ∧ s.tstkState = 2 ∧ s.meets.demanded = none ∧ hs = s.on pTSTK TSTK.RBSTAT_HS ∧ ls ≠ s.on
    pTSTK TSTK.RBSTAT_LS ∧ s.on pSYSC SYSC.STRAP_INV = false) ∧ (∃ (s : State), s.phase = .running ∧ s.tstkState =
    3 ∧ s.on pTSTK TSTK.CFG_TESTEN = true ∧ s.on pSYSC SYSC.STRAP_INV = false) ∧ (∃ (s : State) (hs ls : Bool),
    s.phase = .running ∧ s.tstkState = 4 ∧ s.meets.demanded = none ∧ 4 ≤ s.tstk.step ∧ hs = s.on pTSTK
    TSTK.RBSTAT_HS ∧ ls ≠ s.on pTSTK TSTK.RBSTAT_LS ∧ s.get pTSTK TSTK.COUNTS_TESTCNT + 1 < 2 ^
    TSTK.COUNTS_TESTCNT.wid) ∧ (∃ (s : State) (hs ls : Bool), s.Live pTSTK ∧ s.tstkHeld = false ∧ s.meets.demanded
    = none ∧ s.on pTSTK TSTK.RBSTAT_HS = true ∧ hs = false) ∧ (∃ (s : State), s.Live pTSTK ∧ s.tstkHeld = false) :=
  ⟨⟨hubS.having [(pTSTK, TSTK.TSTAT_STATE, 3)], by decide +kernel⟩, ⟨hubS.having [(pTSTK, TSTK.TSTAT_STATE, 1)],
    by decide +kernel⟩, ⟨(hubS.having [(pTSTK, TSTK.TSTAT_STATE, 3), (pTSTK, TSTK.CFG_TRFCOL, 1)]).but (fun d =>
    d.modTstk fun x => { x with req := [3] }), by decide +kernel⟩, ⟨hubS.having [(pTSTK, TSTK.TSTAT_STATE, 2)],
    false, true, by decide +kernel⟩, ⟨hubS.having [(pTSTK, TSTK.TSTAT_STATE, 3), (pTSTK, TSTK.CFG_TESTEN, 1)],
    by decide +kernel⟩, ⟨(hubS.having [(pTSTK, TSTK.TSTAT_STATE, 4)]).but (fun d => d.modTstk fun x =>
    { x with step := 4 }), false, true, by decide +kernel⟩, ⟨hubS.having [(pTSTK, TSTK.RBSTAT_HS, 1)], false, true,
    by decide +kernel⟩, ⟨hubS, by decide +kernel⟩⟩

theorem wit_TailstockTripsAndTestsAct_2 : (∃ (s : State) (key : BitVec 16), s.Awake ∧ s.deaf pTSTK = false ∧
    s.unlock.contains pTSTK = true ∧ key.toNat = s.tstkCrc) ∧ (∃ (s : State), s.Awake ∧ s.deaf pTSTK = false ∧
    s.unlock.contains pTSTK = false) :=
  ⟨⟨hubS.but (fun d => { d with unlock := [pTSTK] }), BitVec.ofNat 16 hubS.tstkCrc, by decide +kernel⟩, ⟨hubS,
    by decide +kernel⟩⟩

theorem wit_CoresSleepAndErrorsAct_1 : (∃ (s : State) (p : Fin 2), s.Ready ∧ s.soc.stop = false ∧ s.wakes p = false
    ∧ (p = 1 → s.on pSYSC SYSC.RELEASE_CPU1 = true) ∧ ((modNth s.soc.wfi p fun _ => true).all id = false ∨ s.on
    pINTC INTC.SLEEPCFG_STOP = false ∨ s.wakes (1 - p.val) = true)) ∧ (∃ (s : State) (p : Fin 2), s.phase =
    .running ∧ s.soc.stop = false ∧ s.wakes p = false ∧ s.wakes (1 - p.val) = false ∧ (p = 1 → s.on pSYSC
    SYSC.RELEASE_CPU1 = true) ∧ (modNth s.soc.wfi p fun _ => true).all id = true ∧ s.on pINTC INTC.SLEEPCFG_STOP =
    true ∧ s.stopRefused = false) ∧ (∃ (s : State) (p : Fin 2), s.phase = .running ∧ s.soc.stop = false ∧ s.wakes p
    = false ∧ s.wakes (1 - p.val) = false ∧ (p = 1 → s.on pSYSC SYSC.RELEASE_CPU1 = true) ∧ (modNth s.soc.wfi p fun
    _ => true).all id = true ∧ s.on pINTC INTC.SLEEPCFG_STOP = true ∧ s.stopRefused = true) ∧ (∃ (s : State) (cause
    : Fin 3), s.phase = .running ∧ s.soc.stop = true ∧ (cause = 1 ∨ cause = 0 ∧ s.wake = true)) ∧ (∃ (s : State) (p
    : Fin 2), s.phase = .running ∧ (p = 1 → s.cpu1Held = false)) ∧ (∃ (s : State) (addr : BitVec 32) (double :
    Bool), s.phase = .running) ∧ (∃ (s : State) (addr : BitVec 32) (double : Bool), s.phase = .running) ∧ (∃ (s :
    State) (p : Fin 2) (double : Bool), s.phase = .running ∧ (p = 1 → s.cpu1Held = false)) :=
  ⟨⟨cellS, 0, by decide +kernel⟩, ⟨(cellS.having [(pINTC, INTC.SLEEPCFG_STOP, 1), (pLINK 0, LINK.PCFG_EN, 0),
    (pLINK 1, LINK.PCFG_EN, 0)]).but (fun d => d.modSoc fun x => { x with wfi := [false, true] }), 0,
    by decide +kernel⟩, ⟨(cellS.having [(pINTC, INTC.SLEEPCFG_STOP, 1), (pSYSC, SYSC.CELLSTATE_STATE, 3)]).but (fun
    d => d.modSoc fun x => { x with wfi := [false, true] }), 0, by decide +kernel⟩, ⟨cellS.but (fun d => d.modSoc
    fun x => { x with wfi := [true, true], stop := true }), 1, by decide +kernel⟩, ⟨cellS.having [(pSYSC,
    SYSC.RELEASE_CPU1, 1)], 1, by decide +kernel⟩, ⟨cellS, 0x1234, true, by decide +kernel⟩, ⟨cellS, 0x1234, true,
    by decide +kernel⟩, ⟨cellS.having [(pSYSC, SYSC.RELEASE_CPU1, 1)], 1, true, by decide +kernel⟩⟩

theorem wit_CoresSleepAndErrorsAct_2 : (∃ (s : State) (p : Fin 2) (n : Nat), s.Awake ∧ s.irqBest p = some n ∧
    s.soc.masked.length = 2) ∧ (∃ (s : State) (p : Fin 2), s.Ready ∧ s.soc.stop = false ∧ s.irqBest p = none) ∧ (∃
    (s : State) (p : Fin 2) (n : BitVec 9), s.Ready ∧ s.soc.stop = false ∧ s.locked pINTC = false ∧ n.toNat < 256)
    ∧ (∃ (s : State), s.phase = .running) ∧ (∃ (s : State) (key sig : List Byte), s.phase = .running ∧
    s.soc.tapFails < 3 ∧ s.soc.challenge = none) ∧ (∃ (s : State) (key sig c : List Byte), s.phase = .running ∧
    s.soc.tapFails < 3 ∧ s.soc.challenge = some c) ∧ (∃ (s : State) (key sig : List Byte), s.Ready ∧ 3 ≤
    s.soc.tapFails) ∧ (∃ (s : State) (w : BitVec 5) (sig : List Byte), s.phase = .running ∧ w ≠ 0x02 ∧ w ≠ 0x10 ∧ w
    ≠ 0x11 ∧ (s.soc.unlocked = true → w ≠ 0 ∧ w ≠ 0x12)) :=
  ⟨⟨cellS.having [(pINTC, INTC.SWI, 4), (pINTC, INTC.SRCCFG_PRIO 82, 3), (pINTC, INTC.SRCCFG_TGT0 82, 1)], 0, 82,
    by decide +kernel⟩, ⟨cellS, 1, by decide +kernel⟩, ⟨cellS.but (fun d => d.modSoc fun x =>
    { x with masked := [8, 8] }), 1, 3, by decide +kernel⟩, ⟨cellS, by decide +kernel⟩, ⟨cellS, [], [],
    by decide +kernel⟩, ⟨cellS.but (fun d => d.modSoc fun x => { x with challenge := some [1] }), [], [], [1],
    by decide +kernel⟩, ⟨cellS.but (fun d => d.modSoc fun x => { x with tapFails := 3 }), [], [],
    by decide +kernel⟩, ⟨cellS, 0x12, [], by decide +kernel⟩⟩

theorem wit_CoresSleepAndErrorsAct_3 : ∃ (s : State) (sig : List Byte), s.phase = .running ∧ s.soc.unlocked = true
    ∧ s.soc.stop = false :=
  ⟨cellS.but (fun d => d.modSoc fun x => { x with unlocked := true }), [], by decide +kernel⟩

theorem wit_DmaChannelsAct : (∃ (s : State) (c : Fin 16) (v : Word), s.Writable pDMA ∧ s.get pDMA (DMA.CHSTAT_BUSY
    c) = 0 ∧ s.soc.dma.length = 16 ∧ s.linkBoot = false ∧ bitAt v.toNat 30 = false ∧ bitsOf v.toNat 0 4 < 3) ∧ (∃
    (s : State) (c : Fin 16), s.Writable pDMA ∧ s.on pDMA (DMA.CHSTAT_BUSY c) = true) ∧ (∃ (s : State) (c : Fin 16)
    (src dst : BitVec 20), s.Awake ∧ s.on pDMA (DMA.CHSTAT_BUSY c) = true ∧ s.get pDMA (DMA.CHCTL_KIND c) = 0 ∧
    s.soc.bootDma = false ∧ s.dmaCh c = ⟨0x20000000, [2 ^ 31 + 4, 0x20000000 + 4 * src.toNat, 0, 0x20000000 + 4 *
    dst.toNat, 0, 0, 0], 0⟩ ∧ s.stores = [] ∧ s.soc.wipe = none ∧ 8 ≤ dst.toNat) ∧ (∃ (s : State) (c : Fin 16) (hit
    : Option EccHit), s.Awake ∧ s.on pDMA (DMA.CHSTAT_BUSY c) = true ∧ (s.dmaCh c).words = [] ∧ (s.dmaCh c).at_ %
    32 ≠ 0) :=
  ⟨⟨hubS, 3, 0, by decide +kernel⟩, ⟨hubS.having [(pDMA, DMA.CHSTAT_BUSY 3, 1)], 3, by decide +kernel⟩,
    ⟨(hubS.having [(pDMA, DMA.CHSTAT_BUSY 3, 1)]).but (fun d => d.modDma 3 fun _ => ⟨0x20000000, [2 ^ 31 + 4,
    0x20000010, 0, 0x20000040, 0, 0, 0], 0⟩), 3, 4, 16, by decide +kernel⟩, ⟨(hubS.having [(pDMA, DMA.CHSTAT_BUSY
    3, 1)]).but (fun d => d.modDma 3 fun _ => ⟨0x20000001, [], 0⟩), 3, none, by decide +kernel⟩⟩

theorem wit_DramControllerActs : (∃ (s : State), s.Ready ∧ s.Writable pDDRC ∧ s.ethClock = true) ∧ (∃ (s : State)
    (ok : Bool), s.Live pDDRC ∧ s.on pDDRC DDRC.STAT_TRAINING = true) ∧ (∃ (s : State) (addr : BitVec 40) (double :
    Bool), s.Live pDDRC ∧ s.on pDDRC DDRC.STAT_READY = true ∧ s.on pDDRC DDRC.CFG_ECCEN = true ∧ s.on pDDRC
    DDRC.SCRUB_IVL = true) ∧ (∃ (s : State), s.Live pDDRC ∧ s.on pDDRC DDRC.CFG_PAREN = true) :=
  ⟨⟨ethS, by decide +kernel⟩, ⟨hubS.having [(pDDRC, DDRC.STAT_TRAINING, 1)], true, by decide +kernel⟩, ⟨hubS.having
    [(pDDRC, DDRC.STAT_READY, 1), (pDDRC, DDRC.CFG_ECCEN, 1), (pDDRC, DDRC.SCRUB_IVL, 1)], 0x123456789, true,
    by decide +kernel⟩, ⟨hubS.having [(pDDRC, DDRC.CFG_PAREN, 1)], by decide +kernel⟩⟩

theorem wit_AnemographActs : (∃ (s : State) (n : Fin 512) (v : Word), s.Awake ∧ s.isCell = false ∧ (s.anDesc n).en
    = false ∧ bitAt v.toNat 31 = true ∧ (bitsOf v.toNat 28 3 = 2 → ∀ y ∈ s.an, y.1 = n.val ∨ y.2.en = false ∨
    y.2.kind ≠ 2 ∨ y.2.port ≠ bitsOf v.toNat 16 8 ∨ y.2.stream ≠ bitsOf v.toNat 0 16) ∧ 2 ≤ (s.anDesc n).nblk ∧
    (s.anDesc n).postblk + 1 < (s.anDesc n).nblk ∧ (s.anDesc n).base + (s.anDesc n).nblk * 1056 ≤ s.dramSize) ∧ (∃
    (s : State) (n : Fin 512) (v : Word), s.Awake ∧ s.Live pANMG ∧ s.isCell = false ∧ (s.anDesc n).en = false ∧
    bitAt v.toNat 31 = true ∧ ((s.anDesc n).nblk < 2 ∨ (s.anDesc n).nblk ≤ (s.anDesc n).postblk + 1)) ∧ (∃ (s :
    State), s.Awake ∧ s.Writable pANMG ∧ s.isCell = false ∧ s.an = [] ∧ s.anTrig.any (fun y => y.tick == s.ticks) =
    false ∧ s.anPast.any (fun y => y.tick == s.ticks) = false ∧ s.anSoft.map Prod.fst ≠ some s.ticks) ∧ (∃ (s :
    State) (n : Nat) (x : AnDesc), s.Writable pANMG ∧ s.isCell = false ∧ (n, x) ∈ s.an ∧ (s.an.map
    Prod.fst).Pairwise (· < ·) ∧ (∀ y ∈ s.an, y.2.kind ≠ 4) ∧ s.anTrig.any (fun y => y.tick == s.ticks) = false ∧
    s.anPast.any (fun y => y.tick == s.ticks) = false ∧ s.anSoft.map Prod.fst ≠ some s.ticks) ∧ (∃ (s : State) (n :
    Nat) (x : AnDesc) (u : AnTrig) (rest : List AnTrig), s.phase = .running ∧ s.isCell = false ∧ s.anTrig = u ::
    rest ∧ u.join = 0 ∧ (n, x) ∈ s.an ∧ (s.an.map Prod.fst).Pairwise (· < ·) ∧ (∀ y ∈ s.an, y.2.kind ≠ 4)) ∧ (∃ (s
    : State) (ev : BitVec 8) (n : Nat) (x : AnDesc), s.Writable pANMG ∧ s.stores = [] ∧ s.soc.wipe = none ∧
    s.isCell = false ∧ s.on pDDRC DDRC.STAT_READY = true ∧ s.an = [(n, x)] ∧ x.takes = true ∧ x.kind = 4 ∧ x.used =
    0) ∧ (∃ (s : State) (n : Fin 512) (x : AnDesc), s.phase = .running ∧ s.anDesc n = x ∧ x.en = true ∧ x.state = 2
    ∧ x.used = 1024) ∧ (∃ (s : State) (n : Fin 512) (x : AnDesc), s.Live pANMG ∧ s.anDesc n = x ∧ x.takes = true) :=
  ⟨⟨hubS.but (fun d => (d.modAn 7 fun x => { x with nblk := 10, postblk := 3 }).modAn 3 fun x =>
    { x with ctl := 0xA0010005 }), 7, 0xA0010006, by decide +kernel⟩, ⟨hubS, 7, 0x80000000, by decide +kernel⟩,
    ⟨hubS, by decide +kernel⟩, ⟨hubS.but (fun d => (d.modAn 7 fun x =>
    { x with ctl := 0x88000000, state := 1 }).modAn 3 fun x => { x with ctl := 0x88000000, state := 2 }), 7,
    { anZero with ctl := 0x88000000, state := 1 }, by decide +kernel⟩, ⟨hubS.but (fun d =>
    { (d.modAn 7 fun x => { x with ctl := 0x84000000, state := 2 }).modAn 9 fun x => { x with ctl := 5 } with anTrig := [⟨1, 2, 3, 0⟩] }),
    7, { anZero with ctl := 0x84000000, state := 2 }, ⟨1, 2, 3, 0⟩, [], by decide +kernel⟩, ⟨(hubS.having [(pDDRC,
    DDRC.STAT_READY, 1)]).but (fun d => d.modAn 7 fun x => { x with ctl := 0xC0000000, state := 1 }), 0x55, 7,
    { anZero with ctl := 0xC0000000, state := 1 }, by decide +kernel⟩, ⟨hubS.but (fun d => d.modAn 7 fun x =>
    { x with ctl := 0xC0000000, state := 2, used := 1024 }), 7,
    { anZero with ctl := 0xC0000000, state := 2, used := 1024 }, by decide +kernel⟩, ⟨hubS.but (fun d => d.modAn 7
    fun x => { x with ctl := 0xC0000000, state := 2 }), 7, { anZero with ctl := 0xC0000000, state := 2 },
    by decide +kernel⟩⟩

theorem wit_SerialInterfacesAct_1 : (∃ (s : State) (v : Word), s.Writable pQSPI ∧ bitsOf v.toNat 0 9 ≤ 256 ∧ s.on
    pQSPI QSPI.STAT_BUSY = false ∧ s.on pQSPI QSPI.STAT_THRMHOLD = false ∧ s.thrm.flash = none ∧ s.soc.qspiWait =
    []) ∧ (∃ (s : State) (v : Word), s.Writable pQSPI ∧ bitsOf v.toNat 0 9 ≤ 256 ∧ (s.on pQSPI QSPI.STAT_BUSY =
    true ∨ s.on pQSPI QSPI.STAT_THRMHOLD = true)) ∧ (∃ (s : State) (bytes : List Byte) (cmd i : Nat), s.Live pQSPI
    ∧ s.soc.qspi = some cmd ∧ bitAt cmd 30 = false ∧ i < bitsOf cmd 0 9 ∧ i < bytes.length ∧ i < 256) ∧ (∃ (s :
    State) (bytes : List Byte) (cmd : Nat), s.Live pQSPI ∧ s.soc.qspi = some cmd ∧ bitAt cmd 30 = true) ∧ (∃ (s :
    State) (bytes : List Byte) (cmd c : Nat) (rest : List Nat), s.Live pQSPI ∧ s.soc.qspi = some cmd ∧
    s.soc.qspiWait = c :: rest ∧ s.thrm.flash = none ∧ s.on pQSPI QSPI.STAT_THRMHOLD = false) ∧ (∃ (s : State) (n :
    Fin 2) (b : Byte), s.Writable (pUART n) ∧ s.soc.uart.length = 2 ∧ s.on (pUART n) UART.CFG_EN = true ∧ (s.uartOf
    n).tx = [] ∧ (s.uartOf n).free ≤ s.ticks) ∧ (∃ (s : State) (n : Fin 2) (b : Byte), s.Writable (pUART n) ∧
    s.soc.uart.length = 2 ∧ s.on (pUART n) UART.CFG_EN = true ∧ s.ticks < (s.uartOf n).free ∧ (s.uartOf
    n).tx.length < 16) ∧ (∃ (s : State) (n : Fin 2) (b : Byte), s.Writable (pUART n) ∧ s.soc.uart.length = 2 ∧ s.on
    (pUART n) UART.CFG_EN = false ∧ (s.uartOf n).tx.length < 16) :=
  ⟨⟨hubS, 5, by decide +kernel⟩, ⟨hubS.having [(pQSPI, QSPI.STAT_BUSY, 1)], 5, by decide +kernel⟩, ⟨(hubS.having
    [(pQSPI, QSPI.STAT_BUSY, 1)]).but (fun d => d.modSoc fun x => { x with qspi := some (2 ^ 31 + 3) }), [7, 8, 9],
    2 ^ 31 + 3, 2, by decide +kernel⟩, ⟨(hubS.having [(pQSPI, QSPI.STAT_BUSY, 1)]).but (fun d => d.modSoc fun x =>
    { x with qspi := some (2 ^ 31 + 2 ^ 30 + 3) }), [7], 2 ^ 31 + 2 ^ 30 + 3, by decide +kernel⟩, ⟨(hubS.having
    [(pQSPI, QSPI.STAT_BUSY, 1)]).but (fun d => d.modSoc fun x =>
    { x with qspi := some (2 ^ 31 + 3), qspiWait := [2 ^ 31 + 5] }), [7], 2 ^ 31 + 3, 2 ^ 31 + 5, [],
    by decide +kernel⟩, ⟨hubS.having [(pUART 1, UART.CFG_EN, 1)], 1, 0x41, by decide +kernel⟩, ⟨(hubS.having
    [(pUART 1, UART.CFG_EN, 1), (pUART 1, UART.STAT_TXBUSY, 1)]).but (fun d => d.modUart 1 fun u =>
    { u with tx := List.replicate 15 0, free := d.ticks + 9 }), 1, 0x41, by decide +kernel⟩, ⟨hubS, 1, 0x41,
    by decide +kernel⟩⟩

theorem wit_SerialInterfacesAct_2 : (∃ (s : State) (n : Fin 2) (b : Byte), s.Writable (pUART n) ∧ 16 ≤ ((s.uartSync
    n).uartOf n).tx.length) ∧ (∃ (s : State) (n : Fin 2) (b : Byte) (rest : List Byte), s.phase = .running ∧
    s.soc.uart.length = 2 ∧ s.on (pUART n) UART.CFG_EN = true ∧ (s.uartOf n).tx = b :: rest ∧ (s.uartOf n).free =
    s.ticks + 1 ∧ 0 < s.get (pUART n) UART.CFG_DIV) ∧ (∃ (s : State) (n : Fin 2) (b : Byte) (fe pe : Bool) (rest :
    List (Byte × Bool × Bool)), s.Ready ∧ s.soc.stop = false ∧ s.deaf (pUART n) = false ∧ (s.uartOf n).rx = (b, fe,
    pe) :: rest) ∧ (∃ (s : State) (n : Fin 2), s.Ready ∧ s.soc.stop = false ∧ s.deaf (pUART n) = false ∧ (s.uartOf
    n).rx = []) ∧ (∃ (s : State) (n : Fin 2) (b : Byte) (fe pe : Bool), s.Live (pUART n) ∧ s.soc.uart.length = 2 ∧
    s.on (pUART n) UART.CFG_EN = true ∧ s.get (pUART n) UART.CFG_PARITY ≠ 0 ∧ (s.uartOf n).rx.length < 16) ∧ (∃ (s
    : State) (n : Fin 2) (b : Byte) (fe pe : Bool), s.Live (pUART n) ∧ s.on (pUART n) UART.CFG_EN = true ∧ 16 ≤
    (s.uartOf n).rx.length) ∧ (∃ (s : State) (n : Fin 2), s.Live (pUART n) ∧ s.soc.uart.length = 2 ∧ s.on (pUART n)
    UART.CFG_EN = true ∧ s.on (pUART n) UART.STAT_TXBUSY = true) :=
  ⟨⟨(hubS.having [(pUART 1, UART.CFG_EN, 1), (pUART 1, UART.STAT_TXBUSY, 1)]).but (fun d => d.modUart 1 fun u =>
    { u with tx := List.replicate 16 0, free := d.ticks + 9 }), 1, 0x41, by decide +kernel⟩, ⟨(hubS.having [(pUART
    1, UART.CFG_EN, 1), (pUART 1, UART.STAT_TXBUSY, 1)]).but (fun d => d.modUart 1 fun u =>
    { u with tx := [65, 66], free := d.ticks + 1 }), 1, 65, [66], by decide +kernel⟩, ⟨hubS.but (fun d => d.modUart
    1 fun u => { u with rx := [(7, true, false), (8, false, false)] }), 1, 7, true, false, [(8, false, false)],
    by decide +kernel⟩, ⟨hubS, 1, by decide +kernel⟩, ⟨hubS.having [(pUART 1, UART.CFG_EN, 1), (pUART 1,
    UART.CFG_PARITY, 1)], 1, 0x41, true, true, by decide +kernel⟩, ⟨(hubS.having [(pUART 1, UART.CFG_EN, 1), (pUART
    1, UART.CFG_PARITY, 1)]).but (fun d => d.modUart 1 fun u =>
    { u with rx := List.replicate 16 (0, false, false) }), 1, 0x41, true, true, by decide +kernel⟩, ⟨hubS.having
    [(pUART 1, UART.CFG_EN, 1), (pUART 1, UART.STAT_TXBUSY, 1)], 1, by decide +kernel⟩⟩

theorem wit_I2cSpiGpioAct_1 : (∃ (s : State) (v : Word), s.Writable pI2C ∧ 1 ≤ bitsOf v.toNat 0 6 ∧ bitsOf v.toNat
    0 6 ≤ 32 ∧ s.on pI2C I2C.STAT_BUSY = false ∧ s.on pI2C I2C.CFG_EN = true) ∧ (∃ (s : State) (v : Word),
    s.Writable pI2C ∧ s.on pI2C I2C.STAT_BUSY = true) ∧ (∃ (s : State) (v : Word), s.Ready ∧ s.Writable pI2C ∧ 1 ≤
    bitsOf v.toNat 0 6 ∧ bitsOf v.toNat 0 6 ≤ 32 ∧ s.on pI2C I2C.STAT_BUSY = false ∧ s.on pI2C I2C.CFG_EN = false)
    ∧ (∃ (s : State) (nack : Bool) (moved : Nat) (bytes : List Byte) (cmd : Nat), s.Live pI2C ∧ s.soc.i2c = some
    cmd) ∧ (∃ (s : State), s.Live pI2C) ∧ (∃ (s : State) (n : BitVec 9), s.Writable pSPI ∧ 1 ≤ n.toNat ∧ n.toNat ≤
    256 ∧ s.on pSPI SPI.STAT_BUSY = false ∧ s.on pSPI SPI.CFG_EN = true) ∧ (∃ (s : State) (n : BitVec 9),
    s.Writable pSPI ∧ s.on pSPI SPI.STAT_BUSY = true) ∧ (∃ (s : State) (n : BitVec 9), s.Ready ∧ s.Writable pSPI ∧
    1 ≤ n.toNat ∧ n.toNat ≤ 256 ∧ s.on pSPI SPI.STAT_BUSY = false ∧ s.on pSPI SPI.CFG_EN = false) :=
  ⟨⟨hubS.having [(pI2C, I2C.CFG_EN, 1)], 5, by decide +kernel⟩, ⟨hubS.having [(pI2C, I2C.STAT_BUSY, 1)], 5,
    by decide +kernel⟩, ⟨hubS, 5, by decide +kernel⟩, ⟨(hubS.having [(pI2C, I2C.STAT_BUSY, 1)]).but (fun d =>
    d.modSoc fun x => { x with i2c := some (2 ^ 31 + 5) }), true, 2, [], 2 ^ 31 + 5, by decide +kernel⟩, ⟨hubS,
    by decide +kernel⟩, ⟨hubS.having [(pSPI, SPI.CFG_EN, 1)], 5, by decide +kernel⟩, ⟨hubS.having [(pSPI,
    SPI.STAT_BUSY, 1)], 5, by decide +kernel⟩, ⟨hubS, 5, by decide +kernel⟩⟩

theorem wit_I2cSpiGpioAct_2 : (∃ (s : State) (bytes : List Byte) (cmd i : Nat), s.Live pSPI ∧ s.soc.spi = some cmd
    ∧ i < bitsOf cmd 0 9 ∧ i < bytes.length ∧ i < 256) ∧ (∃ (s : State) (m : Word), s.Ready ∧ s.Writable pGPIO) ∧
    (∃ (s : State) (m : Word), s.Ready ∧ s.Writable pGPIO) ∧ (∃ (s : State) (n : Fin 24) (rising : Bool), s.Ready ∧
    s.inBlk.contains pGPIO = false) :=
  ⟨⟨(hubS.having [(pSPI, SPI.STAT_BUSY, 1)]).but (fun d => d.modSoc fun x => { x with spi := some (2 ^ 31 + 5) }),
    [9, 8], 2 ^ 31 + 5, 1, by decide +kernel⟩, ⟨hubS, 0xFF00FF, by decide +kernel⟩, ⟨hubS, 0xFF00FF,
    by decide +kernel⟩, ⟨hubS.having [(pGPIO, GPIO.EDGE0, 0xFFFF)], 3, true, by decide +kernel⟩⟩

theorem wit_CalibrationActs_1 : (∃ (s : State) (key : BitVec 16), s.Writable pCALS ∧ key = 0x5E7C ∧ s.calsBusy =
    false ∧ calWritable (s.get pCALS CALS.STGENT_ENTRY) = true ∧ bitsOf ((calEntry s.calstore (s.get pCALS
    CALS.STGENT_ENTRY)).headD 0) 16 10 < 1000 ∧ (∀ w : Fin 7, s.get pCALS (CALS.STG w) &&& calReserved (s.get pCALS
    CALS.STGENT_ENTRY) (w + 1) = 0) ∧ s.on pTHRM THRM.TDIE_TVALID = true ∧ 0 ≤ s.tDie ∧ s.tDie ≤ 85 * 16) ∧ (∃ (s :
    State) (key : BitVec 16), s.Awake ∧ s.Live pCALS ∧ s.deaf pCALS = false ∧ (key ≠ 0x5E7C ∨ calWritable (s.get
    pCALS CALS.STGENT_ENTRY) = false ∨ s.locked pCALS = true ∨ s.on pTHRM THRM.TDIE_TVALID = false ∨ s.calsBusy =
    true)) ∧ (∃ (s : State) (same : Bool) (e : Nat) (ws : List Nat), s.Live pCALS ∧ s.calBusy = some (e, ws) ∧
    s.get pCALS CALS.STAT_OP = 1 ∧ ws.length = 8 ∧ e < 128) ∧ (∃ (s : State) (mask : BitVec 5), s.Writable pCALS ∧
    s.calsBusy = false) ∧ (∃ (s : State) (mask : BitVec 5) (c : Fin 2) (i : Fin 24), s.Writable pCALS ∧ s.calsBusy
    = false) ∧ (∃ (s : State), s.Writable pCALS ∧ s.calsBusy = false ∧ (24 ≤ s.acfgInput ∨ 8 < s.get pCALS
    CALS.ACFG_AVG)) ∧ (∃ (s : State), s.Writable pCALS ∧ s.calsBusy = false ∧ s.acfgAdc < 2 ∧ s.acfgInput < 24 ∧
    s.get pCALS CALS.ACFG_AVG ≤ 8 ∧ s.on (pADC s.acfgAdc) ADC.CTRL_EN = true ∧ s.adcReady s.acfgAdc = true ∧
    (s.adcSync s.acfgAdc).urgBusy s.acfgAdc = false) ∧ (∃ (s : State), s.Writable pCALS ∧ s.calsBusy = false ∧ (24
    ≤ s.acfgInput ∨ 8 < s.get pCALS CALS.ACFG_AVG)) :=
  ⟨⟨hubS.having [(pTHRM, THRM.TDIE_TVALID, 1), (pTHRM, THRM.TDIE_T, 400)], 0x5E7C, by decide +kernel⟩, ⟨hubS,
    0x5E7C, by decide +kernel⟩, ⟨(hubS.having [(pCALS, CALS.STAT_OP, 1), (pCALS, CALS.STAT_BUSY, 1)]).but (fun d =>
    { d with calBusy := some (3, [0x80010000, 1, 2, 3, 4, 5, 6, 7]) }), true, 3, [0x80010000, 1, 2, 3, 4, 5, 6, 7],
    by decide +kernel⟩, ⟨hubS, 0x1F, by decide +kernel⟩, ⟨hubS, 0x1F, 1, 23, by decide +kernel⟩, ⟨hubS.having
    [(pCALS, CALS.ACFG_INPUT, 30)], by decide +kernel⟩, ⟨hubS.having [(pADC 0, ADC.CTRL_EN, 1), (pADC 0,
    ADC.STAT_READY, 1), (pCALS, CALS.ACFG_INPUT, 5)], by decide +kernel⟩, ⟨hubS.having [(pCALS, CALS.ACFG_INPUT,
    30)], by decide +kernel⟩⟩

theorem wit_CalibrationActs_2 : (∃ (s : State), s.Writable pCALS ∧ s.calsBusy = false ∧ s.acfgAdc < 2 ∧ s.acfgInput
    < 24 ∧ s.get pCALS CALS.ACFG_AVG ≤ 8 ∧ s.on (pADC s.acfgAdc) ADC.CTRL_EN = true ∧ s.adcReady s.acfgAdc = true ∧
    (s.adcSync s.acfgAdc).urgBusy s.acfgAdc = false) ∧ (∃ (s : State) (codes : List Int), s.Live pCALS ∧ s.acfgAdc
    = 0 ∧ s.get pCALS CALS.STAT_OP = 3 ∧ s.adcSync 0 = s.toDev ∧ s.adc ≠ [] ∧ (s.adcOf 0).flight.any calsUrg = true
    ∧ ((s.adcOf 0).flight.any fun j => calsUrg j && !s.codesReady 0 j codes) = false ∧ codes.any (fun x => decide
    (x ≤ codeLo s.acfgInput) || decide (codeHi s.acfgInput ≤ x)) = false) ∧ (∃ (s : State), s.Writable pCALS ∧
    s.calsBusy = false ∧ s.calPt.getD 0 none = none) ∧ (∃ (s : State) (m1 m2 t1 t2 : Int), s.Writable pCALS ∧
    s.calsBusy = false ∧ s.calPt = [some (m1, t1), some (m2, t2)] ∧ s.acfgInput < 16 ∧ s.get pCALS (CALS.STG 2) = 0
    ∧ m1 < m2 ∧ (t1 - t2).natAbs ≤ 16 ∧ m2 - m1 < 32 * ((s.get pCALS CALS.ATGT_S : Int) - s.get pCALS CALS.ATGT_Z)
    ∧ 16 * ((s.get pCALS CALS.ATGT_S : Int) - s.get pCALS CALS.ATGT_Z) ≤ m2 - m1 + (m2 - m1) / 4 ∧ 0 ≤ m1 ∧ m1 ≤ 2
    ^ 18 ∧ s.get pCALS CALS.ATGT_Z ≤ 2 ^ 13) ∧ (∃ (s : State), s.Writable pCALS ∧ s.calsBusy = false ∧ s.on pSQL
    (SQL.SQCFG_FUNC (s.get pCALS CALS.SCFG_CH)) = false ∧ s.legsc (s.get pCALS CALS.SCFG_CH) = false) ∧ (∃ (s :
    State), s.Writable pCALS ∧ (s.on pSQL (SQL.SQCFG_FUNC (s.get pCALS CALS.SCFG_CH)) = true ∨ s.calsBusy = true))
    ∧ (∃ (s : State) (lvl : BitVec 12), s.Live pCALS ∧ s.get pCALS CALS.STAT_OP = 6 ∧ s.get pCALS (CALS.STG 0) = 0
    ∧ s.get pCALS (CALS.STG 1) = 0 ∧ s.get pCALS CALS.SCFG_MODE < 4 ∧ s.get pCALS CALS.SCFG_VKQ ≤ lvl.toNat ∧
    lvl.toNat ≤ s.get pCALS CALS.SCFG_VKQ + 127) ∧ (∃ (s : State), s.Writable pCALS ∧ s.calsBusy = false ∧ s.get
    pCALS CALS.TREF_SENS < 4) :=
  ⟨⟨hubS.having [(pADC 0, ADC.CTRL_EN, 1), (pADC 0, ADC.STAT_READY, 1), (pCALS, CALS.ACFG_INPUT, 5)],
    by decide +kernel⟩, ⟨(hubS.having [(pCALS, CALS.STAT_OP, 3), (pCALS, CALS.STAT_BUSY, 1), (pCALS, CALS.ACFG_AVG,
    0)]).but (fun d =>
    { d.modAdc 0 (fun a => { a with flight := [⟨0, 0, false, false, false, some (0, 0, 16), none, false, none, none⟩] }) with time := 2 ^ 56 }),
    [1000], by decide +kernel⟩, ⟨hubS, by decide +kernel⟩, ⟨(hubS.having [(pCALS, CALS.ATGT_S, 57344), (pCALS,
    CALS.ATGT_Z, 8192)]).but (fun d => { d with calPt := [some (114808, 400), some (803060, 400)] }), 114808,
    803060, 400, 400, by decide +kernel⟩, ⟨hubS.having [(pCALS, CALS.SCFG_CH, 5)], by decide +kernel⟩, ⟨hubS.having
    [(pSQL, SQL.SQCFG_FUNC 0, 1)], by decide +kernel⟩, ⟨hubS.having [(pCALS, CALS.STAT_OP, 6), (pCALS,
    CALS.STAT_BUSY, 1), (pCALS, CALS.SCFG_VKQ, 1000), (pCALS, CALS.SCFG_MODE, 2)], 1010, by decide +kernel⟩,
    ⟨hubS.having [(pCALS, CALS.TREF_SENS, 2)], by decide +kernel⟩⟩

theorem wit_CalibrationActs_3 : (∃ (s : State) (sum : Int), s.Live pCALS ∧ s.get pCALS CALS.STAT_OP = 7 ∧ (16 *
    toSigned (s.get pCALS CALS.TREF_TREF) 16 - sum).natAbs ≤ 8 * 256 ∧ s.get pCALS (CALS.STG 0) = 0) ∧ (∃ (s :
    State) (sum : Int), s.Live pCALS ∧ s.get pCALS CALS.STAT_OP = 7 ∧ 8 * 256 < (16 * toSigned (s.get pCALS
    CALS.TREF_TREF) 16 - sum).natAbs) :=
  ⟨⟨hubS.having [(pCALS, CALS.STAT_OP, 7), (pCALS, CALS.STAT_BUSY, 1)], -100, by decide +kernel⟩, ⟨hubS.having
    [(pCALS, CALS.STAT_OP, 7), (pCALS, CALS.STAT_BUSY, 1)], -10000, by decide +kernel⟩⟩

theorem wit_EmptyQueueIdles : ∃ s : State, s.pending = [] :=
  ⟨cellS, by decide +kernel⟩

theorem wit_StepKeepsInv : ∃ s t : State, s.Inv ∧ step s = .next t :=
  ⟨cellS, cellS, by decide +kernel, rfl⟩

theorem wit_HeldDeviceIgnoresCommands : (∃ (c : Instr) (s : State), s.phase ≠ .running ∧ s.stores = [] ∧ s.soc.wipe
    = none ∧ actsInReset c = false) ∧ (∃ (v : Word) (s : State), s.phase ≠ .running ∧ s.stores = [] ∧ s.soc.wipe =
    none ∧ (s.phase ≠ .held ∨ s.causes.contains SYSC.RSTCAUSE_DBG.lsb = false ∨ swKey v.toNat = false)) :=
  ⟨⟨.gosyn, cellS.but (fun d => { d with phase := .held }), by decide +kernel⟩, ⟨5, cellS.but (fun d =>
    { d with phase := .held }), by decide +kernel⟩⟩

theorem wit_MotorFollowsHoldOff : (∃ (c : Instr) (s : State), s.phase = .running ∧ actsInReset c = false) ∧ (∃ (c :
    Instr) (s : State), s.phase = .running ∧ ∃ v, c = .softwareSystemReset v) :=
  ⟨⟨.gosyn, cellS, by decide +kernel⟩, ⟨.softwareSystemReset 5, cellS, rfl, 5, by decide +kernel⟩⟩

theorem wit_PinResetPulses : (∃ (s : State) (ns : Nat), s.stores = [] ∧ s.soc.wipe = none ∧ ns < 100) ∧ (∃ (s :
    State) (ns : Nat), (s.phase = .running ∨ s.phase = .held) ∧ 1000 ≤ ns) ∧ (∃ (s : State) (ns : Nat), s.stores =
    [] ∧ s.soc.wipe = none ∧ (s.phase = .running ∨ s.phase = .held) ∧ 100 ≤ ns ∧ ns < 1000) :=
  ⟨⟨cellS, 99, by decide +kernel⟩, ⟨cellS, 1000, by decide +kernel⟩, ⟨cellS, 999, by decide +kernel⟩⟩

theorem wit_ClaimReturnsTheHighestSource : (∃ (s : State) (p : Fin 2) (i : Nat), s.Awake ∧ s.soc.masked.length = 2
    ∧ s.irqActive p i = true) ∧ (∃ (s : State) (p : Fin 2), s.Awake ∧ (∀ m < 104, s.irqActive p m = false)) ∧ (∃ (s
    : State) (p : Fin 2) (n : BitVec 9), s.Awake ∧ n.toNat < 256) :=
  ⟨⟨cellS.having [(pINTC, INTC.SWI, 4), (pINTC, INTC.SRCCFG_PRIO 82, 3), (pINTC, INTC.SRCCFG_TGT0 82, 1)], 0, 82,
    by decide +kernel⟩, ⟨cellS, 0, by decide +kernel⟩, ⟨cellS, 0, 5, by decide +kernel⟩⟩

theorem wit_PeripheralFrames : ∃ s : State, s.Ready :=
  ⟨cellS, by decide +kernel⟩

theorem wit_MemorySideFrames : ∃ s : State, s.Ready :=
  ⟨cellS, by decide +kernel⟩

theorem wit_SafetyFrames : ∃ s : State, s.Ready :=
  ⟨cellS, by decide +kernel⟩

theorem wit_PowerStageFrames : ∃ s : State, s.Ready :=
  ⟨cellS, by decide +kernel⟩

theorem wit_ClockAndTimeFrames : ∃ s : State, s.Ready :=
  ⟨cellS, by decide +kernel⟩

theorem wit_LinkAndStrandFrames : ∃ s : State, s.Ready :=
  ⟨cellS, by decide +kernel⟩

theorem wit_ResetAndPageFrames : ∃ s : State, s.Ready :=
  ⟨cellS, by decide +kernel⟩

theorem wit_GridAndArrivalFrames : ∃ s : State, s.Ready :=
  ⟨cellS, by decide +kernel⟩

end
end

section
/-! PROOFS. The queue of waiting commands: a step takes the front command, and no command touches the queue (log entries 1
and 3). Most commands are one effect on the device; the DMA, management requests and bulk frames work through the memories
step by step, and each of these steps keeps the queue. -/

namespace Sys2Proof.Machine

@[simp] theorem State.run_pending (s : State) (f : Dev → Dev) : (s.run f).pending = s.pending := rfl

/-! ### The DMA channels -/

@[simp] theorem State.dmaRead_pending (s : State) (dram : Bool) (addr len : Nat) :
    (s.dmaRead dram addr len).1.pending = s.pending := by
  cases dram <;> rfl

@[simp] theorem State.dmaWrite1_pending (s : State) (dram : Bool) (addr len v : Nat) :
    (s.dmaWrite1 dram addr len v).1.pending = s.pending := by
  cases dram with
  | false => rfl
  | true =>
    simp only [State.dmaWrite1, if_true]
    split <;> rfl

@[simp] theorem State.dmaMoved_pending (s : State) (c n : Nat) : (s.dmaMoved c n).pending = s.pending := rfl

@[simp] theorem State.dmaFetch_pending (s : State) (c : Nat) : (s.dmaFetch c).1.pending = s.pending := by
  simp only [State.dmaFetch]
  split
  · rfl
  · split
    · rfl
    · split
      · rfl
      · split <;> rfl

@[simp] theorem State.dmaCopy_pending (ws : List Nat) (c fuel : Nat) (s : State) (moved : Nat) :
    (State.dmaCopy ws c fuel s moved).1.pending = s.pending := by
  induction fuel generalizing s moved with
  | zero => rfl
  | succ fuel ih =>
    simp only [State.dmaCopy]
    generalize (if (descSrc ws + moved) % 4 = 0 ∧ (descDst ws + moved) % 4 = 0 ∧ 4 ≤ descLen ws - moved then 4 else 1) = n
    have hread := State.dmaRead_pending s (descSrcDram ws) (descSrc ws + moved) n
    split
    · rfl
    · split
      next s1 heq => rw [heq] at hread; exact hread
      next s1 v heq =>
        rw [heq] at hread
        have hwrite := State.dmaWrite1_pending (s1.dmaMoved c (moved + n)) (descDstDram ws) (descDst ws + moved) n v
        split
        next s2 heq => rw [heq] at hwrite; exact hwrite.trans hread
        next s2 heq =>
          rw [heq] at hwrite
          split
          · exact (ih s2 _).trans (hwrite.trans hread)
          · exact hwrite.trans hread

@[simp] theorem State.dmaPut_pending (dram : Bool) (bs : List Byte) (s : State) (a : Nat) :
    (State.dmaPut dram bs s a).1.pending = s.pending := by
  induction bs generalizing s a with
  | nil => rfl
  | cons b bs ih =>
    have hwrite := State.dmaWrite1_pending s dram a 1 b.toNat
    simp only [State.dmaPut]
    split
    next heq => rw [heq] at hwrite; exact hwrite
    next s1 heq => rw [heq] at hwrite; exact (ih s1 _).trans hwrite

@[simp] theorem State.dmaGet_pending (dram : Bool) (n : Nat) (s : State) (a : Nat) :
    (State.dmaGet dram n s a).1.pending = s.pending := by
  induction n generalizing s a with
  | zero => rfl
  | succ n ih =>
    have hread := State.dmaRead_pending s dram a 1
    simp only [State.dmaGet]
    split
    next heq => rw [heq] at hread; exact hread
    next s1 v heq =>
      rw [heq] at hread
      have hrest := (ih s1 (a + 1)).trans hread
      split
      next heq => rw [heq] at hrest; exact hrest
      next heq => rw [heq] at hrest; exact hrest

@[simp] theorem State.dmaDrain_pending (ws : List Nat) (c p e fuel : Nat) (s : State) (moved : Nat) :
    (State.dmaDrain ws c p e fuel s moved).1.pending = s.pending := by
  induction fuel generalizing s moved with
  | zero => rfl
  | succ fuel ih =>
    simp only [State.dmaDrain]
    split
    · rfl
    · split
      · rfl
      · split
        · rw [ih]; simp
        · simp

@[simp] theorem State.dmaMove_pending (s : State) (c : Nat) : (s.dmaMove c).1.pending = s.pending := by
  have hfetch := State.dmaFetch_pending s c
  simp only [State.dmaMove]
  split
  · rfl
  · split
    next heq => rw [heq] at hfetch; exact hfetch
    next s1 heq =>
      rw [heq] at hfetch
      split
      · exact (State.dmaCopy_pending ..).trans hfetch
      · split
        · split
          · exact hfetch
          · split
            · exact hfetch
            · split <;> exact hfetch
        · split
          · split
            · exact hfetch
            · split
              · exact hfetch
              · exact (State.dmaDrain_pending ..).trans hfetch
          · exact hfetch

@[simp] theorem State.dmaDone_pending (s : State) (c : Nat) (ce : List (Bool × Nat)) :
    (s.dmaDone c ce).pending = s.pending := by
  have hmove := State.dmaMove_pending s c
  unfold State.dmaDone
  split
  next heq => rw [heq] at hmove; exact hmove
  next heq => rw [heq] at hmove; exact hmove
  next => rfl

/-- The queue after the outcome of a movement is the queue before it. -/
theorem State.pending_of_moved {s t u : State} {e : DmaEnd} {r : State × DmaEnd} (h : r = (t, e))
    (hr : r.1.pending = s.pending) (hs : s.pending = u.pending) : t.pending = u.pending := by
  subst h
  exact hr.trans hs

@[simp] theorem State.dmaUe_pending (s : State) (c : Nat) (hit : EccHit) : (s.dmaUe c hit).pending = s.pending := by
  unfold State.dmaUe
  extract_lets stop x kind data
  have hstop : ∀ (t : State) dram addr code, (stop t dram addr code).pending = t.pending := by
    intro t dram addr code
    simp only [stop]
    split <;> rfl
  have hdata : ∀ w at_, (data w at_).pending = s.pending := by
    intro w at_
    have hfetch := State.dmaFetch_pending s c
    dsimp -zeta only [data]
    split
    · rfl
    · next s1 heq =>
      rw [heq] at hfetch
      extract_lets ws n e code upTo
      split
      · rfl
      · split
        · split
          · next hcopy => exact (hstop ..).trans (State.pending_of_moved hcopy (State.dmaCopy_pending ..) hfetch)
          · rfl
        · split
          · split
            · exact (hstop ..).trans hfetch
            · rfl
          · split
            · rfl
            · split
              · rfl
              · split
                · next hdrain =>
                  split
                  · rfl
                  · exact (hstop ..).trans (State.pending_of_moved hdrain (State.dmaDrain_pending ..) hfetch)
                · rfl
  cases hit with
  | desc =>
    simp only
    split
    · rfl
    · exact hstop ..
  | data at_ => exact hdata ..
  | dest at_ => exact hdata ..

@[simp] theorem State.dmaError_pending (s : State) (c : Nat) (hit : Option EccHit) :
    (s.dmaError c hit).pending = s.pending := by
  have hmove := State.dmaMove_pending s c
  unfold State.dmaError
  split
  next heq => rw [heq] at hmove; exact hmove
  next =>
    cases hit with
    | none => rfl
    | some h => exact State.dmaUe_pending s c h

/-- Running BULK_RX channels take what they can: each of them keeps the queue. -/
@[simp] theorem State.dmaPump_pending (s : State) : s.dmaPump.pending = s.pending := by
  unfold State.dmaPump
  refine List.foldlRecOn (motive := fun t : State => t.pending = s.pending) _ _ rfl fun t ht c _ => ?_
  have hmove := State.dmaMove_pending t c
  split
  · split
    · exact ht
    · next heq => rw [heq] at hmove; exact hmove.trans ht
  · exact ht

/-! ### Bulk and management frames -/

@[simp] theorem State.bulkTx_pending (s : State) (p e : Nat) : (s.bulkTx p e).pending = s.pending := by
  simp only [State.bulkTx]
  split
  · rfl
  · next c _ =>
    have hfetch := State.dmaFetch_pending s c
    split
    · rfl
    · next s1 heq =>
      rw [heq] at hfetch
      split
      · rfl
      · next s2 bs hget =>
        have hread := (congrArg (fun x => x.1.pending) hget).symm.trans (State.dmaGet_pending ..)
        split
        · rfl
        · exact hread.trans hfetch

@[simp] theorem State.bulkSend_pending (s : State) (p : Nat) (stream : Option Nat) :
    (s.bulkSend p stream).pending = s.pending := by
  cases stream with
  | none => rfl
  | some e =>
    simp only [State.bulkSend]
    split
    · rfl
    · exact State.bulkTx_pending s p e

@[simp] theorem State.bArrive_pending (s : State) (p : Nat) (f : Frame) : (s.bArrive p f).pending = s.pending :=
  State.dmaPump_pending _

@[simp] theorem State.mAccess_pending (s : State) (port : Fin 2) (w data : Nat) :
    (s.mAccess port w data).1.pending = s.pending := by
  simp only [State.mAccess]
  split
  · split <;> rfl
  · split <;> rfl
  · rfl

@[simp] theorem State.mRun_pending (port : Fin 2) (burst : Bool) (es : List (Nat × Nat)) (s : State) (go : Bool) :
    (State.mRun port burst es s go).1.pending = s.pending := by
  induction es generalizing s go with
  | nil => rfl
  | cons x rest ih =>
    simp only [State.mRun]
    split
    · exact (ih _ _).trans (State.mAccess_pending ..)
    · exact ih _ _

@[simp] theorem State.mRequest_pending (s : State) (p : Fin 2) (f : Frame) : (s.mRequest p f).pending = s.pending := by
  simp only [State.mRequest]
  split
  · exact State.mRun_pending ..
  · split
    · rfl
    · split
      · exact State.mRun_pending ..
      · exact State.mRun_pending ..

@[simp] theorem State.mArrive_pending (s : State) (p : Fin 2) (f : Frame) : (s.mArrive p f).pending = s.pending := by
  unfold State.mArrive
  split
  · split
    · exact State.mRequest_pending ..
    · rfl
  · rfl

/-! ### Every command -/

/-- A command that works through the memories answers a next state with the same queue, if its work keeps the queue. -/
theorem State.doesS_answers (s : State) (f : State → State) (hf : (f s).pending = s.pending) :
    ∃ t, s.doesS f = .next t ∧ t.pending = s.pending := by
  refine ⟨_, rfl, ?_⟩
  split
  · exact hf
  · rfl

theorem execDmaDescriptorDone_answers (x : Fin 16 × List (Bool × BitVec 24)) (s : State) :
    ∃ t, execDmaDescriptorDone x s = .next t ∧ t.pending = s.pending := s.doesS_answers _ (s.dmaDone_pending _ _)

theorem execDmaError_answers (x : Fin 16 × Option EccHit) (s : State) :
    ∃ t, execDmaError x s = .next t ∧ t.pending = s.pending := s.doesS_answers _ (s.dmaError_pending _ _)

theorem execBDataFrameRx_answers (p : Fin 10) (f : Frame) (s : State) :
    ∃ t, execBDataFrameRx p f s = .next t ∧ t.pending = s.pending := s.doesS_answers _ (s.bArrive_pending _ _)

theorem execMRequestRx_answers (p : Fin 2) (f : Frame) (s : State) :
    ∃ t, execMRequestRx p f s = .next t ∧ t.pending = s.pending := s.doesS_answers _ (s.mArrive_pending _ _)

theorem execBulkFrameSend_answers (p : Fin 10) (e : Option (Fin 32)) (s : State) :
    ∃ t, execBulkFrameSend p e s = .next t ∧ t.pending = s.pending := s.doesS_answers _ (s.bulkSend_pending _ _)

/-- Every command answers a next state and leaves the queue alone: five commands work through the memories step by step, every
other is one effect on the device (`State.does`, `State.doesM`, `State.always`), which does not see the queue. -/
theorem exec_answers_next (c : Instr) (s : State) : ∃ t, exec c s = .next t ∧ t.pending = s.pending := by
  cases c
  case dmaDescriptorDone x => exact execDmaDescriptorDone_answers x s
  case dmaError x => exact execDmaError_answers x s
  case bDataFrameRx p f => exact execBDataFrameRx_answers p f s
  case mRequestRx p f => exact execMRequestRx_answers p f s
  case bulkFrameSend p e => exact execBulkFrameSend_answers p e s
  all_goals exact ⟨_, rfl, rfl⟩

theorem step_cons (c : Instr) (q : List Instr) (s : State) :
    step { s with pending := c :: q } = exec c { s with pending := q } := rfl

end Sys2Proof.Machine
end

section
open Sys2Proof Sys2Proof.Machine

/-- Settles O1: a step takes the front command off the queue and runs it on the state with the rest. -/
theorem stepRunsFrontCommand : Obligations.StepRunsFrontCommand := step_cons

/-- Settles O3, by cases on the command: five of them work through the memories step by step, and each step keeps the queue. -/
theorem everyCommandAnswersNext : Obligations.EveryCommandAnswersNext := exec_answers_next

end

section
/-! PROOFS. What every access to a page of registers leaves alone: the frame `Dev.KeepsBut` field by field, a command after
which MOTR has nothing to follow, and what MOTR's following never takes back (error bits, reports, the accepted features and
the lock). -/

namespace Sys2Proof.Machine

/-! ### Every field but the listed ones -/

theorem Dev.KeepsBut.refl (d : Dev) (l : List (Nat × Nat × Nat)) : d.KeepsBut d l := fun _ _ _ _ => ⟨rfl, rfl⟩

theorem Dev.KeepsBut.trans {a b c : Dev} {l : List (Nat × Nat × Nat)} (h : a.KeepsBut b l) (h' : b.KeepsBut c l) :
    a.KeepsBut c l :=
  fun pg F hF hm => ⟨(h' pg F hF hm).1.trans (h pg F hF hm).1, (h' pg F hF hm).2.trans (h pg F hF hm).2⟩

/-- Setting a listed field. -/
theorem Dev.KeepsBut.set (d : Dev) {pg : Nat} {F : Fld} {l : List (Nat × Nat × Nat)} (hF : F.ok) (v : Nat)
    (hm : (pg, F.off, F.lsb) ∈ l) : d.KeepsBut (d.set pg F v) l := by
  intro p G hG hn
  have hne : p ≠ pg ∨ G.off ≠ F.off ∨ G.lsb ≠ F.lsb := by
    by_cases hp : p = pg
    · by_cases ho : G.off = F.off
      · exact .inr (.inr fun hl => hn (by rw [hp, ho, hl]; exact hm))
      · exact .inr (.inl ho)
    · exact .inl hp
  exact ⟨d.get_set_ne v (key_ne hG hF hne), rfl⟩

/-- An error changes ERRSTAT and FIRST of its page. -/
theorem Dev.KeepsBut.err (d : Dev) (pg b : Nat) : d.KeepsBut (d.err pg b) [(pg, 0x020, 0), (pg, 0x028, 8)] := by
  intro p G hG hn
  obtain ⟨-, r, rp, tl, ne, he⟩ := Dev.PageOnly.err d pg b
  refine ⟨?_, by rw [he]; rfl⟩
  unfold Dev.err
  split
  · rfl
  · rw [Dev.report_get]
    unfold Dev.errSet
    split
    · rfl
    · exact ((Dev.KeepsBut.set d HDR.ERRSTAT_ok _ (by simp [HDR.ERRSTAT])).trans
        (Dev.KeepsBut.set _ HDR.FIRST_ok _ (by simp [HDR.FIRST])) p G hG hn).1

/-! ### The configuration: what the blocks do follows from it, and no header field belongs to it -/

/-- The fields of the control and configuration area and behind it read as before, and MOTR is as before. -/
def Dev.SameConfig (d d' : Dev) : Prop :=
  d'.motr = d.motr ∧ ∀ pg (F : Fld), F.ok → F.off = 0x010 ∨ 0x040 ≤ F.off → d'.get pg F = d.get pg F

theorem Dev.KeepsBut.sameConfig {d d' : Dev} {l : List (Nat × Nat × Nat)} (h : d.KeepsBut d' l) (hm : d'.motr = d.motr)
    (hl : ∀ x ∈ l, x.2.1 < 0x040 ∧ x.2.1 ≠ 0x010) : d.SameConfig d' := by
  refine ⟨hm, fun pg F hF ho => (h pg F hF fun hx => ?_).1⟩
  obtain ⟨h1, h2⟩ : F.off < 0x040 ∧ F.off ≠ 0x010 := hl _ hx
  omega

theorem Dev.SameConfig.err (d : Dev) (pg b : Nat) : d.SameConfig (d.err pg b) := by
  refine (Dev.KeepsBut.err d pg b).sameConfig ?_ (by simp)
  obtain ⟨-, r, rp, tl, ne, he⟩ := Dev.PageOnly.err d pg b
  rw [he]

theorem Dev.SameConfig.refl (d : Dev) : d.SameConfig d := ⟨rfl, fun _ _ _ _ => rfl⟩

theorem Dev.SameConfig.trans {a b c : Dev} (h : a.SameConfig b) (h' : b.SameConfig c) : a.SameConfig c :=
  ⟨h'.1.trans h.1, fun pg F hF ho => (h'.2 pg F hF ho).trans (h.2 pg F hF ho)⟩

theorem Dev.SameConfig.isCell {d d' : Dev} (h : d.SameConfig d') : d'.isCell = d.isCell :=
  congrArg (· == 0) (h.2 pSYSC SYSC.STRAP_ROLE (by decide) (by decide))

/-- The role decides which blocks are there. -/
theorem Dev.SameConfig.absent {d d' : Dev} (h : d.SameConfig d') (pg : Nat) : d'.absent pg = d.absent pg := by
  simp only [Dev.absent, Dev.gone, h.isCell]

theorem Dev.SameConfig.errClass {d d' : Dev} (h : d.SameConfig d') (pg b : Nat) : d'.errClass pg b = d.errClass pg b := by
  unfold Dev.errClass
  split
  · rfl
  · split
    · split
      · have hoff : (SQL.SQCFG_ECLS b).off < 4096 ∧ 0x040 ≤ (SQL.SQCFG_ECLS b).off := by
          simp only [SQL.SQCFG_ECLS]
          omega
        exact h.2 pSQL (SQL.SQCFG_ECLS b) ⟨hoff.1, (by decide : 28 < 32)⟩ (.inr hoff.2)
      · rfl
    · rfl
    · rfl

theorem Dev.SameConfig.motrSettled {d d' : Dev} (h : d.SameConfig d') (hs : d.MotrSettled) : d'.MotrSettled := by
  obtain ⟨hm, hg⟩ := h
  have hcell : d'.isCell = d.isCell := Dev.SameConfig.isCell ⟨hm, hg⟩
  have hen : d'.on pMOTR MOTR.CTRL_EN = d.on pMOTR MOTR.CTRL_EN := congrArg (· != 0) (hg _ _ (by decide) (by decide))
  have hold : d'.holdOff = d.holdOff := congrArg (· != 0) (hg pPWMC PWMC.HOLDSTAT_ACTIVE (by decide) (by decide))
  have hgden : d'.on pGCH GCH.GDSTAT_GDEN = d.on pGCH GCH.GDSTAT_GDEN := congrArg (· != 0) (hg _ _ (by decide) (by decide))
  intro hc he
  rw [hm, hold, hgden]
  exact hs (hcell ▸ hc) (hen ▸ he)

/-- No leg of bridge 1 has a new latch where the latches read as before. -/
theorem Dev.SameConfig.bridge1New {d d' : Dev} (h : d.SameConfig d') : d.bridge1New d' = false := by
  have hon : ∀ F : Fld, F.ok → 0x040 ≤ F.off → d'.on pGCH F = d.on pGCH F :=
    fun F hF ho => congrArg (· != 0) (h.2 pGCH F hF (.inr ho))
  have hleg : ∀ m < 6, d'.legLatched m = d.legLatched m := by
    intro m hm
    have hok : ∀ b, b < 32 → (⟨0x840 + 0x4 * m, b, 1, 0x0⟩ : Fld).ok := fun b hb => ⟨by dsimp only; omega, hb⟩
    simp only [Dev.legLatched, hon _ (hok 31 (by decide)) (by dsimp only; omega),
      hon _ (hok 28 (by decide)) (by dsimp only; omega), GCH.LEGSTAT_LEG_SHORT, GCH.LEGSTAT_ESC]
  have hch : ∀ n < 12, d'.chLatched n = d.chLatched n := by
    intro n hn
    have hok : ∀ b, b < 32 → (⟨0x800 + 0x4 * n, b, 1, 0x0⟩ : Fld).ok := fun b hb => ⟨by dsimp only; omega, hb⟩
    simp only [Dev.chLatched, GCH.CHSTAT_ILTMO, GCH.CHSTAT_ONFAIL, GCH.CHSTAT_OFFFAIL, GCH.CHSTAT_FBFAULT,
      hon _ (hok 3 (by decide)) (by dsimp only; omega), hon _ (hok 2 (by decide)) (by dsimp only; omega),
      hon _ (hok 1 (by decide)) (by dsimp only; omega), hon _ (hok 0 (by decide)) (by dsimp only; omega)]
  rw [Dev.bridge1New, List.any_eq_false]
  intro m hm
  have hm6 : m < 6 := List.mem_range.1 (List.mem_filter.1 hm).1
  simp [hleg m hm6, hch (2 * m) (by omega), hch (2 * m + 1) (by omega)]

theorem Dev.SameConfig.motrSync {d d' : Dev} (h : d.SameConfig d') (hs : d.MotrSettled) : Dev.motrSync d d' = d' :=
  Dev.motrSync_settled d d' (h.motrSettled hs) h.bridge1New

/-! ### A command after which MOTR has nothing to follow -/

/-- A command on a running device, as its effect, MOTR's following and the bytes stored. -/
theorem State.doesM_running (s : State) (f : Mems → Dev → Dev) (h : s.phase = .running) :
    s.doesM f = .next (State.flush { s with toDev := Dev.motrSync s.toDev (f s.mems s.toDev) }) := by
  simp only [State.doesM, State.runM, Dev.acting, h, if_true]

/-- A command on a device where MOTR is settled, whose effect keeps the configuration, is its effect and the bytes stored. -/
theorem State.doesM_settled (s : State) (f : Mems → Dev → Dev) {e : Dev} (h : s.Ready) (he : f s.mems s.toDev = e)
    (hc : s.toDev.SameConfig e) : s.doesM f = .next (State.flush { s with toDev := e }) := by
  obtain ⟨hrun, hset, -, -⟩ := h
  rw [s.doesM_running f hrun, he, hc.motrSync hset]

/-! ### What MOTR's following never takes back -/

/-- Between `d` and `d'` no error bit of a page was cleared, no report was lost, and the accepted features and the lock of every
page are as before. -/
structure Dev.HeadersGrow (d d' : Dev) : Prop where
  errBit : ∀ pg b, b < 32 → d.bit pg HDR.ERRSTAT b = true → d'.bit pg HDR.ERRSTAT b = true
  reported : ∀ r ∈ d.reports, r ∈ d'.reports
  kept : ∀ pg (F : Fld), F.ok → F.off = 0x00C ∨ F.off = 0x02C → d'.get pg F = d.get pg F

theorem Dev.HeadersGrow.refl (d : Dev) : Dev.HeadersGrow d d := ⟨fun _ _ _ h => h, fun _ h => h, fun _ _ _ _ => rfl⟩

theorem Dev.HeadersGrow.trans {a b c : Dev} (h : Dev.HeadersGrow a b) (h' : Dev.HeadersGrow b c) : Dev.HeadersGrow a c :=
  ⟨fun pg n hn hb => h'.errBit pg n hn (h.errBit pg n hn hb), fun r hr => h'.reported r (h.reported r hr),
    fun pg F hF ho => (h'.kept pg F hF ho).trans (h.kept pg F hF ho)⟩

theorem Dev.HeadersGrow.foldl {α : Type} (f : Dev → α → Dev) (hf : ∀ d a, Dev.HeadersGrow d (f d a)) (l : List α) (d : Dev) :
    Dev.HeadersGrow d (l.foldl f d) := by
  induction l generalizing d with
  | nil => exact .refl d
  | cons a l ih => exact (hf d a).trans (ih _)

/-- A change behind the registers that loses no report. -/
theorem Dev.HeadersGrow.of_regs {d d' : Dev} (hr : d'.regs = d.regs) (hp : ∀ r ∈ d.reports, r ∈ d'.reports) :
    Dev.HeadersGrow d d' := by
  have hget : ∀ pg F, d'.get pg F = d.get pg F := fun pg F => by simp only [Dev.get, hr]
  exact ⟨fun pg b _ h => by rw [Dev.bit, hget]; exact h, hp, fun pg F _ _ => hget pg F⟩

/-- A field of another register than FEATACC, ERRSTAT and LOCK. -/
theorem Dev.HeadersGrow.set (d : Dev) (pg : Nat) {F : Fld} (hF : F.ok) (v : Nat)
    (ho : F.off ≠ 0x00C ∧ F.off ≠ 0x020 ∧ F.off ≠ 0x02C) : Dev.HeadersGrow d (d.set pg F v) := by
  obtain ⟨h1, h2, h3⟩ := ho
  refine ⟨fun p b _ h => ?_, fun _ h => h, fun p G hG hg => d.get_set_ne v (key_ne hG hF (.inr (.inl (by omega))))⟩
  rw [Dev.bit, d.get_set_ne v (key_ne HDR.ERRSTAT_ok hF (.inr (.inl (Ne.symm h2))))]
  exact h

theorem Dev.HeadersGrow.modMotr (d : Dev) (f : Motr → Motr) : Dev.HeadersGrow d (d.modMotr f) := .of_regs rfl fun _ h => h

theorem Dev.HeadersGrow.modGate (d : Dev) (n : Nat) (f : Gate → Gate) : Dev.HeadersGrow d (d.modGate n f) :=
  .of_regs rfl fun _ h => h

theorem Dev.HeadersGrow.meet (d : Dev) (f : Meets → Meets) : Dev.HeadersGrow d (d.meet f) := .of_regs rfl fun _ h => h

/-- Setting an ERRSTAT bit clears none. -/
theorem Dev.HeadersGrow.setErr (d : Dev) (pg : Nat) (b : Nat) :
    Dev.HeadersGrow d (d.setBit pg HDR.ERRSTAT b true) := by
  refine ⟨fun p n hn h => ?_, fun _ h => h, fun p G hG hg => Dev.get_setBit_ne _ _ _ (key_ne hG HDR.ERRSTAT_ok (.inr (.inl ?_)))⟩
  · by_cases hp : p = pg
    · subst hp
      simp only [Dev.bit, Dev.setBit, if_true, Dev.get_set_same, bitAt_testBit, Nat.testBit_mod_two_pow, Nat.testBit_or] at h ⊢
      simp [h, show n < HDR.ERRSTAT.wid from hn]
    · rw [Dev.bit, Dev.get_setBit_ne _ _ _ (key_ne HDR.ERRSTAT_ok HDR.ERRSTAT_ok (.inl hp))]
      exact h
  · simp only [HDR.ERRSTAT]; omega

theorem Dev.HeadersGrow.errSet (d : Dev) (pg b : Nat) : Dev.HeadersGrow d (d.errSet pg b) := by
  unfold Dev.errSet
  split
  · exact .refl d
  · exact ((Dev.HeadersGrow.setErr d pg b).trans (.set _ pg HDR.FIRST_ok _ (by decide))).trans (.meet _ _)

theorem Dev.HeadersGrow.occurrence (d : Dev) (src inst bit cls : Nat) (inj : Bool) :
    Dev.HeadersGrow d (d.occurrence src inst bit cls inj) :=
  .of_regs rfl fun _ h => List.mem_append_left _ h

theorem Dev.HeadersGrow.report (d : Dev) (pg b : Nat) : Dev.HeadersGrow d (d.report pg b) := by
  unfold Dev.report
  split
  · exact .refl d
  · exact .of_regs rfl fun _ h => List.mem_append_left _ h

theorem Dev.HeadersGrow.err (d : Dev) (pg b : Nat) : Dev.HeadersGrow d (d.err pg b) := by
  unfold Dev.err
  split
  · exact .refl d
  · exact (Dev.HeadersGrow.errSet d pg b).trans (.report _ pg b)

theorem Dev.HeadersGrow.errIf (d : Dev) (c : Bool) (pg b : Nat) : Dev.HeadersGrow d (d.errIf c pg b) := by
  cases c
  · exact .refl d
  · exact .err d pg b

theorem Dev.HeadersGrow.inject (d : Dev) (pg b : Nat) : Dev.HeadersGrow d (d.inject pg b) := by
  unfold Dev.inject
  split
  · exact .refl d
  · exact (Dev.HeadersGrow.errSet d pg b).trans (.occurrence ..)

theorem Dev.HeadersGrow.irqIf (d : Dev) (c : Bool) (pg b : Nat) : Dev.HeadersGrow d (d.irqIf c pg b) := by
  unfold Dev.irqIf Dev.irq
  split
  · split
    · exact .refl d
    · exact (Dev.HeadersGrow.set d pg HDR.IRQFLG_ok _ (by decide)).trans (.meet _ _)
  · exact .refl d

theorem Dev.HeadersGrow.gateSeeOut (d : Dev) (m : Nat) : Dev.HeadersGrow d (d.gateSeeOut m) := by
  unfold Dev.gateSeeOut
  refine .foldl _ (fun d n => ?_) _ _
  dsimp only
  split
  · exact .modGate ..
  · exact .refl _

theorem Dev.HeadersGrow.legsSet (d : Dev) : Dev.HeadersGrow d d.legsSet := by
  refine .foldl _ (fun d ph => ?_) _ _
  unfold Dev.legSet
  dsimp only
  split
  · exact .refl _
  · exact (Dev.HeadersGrow.modMotr _ _).trans (.gateSeeOut _ _)

theorem Dev.HeadersGrow.brakeKeep (d : Dev) : Dev.HeadersGrow d d.brakeKeep := by
  unfold Dev.brakeKeep
  split
  · exact .set _ _ (by decide) _ (by decide)
  · exact .refl d

theorem Dev.HeadersGrow.motrTo (d : Dev) (st : Nat) : Dev.HeadersGrow d (d.motrTo st) := by
  have hrun : ∀ x : Dev, Dev.HeadersGrow x (if st = 1 then
      x.modMotr fun t => { t with last := none, run := (false, 0, 0), best := none } else x) := by
    intro x
    split
    · exact .modMotr _ _
    · exact .refl _
  have hbrake : ∀ x : Dev, Dev.HeadersGrow x (if st = 5 then
      ((x.inc pMOTR MOTR.CNT_BRAKES).set pMOTR MOTR.BRKTIME 0).modMotr fun t => { t with brk := 0, brkAt := x.ns } else x) := by
    intro x
    split
    · exact (((Dev.HeadersGrow.set x pMOTR (F := MOTR.CNT_BRAKES) (by decide) _ (by decide)).trans (.meet _ _)).trans
        (.set _ pMOTR (F := MOTR.BRKTIME) (by decide) _ (by decide))).trans (.modMotr _ _)
    · exact .refl _
  have hstate := (((Dev.HeadersGrow.brakeKeep d).trans (.irqIf _ (st != d.brakeKeep.motrState) pMOTR MOTR.I_STATE_CHG)).trans
    (.set _ pMOTR (F := MOTR.MSTAT_STATE) (by decide) st (by decide))).trans
      (.modMotr _ fun t => { t with obs := false, sched := false, misses := 0 })
  unfold Dev.motrTo
  dsimp only
  exact ((hstate.trans (hrun _)).trans (hbrake _)).trans (.legsSet _)

/-- MOTR is suspended or resumes. -/
theorem Dev.HeadersGrow.follow (d : Dev) (hold : Bool) : Dev.HeadersGrow d
    (if hold && !d.motr.susp then (d.brakeKeep.modMotr fun t => { t with susp := true }).legsSet
     else if !hold && d.motr.susp then
      let d := if d.motrState = 6 then d else if d.on pMOTR MOTR.MSTAT_TRUN then d.motrTo 1 else d.motrTo 0
      (d.modMotr fun t => { t with susp := false }).legsSet
     else d) := by
  split
  · exact ((Dev.HeadersGrow.brakeKeep d).trans (.modMotr _ _)).trans (.legsSet _)
  · split
    · refine Dev.HeadersGrow.trans ?_ ((Dev.HeadersGrow.modMotr _ _).trans (.legsSet _))
      split
      · exact .refl _
      · split
        · exact .motrTo _ _
        · exact .motrTo _ _
    · exact .refl _

/-- MOTR's following of the hold-off, GDEN and the latches takes back nothing (R414). -/
theorem Dev.HeadersGrow.motrSync (d0 d : Dev) : Dev.HeadersGrow d (Dev.motrSync d0 d) := by
  unfold Dev.motrSync
  split
  · exact .refl d
  · have hfault : Dev.HeadersGrow d (if d0.bridge1New d then d.motrFault MOTR.E_BRIDGE_FAULT else d) := by
      split
      · exact (Dev.HeadersGrow.err d pMOTR _).trans (.motrTo _ 6)
      · exact .refl _
    exact hfault.trans (.follow _ _)

/-- What a command on a running device leaves in the headers at its end, of what its effect has put there. -/
theorem State.doesM_grows (s : State) (f : Mems → Dev → Dev) {e : Dev} (h : s.phase = .running) (he : f s.mems s.toDev = e) :
    ∃ t, s.doesM f = .next t ∧ Dev.HeadersGrow e t.toDev ∧ t.unlock = e.unlock := by
  subst he
  refine ⟨_, s.doesM_running f h, (Dev.HeadersGrow.motrSync s.toDev _).trans (.of_regs rfl fun _ h => h), ?_⟩
  simp

end Sys2Proof.Machine
end

section
/-! PROOFS. A word written to a register of the common header, from the bus to the page's own rule (R99 to R108): the access
reaches the page, and the page's rule acts on the device with a new answer of the bus. -/

namespace Sys2Proof.Machine

/-! ### The bookkeeping of every write to a page -/

/-- The device with another answer of the bus and other waiting unlock keys: what a write to a page touches besides its rule. -/
def Dev.withBus (d : Dev) (r : Option (Option Nat)) (u : List Nat) : Dev := { d with reply := r, unlock := u }

@[simp] theorem Dev.withBus_on (d : Dev) (r : Option (Option Nat)) (u : List Nat) (pg : Nat) (F : Fld) :
    (d.withBus r u).on pg F = d.on pg F := rfl
@[simp] theorem Dev.withBus_locked (d : Dev) (r : Option (Option Nat)) (u : List Nat) (pg : Nat) :
    (d.withBus r u).locked pg = d.locked pg := rfl
@[simp] theorem Dev.withBus_isCell (d : Dev) (r : Option (Option Nat)) (u : List Nat) : (d.withBus r u).isCell = d.isCell := rfl

theorem Dev.KeepsBut.withBus (d : Dev) (r : Option (Option Nat)) (u : List Nat) (l : List (Nat × Nat × Nat)) :
    d.KeepsBut (d.withBus r u) l := fun _ _ _ _ => ⟨rfl, rfl⟩

theorem Dev.SameConfig.withBus (d : Dev) (r : Option (Option Nat)) (u : List Nat) : d.SameConfig (d.withBus r u) :=
  ⟨rfl, fun _ _ _ _ => rfl⟩

/-- A page that takes writes is present and in no block reset. -/
theorem Dev.live_of_deaf {d : Dev} {pg : Nat} (h : d.deaf pg = false) : d.absent pg = false ∧ d.inBlk.contains pg = false := by
  simp only [Dev.deaf, Bool.or_eq_false_iff] at h
  exact h.1

theorem filter_ne_of_not_contains {l : List Nat} {x : Nat} (h : l.contains x = false) : l.filter (· != x) = l := by
  rw [List.filter_eq_self]
  intro y hy
  have hne : y ≠ x := fun e => by simp_all
  simpa using hne

/-- A write other than the second key discards a waiting first key, with LOCK_ERR on a locked page (R107). -/
theorem Dev.dropKey_eq (d : Dev) (pg : Nat) : d.dropKey pg =
    (d.withBus d.reply (d.unlock.filter (· != pg))).errIf (d.unlock.contains pg && d.locked pg) pg HDR.E_LOCK_ERR := by
  unfold Dev.dropKey
  cases hw : d.unlock.contains pg with
  | true => rfl
  | false =>
    rw [filter_ne_of_not_contains hw]
    rfl

/-- On an unlocked page only the key is dropped. -/
theorem Dev.dropKey_unlocked (d : Dev) {pg : Nat} (h : d.locked pg = false) :
    d.dropKey pg = d.withBus d.reply (d.unlock.filter (· != pg)) := by
  rw [d.dropKey_eq, h, Bool.and_false]
  rfl

theorem Dev.tstkKey_eq (d : Dev) (pg off : Nat) : ∃ u, d.tstkKey pg off = d.withBus d.reply u := by
  unfold Dev.tstkKey
  split
  · exact ⟨_, rfl⟩
  · exact ⟨d.unlock, rfl⟩

/-! ### From the bus to the page -/

theorem pageAddr_toNat (page : BitVec 15) {off : Nat} (h : off < 4096) :
    (pageAddr page off).toNat = 0x40000000 + page.toNat * 4096 + off := by
  rw [pageAddr, BitVec.toNat_ofNat, Nat.mod_eq_of_lt]
  omega

/-- A register's address reaches its page, for every initiator (R109). -/
theorem place_page (who : Who) {pg off : Nat} (hp : pg < 0x8000) (ho : off < 4096) (hk : (pageKind pg).isSome = true) :
    place_ who (0x40000000 + pg * 4096 + off) = .page pg off := by
  have h1 : 0x40000000 ≤ 0x40000000 + pg * 4096 + off ∧ 0x40000000 + pg * 4096 + off < 0x48000000 := by omega
  have h2 : (0x40000000 + pg * 4096 + off - 0x40000000) / 4096 = pg := by omega
  have h3 : (0x40000000 + pg * 4096 + off) % 4096 = off := by omega
  unfold place_
  simp only [h1, h2, h3, hk, and_self, if_true]

/-- A word that an initiator on the bus writes to a register's address is written to the page. -/
theorem Dev.access_page (m : Mems) (d : Dev) (who : Who) (addr : BitVec 32) (v : Word) {pg off : Nat} (hb : d.onBus who = true)
    (ha : addr.toNat = 0x40000000 + pg * 4096 + off) (hp : pg < 0x8000) (ho : off < 4096) (h4 : off % 4 = 0)
    (hk : (pageKind pg).isSome = true) :
    Dev.access m d who addr .word (some v) = d.pageWrite (mgmtPort who) pg off v.toNat := by
  have hv : v.toNat % 2 ^ (8 * 4) = v.toNat := Nat.mod_eq_of_lt v.isLt
  simp only [Dev.access, hb, Bool.not_true, Bool.false_eq_true, if_false, hv, Dev.busWrite, ha, place_page who hp ho hk, sizeLen,
    h4, ne_eq, not_true_eq_false]

/-- The same for an address given by page and offset. -/
theorem Dev.access_pageAddr (m : Mems) (d : Dev) (who : Who) (page : BitVec 15) (v : Word) {off : Nat} (hb : d.onBus who = true)
    (ho : off < 4096) (h4 : off % 4 = 0) (hk : (pageKind page.toNat).isSome = true) :
    Dev.access m d who (pageAddr page off) .word (some v) = d.pageWrite (mgmtPort who) page.toNat off v.toNat :=
  d.access_page m who _ v hb (pageAddr_toNat page ho) page.isLt ho h4 hk

/-! ### From the page to its rule -/

/-- A page that takes no write answers the bus and nothing else (R7, R8). -/
theorem Dev.pageWrite_deaf (d : Dev) (mg : Option Nat) (pg off v : Nat) (h : d.deaf pg = true) :
    d.pageWrite mg pg off v = d.withBus none d.unlock := by
  have h' : Dev.deaf { d with reply := none } pg = true := h
  simp only [Dev.pageWrite, h', if_true]
  rfl

theorem Dev.pageWrite_featacc (d : Dev) (mg : Option Nat) (pg v : Nat) (h : d.deaf pg = false) :
    ∃ u, d.pageWrite mg pg 0x00C v = (d.withBus none u).featWrite pg v mg.isSome := by
  have h' : Dev.deaf { d with reply := none } pg = false := h
  obtain ⟨u, hu⟩ := Dev.tstkKey_eq { d with reply := none } pg 0x00C
  refine ⟨u, ?_⟩
  simp only [Dev.pageWrite, h', Bool.false_eq_true, if_false, if_true, hu]
  rfl

theorem Dev.pageWrite_errinj (d : Dev) (mg : Option Nat) (pg v : Nat) (h : d.deaf pg = false) :
    ∃ u, d.pageWrite mg pg 0x024 v = (d.withBus none u).injWrite pg v := by
  have h' : Dev.deaf { d with reply := none } pg = false := h
  obtain ⟨u, hu⟩ := Dev.tstkKey_eq { d with reply := none } pg 0x024
  refine ⟨u, ?_⟩
  simp only [Dev.pageWrite, h', Bool.false_eq_true, if_false, if_true, hu, Nat.reduceEqDiff]
  rfl

theorem Dev.pageWrite_lock (d : Dev) (mg : Option Nat) (pg v : Nat) (h : d.deaf pg = false) (ht : pg ≠ pTSTK) :
    d.pageWrite mg pg 0x02C v = (d.withBus none d.unlock).lockKey pg (v % 65536) := by
  have h' : Dev.deaf { d with reply := none } pg = false := h
  have hu : Dev.tstkKey { d with reply := none } pg 0x02C = d.withBus none d.unlock := by
    simp only [Dev.tstkKey, ht, false_and, if_false]
    rfl
  simp only [Dev.pageWrite, h', Bool.false_eq_true, if_false, if_true, hu, Nat.reduceEqDiff, ht]

theorem pageKind_pLE {n : Nat} (h : n < 8) : pageKind (pLE n) = some (.lth, n) :=
  have hall : ∀ m < 8, pageKind (pLE m) = some (.lth, m) := by decide
  hall n h

/-- A note for hardware that meets the write in this tick changes no register. -/
theorem Dev.noteSoft_eq (d : Dev) (pg off v : Nat) : ∃ f, d.noteSoft pg off v = d.meet f := by
  unfold Dev.noteSoft
  split
  · exact ⟨_, rfl⟩
  · exact ⟨id, rfl⟩

/-- A write of software to the set-up area of a Lathe engine that takes it is the engine's own rule (R366). -/
theorem Dev.regWrite_lc (d : Dev) (n : Fin 8) (off v : Nat) (hs : d.soc.stop = false) (hd : d.deaf (pLE n) = false)
    (hl : d.locked (pLE n) = false) (h1 : 0x040 ≤ off) (h2 : off < 0x400) :
    ∃ u f, d.regWrite (pLE n) off v = ((d.withBus none u).lcWrite n off v).meet f := by
  have hv : pLE n ≠ pVANE := by
    simp only [pLE, pVANE]
    omega
  obtain ⟨u, hu⟩ := d.pageWrite_block none (pLE n) off v hd hl (.inr h1) (.inl hv)
  obtain ⟨f, hf⟩ := Dev.noteSoft_eq ((d.withBus none u).lcWrite n off v) (pLE n) off v
  refine ⟨u, f, ?_⟩
  have hb : Dev.blockWrite { d with reply := none, unlock := u } none (pLE n) off v = (d.withBus none u).lcWrite n off v := by
    have h800 : off ≠ 0x800 := by omega
    simp only [Dev.blockWrite, pageKind_pLE n.isLt, Dev.latheWrite, h800, h1, h2, and_self, if_true, if_false]
    rfl
  rw [Dev.regWrite, hs, if_neg Bool.false_ne_true, hu, hb, hf]

end Sys2Proof.Machine
end

section
/-! PROOFS. The rules of the pages: what a write of a Lathe engine's shadows, of FEATACC, LOCK and ERRINJ does to the device. -/

namespace Sys2Proof.Machine

/-! ### The shadow registers of a Lathe engine (R4, R366) -/

/-- An engine that is armed or not open refuses the write. -/
theorem Dev.lcWrite_refused (d : Dev) (n off v : Nat) (hlc : ((pageFields (pLE n) off).any fun f => f.acc == .lc) = true)
    (hst : d.leState n ≠ 0 ∨ d.on (pLE n) LTH.STAT_CLOSEARM = true) : d.lcWrite n off v = d.err (pLE n) HDR.E_ACC_REJ := by
  have hst' : (d.leState n != 0 || d.on (pLE n) LTH.STAT_CLOSEARM) = true := by simpa using hst
  simp only [Dev.lcWrite, hlc, hst', Bool.not_true, Bool.false_eq_true, if_false, if_true]

/-- The registers of the set-point ramp ignore a write while STEP_SETPOINT is accepted (R362). -/
theorem Dev.lcWrite_ramp (d : Dev) (n off v : Nat) (hst : d.leState n = 0) (harm : d.on (pLE n) LTH.STAT_CLOSEARM = false)
    (hsp : d.stepSp n = true) (ho : off = 0x04C ∨ 0x050 ≤ off ∧ off < 0x060) : d.lcWrite n off v = d := by
  have ho' : (off == 0x04C || (decide (0x050 ≤ off) && decide (off < 0x060))) = true := by simpa using ho
  simp only [Dev.lcWrite, hst, harm, hsp, ho', bne_self_eq_false, Bool.or_self, Bool.and_self, Bool.false_eq_true, if_false,
    if_true, ite_self]

/-- One shadow field as the written word has it. -/
def Dev.lcSet (pg off v : Nat) (d : Dev) (f : RegFld) : Dev :=
  if f.acc = .lc then d.set pg (f.fld off) (bitsOf v f.lsb f.wid) else d

/-- An open, unarmed engine takes every shadow field of the register. -/
theorem Dev.lcWrite_taken (d : Dev) (n off v : Nat) (hst : d.leState n = 0) (harm : d.on (pLE n) LTH.STAT_CLOSEARM = false)
    (hsp : d.stepSp n = true → off ≠ 0x04C ∧ (off < 0x050 ∨ 0x060 ≤ off))
    (hlc : ((pageFields (pLE n) off).any fun f => f.acc == .lc) = true) :
    d.lcWrite n off v = (pageFields (pLE n) off).foldl (Dev.lcSet (pLE n) off v) d := by
  have hsp' : (d.stepSp n && (off == 0x04C || (decide (0x050 ≤ off) && decide (off < 0x060)))) = false := by
    cases h : d.stepSp n with
    | false => rfl
    | true =>
      obtain ⟨h1, h2⟩ := hsp h
      simp only [Bool.true_and, Bool.or_eq_false_iff, beq_eq_false_iff_ne, Bool.and_eq_false_iff, decide_eq_false_iff_not]
      omega
  simp only [Dev.lcWrite, hlc, hst, harm, hsp', bne_self_eq_false, Bool.or_self, Bool.not_true, Bool.false_eq_true, if_false]
  rfl

/-- Shadow fields at other bits leave a field alone. -/
theorem Dev.foldl_lcSet_get_other (pg off v : Nat) (fs : List RegFld) (d : Dev) (f : RegFld) (ho : off < 4096) (hf : f.lsb < 32)
    (hfs : ∀ g ∈ fs, g.lsb < 32 ∧ f.lsb ≠ g.lsb) : (fs.foldl (Dev.lcSet pg off v) d).get pg (f.fld off) = d.get pg (f.fld off) := by
  induction fs generalizing d with
  | nil => rfl
  | cons g fs ih =>
    obtain ⟨⟨hg, hne⟩, hrest⟩ := List.forall_mem_cons.1 hfs
    rw [List.foldl_cons, ih _ hrest, Dev.lcSet]
    split
    · exact d.get_set_ne _ (key_ne ⟨ho, hf⟩ ⟨ho, hg⟩ (.inr (.inr hne)))
    · rfl

/-- Every shadow field of a register whose fields start at different bits reads as its part of the written word. -/
theorem Dev.foldl_lcSet_get (pg off v : Nat) (fs : List RegFld) (d : Dev) (ho : off < 4096) (hlsb : ∀ g ∈ fs, g.lsb < 32)
    (hnd : (fs.map RegFld.lsb).Nodup) : ∀ f ∈ fs, f.acc = .lc →
      (fs.foldl (Dev.lcSet pg off v) d).get pg (f.fld off) = bitsOf v f.lsb f.wid := by
  induction fs generalizing d with
  | nil => simp
  | cons g fs ih =>
    obtain ⟨hg, hrest⟩ := List.forall_mem_cons.1 hlsb
    rw [List.map_cons, List.nodup_cons] at hnd
    intro f hf hacc
    rw [List.foldl_cons]
    rcases List.mem_cons.1 hf with rfl | hmem
    · rw [Dev.foldl_lcSet_get_other pg off v fs _ f ho hg fun x hx =>
        ⟨hrest x hx, fun e => hnd.1 (e ▸ List.mem_map_of_mem hx)⟩]
      rw [Dev.lcSet, if_pos hacc, Dev.get_set_same]
      exact Nat.mod_mod _ _
    · exact ih _ hrest hnd.2 f hmem hacc

/-- The fields of an engine's registers lie in their words, at different bits. -/
theorem latheFields_ok {n off : Nat} (hn : n < 8) (ho : off ≠ 0x018) :
    (∀ f ∈ pageFields (pLE n) off, f.lsb < 32) ∧ ((pageFields (pLE n) off).map RegFld.lsb).Nodup := by
  have htable : ∀ r ∈ LTH.table, (∀ f ∈ r.flds, f.lsb < 32) ∧ (r.flds.map RegFld.lsb).Nodup := by decide
  simp only [pageFields, ho, if_false, pageKind_pLE hn, Kind.fieldsAt, Kind.table]
  split
  next r hr => exact htable r (List.mem_of_find?_eq_some hr)
  next => simp

/-- A write to a shadow register of an open, unarmed engine stores every shadow field (R4). -/
theorem Dev.lcWrite_get (d : Dev) {n : Nat} (off v : Nat) (hn : n < 8) (ho : off < 4096) (h18 : off ≠ 0x018)
    (hst : d.leState n = 0) (harm : d.on (pLE n) LTH.STAT_CLOSEARM = false)
    (hsp : d.stepSp n = true → off ≠ 0x04C ∧ (off < 0x050 ∨ 0x060 ≤ off)) :
    ∀ f ∈ pageFields (pLE n) off, f.acc = .lc → (d.lcWrite n off v).get (pLE n) (f.fld off) = bitsOf v f.lsb f.wid := by
  intro f hf hacc
  have hlc : ((pageFields (pLE n) off).any fun f => f.acc == .lc) = true := List.any_eq_true.2 ⟨f, hf, by simp [hacc]⟩
  obtain ⟨hlsb, hnd⟩ := latheFields_ok hn h18
  rw [d.lcWrite_taken n off v hst harm hsp hlc]
  exact Dev.foldl_lcSet_get (pLE n) off v _ d ho hlsb hnd f hf hacc

/-! ### FEATACC (R115, R116) -/

theorem Dev.withBus_adcOf (d : Dev) (r : Option (Option Nat)) (u : List Nat) (c : Nat) :
    (d.withBus r u).adcOf c = d.adcOf c := rfl
theorem Dev.withBus_jobLast (d : Dev) (r : Option (Option Nat)) (u : List Nat) (c : Nat) (j : AdcJob) :
    (d.withBus r u).jobLast c j = d.jobLast c j := rfl
theorem Dev.withBus_modAdc (d : Dev) (r : Option (Option Nat)) (u : List Nat) (c : Nat) (f : Adc → Adc) :
    (d.withBus r u).modAdc c f = (d.modAdc c f).withBus r u := rfl

/-- What follows a job in a converter does not depend on the bus. -/
theorem Dev.withBus_adcNext (d : Dev) (r : Option (Option Nat)) (u : List Nat) (c : Nat) (j : AdcJob) :
    (d.withBus r u).adcNext c j = (d.adcNext c j).withBus r u := by
  unfold Dev.adcNext
  extract_lets last d1 a start ends anew nxt blank last' d1' a' start' ends'
  have hd : d1 = d1'.withBus r u := rfl
  have ha : a = a' := rfl
  have hs : start = start' := rfl
  have he : ends = ends' := rfl
  have hlast : last = last' := rfl
  rw [hd, ha, hs, he, hlast]
  clear_value d1' a' start' ends'
  split
  · rfl
  · split
    · split <;> rfl
    · rfl

theorem Dev.withBus_adcCatch (d : Dev) (r : Option (Option Nat)) (u : List Nat) (c h n : Nat) :
    (d.withBus r u).adcCatch c h n = (d.adcCatch c h n).withBus r u := by
  induction n generalizing d with
  | zero => rfl
  | succ n ih =>
    simp only [Dev.adcCatch]
    rw [Dev.withBus_adcOf]
    split
    · rfl
    · rw [Dev.withBus_jobLast]
      split
      · rfl
      · rw [Dev.withBus_modAdc, Dev.withBus_adcNext, ih]
        rfl

/-- Whether a page is quiescent does not depend on the bus. -/
theorem Dev.withBus_quiescent (d : Dev) (r : Option (Option Nat)) (u : List Nat) (pg : Nat) (mgmt : Bool) :
    (d.withBus r u).quiescent pg mgmt = d.quiescent pg mgmt := by
  unfold Dev.quiescent
  split
  case h_4 c _ =>
    have hnow : (d.withBus r u).now16 = d.now16 := rfl
    rw [Dev.adcSync, hnow, Dev.withBus_adcCatch]
    rfl
  all_goals rfl

/-- A page whose acceptance is done refuses another one. -/
theorem Dev.featWrite_done (d : Dev) (pg v : Nat) (mgmt : Bool) (hl : d.locked pg = false)
    (hdone : d.on pg HDR.FEATACC_DONE = true) :
    d.featWrite pg v mgmt = (d.withBus d.reply (d.unlock.filter (· != pg))).err pg HDR.E_FEAT_ERR := by
  simp only [Dev.featWrite, d.dropKey_unlocked hl, Dev.withBus_locked, Dev.withBus_on, hl, hdone, Bool.false_eq_true, if_false,
    if_true, ite_self]

/-- The accepted features, and DONE where the write sets it. -/
def Dev.featTake (d : Dev) (pg v : Nat) : Dev :=
  let acc := v % 2 ^ 31 &&& featOffer pg
  let d := (d.errIf (acc != v % 2 ^ 31) pg HDR.E_FEAT_ERR).set pg HDR.FEATACC_ACC acc
  if bitAt v 31 then (d.set pg HDR.FEATACC_DONE 1).featApply pg acc else d

/-- An unlocked, quiescent page takes the features. -/
theorem Dev.featWrite_taken (d : Dev) (pg v : Nat) (hl : d.locked pg = false)
    (hstrand : ¬ (d.isCell = true ∧ (pg = pLINK 0 ∨ pg = pLINK 1))) (hdone : d.on pg HDR.FEATACC_DONE = false)
    (hq : bitAt v 31 = true → d.quiescent pg false = true) :
    d.featWrite pg v false = (d.withBus d.reply (d.unlock.filter (· != pg))).featTake pg v := by
  have hs : (d.isCell && (pg == pLINK 0 || pg == pLINK 1)) = false := by simpa using hstrand
  have hq' : (bitAt v 31 && !d.quiescent pg false) = false := by
    cases h : bitAt v 31 with
    | false => rfl
    | true => simp [hq h]
  simp only [Dev.featWrite, d.dropKey_unlocked hl, Dev.withBus_locked, Dev.withBus_on, Dev.withBus_isCell, hs, hl, hdone,
    Dev.withBus_quiescent, hq', Bool.false_and, Bool.false_eq_true, if_false]
  rfl

/-- Features that take effect leave FEATACC as it is. -/
theorem Dev.featApply_get (d : Dev) (pg acc : Nat) {F : Fld} (hF : F.ok) (ho : F.off = 0x00C) :
    (d.featApply pg acc).get pg F = d.get pg F := by
  unfold Dev.featApply
  split
  · split
    · rfl
    · refine (Dev.get_set_ne _ acc (key_ne hF (by decide) (.inr (.inl ?_)))).trans rfl
      rw [ho]
      decide
  · rfl

theorem Dev.err_inBlk (d : Dev) (pg b : Nat) : (d.err pg b).inBlk = d.inBlk := by
  obtain ⟨-, r, rp, tl, ne, h⟩ := Dev.PageOnly.err d pg b
  rw [h]

theorem Dev.err_unlock (d : Dev) (pg b : Nat) : (d.err pg b).unlock = d.unlock := by
  obtain ⟨-, r, rp, tl, ne, h⟩ := Dev.PageOnly.err d pg b
  rw [h]

theorem Dev.errIf_get (d : Dev) (c : Bool) (pg b p : Nat) {F : Fld} (hF : F.ok) (h : p ≠ pg ∨ (F.off ≠ 0x020 ∧ F.off ≠ 0x028)) :
    (d.errIf c pg b).get p F = d.get p F := by
  cases c
  · rfl
  · exact d.err_get pg b p hF h

theorem Dev.featTake_get (d : Dev) (pg v : Nat) (hv : v < 2 ^ 32) (hdone : d.on pg HDR.FEATACC_DONE = false) :
    (d.featTake pg v).get pg HDR.FEATACC_ACC = (v % 2 ^ 31 &&& featOffer pg) ∧
      (d.featTake pg v).get pg HDR.FEATACC_DONE = v / 2 ^ 31 := by
  have hA : HDR.FEATACC_ACC.ok := by decide
  have hD : HDR.FEATACC_DONE.ok := by decide
  have hAD : ∀ p, HDR.FEATACC_ACC.key p ≠ HDR.FEATACC_DONE.key p := fun p => key_ne hA hD (.inr (.inr (by decide)))
  have hacc : (v % 2 ^ 31 &&& featOffer pg) % 2 ^ HDR.FEATACC_ACC.wid = (v % 2 ^ 31 &&& featOffer pg) :=
    Nat.mod_eq_of_lt (Nat.lt_of_le_of_lt Nat.and_le_left (Nat.mod_lt _ (by decide)))
  have hbit : bitAt v 31 = decide (v / 2 ^ 31 = 1) := by
    rw [bitAt, Nat.shiftRight_eq_div_pow]
    rw [Nat.mod_eq_of_lt (by omega)]
    exact Bool.beq_eq_decide_eq _ _
  have hold : d.get pg HDR.FEATACC_DONE = 0 := by simpa [Dev.on] using hdone
  simp only [Dev.featTake, hbit]
  by_cases h1 : v / 2 ^ 31 = 1
  · simp only [h1, decide_true, if_true]
    rw [Dev.featApply_get _ _ _ hA rfl, Dev.featApply_get _ _ _ hD rfl, Dev.get_set_ne _ _ (hAD pg), Dev.get_set_same,
      Dev.get_set_same]
    exact ⟨hacc, rfl⟩
  · have h0 : v / 2 ^ 31 = 0 := by omega
    simp only [h0, Nat.zero_ne_one, decide_false, Bool.false_eq_true, if_false]
    rw [Dev.get_set_same, Dev.get_set_ne _ _ (Ne.symm (hAD pg)), Dev.errIf_get _ _ _ _ _ hD (.inr (by decide))]
    exact ⟨hacc, hold⟩

/-! ### LOCK (R107) -/

/-- The page's rule for a key, where no first key waits. -/
theorem Dev.lockKey_idle (d : Dev) (pg key : Nat) (hw : d.unlock.contains pg = false) : d.lockKey pg key =
    if key = 0x5A5A then d.set pg HDR.LOCK_LOCKED 1
    else if key = 0xC0DE then (d.set pg HDR.LOCK_LOCKED 1).set pg HDR.LOCK_STICKY 1
    else if key = 0xA5C3 ∧ !d.on pg HDR.LOCK_STICKY then d.withBus d.reply (pg :: d.unlock)
    else d.err pg HDR.E_LOCK_ERR := by
  simp only [Dev.lockKey, hw, filter_ne_of_not_contains hw, Bool.false_eq_true, and_false, if_false, Bool.false_and, Dev.errIf]
  rfl

theorem Dev.lockKey_second (d : Dev) (pg : Nat) (hw : d.unlock.contains pg = true) :
    d.lockKey pg 0x3C5A = (d.withBus d.reply (d.unlock.filter (· != pg))).set pg HDR.LOCK_LOCKED 0 := by
  simp only [Dev.lockKey, hw, and_self, if_true]
  rfl

/-! ### ERRINJ (R106, R108) -/

theorem Dev.inject_inBlk (d : Dev) (pg b : Nat) : (d.inject pg b).inBlk = d.inBlk := by
  unfold Dev.inject
  split
  · rfl
  · obtain ⟨-, r, rp, tl, ne, h⟩ := Dev.PageOnly.errSet d pg b
    simp only [h, Dev.occurrence]

theorem Dev.SameConfig.inject (d : Dev) (pg b : Nat) : d.SameConfig (d.inject pg b) := by
  unfold Dev.inject
  split
  · exact .refl d
  · obtain ⟨-, r, rp, tl, ne, h⟩ := Dev.PageOnly.errSet d pg b
    refine ⟨by simp only [h, Dev.occurrence], fun p F hF ho => d.errSet_get pg b p hF (.inr ?_)⟩
    omega

/-- An injected error of a live page sets its bit and reports it with the tag. -/
theorem Dev.inject_sets (d : Dev) {pg b : Nat} (hb : b < 32) (ha : d.absent pg = false) (hi : d.inBlk.contains pg = false)
    (hdef : b ∈ definedErrs pg) (hc : 0 < d.errClass pg b) :
    (d.inject pg b).bit pg HDR.ERRSTAT b = true ∧ ∃ r ∈ (d.inject pg b).reports,
      r.src = (pageSource pg).1 ∧ r.inst = (pageSource pg).2 ∧ r.bit = b ∧ r.inj = true := by
  have hno : (d.inBlk.contains pg || d.absent pg || d.errClass pg b == 0 || !(definedErrs pg).contains b) = false := by
    simpa [ha, hdef, Nat.pos_iff_ne_zero.1 hc] using hi
  unfold Dev.inject
  rw [hno]
  simp only [Bool.false_eq_true, if_false]
  exact ⟨d.errSet_bit pg hb, _, List.mem_append_right _ (List.mem_singleton.2 rfl), rfl, rfl, rfl, rfl⟩

/-- Injecting the errors of a mask, one after the other. -/
def Dev.injectAll (pg v : Nat) (l : List Nat) (d : Dev) : Dev := l.foldl (fun d b => if bitAt v b then d.inject pg b else d) d

/-- Each of the errors keeps what the others have set. -/
theorem Dev.injectAll_sets (pg v : Nat) {b : Nat} (l : List Nat) (d : Dev) (hb : b < 32) (ha : d.absent pg = false)
    (hi : d.inBlk.contains pg = false) (hdef : b ∈ definedErrs pg) (hc : 0 < d.errClass pg b) (hv : bitAt v b = true)
    (hmem : b ∈ l) :
    (Dev.injectAll pg v l d).bit pg HDR.ERRSTAT b = true ∧ ∃ r ∈ (Dev.injectAll pg v l d).reports,
      r.src = (pageSource pg).1 ∧ r.inst = (pageSource pg).2 ∧ r.bit = b ∧ r.inj = true := by
  induction l generalizing d with
  | nil => simp at hmem
  | cons x l ih =>
    by_cases hx : b = x
    · subst hx
      obtain ⟨hbit, r, hr, hrest⟩ := d.inject_sets hb ha hi hdef hc
      have hgrow : Dev.HeadersGrow (d.inject pg b) (Dev.injectAll pg v (b :: l) d) := by
        simp only [Dev.injectAll, List.foldl_cons, hv, if_true]
        refine .foldl _ (fun d a => ?_) _ _
        split
        · exact .inject ..
        · exact .refl _
      exact ⟨hgrow.errBit pg b hb hbit, r, hgrow.reported r hr, hrest⟩
    · have hl : b ∈ l := (List.mem_cons.1 hmem).resolve_left hx
      simp only [Dev.injectAll, List.foldl_cons]
      split
      · have hs := Dev.SameConfig.inject d pg x
        exact ih _ (hs.absent pg ▸ ha) (by rw [Dev.inject_inBlk]; exact hi) (by rw [hs.errClass]; exact hc) hl
      · exact ih d ha hi hc hl

theorem definedErrs_lt {pg b : Nat} (h : b ∈ definedErrs pg) : b < 32 := by
  have htable : ∀ k : Kind, ∀ b ∈ k.errTable.map Prod.fst ++ [29, 30, 31], b < 32 := by
    intro k
    cases k <;> decide
  unfold definedErrs at h
  split at h
  next k _ _ => exact htable k b h
  next => simp at h

/-- On an unlocked page every error of the mask is injected. -/
theorem Dev.injWrite_unlocked (d : Dev) (pg v : Nat) (hl : d.locked pg = false) (ht : pg ≠ pTSTK) :
    d.injWrite pg v = Dev.injectAll pg v (definedErrs pg) (d.withBus d.reply (d.unlock.filter (· != pg))) := by
  simp only [Dev.injWrite, d.dropKey_unlocked hl, Dev.withBus_locked, hl, ht, Bool.false_eq_true, if_false]
  rfl

/-- What a dropped key leaves: the lock, the role and the block resets. -/
theorem Dev.dropKey_keeps (d : Dev) (pg : Nat) :
    (d.dropKey pg).get pg HDR.LOCK_LOCKED = d.get pg HDR.LOCK_LOCKED ∧ (d.dropKey pg).absent pg = d.absent pg ∧
      (d.dropKey pg).inBlk = d.inBlk ∧ (d.dropKey pg).unlock = d.unlock.filter (· != pg) := by
  rw [d.dropKey_eq]
  generalize (d.unlock.contains pg && d.locked pg) = c
  cases c with
  | false => exact ⟨rfl, rfl, rfl, rfl⟩
  | true =>
    have hs := Dev.SameConfig.err (d.withBus d.reply (d.unlock.filter (· != pg))) pg HDR.E_LOCK_ERR
    exact ⟨Dev.err_get _ pg _ pg (by decide) (.inr (by decide)), hs.absent pg, Dev.err_inBlk .., Dev.err_unlock ..⟩

/-- On a locked page a 1 of a defined bit is refused with LOCK_ERR. -/
theorem Dev.injWrite_locked_bit (d : Dev) (pg v : Nat) (hl : d.locked pg = true) (ha : d.absent pg = false)
    (hi : d.inBlk.contains pg = false) (hv : (definedErrs pg).any (bitAt v) = true) :
    (d.injWrite pg v).bit pg HDR.ERRSTAT HDR.E_LOCK_ERR = true := by
  obtain ⟨hlock, habs, hblk, -⟩ := d.dropKey_keeps pg
  have hl' : (d.dropKey pg).locked pg = true := by
    rw [Dev.locked, Dev.on, hlock]
    exact hl
  simp only [Dev.injWrite, hl', hv, Dev.errIf, if_true]
  exact Dev.err_bit _ pg (by decide) (habs.trans ha) (hblk ▸ hi)

end Sys2Proof.Machine
end

section
/-! PROOFS. The commands that write registers of every page (O31): each reaches its page's rule, and what the rule leaves is what
the command answers. -/

namespace Sys2Proof.Machine

/-! ### What the commands are made of -/

theorem exec_lcWrite (n : Fin 8) (off : BitVec 12) (v : Word) (s : State) :
    exec (.lcWrite n off v) s = s.doesM fun _ d => d.regWrite (pLE n) off.toNat v.toNat := rfl

theorem exec_feataccWrite (who : Who) (page : BitVec 15) (v : Word) (s : State) :
    exec (.feataccWrite who page v) s = s.doesM fun m d => Dev.access m d who (pageAddr page 0x00C) .word (some v) := rfl

theorem exec_lockKeyWrite (who : Who) (page : BitVec 15) (key : BitVec 16) (s : State) :
    exec (.lockKeyWrite who page key) s =
      s.doesM fun m d => Dev.access m d who (pageAddr page 0x02C) .word (some (key.setWidth 32)) := rfl

theorem exec_unlockKeyTimeout (page : BitVec 15) (s : State) :
    exec (.unlockKeyTimeout page) s = s.doesM fun _ d => d.keyTimeout page.toNat := rfl

theorem exec_errinjWrite (who : Who) (page : BitVec 15) (v : Word) (s : State) :
    exec (.errinjWrite who page v) s = s.doesM fun m d => Dev.access m d who (pageAddr page 0x024) .word (some v) := rfl

theorem exec_registerWrite (who : Who) (addr : BitVec 32) (size : Size) (v : Word) (s : State) :
    exec (.registerWrite who addr size v) s = s.doesM fun m d => Dev.access m d who addr size (some v) := rfl

/-! ### How a command ends -/

/-- The state at the end of a command whose effect left `e`. -/
def State.ending (s : State) (e : Dev) : State := State.flush { s with toDev := e }

@[simp] theorem State.ending_get (s : State) (e : Dev) (pg : Nat) (F : Fld) : (s.ending e).get pg F = e.get pg F := rfl

theorem State.ending_keepsBut {s : State} {e : Dev} {l : List (Nat × Nat × Nat)} (h : s.KeepsBut e l) :
    s.KeepsBut (s.ending e).toDev l := fun pg F hF hm => h pg F hF hm

/-- Where nothing is stored or wiped, no byte of memory changes. -/
theorem State.ending_keepsMem {s : State} {e : Dev} (hs : e.stores = []) (hw : e.soc.wipe = none) : s.KeepsMem (s.ending e) := by
  intro id a
  rw [State.ending, State.flush_mems _ hs hw]

/-- A command that refuses a write with an error, on a device where MOTR is settled: the bit is set, and only ERRSTAT and FIRST
have changed. -/
theorem State.doesM_err (s : State) (f : Mems → Dev → Dev) {pg b : Nat} {r : Option (Option Nat)} {u : List Nat}
    {g : Meets → Meets} (h : s.Ready) (hd : s.deaf pg = false) (hb : b < 32)
    (he : f s.mems s.toDev = ((s.toDev.withBus r u).err pg b).meet g) :
    ∃ t, s.doesM f = .next t ∧
      (t.bit pg HDR.ERRSTAT b = true ∧ s.KeepsBut t.toDev [(pg, 0x020, 0), (pg, 0x028, 8)]) := by
  obtain ⟨ha, hi⟩ := Dev.live_of_deaf hd
  have hcfg : s.toDev.SameConfig (((s.toDev.withBus r u).err pg b).meet g) :=
    (Dev.SameConfig.withBus s.toDev r u).trans (Dev.SameConfig.err _ pg b)
  refine ⟨s.ending _, s.doesM_settled f h he hcfg, ?_, State.ending_keepsBut ?_⟩
  · exact (s.toDev.withBus r u).err_bit pg hb ha hi
  · exact (Dev.KeepsBut.withBus s.toDev r u _).trans (Dev.KeepsBut.err _ pg b)

/-! ### LC_WRITE (R4, R362, R366) -/

theorem lcWrite_refused_answers {s : State} {n : Fin 8} {off : BitVec 12} (v : Word) (hr : s.Ready) (hstop : s.soc.stop = false)
    (hd : s.deaf (pLE n) = false) (hl : s.locked (pLE n) = false) (h1 : 0x040 ≤ off.toNat) (h2 : off.toNat < 0x400)
    (hlc : ((pageFields (pLE n) off.toNat).any fun f => f.acc == .lc) = true)
    (hst : s.leState n ≠ 0 ∨ s.on (pLE n) LTH.STAT_CLOSEARM = true) :
    ∃ t, exec (.lcWrite n off v) s = .next t ∧
      (t.bit (pLE n) HDR.ERRSTAT HDR.E_ACC_REJ = true ∧ s.KeepsBut t.toDev [(pLE n, 0x020, 0), (pLE n, 0x028, 8)]) := by
  obtain ⟨u, g, he⟩ := s.toDev.regWrite_lc n off.toNat v.toNat hstop hd hl h1 h2
  rw [Dev.lcWrite_refused (s.toDev.withBus none u) n off.toNat v.toNat hlc hst] at he
  rw [exec_lcWrite]
  exact s.doesM_err _ hr hd (by decide) he

theorem lcWrite_taken_answers {s : State} {n : Fin 8} {off : BitVec 12} (v : Word) (hw : s.Writable (pLE n))
    (hst : s.leState n = 0) (harm : s.on (pLE n) LTH.STAT_CLOSEARM = false)
    (hsp : s.stepSp n = true → off ≠ 0x04C ∧ (off.toNat < 0x050 ∨ 0x060 ≤ off.toNat))
    (h1 : 0x040 ≤ off.toNat) (h2 : off.toNat < 0x400) :
    ∃ t, exec (.lcWrite n off v) s = .next t ∧ (∀ f ∈ pageFields (pLE n) off.toNat, f.acc = .lc →
      t.get (pLE n) (f.fld off.toNat) = bitsOf v.toNat f.lsb f.wid) := by
  obtain ⟨⟨hrun, hstop⟩, hd, hl⟩ := hw
  obtain ⟨u, g, he⟩ := s.toDev.regWrite_lc n off.toNat v.toNat hstop hd hl h1 h2
  obtain ⟨t, ht, hget, -⟩ := s.does_get (fun d => d.regWrite (pLE n) off.toNat v.toNat) hrun
  refine ⟨t, ht, fun f hf hacc => ?_⟩
  have hsp' : s.stepSp n = true → off.toNat ≠ 0x04C ∧ (off.toNat < 0x050 ∨ 0x060 ≤ off.toNat) :=
    fun h => ⟨fun e => (hsp h).1 (BitVec.eq_of_toNat_eq e), (hsp h).2⟩
  have hfld : (f.fld off.toNat).ok := ⟨by simp only [RegFld.fld]; omega, (latheFields_ok n.isLt (by omega)).1 f hf⟩
  have hpg : pLE n ≠ pMOTR := by
    simp only [pLE, pMOTR]
    omega
  rw [hget _ _ hfld hpg, he]
  exact Dev.lcWrite_get (s.toDev.withBus none u) off.toNat v.toNat n.isLt (by omega) (by omega) hst harm hsp' f hf hacc

theorem lcWrite_ramp_answers {s : State} {n : Fin 8} {off : BitVec 12} (v : Word) (hr : s.Ready) (hw : s.Writable (pLE n))
    (hst : s.leState n = 0) (harm : s.on (pLE n) LTH.STAT_CLOSEARM = false) (hsp : s.stepSp n = true)
    (ho : off = 0x04C ∨ 0x050 ≤ off.toNat ∧ off.toNat < 0x060) :
    ∃ t, exec (.lcWrite n off v) s = .next t ∧ (s.KeepsBut t.toDev [] ∧ s.KeepsMem t) := by
  obtain ⟨⟨-, hstop⟩, hd, hl⟩ := hw
  have ho' : off.toNat = 0x04C ∨ 0x050 ≤ off.toNat ∧ off.toNat < 0x060 := ho.imp_left fun h => by rw [h]; rfl
  obtain ⟨u, g, he⟩ := s.toDev.regWrite_lc n off.toNat v.toNat hstop hd hl (by omega) (by omega)
  rw [Dev.lcWrite_ramp (s.toDev.withBus none u) n off.toNat v.toNat hst harm hsp ho'] at he
  rw [exec_lcWrite]
  obtain ⟨-, -, hstores, hwipe⟩ := id hr
  exact ⟨s.ending _, s.doesM_settled _ hr he (Dev.SameConfig.withBus s.toDev none u),
    State.ending_keepsBut (Dev.KeepsBut.withBus s.toDev none u []), State.ending_keepsMem hstores hwipe⟩

/-! ### FEATACC_WRITE (R115, R116) -/

theorem feataccWrite_taken_answers {s : State} {who : Who} {page : BitVec 15} (v : Word) (hrun : s.phase = .running)
    (hbus : s.onBus who = true) (hwho : ∀ p : Fin 2, who ≠ .mgmt p) (hk : (pageKind page.toNat).isSome = true)
    (hd : s.deaf page.toNat = false) (hl : s.locked page.toNat = false)
    (hstrand : ¬ (s.isCell = true ∧ (page.toNat = pLINK 0 ∨ page.toNat = pLINK 1)))
    (hdone : s.on page.toNat HDR.FEATACC_DONE = false)
    (hq : bitAt v.toNat 31 = true → s.quiescent page.toNat false = true) :
    ∃ t, exec (.feataccWrite who page v) s = .next t ∧
      (t.get page.toNat HDR.FEATACC_ACC = (v.toNat % 2 ^ 31 &&& featOffer page.toNat) ∧
        t.get page.toNat HDR.FEATACC_DONE = v.toNat / 2 ^ 31) := by
  have hmg : mgmtPort who = none := by
    cases who with
    | mgmt p => exact absurd rfl (hwho p)
    | _ => rfl
  obtain ⟨u, hu⟩ := s.toDev.pageWrite_featacc none page.toNat v.toNat hd
  have he := s.toDev.access_pageAddr s.mems who page v hbus (off := 0x00C) (by decide) (by decide) hk
  rw [hmg, hu, Option.isSome_none, Dev.featWrite_taken (s.toDev.withBus none u) page.toNat v.toNat hl hstrand hdone
    fun h => by rw [Dev.withBus_quiescent]; exact hq h] at he
  obtain ⟨hacc, hdn⟩ := Dev.featTake_get (s.toDev.withBus none (u.filter (· != page.toNat))) page.toNat v.toNat v.isLt hdone
  rw [exec_feataccWrite]
  obtain ⟨t, ht, hgrow, -⟩ :=
    s.doesM_grows (fun m d => Dev.access m d who (pageAddr page 0x00C) .word (some v)) hrun he
  exact ⟨t, ht, (hgrow.kept _ _ (by decide) (by decide)).trans hacc, (hgrow.kept _ _ (by decide) (by decide)).trans hdn⟩

theorem feataccWrite_done_answers {s : State} {who : Who} {page : BitVec 15} (v : Word) (hr : s.Ready)
    (hbus : s.onBus who = true) (hk : (pageKind page.toNat).isSome = true) (hd : s.deaf page.toNat = false)
    (hl : s.locked page.toNat = false) (hdone : s.on page.toNat HDR.FEATACC_DONE = true) :
    ∃ t, exec (.feataccWrite who page v) s = .next t ∧ (t.bit page.toNat HDR.ERRSTAT HDR.E_FEAT_ERR = true ∧
      s.KeepsBut t.toDev [(page.toNat, 0x020, 0), (page.toNat, 0x028, 8)]) := by
  obtain ⟨u, hu⟩ := s.toDev.pageWrite_featacc (mgmtPort who) page.toNat v.toNat hd
  have he := s.toDev.access_pageAddr s.mems who page v hbus (off := 0x00C) (by decide) (by decide) hk
  rw [hu, Dev.featWrite_done (s.toDev.withBus none u) page.toNat v.toNat _ hl hdone] at he
  rw [exec_feataccWrite]
  exact s.doesM_err (g := id) _ hr hd (by decide) he

/-! ### LOCK_KEY_WRITE and UNLOCK_KEY_TIMEOUT (R107) -/

/-- A key reaches its page's rule. -/
theorem Dev.access_lockKey (m : Mems) {d : Dev} {who : Who} {page : BitVec 15} (key : BitVec 16) (hbus : d.onBus who = true)
    (hk : (pageKind page.toNat).isSome = true) (ht : page.toNat ≠ pTSTK) (hd : d.deaf page.toNat = false) :
    Dev.access m d who (pageAddr page 0x02C) .word (some (key.setWidth 32)) =
      (d.withBus none d.unlock).lockKey page.toNat key.toNat := by
  have hkey : (key.setWidth 32).toNat % 65536 = key.toNat := by
    rw [BitVec.toNat_setWidth]
    omega
  rw [d.access_pageAddr m who page _ hbus (by decide) (by decide) hk, Dev.pageWrite_lock _ _ _ _ hd ht, hkey]

theorem HDR.LOCK_LOCKED_ok : HDR.LOCK_LOCKED.ok := by decide
theorem HDR.LOCK_STICKY_ok : HDR.LOCK_STICKY.ok := by decide

/-- The lock is no part of the configuration. -/
theorem Dev.SameConfig.setLock (d : Dev) (pg : Nat) {F : Fld} (hF : F.ok) (v : Nat) (ho : F.off = 0x02C) :
    d.SameConfig (d.set pg F v) :=
  (Dev.KeepsBut.set d hF v (List.mem_singleton.2 rfl)).sameConfig rfl (by simp [ho])

/-- A key where none waits leaves the configuration and MOTR alone. -/
theorem Dev.SameConfig.lockKey_idle (d : Dev) (pg key : Nat) (hw : d.unlock.contains pg = false) :
    d.SameConfig (d.lockKey pg key) := by
  rw [d.lockKey_idle pg key hw]
  split
  · exact .setLock d pg HDR.LOCK_LOCKED_ok 1 rfl
  · split
    · exact (Dev.SameConfig.setLock d pg HDR.LOCK_LOCKED_ok 1 rfl).trans (.setLock _ pg HDR.LOCK_STICKY_ok 1 rfl)
    · split
      · exact .withBus ..
      · exact .err ..

/-- The state after a key has reached its page. -/
def State.afterKey (s : State) (pg key : Nat) : State := s.ending ((s.toDev.withBus none s.unlock).lockKey pg key)

/-- The page's rule seen from the state before the access. -/
theorem State.afterKey_idle (s : State) {pg : Nat} (key : Nat) (hw : s.unlock.contains pg = false) : s.afterKey pg key =
    s.ending (if key = 0x5A5A then (s.toDev.withBus none s.unlock).set pg HDR.LOCK_LOCKED 1
      else if key = 0xC0DE then
        ((s.toDev.withBus none s.unlock).set pg HDR.LOCK_LOCKED 1).set pg HDR.LOCK_STICKY 1
      else if key = 0xA5C3 ∧ !s.on pg HDR.LOCK_STICKY then s.toDev.withBus none (pg :: s.unlock)
      else (s.toDev.withBus none s.unlock).err pg HDR.E_LOCK_ERR) :=
  congrArg s.ending (Dev.lockKey_idle (s.toDev.withBus none s.unlock) pg key hw)

/-- 0x5A5A locks. -/
theorem State.afterKey_lock (s : State) {pg : Nat} (hw : s.unlock.contains pg = false) :
    (s.afterKey pg 0x5A5A).get pg HDR.LOCK_LOCKED = 1 ∧ s.KeepsBut (s.afterKey pg 0x5A5A).toDev [(pg, 0x02C, 31)] := by
  rw [s.afterKey_idle _ hw, if_pos rfl]
  exact ⟨Dev.get_set_same .., State.ending_keepsBut ((Dev.KeepsBut.withBus s.toDev none s.unlock _).trans
    (.set _ HDR.LOCK_LOCKED_ok 1 (by simp [HDR.LOCK_LOCKED])))⟩

/-- 0xC0DE locks for good. -/
theorem State.afterKey_sticky (s : State) {pg : Nat} (hw : s.unlock.contains pg = false) :
    (s.afterKey pg 0xC0DE).get pg HDR.LOCK_LOCKED = 1 ∧ (s.afterKey pg 0xC0DE).get pg HDR.LOCK_STICKY = 1 ∧
      s.KeepsBut (s.afterKey pg 0xC0DE).toDev [(pg, 0x02C, 31), (pg, 0x02C, 30)] := by
  have hne : HDR.LOCK_LOCKED.key pg ≠ HDR.LOCK_STICKY.key pg :=
    key_ne HDR.LOCK_LOCKED_ok HDR.LOCK_STICKY_ok (.inr (.inr (by decide)))
  rw [s.afterKey_idle _ hw, if_neg (by decide), if_pos rfl]
  refine ⟨?_, Dev.get_set_same .., State.ending_keepsBut (((Dev.KeepsBut.withBus s.toDev none s.unlock _).trans
    (.set _ HDR.LOCK_LOCKED_ok 1 (by simp [HDR.LOCK_LOCKED]))).trans
    (.set _ HDR.LOCK_STICKY_ok 1 (by simp [HDR.LOCK_STICKY])))⟩
  rw [State.ending_get, Dev.get_set_ne _ _ hne, Dev.get_set_same]
  rfl

/-- 0xA5C3 begins an unlock of a page that is not sticky-locked. -/
theorem State.afterKey_first (s : State) {pg : Nat} (hw : s.unlock.contains pg = false)
    (hsticky : s.on pg HDR.LOCK_STICKY = false) :
    (s.afterKey pg 0xA5C3).unlock.contains pg = true ∧ s.KeepsBut (s.afterKey pg 0xA5C3).toDev [] := by
  rw [s.afterKey_idle _ hw, if_neg (by decide), if_neg (by decide), if_pos ⟨rfl, by rw [hsticky]; rfl⟩]
  exact ⟨List.contains_iff_mem.2 List.mem_cons_self,
    State.ending_keepsBut (Dev.KeepsBut.withBus s.toDev none (pg :: s.unlock) [])⟩

/-- Any other key, and 0xA5C3 on a sticky-locked page, raises LOCK_ERR and keeps the lock. -/
theorem State.afterKey_wrong (s : State) {pg key : Nat} (hw : s.unlock.contains pg = false) (hd : s.deaf pg = false)
    (h1 : key ≠ 0x5A5A) (h2 : key ≠ 0xC0DE) (h3 : key = 0xA5C3 → s.on pg HDR.LOCK_STICKY = true) :
    (s.afterKey pg key).bit pg HDR.ERRSTAT HDR.E_LOCK_ERR = true ∧
      (s.afterKey pg key).get pg HDR.LOCK_LOCKED = s.get pg HDR.LOCK_LOCKED := by
  obtain ⟨ha, hi⟩ := Dev.live_of_deaf hd
  have hfirst : ¬ (key = 0xA5C3 ∧ (!s.on pg HDR.LOCK_STICKY) = true) := by
    rintro ⟨hk, hs⟩
    rw [h3 hk] at hs
    exact Bool.false_ne_true hs
  rw [s.afterKey_idle _ hw, if_neg h1, if_neg h2, if_neg hfirst]
  exact ⟨Dev.err_bit (s.toDev.withBus none s.unlock) pg (by decide) ha hi,
    Dev.err_get (s.toDev.withBus none s.unlock) pg _ pg HDR.LOCK_LOCKED_ok (.inr (by decide))⟩

theorem not_contains_filter_ne (l : List Nat) (x : Nat) : (l.filter (· != x)).contains x = false := by
  simp

/-- 0x3C5A after 0xA5C3 unlocks. -/
theorem State.afterKey_second (s : State) {pg : Nat} (hw : s.unlock.contains pg = true) :
    (s.afterKey pg 0x3C5A).get pg HDR.LOCK_LOCKED = 0 ∧ (s.afterKey pg 0x3C5A).unlock.contains pg = false ∧
      s.KeepsBut (s.afterKey pg 0x3C5A).toDev [(pg, 0x02C, 31)] := by
  rw [State.afterKey, Dev.lockKey_second (s.toDev.withBus none s.unlock) pg hw]
  exact ⟨Dev.get_set_same .., not_contains_filter_ne .., State.ending_keepsBut
    ((Dev.KeepsBut.withBus s.toDev none _ _).trans (.set _ HDR.LOCK_LOCKED_ok 0 (by simp [HDR.LOCK_LOCKED])))⟩

theorem lockKeyWrite_answers {s : State} {who : Who} {page : BitVec 15} (key : BitVec 16) (hr : s.Ready)
    (hbus : s.onBus who = true) (hk : (pageKind page.toNat).isSome = true) (ht : page.toNat ≠ pTSTK)
    (hd : s.deaf page.toNat = false) (hw : s.unlock.contains page.toNat = false) :
    exec (.lockKeyWrite who page key) s = .next (s.afterKey page.toNat key.toNat) := by
  rw [exec_lockKeyWrite]
  exact s.doesM_settled _ hr (s.toDev.access_lockKey s.mems key hbus hk ht hd)
    ((Dev.SameConfig.withBus s.toDev none s.unlock).trans (.lockKey_idle _ _ _ hw))

theorem lockKeyWrite_second_answers {s : State} {who : Who} {page : BitVec 15} (hr : s.Ready)
    (hbus : s.onBus who = true) (hk : (pageKind page.toNat).isSome = true) (ht : page.toNat ≠ pTSTK)
    (hd : s.deaf page.toNat = false) (hw : s.unlock.contains page.toNat = true) :
    exec (.lockKeyWrite who page 0x3C5A) s = .next (s.afterKey page.toNat 0x3C5A) := by
  have hcfg : s.toDev.SameConfig ((s.toDev.withBus none s.unlock).lockKey page.toNat 0x3C5A) := by
    rw [Dev.lockKey_second (s.toDev.withBus none s.unlock) page.toNat hw]
    exact (Dev.SameConfig.withBus s.toDev none _).trans (.setLock _ _ HDR.LOCK_LOCKED_ok 0 rfl)
  rw [exec_lockKeyWrite]
  exact s.doesM_settled _ hr (s.toDev.access_lockKey s.mems 0x3C5A hbus hk ht hd) hcfg

theorem unlockKeyTimeout_answers {s : State} {page : BitVec 15} (hlive : s.Live page.toNat) (ht : page.toNat ≠ pTSTK)
    (hw : s.unlock.contains page.toNat = true) :
    ∃ t, exec (.unlockKeyTimeout page) s = .next t ∧ (t.unlock.contains page.toNat = false ∧
      (s.locked page.toNat = true → t.bit page.toNat HDR.ERRSTAT HDR.E_LOCK_ERR = true) ∧
      t.get page.toNat HDR.LOCK_LOCKED = s.get page.toNat HDR.LOCK_LOCKED) := by
  obtain ⟨hrun, ha, hi⟩ := hlive
  have he : s.keyTimeout page.toNat = s.dropKey page.toNat := if_neg ht
  rw [exec_unlockKeyTimeout]
  obtain ⟨t, hexec, hgrow, hunlock⟩ := s.doesM_grows (fun _ d => d.keyTimeout page.toNat) hrun he
  obtain ⟨hlock, -, -, hfilter⟩ := s.toDev.dropKey_keeps page.toNat
  refine ⟨t, hexec, ?_, fun hl => hgrow.errBit _ _ (by decide) ?_, (hgrow.kept _ _ HDR.LOCK_LOCKED_ok (by decide)).trans hlock⟩
  · rw [hunlock, hfilter]
    exact not_contains_filter_ne ..
  · rw [s.toDev.dropKey_eq, hw, hl]
    exact Dev.err_bit (s.toDev.withBus s.reply (s.unlock.filter (· != page.toNat))) _ (by decide) ha hi

/-! ### ERRINJ_WRITE (R106, R108) -/

theorem errinjWrite_answers {s : State} {who : Who} {page : BitVec 15} {v : Word} {b : Nat} (hrun : s.phase = .running)
    (hbus : s.onBus who = true) (hk : (pageKind page.toNat).isSome = true) (ht : page.toNat ≠ pTSTK)
    (hd : s.deaf page.toNat = false) (hl : s.locked page.toNat = false) (hdef : b ∈ definedErrs page.toNat)
    (hv : bitAt v.toNat b = true) (hc : 0 < s.errClass page.toNat b) :
    ∃ t, exec (.errinjWrite who page v) s = .next t ∧ (t.bit page.toNat HDR.ERRSTAT b = true ∧
      (t.reports.any fun r => r.src == (pageSource page.toNat).1 && r.inst == (pageSource page.toNat).2 && r.bit == b && r.inj) =
        true) := by
  obtain ⟨ha, hi⟩ := Dev.live_of_deaf hd
  have hb := definedErrs_lt hdef
  obtain ⟨u, hu⟩ := s.toDev.pageWrite_errinj (mgmtPort who) page.toNat v.toNat hd
  have he := s.toDev.access_pageAddr s.mems who page v hbus (off := 0x024) (by decide) (by decide) hk
  rw [hu, Dev.injWrite_unlocked (s.toDev.withBus none u) page.toNat v.toNat hl ht] at he
  rw [exec_errinjWrite]
  obtain ⟨t, hexec, hgrow, -⟩ :=
    s.doesM_grows (fun m d => Dev.access m d who (pageAddr page 0x024) .word (some v)) hrun he
  obtain ⟨hbit, r, hr, hsrc, hinst, hrb, hinj⟩ := Dev.injectAll_sets page.toNat v.toNat (definedErrs page.toNat)
    (s.toDev.withBus none (u.filter (· != page.toNat))) hb ha hi hdef hc hv hdef
  refine ⟨t, hexec, hgrow.errBit _ _ hb hbit, List.any_eq_true.2 ⟨r, hgrow.reported r hr, ?_⟩⟩
  simp [hsrc, hinst, hrb, hinj]

theorem errinjWrite_locked_answers {s : State} {who : Who} {page : BitVec 15} {v : Word} (hrun : s.phase = .running)
    (hbus : s.onBus who = true) (hk : (pageKind page.toNat).isSome = true) (hd : s.deaf page.toNat = false)
    (hl : s.locked page.toNat = true) (hv : (definedErrs page.toNat).any (bitAt v.toNat) = true) :
    ∃ t, exec (.errinjWrite who page v) s = .next t ∧ (t.bit page.toNat HDR.ERRSTAT HDR.E_LOCK_ERR = true) := by
  obtain ⟨ha, hi⟩ := Dev.live_of_deaf hd
  obtain ⟨u, hu⟩ := s.toDev.pageWrite_errinj (mgmtPort who) page.toNat v.toNat hd
  have he := s.toDev.access_pageAddr s.mems who page v hbus (off := 0x024) (by decide) (by decide) hk
  rw [hu] at he
  rw [exec_errinjWrite]
  obtain ⟨t, hexec, hgrow, -⟩ :=
    s.doesM_grows (fun m d => Dev.access m d who (pageAddr page 0x024) .word (some v)) hrun he
  exact ⟨t, hexec, hgrow.errBit _ _ (by decide) (Dev.injWrite_locked_bit (s.toDev.withBus none u) _ _ hl ha hi hv)⟩

/-! ### A page that a cell holds in reset (R7) -/

/-- The held pages stand in the map: LINK2 to LINK7, PEER0 and PEER1. -/
theorem pageKind_held {pg : Nat} (h1 : 0x202 ≤ pg) (h2 : pg ≤ 0x209) : (pageKind pg).isSome = true := by
  have hall : ∀ m < 8, (pageKind (0x202 + m)).isSome = true := by decide
  have h := hall (pg - 0x202) (by omega)
  rwa [Nat.add_sub_cancel' h1] at h

theorem registerWrite_held_answers {s : State} {who : Who} {addr : BitVec 32} (v : Word) {pg off : Nat} (hr : s.Ready)
    (hbus : s.onBus who = true) (haddr : addr.toNat = 0x40000000 + pg * 4096 + off) (ho : off < 4096) (h4 : off % 4 = 0)
    (hcell : s.isCell = true) (h1 : 0x202 ≤ pg) (h2 : pg ≤ 0x209) :
    ∃ t, exec (.registerWrite who addr .word v) s = .next t ∧ (t.reply = none ∧ s.KeepsBut t.toDev [] ∧ s.KeepsMem t ∧
      t.reports = s.reports ∧ t.sent = s.sent) := by
  have hk : (pageKind pg).isSome = true := pageKind_held h1 h2
  have hdeaf : s.deaf pg = true := by simp [Dev.deaf, Dev.absent, hcell, h1, h2]
  have he := s.toDev.access_page s.mems who addr v hbus haddr (by omega) ho h4 hk
  rw [Dev.pageWrite_deaf _ _ _ _ _ hdeaf] at he
  obtain ⟨-, -, hstores, hwipe⟩ := id hr
  rw [exec_registerWrite]
  exact ⟨s.ending _, s.doesM_settled _ hr he (.withBus ..), rfl,
    State.ending_keepsBut (Dev.KeepsBut.withBus s.toDev none s.unlock []), State.ending_keepsMem hstores hwipe, rfl, rfl⟩

end Sys2Proof.Machine
end

section
open Sys2Proof Sys2Proof.Machine

/-- Settles O31, clause by clause: each command reaches its page's rule (`Dev.access_page`, `Dev.regWrite_lc`), and MOTR, which
follows every command, takes nothing of it back. -/
theorem pageRulesAct : Obligations.PageRulesAct := by
  unfold Obligations.PageRulesAct
  refine ⟨?_, ?_, ?_, ?_, ?_, ?_, ?_, ?_, ?_, ?_, ?_⟩
  · rintro s n off v ⟨hr, hstop, hd, hl, h1, h2, hlc, hst⟩
    exact lcWrite_refused_answers v hr hstop hd hl h1 h2 hlc hst
  · rintro s n off v ⟨hw, hst, harm, hsp, h1, h2⟩
    exact lcWrite_taken_answers v hw hst harm hsp h1 h2
  · rintro s n off v ⟨hr, hw, hst, harm, hsp, ho⟩
    exact lcWrite_ramp_answers v hr hw hst harm hsp ho
  · rintro s who page v _ ⟨hrun, hbus, hwho, rfl, hk, hd, hl, -, hstrand, hdone, hq⟩
    exact feataccWrite_taken_answers v hrun hbus hwho hk hd hl hstrand hdone hq
  · rintro s who page v _ ⟨hr, hbus, rfl, hk, hd, hl, hdone⟩
    exact feataccWrite_done_answers v hr hbus hk hd hl hdone
  · rintro s who page key _ ⟨hr, hbus, rfl, hk, ht, hd, hw⟩
    refine ⟨_, lockKeyWrite_answers key hr hbus hk ht hd hw, ?_, ?_, ?_, ?_, ?_⟩
    · rintro rfl
      exact s.afterKey_lock hw
    · rintro rfl
      exact s.afterKey_sticky hw
    · rintro rfl hsticky
      exact s.afterKey_first hw hsticky
    · rintro rfl hsticky
      exact (s.afterKey_wrong hw hd (by decide) (by decide) fun _ => hsticky).1
    · rintro ⟨h1, h2, h3⟩
      have hne : ∀ x : BitVec 16, key ≠ x → key.toNat ≠ x.toNat := fun x h e => h (BitVec.eq_of_toNat_eq e)
      exact s.afterKey_wrong hw hd (hne _ h1) (hne _ h2) fun h => absurd h (hne _ h3)
  · rintro s who page _ ⟨hr, hbus, rfl, hk, ht, hd, hw⟩
    exact ⟨_, lockKeyWrite_second_answers hr hbus hk ht hd hw, s.afterKey_second hw⟩
  · rintro s page _ ⟨hlive, rfl, ht, hw⟩
    exact unlockKeyTimeout_answers hlive ht hw
  · rintro s who page v _ b ⟨hrun, hbus, rfl, hk, ht, hd, hl, hdef, hv, hc⟩
    exact errinjWrite_answers hrun hbus hk ht hd hl hdef hv hc
  · rintro s who page v _ ⟨hrun, hbus, rfl, hk, hd, hl, hv⟩
    exact errinjWrite_locked_answers hrun hbus hk hd hl hv
  · rintro s who addr v pg off ⟨hr, hbus, haddr, ho, h4, hcell, h1, h2⟩
    exact registerWrite_held_answers v hr hbus haddr ho h4 hcell h1 h2

end

section
/-! PROOFS. Pages whose block is absent in the strapped role (R8): what a read answers there, that a write there acts on nothing,
and the registers that State.reset leaves. -/

namespace Sys2Proof.Machine

/-! ### Where the pages stand, and the identity words -/

/-- One row of the page map: either its pages are meant, or the rows below it hold. -/
theorem of_map_row {c P : Prop} [Decidable c] {x y : Kind × Nat} {below : Option (Kind × Nat)} (hrow : c → x = y → P)
    (hbelow : below = some y → P) (h : (if c then some x else below) = some y) : P := by
  split at h
  · next hc => exact hrow hc (Option.some.inj h)
  · exact hbelow h

/-- The page map ends at GPIO, and no kind of block has more than ten pages (R109). -/
theorem pageKind_bound {pg : Nat} {k : Kind} {n : Nat} : pageKind pg = some (k, n) → pg ≤ pGPIO ∧ n < 10 := by
  unfold pageKind
  repeat' refine of_map_row ?_ ?_
  rotate_right
  · exact nofun
  all_goals
    intro hpg hn
    obtain ⟨-, rfl⟩ := Prod.mk.inj hn
    simp only [pGPIO]
    omega

theorem pageKind_isSome_lt {pg : Nat} (h : (pageKind pg).isSome = true) : pg < 0x8000 := by
  obtain ⟨⟨k, n⟩, hkn⟩ := Option.isSome_iff_exists.1 h
  exact Nat.lt_of_le_of_lt (pageKind_bound hkn).1 (by decide)

/-- PAGEID fits its word: a type code of one byte above the number of the block (R103, R109). -/
theorem pageId_lt (pg : Nat) : pageId pg < 2 ^ 32 := by
  cases hkn : pageKind pg with
  | none => simp [pageId, hkn]
  | some kn =>
    obtain ⟨k, n⟩ := kn
    obtain ⟨-, hn⟩ := pageKind_bound hkn
    cases k
    case link =>
      simp only [pageId, hkn]
      split <;> omega
    all_goals
      simp only [pageId, hkn]
      omega

theorem pageRev_lt (pg : Nat) : pageRev pg < 2 ^ 32 := by
  unfold pageRev
  split <;> decide

/-! ### A word read from a page -/

/-- An answer of the bus is its bookkeeping only. -/
theorem Dev.answer_eq (d : Dev) (w : Nat) : d.answer w = d.withBus (some (some w)) d.unlock := rfl

/-- A whole word is answered as it stands. -/
theorem Dev.answer_answerPart_word (d : Dev) {w : Nat} (h : w < 2 ^ 32) : (d.answer w).answerPart 0 4 = d.answer w := by
  have hw : partOf w 0 4 = w := by
    simpa [partOf, bitsOf] using h
  show (d.answer w).answer (partOf w 0 4) = d.answer w
  rw [hw]
  rfl

/-- A word that an initiator on the bus reads at a register's address is read from the page. -/
theorem Dev.access_page_read (m : Mems) (d : Dev) (who : Who) (addr : BitVec 32) {pg off : Nat} (hb : d.onBus who = true)
    (ha : addr.toNat = 0x40000000 + pg * 4096 + off) (ho : off < 4096) (h4 : off % 4 = 0) (hk : (pageKind pg).isSome = true) :
    Dev.access m d who addr .word none = (d.pageRead pg off).answerPart 0 4 := by
  have hoff : off / 4 * 4 = off := by omega
  simp only [Dev.access, hb, Bool.not_true, Bool.false_eq_true, if_false, Dev.busRead, ha,
    place_page who (pageKind_isSome_lt hk) ho hk, sizeLen, h4, hoff, ne_eq, not_true_eq_false]

theorem exec_wideReadLatch (who : Who) (addr : BitVec 32) (size : Size) (s : State) :
    exec (.wideReadLatch who addr size) s = s.doesM fun m d => Dev.access m d who addr size none := rfl

/-! ### A page whose block is absent -/

theorem Dev.absent_of_gone {d : Dev} {pg : Nat} (h : d.gone pg = true) : d.absent pg = true := by simp [Dev.absent, h]

theorem Dev.deaf_of_gone {d : Dev} {pg : Nat} (h : d.gone pg = true) : d.deaf pg = true := by
  simp [Dev.deaf, Dev.absent_of_gone h]

/-- What a page without its block reads as at an offset (R8). -/
def goneWord (pg off : Nat) : Nat := if off = 0 then pageId pg else if off = 4 then pageRev pg else 0

theorem goneWord_lt (pg off : Nat) : goneWord pg off < 2 ^ 32 := by
  unfold goneWord
  split
  · exact pageId_lt pg
  · split
    · exact pageRev_lt pg
    · decide

theorem Dev.readWord_gone {d : Dev} {pg : Nat} (off : Nat) (h : d.gone pg = true) : d.readWord pg off = goneWord pg off := by
  simp only [Dev.readWord, goneWord, h, if_true]

theorem Dev.pageRead_gone {d : Dev} {pg : Nat} (off : Nat) (hk : (pageKind pg).isSome = true) (h : d.gone pg = true) :
    d.pageRead pg off = d.answer (goneWord pg off) := by
  obtain ⟨⟨k, n⟩, hkn⟩ := Option.isSome_iff_exists.1 hk
  simp only [Dev.pageRead, hkn, Dev.absent_of_gone h, if_true, Dev.readWord_gone off h]

/-! ### The commands at such a page -/

/-- A command whose effect is the bus's bookkeeping alone, on a device where MOTR is settled: no register and no byte of memory
changes, nothing is reported and nothing sent. -/
theorem State.doesM_withBus (s : State) (f : Mems → Dev → Dev) {r : Option (Option Nat)} {u : List Nat} (hr : s.Ready)
    (he : f s.mems s.toDev = s.toDev.withBus r u) :
    ∃ t, s.doesM f = .next t ∧ t.reply = r ∧ s.KeepsBut t.toDev [] ∧ s.KeepsMem t ∧ t.reports = s.reports ∧
      t.sent = s.sent := by
  obtain ⟨-, -, hstores, hwipe⟩ := id hr
  exact ⟨s.ending _, s.doesM_settled f hr he (.withBus ..), rfl, State.ending_keepsBut (Dev.KeepsBut.withBus s.toDev r u []),
    State.ending_keepsMem hstores hwipe, rfl, rfl⟩

theorem wideReadLatch_gone_answers {s : State} {who : Who} {addr : BitVec 32} {pg off : Nat} (hr : s.Ready)
    (hbus : s.onBus who = true) (haddr : addr.toNat = 0x40000000 + pg * 4096 + off) (ho : off < 4096) (h4 : off % 4 = 0)
    (hk : (pageKind pg).isSome = true) (hg : s.gone pg = true) :
    ∃ t, exec (.wideReadLatch who addr .word) s = .next t ∧ t.reply = some (some (goneWord pg off)) ∧
      s.KeepsBut t.toDev [] ∧ s.KeepsMem t ∧ t.reports = s.reports ∧ t.sent = s.sent := by
  rw [exec_wideReadLatch]
  refine s.doesM_withBus _ hr (u := s.unlock) ?_
  rw [s.toDev.access_page_read s.mems who addr hbus haddr ho h4 hk, Dev.pageRead_gone off hk hg,
    Dev.answer_answerPart_word _ (goneWord_lt pg off), Dev.answer_eq]

theorem registerWrite_gone_answers {s : State} {who : Who} {addr : BitVec 32} (v : Word) {pg off : Nat} (hr : s.Ready)
    (hbus : s.onBus who = true) (haddr : addr.toNat = 0x40000000 + pg * 4096 + off) (ho : off < 4096) (h4 : off % 4 = 0)
    (hk : (pageKind pg).isSome = true) (hg : s.gone pg = true) :
    ∃ t, exec (.registerWrite who addr .word v) s = .next t ∧ t.reply = none ∧ s.KeepsBut t.toDev [] ∧ s.KeepsMem t ∧
      t.reports = s.reports ∧ t.sent = s.sent := by
  rw [exec_registerWrite]
  refine s.doesM_withBus _ hr (u := s.unlock) ?_
  rw [s.toDev.access_page s.mems who addr v hbus haddr (pageKind_isSome_lt hk) ho h4 hk,
    Dev.pageWrite_deaf _ _ _ _ _ (Dev.deaf_of_gone hg)]

/-! ### The registers of State.reset -/

/-- A field that State.reset does not list reads as the tables print its reset value. -/
theorem State.reset_get_unlisted {pg : Nat} {F : Fld} (h : rfLook State.resetRegs (F.key pg) = none) :
    State.reset.get pg F = F.rst := by
  show (rfLook State.resetRegs (F.key pg)).getD F.rst = F.rst
  rw [h]
  rfl

/-- A field that State.reset lists reads as listed. -/
theorem State.reset_get_listed {pg v : Nat} {F : Fld} (h : rfLook State.resetRegs (F.key pg) = some v) :
    State.reset.get pg F = v := by
  show (rfLook State.resetRegs (F.key pg)).getD F.rst = v
  rw [h]
  rfl

end Sys2Proof.Machine
end

section
open Sys2Proof Sys2Proof.Machine

/-- Settles O10: the bus reaches the page, whose absent block answers a read with `goneWord` and takes no write. -/
theorem absentPagesReadZeroAndIgnoreWrites : Obligations.AbsentPagesReadZeroAndIgnoreWrites := by
  unfold Obligations.AbsentPagesReadZeroAndIgnoreWrites
  constructor
  · rintro s who addr pg off ⟨hr, hbus, haddr, ho, h4, hk, hg⟩
    obtain ⟨t, hexec, hreply, hregs, hmem, -, -⟩ := wideReadLatch_gone_answers hr hbus haddr ho h4 hk hg
    exact ⟨t, hexec, hreply, hregs, hmem⟩
  · rintro s who addr v pg off ⟨hr, hbus, haddr, ho, h4, hk, hg⟩
    exact registerWrite_gone_answers v hr hbus haddr ho h4 hk hg

/-- Settles O6: State.reset lists three of these fields, which read as listed; the others read as the tables' reset values; the
rest of the state is written out. -/
theorem resetLeaves : Obligations.ResetLeaves := by
  unfold Obligations.ResetLeaves
  have hold : State.reset.holdOff = true := by
    rw [Dev.holdOff, Dev.on, State.reset_get_listed (v := 1) (by decide)]
    rfl
  exact ⟨rfl, State.reset_get_unlisted (by decide), State.reset_get_unlisted (by decide), State.reset_get_unlisted (by decide),
    hold, State.reset_get_listed (by decide), State.reset_get_listed (by decide), State.reset_get_unlisted (by decide),
    State.reset_get_unlisted (by decide), State.reset_get_unlisted (by decide), State.reset_get_unlisted (by decide),
    State.reset_get_unlisted (by decide), State.reset_get_unlisted (by decide), State.reset_get_unlisted (by decide),
    State.reset_get_unlisted (by decide), State.reset_get_unlisted (by decide), rfl, rfl, rfl, rfl, rfl, rfl⟩

end

section
/-! PROOFS. The start of the commit grid in the tick in which software has written a peer port's stream entry: R101 keeps what
software has written, so the record stream that R234 opens stays closed. -/

namespace Sys2Proof.Machine

/-- A hub whose T0 lies one second ahead, and whose grid does not run. -/
def State.waitingHub : State :=
  { State.reset with regs := [(SYSC.STRAP_ROLE.key pSYSC, 1), (STRD.T0SL.key pSTRD, 1)] }

/-- The waiting hub after a write of 0 to word 1 of entry 30 of port 8: the register is noted as written in this tick. -/
def State.streamWritten : State :=
  { State.waitingHub with meets := { meets0 with soft := [(pLINK 8, (LINK.BSTRB_EN 30).off)] } }

/-- BSTR_WRITE leads from the waiting hub to the state of the refutation. -/
theorem exec_bstrWrite_waitingHub : exec (.bstrWrite 8 30 true 0) State.waitingHub = .next State.streamWritten :=
  congrArg Host.Outcome.next (by decide +kernel)

theorem State.streamWritten_writable : State.streamWritten.Writable pSTRD := by decide

/-- T0 lies at least two periods ahead: the start is not refused (R234). -/
theorem State.streamWritten_t0 :
    State.streamWritten.now16 + 2 * State.streamWritten.get pSTRD STRD.TSF_PERIOD * tick16 ≤
      State.streamWritten.getTrip pSTRD t0Trip := by decide

/-- The grid starts, and the outbound record stream of port 8 stays closed, as software has written it. -/
theorem exec_gridRunWrite_streamWritten :
    ∃ t, exec (.gridRunWrite true) State.streamWritten = .next t ∧ t.get pSTRD STRD.CTRL_RUN = 1 ∧ t.strEn 8 30 = false :=
  ⟨_, rfl, by decide +kernel⟩

end Sys2Proof.Machine
end

section
/-! PROOFS. The end of an Isobar run whose results name a register beyond Isobar's page. -/

namespace Sys2Proof.Machine

/-- LDSEL.SOFT of PWMC, as an offset from Isobar's page. -/
def straySel : Fld := { PWMC.LDSEL_SOFT with off := (pPWMC - pISOB) * 4096 + PWMC.LDSEL_SOFT.off }

/-- Seen from Isobar's page, the field is PWMC's own: it has the same key in the register file. -/
theorem straySel_key : straySel.key pISOB = PWMC.LDSEL_SOFT.key pPWMC := by decide

/-- A device with a run in progress whose one result is the value 0 for the stray field. -/
def State.strayRun : State :=
  { State.reset with iso := { iso0 with run := some ⟨0, [(straySel, 0)], [], [], [], false, 0⟩ } }

theorem State.strayRun_ready : State.strayRun.Ready := by decide

/-- The end of the run clears LDSEL.SOFT, which selected every unit. -/
theorem exec_isobarRunEnd_strayRun :
    ∃ t, exec .isobarRunEnd State.strayRun = .next t ∧ t.get pPWMC PWMC.LDSEL_SOFT = 0 :=
  ⟨_, rfl, by decide +kernel⟩

end Sys2Proof.Machine
end

section
open Sys2Proof Sys2Proof.Machine

/-- Refutes O27: its fourth clause fails in a hub (`State.streamWritten`) in whose present tick software has written 0 to the
entry of port 8's outbound record stream; BSTR_WRITE leads there (`exec_bstrWrite_waitingHub`). CTRL.RUN then starts the grid,
but the hardware's EN does not replace the written one (R101, `Dev.hwSet`), so that the stream is not open. -/
theorem not_gridAndCommitsAct : ¬ Obligations.GridAndCommitsAct := by
  unfold Obligations.GridAndCommitsAct
  rintro ⟨-, -, -, hrun, -⟩
  obtain ⟨t, hexec, -, -, -, -, hopen, -⟩ :=
    hrun State.streamWritten ⟨State.streamWritten_writable, by decide, State.streamWritten_t0⟩
  obtain ⟨t', hexec', -, hclosed⟩ := exec_gridRunWrite_streamWritten
  obtain rfl : t = t' := Host.Outcome.next.inj (hexec.symm.trans hexec')
  exact absurd (hopen.symm.trans hclosed) (by decide)

/-- Refutes O60: its last clause fails where the run in progress (`State.strayRun`) names a field beyond Isobar's page, which
State.Ready does not exclude. The run's end writes it, and with it LDSEL.SOFT of PWMC, whose page is not among those listed. -/
theorem not_gridAndArrivalFrames : ¬ Obligations.GridAndArrivalFrames := by
  unfold Obligations.GridAndArrivalFrames
  rintro ⟨-, -, -, -, -, -, -, -, -, -, -, -, -, -, -, hend⟩
  obtain ⟨t, hexec, hkeeps, -, -⟩ := hend State.strayRun State.strayRun_ready
  obtain ⟨t', hexec', hcleared⟩ := exec_isobarRunEnd_strayRun
  obtain rfl : t = t' := Host.Outcome.next.inj (hexec.symm.trans hexec')
  have hkept := (hkeeps pPWMC PWMC.LDSEL_SOFT (by decide) (by decide)).1
  have hbefore : State.strayRun.get pPWMC PWMC.LDSEL_SOFT = 0x7F := by decide
  exact absurd (hcleared.symm.trans (hkept.trans hbefore)) (by decide)

end

section
/-! PROOFS. A device in reset, whose straps are not latched: what acts only in operation leaves the whole state as it was (R46,
R59). -/

namespace Sys2Proof.Machine

/-- With nothing stored and nothing wiped, the end of a command leaves the whole state alone. -/
theorem State.flush_idle (s : State) (h : s.stores = []) (hw : s.soc.wipe = none) : s.flush = s := by
  obtain ⟨d, m, q⟩ := s
  simp only at h hw
  simp only [State.flush, h, hw, Mems.wipe, List.foldl_nil]
  rw [← h, ← hw]

theorem State.held_does {s : State} (f : Dev → Dev) (hp : s.phase ≠ .running) (h : s.stores = []) (hw : s.soc.wipe = none) :
    s.does f = .next s := (s.does_held f hp).trans (congrArg _ (s.flush_idle h hw))

theorem State.held_doesM {s : State} (f : Mems → Dev → Dev) (hp : s.phase ≠ .running) (h : s.stores = [])
    (hw : s.soc.wipe = none) : s.doesM f = .next s := State.held_does (f s.mems) hp h hw

theorem State.held_doesS {s : State} (f : State → State) (hp : s.phase ≠ .running) : s.doesS f = .next s :=
  congrArg _ (if_neg hp)

/-- In reset, every command but those of the supplies, RST_N, the straps and the TAP leaves the whole state as it was: whether
it works through the memories step by step, reads them or is one effect on the device, it acts in operation only. -/
theorem exec_held (c : Instr) {s : State} (hp : s.phase ≠ .running) (h : s.stores = []) (hw : s.soc.wipe = none)
    (hc : actsInReset c = false) : exec c s = .next s := by
  cases c
  case railGood | powerOnResetEnd | brownOutReset | pinReset | softwareSystemReset | strapLatch | tapReset | vddqOkChange =>
    exact Bool.noConfusion hc
  case dmaDescriptorDone x => exact (State.held_doesS _ hp : execDmaDescriptorDone x s = .next s)
  case dmaError x => exact (State.held_doesS _ hp : execDmaError x s = .next s)
  case bDataFrameRx p f => exact (State.held_doesS _ hp : execBDataFrameRx p f s = .next s)
  case mRequestRx p f => exact (State.held_doesS _ hp : execMRequestRx p f s = .next s)
  case bulkFrameSend p e => exact (State.held_doesS _ hp : execBulkFrameSend p e s = .next s)
  case ethFrameRx | ethFrameTx | tSlot | subWordWrite | misalignedAccess | unmappedAccess | wideReadLatch | registerWrite |
      feataccWrite | lockKeyWrite | errinjWrite | ddrWindowAccess | linkBootLoadDone | timeEventFire =>
    exact State.held_doesM _ hp h hw
  all_goals exact State.held_does _ hp h hw

/-- A key in SWRST counts in reset only where it coincides with a debugger's reset (R64). -/
theorem Dev.swCoincides_idle (d : Dev) {v : Nat}
    (h : d.phase ≠ .held ∨ d.causes.contains SYSC.RSTCAUSE_DBG.lsb = false ∨ swKey v = false) : d.swCoincides v = d := by
  refine if_neg fun hall => ?_
  simp only [Bool.and_eq_true, decide_eq_true_eq] at hall
  obtain ⟨⟨hheld, hdbg⟩, hkey⟩ := hall
  rcases h with h | h | h
  · exact h hheld
  · exact Bool.noConfusion (h.symm.trans hdbg)
  · exact Bool.noConfusion (h.symm.trans hkey)

theorem exec_softwareSystemReset_held {v : Word} {s : State} (hp : s.phase ≠ .running) (h : s.stores = [])
    (hw : s.soc.wipe = none)
    (hv : s.phase ≠ .held ∨ s.causes.contains SYSC.RSTCAUSE_DBG.lsb = false ∨ swKey v.toNat = false) :
    exec (.softwareSystemReset v) s = .next s := by
  have heffect : (if s.phase = .running then s.toDev.acting fun d => d.regWrite pSYSC 0x04C v.toNat
      else s.toDev.swCoincides v.toNat) = s.toDev := (if_neg hp).trans (Dev.swCoincides_idle _ hv)
  calc exec (.softwareSystemReset v) s
      = .next (State.flush { s with toDev := (if s.phase = .running then s.toDev.acting fun d => d.regWrite pSYSC 0x04C v.toNat
          else s.toDev.swCoincides v.toNat) }) := rfl
    _ = .next s := by rw [heffect, s.flush_idle h hw]

end Sys2Proof.Machine
end

section
open Sys2Proof Sys2Proof.Machine

/-- Settles O7: a command that is not of the supplies, RST_N, the straps or the TAP acts in operation only; SWRST acts in reset
only together with a debugger's reset. -/
theorem heldDeviceIgnoresCommands : Obligations.HeldDeviceIgnoresCommands := by
  unfold Obligations.HeldDeviceIgnoresCommands
  constructor
  · rintro c s ⟨hp, h, hw, hc⟩
    exact exec_held c hp h hw hc
  · rintro v s ⟨hp, h, hw, hv⟩
    exact exec_softwareSystemReset_held hp h hw hv

end

section
/-! PROOFS. The reset values that the role, the straps and CALSTORE give a page (`Dev.pageInit`, R7, R44, R470): they change
registers of that page, its errors on their way to the fault collector, and what stands behind the converters, Spindle and
calibration, and nothing else. -/

namespace Sys2Proof.Machine

/-! ### Where the pages and their fields stand -/

/-- The page of a kind of block, by the block's number (R109). -/
def Kind.page : Kind → Nat → Nat
  | .sysc, _ => pSYSC | .syn, n => pSYN n | .cksw, _ => pCKSW | .fcol, _ => pFCOL | .thrm, _ => pTHRM | .tstk, _ => pTSTK
  | .intc, _ => pINTC | .dma, _ => pDMA | .cals, _ => pCALS | .time, _ => pTIME | .spdl, _ => pSPDL | .link, n => pLINK n
  | .strd, _ => pSTRD | .vane, _ => pVANE | .isob, _ => pISOB | .pwmc, _ => pPWMC | .pwmu, m => pPWMU m | .hk, _ => pPWMU 6
  | .gch, _ => pGCH | .motr, _ => pMOTR | .sql, _ => pSQL | .adc, c => pADC c | .lth, n => pLE n | .eth, n => pETH n
  | .ddrc, _ => pDDRC | .anmg, _ => pANMG | .qspi, _ => pQSPI | .uart, n => pUART n | .i2c, _ => pI2C | .spi, _ => pSPI
  | .gpio, _ => pGPIO

/-- The page map is read backwards by `Kind.page`. -/
theorem pageKind_page {pg : Nat} {k : Kind} {n : Nat} : pageKind pg = some (k, n) → pg = k.page n := by
  unfold pageKind
  repeat' refine of_map_row ?_ ?_
  rotate_right
  · exact nofun
  all_goals
    intro hpg hkn
    obtain ⟨rfl, rfl⟩ := Prod.mk.inj hkn
    simp only [Kind.page, pSYSC, pSYN, pCKSW, pFCOL, pTHRM, pTSTK, pINTC, pDMA, pCALS, pTIME, pSPDL, pLINK, pSTRD, pVANE, pISOB,
      pPWMC, pPWMU, pGCH, pMOTR, pSQL, pADC, pLE, pETH, pDDRC, pANMG, pQSPI, pUART, pI2C, pSPI, pGPIO]
    omega

/-- Every field of the register tables lies in its word. -/
theorem Kind.table_lsb (k : Kind) : ∀ r ∈ k.table, ∀ f ∈ r.flds, f.lsb < 32 := by
  cases k <;> decide

theorem pageFields_lsb {pg off : Nat} {f : RegFld} (hf : f ∈ pageFields pg off) : f.lsb < 32 := by
  unfold pageFields at hf
  split at hf
  · obtain rfl := List.mem_singleton.1 hf
    decide
  · split at hf
    next k _ _ =>
      unfold Kind.fieldsAt at hf
      split at hf
      next r hr => exact k.table_lsb r (List.mem_of_find?_eq_some hr) f hf
      next => exact absurd hf List.not_mem_nil
    next => exact absurd hf List.not_mem_nil

/-! ### What the initialisation of a page can change -/

/-- `d'` differs from `d` in registers of the listed pages, the reports, what has met in this tick, the converters, Spindle and
the calibration in use, and in nothing else. -/
def Dev.InitOnly (l : List Nat) (d d' : Dev) : Prop :=
  d.KeepsRegs d' l ∧ ∃ r ac rp tl ne ad sp cu,
    d' = { d with regs := r, act := ac, reports := rp, told := tl, meets := ne, adc := ad, spd := sp, calUse := cu }

namespace Dev.InitOnly

variable {l : List Nat} {d e f : Dev}

theorem refl (l : List Nat) (d : Dev) : InitOnly l d d :=
  ⟨.refl d l, d.regs, d.act, d.reports, d.told, d.meets, d.adc, d.spd, d.calUse, rfl⟩

theorem trans (h : InitOnly l d e) (h' : InitOnly l e f) : InitOnly l d f := by
  obtain ⟨hk, r, ac, rp, tl, ne, ad, sp, cu, rfl⟩ := h
  obtain ⟨hk', r', ac', rp', tl', ne', ad', sp', cu', rfl⟩ := h'
  exact ⟨hk.trans hk', r', ac', rp', tl', ne', ad', sp', cu', rfl⟩

/-- Updates made one after the other in a list. -/
theorem foldl {α : Type} {g : Dev → α → Dev} {xs : List α} (hg : ∀ x ∈ xs, ∀ d, InitOnly l d (g d x)) (d : Dev) :
    InitOnly l d (xs.foldl g d) :=
  List.foldlRecOn (motive := InitOnly l d) xs g (refl l d) fun e he x hx => he.trans (hg x hx e)

/-- A change behind the registers. -/
theorem behind (d : Dev) (rp : List Report) (tl : List (Nat × Nat)) (ne : Meets) (ad : List Adc) (sp : Spd)
    (cu : List (Nat × List Nat)) :
    InitOnly l d { d with reports := rp, told := tl, meets := ne, adc := ad, spd := sp, calUse := cu } :=
  ⟨fun _ _ _ _ => ⟨rfl, rfl⟩, d.regs, d.act, rp, tl, ne, ad, sp, cu, rfl⟩

theorem set (h : InitOnly l d e) {pg : Nat} (hp : pg ∈ l) {F : Fld} (v : Nat) (hF : F.ok := by decide) :
    InitOnly l d (e.set pg F v) :=
  h.trans ⟨.set e hF v hp, _, e.act, e.reports, e.told, e.meets, e.adc, e.spd, e.calUse, rfl⟩

theorem setForce (h : InitOnly l d e) {pg : Nat} (hp : pg ∈ l) {F : Fld} (v : Nat) (hF : F.ok := by decide) :
    InitOnly l d (e.setForce pg F v) :=
  h.trans ⟨.setForce e hF v hp, e.regs, _, e.reports, e.told, e.meets, e.adc, e.spd, e.calUse, rfl⟩

theorem setBoth (h : InitOnly l d e) {pg : Nat} (hp : pg ∈ l) {F : Fld} (v : Nat) (hF : F.ok := by decide) :
    InitOnly l d (e.setBoth pg F v) := (h.set hp v hF).setForce hp v hF

theorem modAdc (h : InitOnly l d e) (c : Nat) (g : Adc → Adc) : InitOnly l d (e.modAdc c g) :=
  h.trans (behind e e.reports e.told e.meets _ e.spd e.calUse)

theorem setShadow (h : InitOnly l d e) {pg : Nat} (hp : pg ∈ l) {F : Fld} (v : Nat) (hF : F.ok) :
    InitOnly l d (e.setShadow pg F v) :=
  (h.trans (behind e e.reports e.told _ e.adc e.spd e.calUse)).set hp v hF

/-- Errors of a listed page. -/
theorem pageOnly (h : InitOnly l d e) {pg : Nat} (hp : pg ∈ l) (hpage : Dev.PageOnly pg e f) : InitOnly l d f := by
  have hkeeps := hpage.keeps hp
  obtain ⟨-, r, rp, tl, ne, rfl⟩ := hpage
  exact h.trans ⟨hkeeps, r, e.act, rp, tl, ne, e.adc, e.spd, e.calUse, rfl⟩

theorem writeWord (h : InitOnly l d e) {pg off : Nat} (hp : pg ∈ l) (v : Nat) (ho : off < 4096) :
    InitOnly l d (e.writeWord pg off v) := by
  refine h.trans (foldl (fun f hf x => ?_) e)
  have hok : (f.fld off).ok := ⟨ho, pageFields_lsb hf⟩
  unfold Dev.writeFld
  split
  · exact (refl l x).set hp _ hok
  · exact (refl l x).setShadow hp _ hok
  · exact (refl l x).set hp _ hok
  · exact refl l x

/-! ### The converters, Squall and Spindle -/

theorem adcNext (d : Dev) (c : Nat) (j : AdcJob) : InitOnly l d (d.adcNext c j) := by
  unfold Dev.adcNext
  extract_lets last d1 a start ends anew nxt
  have h1 : InitOnly l d d1 := (refl l d).modAdc c _
  clear_value d1
  split
  · exact h1.modAdc c _
  · split
    · split
      · exact h1.modAdc c _
      · exact h1.modAdc c _
    · exact h1.modAdc c _

theorem adcCatch (c h n : Nat) (d : Dev) : InitOnly l d (d.adcCatch c h n) := by
  induction n generalizing d with
  | zero => exact refl l d
  | succ n ih =>
    unfold Dev.adcCatch
    split
    · exact refl l d
    · split
      · exact refl l d
      · exact (((refl l d).modAdc c _).trans (adcNext _ c _)).trans (ih _)

theorem adcSync (d : Dev) (c : Nat) : InitOnly l d (d.adcSync c) := (adcCatch c _ _ d).modAdc c _

theorem adcLoadCal (d : Dev) {c : Nat} (hp : pADC c ∈ l) : InitOnly l d (d.adcLoadCal c) := by
  refine (adcSync d c).trans (foldl (fun i hi x => ?_) _)
  have hi24 : i < 24 := List.mem_range.1 hi
  have hgain : (ADC.GAIN i).ok := ⟨by simp only [ADC.GAIN]; omega, (by decide : 0 < 32)⟩
  have hofs : (ADC.OFS i).ok := ⟨by simp only [ADC.OFS]; omega, (by decide : 0 < 32)⟩
  have hwords (g o t : Nat) : InitOnly l x (((x.set (pADC c) (ADC.GAIN i) g).set (pADC c) (ADC.OFS i) o).writeWord (pADC c)
      (0x208 + 16 * i) t) := (((refl l x).set hp g hgain).set hp o hofs).writeWord hp t (by omega)
  dsimp only
  split
  · exact (hwords _ _ _).modAdc c _
  · exact ((hwords _ _ _).modAdc c _).pageOnly hp (.err _ _ _)

theorem sqLoadCal (d : Dev) (hp : pSQL ∈ l) : InitOnly l d d.sqLoadCal := by
  refine foldl (fun q _ x => ?_) d
  have herr := (refl l x).pageOnly hp (.errIf x (!calValid (calEntry x.calstore (0x30 + q))) pSQL SQL.E_CAL_DEF)
  exact herr.trans (behind _ _ _ _ _ _ _)

theorem spdReset (d : Dev) (hp : pSPDL ∈ l) : InitOnly l d d.spdReset :=
  ((behind d d.reports d.told d.meets d.adc spd0 d.calUse).set hp _).set hp _

theorem fcolInit (d : Dev) (hp : pFCOL ∈ l) : InitOnly l d d.fcolInit := by
  refine trans (foldl (fun n hn x => ?_) d) (foldl (fun x hx e => (refl l e).set hp _ ?_) _)
  · have hn48 : n < 48 := List.mem_range.1 hn
    exact ((refl l x).set hp _ ⟨by simp only [FCOL.DEPLO]; omega, (by decide : 0 < 32)⟩).set hp _
      ⟨by simp only [FCOL.DEPHI]; omega, (by decide : 0 < 32)⟩
  · have hx16 : x.1 < 16 := by
      revert x
      split <;> decide
    exact ⟨by simp only [FCOL.GRCT]; omega, (by decide : 0 < 32)⟩

/-- The initialisation of a listed page. -/
theorem pageInit (d : Dev) {pg : Nat} (hp : pg ∈ l) : InitOnly l d (d.pageInit pg) := by
  have hpage {k : Kind} {n : Nat} (hk : pageKind pg = some (k, n)) : k.page n ∈ l := pageKind_page hk ▸ hp
  unfold Dev.pageInit
  split
  next => -- SYN
    split
    · exact refl l d
    · exact (((refl l d).set hp _).set hp _).setBoth hp _
  next hk => exact fcolInit d (hpage hk)
  next => -- TIME
    split
    · exact ((refl l d).set hp _).set hp _
    · exact refl l d
  next hk => -- SPDL
    have hreset := spdReset d (hpage hk)
    split
    · refine hreset.trans (foldl (fun F hF x => (refl l x).set hp 0 ?_) _)
      revert F
      decide
    · exact hreset
  next n hk => -- LINK
    split
    · exact refl l d
    · extract_lets d1 d2
      have h1 : InitOnly l d d1 := (refl l d).set hp _
      have h2 : InitOnly l d d2 := by
        unfold d2
        split
        · exact h1.set hp _
        · exact h1
      split
      · exact ((h2.set hp _).set hp _).set hp _
      · exact h2
  next => -- VANE
    split
    · exact (refl l d).set hp _
    · exact ((((refl l d).set hp _).set hp _).set hp _).set hp _
  next => -- GCH
    refine trans (foldl (fun n hn x => (refl l x).set hp _ ?_) d) (foldl (fun m hm x => (refl l x).set hp _ ?_) _)
    · have hn12 : n < 12 := List.mem_range.1 hn
      exact ⟨by simp only [GCH.CHCFG_SRC]; omega, (by decide : 0 < 32)⟩
    · have hm6 : m < 6 := List.mem_range.1 hm
      exact ⟨by simp only [GCH.LEGCFG_BRG]; omega, (by decide : 20 < 32)⟩
  next => -- PWMU
    dsimp only
    split
    · exact (((((refl l d).set hp _).set hp _).set hp _).set hp _).set hp _ |>.set hp _
    · exact (refl l d).set hp _
  next => -- HK
    exact (((((refl l d).set hp _).set hp _).set hp _).setBoth hp _).setBoth hp _ |>.setBoth hp _
  next c hk => exact adcLoadCal d (hpage hk)
  next hk => exact sqLoadCal d (hpage hk)
  next => exact refl l d

theorem calMap (d : Dev) (hp : pCALS ∈ l) : InitOnly l d d.calMap := by
  refine foldl (fun j hj x => (refl l x).set hp _ ?_) d
  have hj4 : j < 4 := List.mem_range.1 hj
  exact ⟨by simp only [CALS.VALIDMAP]; omega, (by decide : 0 < 32)⟩

end Dev.InitOnly

end Sys2Proof.Machine
end

section
/-! PROOFS. The commands of the supplies, of RST_N and of the straps (R42, R53 to R61): what enters a system-level reset keeps of
the device, and what the latched straps and CALSTORE pass through on the way into operation. -/

namespace Sys2Proof.Machine

/-! ### The latch of the straps keeps the straps -/

/-- `d'` has the phase, the level of RST_N, CALSTORE and the register STRAP of `d`. -/
def Dev.StrapsStand (d d' : Dev) : Prop :=
  d'.phase = d.phase ∧ d'.rstN = d.rstN ∧ d'.calstore = d.calstore ∧
    ∀ F : Fld, F.ok → F.off = SYSC.STRAP_ROLE.off → d'.get pSYSC F = d.get pSYSC F

namespace Dev.StrapsStand

variable {d e f : Dev}

theorem refl (d : Dev) : d.StrapsStand d := ⟨rfl, rfl, rfl, fun _ _ _ => rfl⟩

theorem trans (h : d.StrapsStand e) (h' : e.StrapsStand f) : d.StrapsStand f := by
  obtain ⟨hp, hr, hc, hs⟩ := h
  obtain ⟨hp', hr', hc', hs'⟩ := h'
  exact ⟨hp'.trans hp, hr'.trans hr, hc'.trans hc, fun F hF ho => (hs' F hF ho).trans (hs F hF ho)⟩

/-- A field of another register. -/
theorem set (h : d.StrapsStand e) {pg : Nat} {F : Fld} (v : Nat) (ho : pg ≠ pSYSC ∨ F.off ≠ SYSC.STRAP_ROLE.off)
    (hF : F.ok := by decide) : d.StrapsStand (e.set pg F v) :=
  h.trans ⟨rfl, rfl, rfl, fun _ hG hG' =>
    e.get_set_ne v (key_ne hG hF (ho.imp Ne.symm fun hne => .inl fun heq => hne (heq.symm.trans hG')))⟩

theorem modSoc (h : d.StrapsStand e) (g : Soc → Soc) : d.StrapsStand (e.modSoc g) :=
  h.trans ⟨rfl, rfl, rfl, fun _ _ _ => rfl⟩

/-- The initialisation of pages other than SYSC's. -/
theorem initOnly {l : List Nat} (h : Dev.InitOnly l d e) (hl : pSYSC ∉ l) : d.StrapsStand e := by
  obtain ⟨hkeeps, r, ac, rp, tl, ne, ad, sp, cu, rfl⟩ := h
  exact ⟨rfl, rfl, rfl, fun F hF _ => (hkeeps pSYSC F hF hl).1⟩

/-! ### The boot ROM -/

theorem bootPhase (h : d.StrapsStand e) (ph code : Nat) : d.StrapsStand (e.bootPhase ph code) :=
  (h.set ph (.inr (by decide))).set code (.inr (by decide))

theorem romUart (h : d.StrapsStand e) : d.StrapsStand e.romUart := by
  unfold Dev.romUart
  split
  · exact h
  · exact (h.set _ (.inl (by decide))).set _ (.inl (by decide))

theorem flashOp (d : Dev) (mode : Nat) (a4 : Bool) : d.StrapsStand (d.flashOp mode a4).2 := by
  unfold Dev.flashOp
  split <;> exact refl d

theorem flashRead (h : d.StrapsStand e) (at_ : Nat) (src : Source) : d.StrapsStand (e.flashRead at_ src) := by
  refine h.trans ?_
  unfold Dev.flashRead
  extract_lets e1
  have h1 : e.StrapsStand e1 := refl e
  clear_value e1
  cases src with
  | failed => exact h1
  | image bs ecc =>
    dsimp only
    split
    · exact h1
    · exact h1.trans (flashOp e1 _ _)

theorem bootImage (h : d.StrapsStand e) (src : Source) : d.StrapsStand (e.bootImage src).1 := by
  refine h.trans ?_
  unfold Dev.bootImage
  cases src with
  | failed => exact (refl e).bootPhase _ _
  | image bs ecc =>
    dsimp only
    split
    · exact (refl e).bootPhase _ _
    · split
      · exact (refl e).bootPhase _ _
      · have hend (x : Dev) (hx : e.StrapsStand x) (code : Nat) :
            e.StrapsStand (if code = 0 then (x.bootPhase 5 0, true) else (x.bootPhase 0xF code, false)).1 := by
          split
          · exact hx.bootPhase 5 0
          · exact hx.bootPhase 0xF code
        split
        · exact hend (e.store _ _ _) (refl e) _
        · exact hend e (refl e) _

theorem flashBoot (h : d.StrapsStand e) (a b : Source) : d.StrapsStand (e.flashBoot a b) := by
  have hfirst := (h.flashRead 0 a).bootImage a
  unfold Dev.flashBoot
  dsimp only
  split
  · exact hfirst
  · exact (hfirst.flashRead _ b).bootImage b

end Dev.StrapsStand

/-! ### The release (R60) -/

/-- The pages that take values of the role, the straps and CALSTORE when the straps are latched: SYSC and PWMC take none. -/
def initPages : List Nat := irqPages.filter fun pg => pg != pSYSC && pg != pPWMC

theorem Dev.InitOnly.pageInit_irqPages {pg : Nat} (hp : pg ∈ irqPages) (d : Dev) : Dev.InitOnly initPages d (d.pageInit pg) := by
  by_cases hs : pg = pSYSC
  · subst hs
    exact refl _ d
  · by_cases hw : pg = pPWMC
    · subst hw
      exact refl _ d
    · exact pageInit d (List.mem_filter.2 ⟨hp, by simp [hs, hw]⟩)

/-- The device as the release hands it to the pages: the fabric on the internal oscillator, the gate hold-off asserted, the
outputs at their safe levels, CALSTORE loaded (R60, R90, R470). -/
def Dev.releasing (d : Dev) : Dev :=
  let d := ((d.set pCKSW CKSW.CKSTAT_SRC 2).set pPWMC PWMC.HOLDSTAT_CKSW 1).set pPWMC PWMC.HOLDSTAT_ACTIVE 1
  Dev.safePins { d with calUse := d.calstore }

theorem Dev.release_eq (d : Dev) : d.release = (irqPages.foldl Dev.pageInit d.releasing).calMap := rfl

theorem Dev.release_only (d : Dev) : Dev.InitOnly initPages d.releasing d.release := by
  rw [d.release_eq]
  exact (Dev.InitOnly.foldl (fun _ hp x => Dev.InitOnly.pageInit_irqPages hp x) _).trans (Dev.InitOnly.calMap _ (by decide))

theorem Dev.StrapsStand.release (d : Dev) : d.StrapsStand d.release := by
  have hstart : d.StrapsStand d.releasing :=
    (((refl d).set _ (.inl (by decide))).set _ (.inl (by decide))).set _ (.inl (by decide))
  exact hstart.trans (initOnly d.release_only (by decide))

/-- The gate hold-off stands after the release (R90). -/
theorem Dev.release_holdOff (d : Dev) : d.release.holdOff = true := by
  have hpwmc : d.release.get pPWMC PWMC.HOLDSTAT_ACTIVE = d.releasing.get pPWMC PWMC.HOLDSTAT_ACTIVE :=
    (d.release_only.1 pPWMC _ (by decide) (by decide)).1
  have hset : d.releasing.get pPWMC PWMC.HOLDSTAT_ACTIVE = 1 := Dev.get_set_same _ _ _ _
  simp only [Dev.holdOff, Dev.on, hpwmc, hset]
  decide

/-- A further cause of a hold-off that stands is noted, and no more happens (R279). -/
theorem Dev.holdAssert_standing (d : Dev) (h : d.holdOff = true) :
    d.holdAssert PWMC.HOLDSTAT_DBG0 = d.set pPWMC PWMC.HOLDSTAT_DBG0 1 := by
  have hstands : (d.set pPWMC PWMC.HOLDSTAT_DBG0 1).holdOff = true := by
    rw [Dev.holdOff, Dev.on, Dev.get_set_ne _ _ (by decide)]
    exact h
  exact if_pos hstands

/-! ### STRAP_LATCH (R42 to R45) -/

/-- The device in operation with the straps in STRAP, before the release. -/
def Dev.latching (d : Dev) (straps : Nat) : Dev :=
  { ((((d.set pSYSC SYSC.STRAP_ROLE (bitsOf straps 0 2)).set pSYSC SYSC.STRAP_BOOT (bitsOf straps 2 2)).set pSYSC
      SYSC.STRAP_REF (bitsOf straps 4 2)).set pSYSC SYSC.STRAP_INV (b2n (strapInv straps))) with
    phase := .running, rstN := true, causes := [],
    clk := { d.clk with rom := if strapInv straps then .idle else if bitsOf straps 2 2 = 3 then .halted else .wait } }

/-- After the release the boot ROM goes the way that the straps select: UART recovery, the flash, the link, or the wait for a
debugger (R45, R66). -/
theorem Dev.strapLatch_eq (d : Dev) (straps : Nat) (a b : Source) :
    d.strapLatch straps a b =
      if strapInv straps || bitsOf straps 2 2 == 2 then
        (((d.latching straps).release.bootPhase (if strapInv straps then 2 else 1) 0).modSoc fun s =>
          { s with loading := true }).romUart
      else if bitsOf straps 2 2 = 0 then (d.latching straps).release.flashBoot a b
      else if bitsOf straps 2 2 = 1 then (d.latching straps).release.bootPhase 1 0
      else (d.latching straps).release.holdAssert PWMC.HOLDSTAT_DBG0 := rfl

/-- No way of booting touches the straps, the phase or CALSTORE; on the debugger's way the hold-off stands already. -/
theorem Dev.StrapsStand.strapLatch (d : Dev) (straps : Nat) (a b : Source) :
    (d.latching straps).StrapsStand (d.strapLatch straps a b) := by
  have hrelease := Dev.StrapsStand.release (d.latching straps)
  rw [d.strapLatch_eq, Dev.holdAssert_standing _ (d.latching straps).release_holdOff]
  split
  · exact ((hrelease.bootPhase _ _).modSoc _).romUart
  · split
    · exact hrelease.flashBoot a b
    · split
      · exact hrelease.bootPhase _ _
      · exact hrelease.set _ (.inl (by decide))

theorem bitsOf_eq (v lsb wid : Nat) : bitsOf v lsb wid = v / 2 ^ lsb % 2 ^ wid := by
  rw [bitsOf, Nat.shiftRight_eq_div_pow]

/-- STRAP as the latch leaves it (R42). -/
theorem Dev.latching_strap (d : Dev) (straps : Nat) :
    (d.latching straps).get pSYSC SYSC.STRAP_ROLE = bitsOf straps 0 2 ∧
    (d.latching straps).get pSYSC SYSC.STRAP_BOOT = bitsOf straps 2 2 ∧
    (d.latching straps).get pSYSC SYSC.STRAP_REF = bitsOf straps 4 2 ∧
    (d.latching straps).get pSYSC SYSC.STRAP_INV = b2n (strapInv straps) := by
  have hlast : ∀ F : Fld, F.key pSYSC ≠ SYSC.STRAP_INV.key pSYSC → (d.latching straps).get pSYSC F =
      (((d.set pSYSC SYSC.STRAP_ROLE (bitsOf straps 0 2)).set pSYSC SYSC.STRAP_BOOT (bitsOf straps 2 2)).set pSYSC
        SYSC.STRAP_REF (bitsOf straps 4 2)).get pSYSC F := fun F hne => Dev.get_set_ne _ _ hne
  refine ⟨?_, ?_, ?_, ?_⟩
  · rw [hlast _ (by decide), Dev.get_set_ne _ _ (by decide), Dev.get_set_ne _ _ (by decide), Dev.get_set_same]
    exact Nat.mod_mod ..
  · rw [hlast _ (by decide), Dev.get_set_ne _ _ (by decide), Dev.get_set_same]
    exact Nat.mod_mod ..
  · rw [hlast _ (by decide), Dev.get_set_same]
    exact Nat.mod_mod ..
  · refine (Dev.get_set_same ..).trans ?_
    cases strapInv straps <;> rfl

/-- What the latch of the straps leaves, whatever image boots. STRAP.INV stands exactly for hub role with link boot or REF 3
(R45). -/
theorem Dev.strapLatch_leaves (d : Dev) (straps : BitVec 6) (a b : Source) :
    let e := d.strapLatch straps.toNat a b
    e.phase = .running ∧ e.rstN = true ∧ e.get pSYSC SYSC.STRAP_ROLE = straps.toNat % 4 ∧
      e.get pSYSC SYSC.STRAP_BOOT = straps.toNat / 4 % 4 ∧ e.get pSYSC SYSC.STRAP_REF = straps.toNat / 16 ∧
      e.get pSYSC SYSC.STRAP_INV =
        b2n (straps.toNat % 4 != 0 && (straps.toNat / 4 % 4 == 1 || straps.toNat / 16 == 3)) ∧
      e.calstore = d.calstore := by
  obtain ⟨hphase, hrst, hcal, hstands⟩ := Dev.StrapsStand.strapLatch d straps.toNat a b
  obtain ⟨hrole, hboot, href, hinv⟩ := d.latching_strap straps.toNat
  have hrole4 : bitsOf straps.toNat 0 2 = straps.toNat % 4 := rfl
  have hboot4 : bitsOf straps.toNat 2 2 = straps.toNat / 4 % 4 := bitsOf_eq ..
  have href4 : bitsOf straps.toNat 4 2 = straps.toNat / 16 := by rw [bitsOf_eq]; omega
  refine ⟨hphase, hrst, ?_, ?_, ?_, ?_, hcal⟩
  · rw [hstands SYSC.STRAP_ROLE (by decide) rfl, hrole, hrole4]
  · rw [hstands SYSC.STRAP_BOOT (by decide) rfl, hboot, hboot4]
  · rw [hstands SYSC.STRAP_REF (by decide) rfl, href, href4]
  · rw [hstands SYSC.STRAP_INV (by decide) rfl, hinv, strapInv, hrole4, hboot4, href4]

end Sys2Proof.Machine
end

section
/-! PROOFS. The supplies, RST_N and entering a reset (R53 to R61, R64): what each command leaves of the device. -/

namespace Sys2Proof.Machine

/-! ### Entering a system-level reset (R61, R472) -/

/-- A write of an entry that is cut off takes free values, and changes CALSTORE. -/
theorem Dev.calCutOff_eq (d : Dev) : ∃ fr cs, d.calCutOff = { d with fresh := fr, calstore := cs } := by
  unfold Dev.calCutOff
  split
  · split
    · exact ⟨_, _, rfl⟩
    · exact ⟨_, _, rfl⟩
  · exact ⟨_, _, rfl⟩

theorem Dev.calCutOff_get (d : Dev) (pg : Nat) (F : Fld) : d.calCutOff.get pg F = d.get pg F := by
  obtain ⟨fr, cs, h⟩ := d.calCutOff_eq
  rw [h]
  rfl

theorem Dev.calCutOff_rstN (d : Dev) : d.calCutOff.rstN = d.rstN := by
  obtain ⟨fr, cs, h⟩ := d.calCutOff_eq
  rw [h]

theorem Dev.calCutOff_idle (d : Dev) (h : d.calBusy = none) : d.calCutOff = d := by
  unfold Dev.calCutOff
  rw [h]

@[simp] theorem Dev.enterReset_phase (d : Dev) (ph : Phase) : (d.enterReset ph).phase = ph := rfl
@[simp] theorem Dev.enterReset_pins (d : Dev) (ph : Phase) : (d.enterReset ph).pins = Pins.off := rfl
@[simp] theorem Dev.enterReset_stores (d : Dev) (ph : Phase) : (d.enterReset ph).stores = [] := rfl
@[simp] theorem Dev.enterReset_wipe (d : Dev) (ph : Phase) : (d.enterReset ph).soc.wipe = some true := rfl
@[simp] theorem Dev.enterReset_rstN (d : Dev) (ph : Phase) : (d.enterReset ph).rstN = d.rstN := d.calCutOff_rstN

/-- CALSTORE outlasts a system-level reset that cuts off no write of an entry (R472). -/
theorem Dev.enterReset_calstore (d : Dev) (ph : Phase) (h : d.calBusy = none) : (d.enterReset ph).calstore = d.calstore :=
  (rfl : _ = d.calCutOff.calstore).trans (congrArg Dev.calstore (d.calCutOff_idle h))

/-- The rail flags outlast a system-level reset (R53). -/
theorem Dev.enterReset_railOk (d : Dev) (ph : Phase) :
    (d.enterReset ph).get pSYSC SYSC.PWRSTAT_RAIL_OK = d.get pSYSC SYSC.PWRSTAT_RAIL_OK % 2 ^ 6 :=
  (Dev.get_set_same ..).trans (congrArg (· % 2 ^ 6) (d.calCutOff_get ..))

@[simp] theorem Dev.cause_phase (d : Dev) (F : Fld) : (d.cause F).phase = d.phase := rfl
@[simp] theorem Dev.cause_rstN (d : Dev) (F : Fld) : (d.cause F).rstN = d.rstN := rfl
@[simp] theorem Dev.cause_pins (d : Dev) (F : Fld) : (d.cause F).pins = d.pins := rfl
@[simp] theorem Dev.cause_stores (d : Dev) (F : Fld) : (d.cause F).stores = d.stores := rfl
@[simp] theorem Dev.cause_soc (d : Dev) (F : Fld) : (d.cause F).soc = d.soc := rfl
@[simp] theorem Dev.cause_calstore (d : Dev) (F : Fld) : (d.cause F).calstore = d.calstore := rfl
@[simp] theorem Dev.cause_get_same (d : Dev) (F : Fld) : (d.cause F).get pSYSC F = 1 % 2 ^ F.wid := Dev.get_set_same ..

@[simp] theorem State.ending_phase (s : State) (e : Dev) : (s.ending e).phase = e.phase := rfl
@[simp] theorem State.ending_rstN (s : State) (e : Dev) : (s.ending e).rstN = e.rstN := rfl
@[simp] theorem State.ending_pins (s : State) (e : Dev) : (s.ending e).pins = e.pins := rfl
@[simp] theorem State.ending_calstore (s : State) (e : Dev) : (s.ending e).calstore = e.calstore := rfl

/-- A command that wipes the memories makes every byte undefined anew. -/
theorem State.ending_lose {s : State} {e : Dev} (hs : e.stores = []) (hw : e.soc.wipe = some true) :
    (s.ending e).mems.gen = s.mems.gen + 1 := by
  simp [State.ending, State.flush, hs, hw, Mems.wipe, Mems.lose]

/-! ### PIN_RESET (R58) -/

theorem exec_pinReset (ns : Nat) (s : State) : exec (.pinReset ns) s = .next (s.ending (s.toDev.pinReset ns)) := rfl

/-- RST_N low for 1,000 ns or more, on a device past its power-on reset. -/
theorem Dev.pinReset_long (d : Dev) {ns : Nat} (h : d.phase = .running ∨ d.phase = .held) (hns : 1000 ≤ ns) :
    d.pinReset ns = ({ d with rstN := false }.enterReset .held).cause SYSC.RSTCAUSE_PIN := by
  have hpast : ¬ (d.phase = .rails ∨ d.phase = .interval ∨ ns < 100) := by
    rintro (hp | hp | hlt)
    · simp [hp] at h
    · simp [hp] at h
    · omega
  simp only [Dev.pinReset, if_neg hpast, if_neg (Nat.not_lt.2 hns), if_true]

theorem pinReset_long_answers {s : State} {ns : Nat} (h : s.phase = .running ∨ s.phase = .held) (hns : 1000 ≤ ns) :
    ∃ t, exec (.pinReset ns) s = .next t ∧ (t.phase = .held ∧ t.rstN = false ∧ t.pins = Pins.off ∧
      t.get pSYSC SYSC.RSTCAUSE_PIN = 1 ∧ t.mems.gen = s.mems.gen + 1 ∧ (s.calBusy = none → t.calstore = s.calstore)) := by
  refine ⟨_, exec_pinReset ns s, ?_⟩
  rw [s.toDev.pinReset_long h hns]
  refine ⟨by simp, by simp, by simp, by simp [SYSC.RSTCAUSE_PIN], State.ending_lose (by simp) (by simp), fun hcal => ?_⟩
  rw [State.ending_calstore, Dev.cause_calstore]
  exact Dev.enterReset_calstore { s.toDev with rstN := false } .held hcal

/-! ### BROWN_OUT_RESET (R53, R55, R64) -/

/-- A bit that is cleared reads as clear. -/
theorem Dev.bit_setBit_false (d : Dev) (pg : Nat) (F : Fld) (n : Nat) : (d.setBit pg F n false).bit pg F n = false := by
  simp only [Dev.bit, Dev.setBit, Bool.false_eq_true, if_false, Dev.get_set_same, bitAt_testBit, Nat.testBit_mod_two_pow,
    Bool.and_eq_false_imp]
  intro _
  split
  next h =>
    rw [Nat.testBit_eq_decide_div_mod_eq] at h ⊢
    have hdiv := Nat.sub_mul_div (d.get pg F) (2 ^ n) 1
    rw [Nat.mul_one] at hdiv
    simp only [decide_eq_true_eq, decide_eq_false_iff_not] at h ⊢
    omega
  next h => simpa using h

/-- A cause that the reset just entered does not share is forgotten (R64). -/
def Dev.forget (d : Dev) (F : Fld) : Dev := if d.causes.contains F.lsb then d else d.set pSYSC F 0

/-- Forgetting causes changes registers only, and not the rail flags. -/
theorem Dev.forget_causes {Fs : List Fld} (hF : ∀ F ∈ Fs, F.ok ∧ F.off = SYSC.RSTCAUSE_POR.off) (d : Dev) :
    ∃ r, Fs.foldl Dev.forget d = { d with regs := r } ∧
      (Fs.foldl Dev.forget d).get pSYSC SYSC.PWRSTAT_RAIL_OK = d.get pSYSC SYSC.PWRSTAT_RAIL_OK := by
  refine List.foldlRecOn (motive := fun e : Dev => ∃ r, e = { d with regs := r } ∧
    e.get pSYSC SYSC.PWRSTAT_RAIL_OK = d.get pSYSC SYSC.PWRSTAT_RAIL_OK) Fs _ ⟨d.regs, rfl, rfl⟩ ?_
  rintro e ⟨r, rfl, hrail⟩ F hmem
  obtain ⟨hok, hoff⟩ := hF F hmem
  unfold Dev.forget
  split
  · exact ⟨r, rfl, hrail⟩
  · refine ⟨_, rfl, (Dev.get_set_ne _ _ (key_ne (by decide) hok (.inr (.inl ?_)))).trans hrail⟩
    rw [hoff]
    decide

theorem exec_brownOutReset (r : Fin 6) (s : State) : exec (.brownOutReset r) s = .next (s.ending (s.toDev.brownOut r.val)) := rfl

/-- The brown-out reset of a device in operation or in reset. -/
theorem Dev.brownOut_eq (d : Dev) (rail : Nat) (h : d.phase = .running ∨ d.phase = .held) :
    d.brownOut rail =
      ((([SYSC.RSTCAUSE_DBG, SYSC.RSTCAUSE_SW, SYSC.RSTCAUSE_PIN, SYSC.RSTCAUSE_POR].foldl Dev.forget
        ((d.setBit pSYSC SYSC.PWRSTAT_RAIL_OK rail false).enterReset .rails)).set pSYSC SYSC.RSTCAUSE_BOR 1).set pSYSC
        SYSC.RSTCAUSE_BOR_RAIL rail) := by
  refine if_neg ?_
  rintro (hp | hp) <;> simp [hp] at h

theorem brownOutReset_answers {s : State} (r : Fin 6) (h : s.phase = .running ∨ s.phase = .held) :
    ∃ t, exec (.brownOutReset r) s = .next t ∧ (t.phase = .rails ∧ t.pins = Pins.off ∧ t.get pSYSC SYSC.RSTCAUSE_BOR = 1 ∧
      t.get pSYSC SYSC.RSTCAUSE_BOR_RAIL = r.val ∧ t.bit pSYSC SYSC.PWRSTAT_RAIL_OK r.val = false ∧
      (s.calBusy = none → t.calstore = s.calstore)) := by
  refine ⟨_, exec_brownOutReset r s, ?_⟩
  rw [s.toDev.brownOut_eq r.val h]
  obtain ⟨regs, heq, hrail⟩ := Dev.forget_causes
    (Fs := [SYSC.RSTCAUSE_DBG, SYSC.RSTCAUSE_SW, SYSC.RSTCAUSE_PIN, SYSC.RSTCAUSE_POR]) (by decide)
    ((s.toDev.setBit pSYSC SYSC.PWRSTAT_RAIL_OK r.val false).enterReset .rails)
  rw [Dev.enterReset_railOk] at hrail
  rw [heq] at hrail ⊢
  refine ⟨by simp, by simp, ?_, ?_, ?_, fun hcal => ?_⟩
  · rw [State.ending_get, Dev.get_set_ne _ _ (by decide), Dev.get_set_same]
    rfl
  · rw [State.ending_get, Dev.get_set_same]
    exact Nat.mod_eq_of_lt (by simp only [SYSC.RSTCAUSE_BOR_RAIL]; omega)
  · have hclear := s.toDev.bit_setBit_false pSYSC SYSC.PWRSTAT_RAIL_OK r.val
    rw [Dev.bit, bitAt_testBit] at hclear
    rw [Dev.bit, State.ending_get, Dev.get_set_ne _ _ (by decide), Dev.get_set_ne _ _ (by decide), hrail, bitAt_testBit,
      Nat.testBit_mod_two_pow, hclear, Bool.and_false]
  · rw [State.ending_calstore, Dev.set_calstore, Dev.set_calstore]
    exact Dev.enterReset_calstore (s.toDev.setBit pSYSC SYSC.PWRSTAT_RAIL_OK r.val false) .rails hcal

/-! ### RAIL_GOOD, POWER_ON_RESET_END and STRAP_LATCH (R42, R53, R56, R57) -/

theorem exec_railGood (r : Fin 6) (s : State) : exec (.railGood r) s = .next (s.ending (s.toDev.railGood r.val)) := rfl

theorem Dev.railGood_get (d : Dev) (rail pg : Nat) (F : Fld) :
    (d.railGood rail).get pg F = (d.setBit pSYSC SYSC.PWRSTAT_RAIL_OK rail true).get pg F :=
  (apply_ite (Dev.get · pg F) _ _ _).trans (ite_self _)

theorem Dev.railGood_inForce (d : Dev) (rail pg : Nat) (F : Fld) : (d.railGood rail).inForce pg F = d.inForce pg F :=
  (apply_ite (Dev.inForce · pg F) _ _ _).trans (ite_self _)

/-- The interval starts with the last rail (R56). -/
theorem Dev.railGood_phase (d : Dev) (rail : Nat) : (d.railGood rail).phase =
    if d.phase = .rails ∧ (d.railGood rail).get pSYSC SYSC.PWRSTAT_RAIL_OK = 0x3F then .interval else d.phase := by
  rw [Dev.railGood_get]
  exact apply_ite Dev.phase _ _ _

theorem railGood_answers (s : State) (r : Fin 6) :
    ∃ t, exec (.railGood r) s = .next t ∧ (t.bit pSYSC SYSC.PWRSTAT_RAIL_OK r.val = true ∧
      (t.phase = .interval ↔ (s.phase = .interval ∨ s.phase = .rails ∧ t.get pSYSC SYSC.PWRSTAT_RAIL_OK = 0x3F)) ∧
      s.KeepsBut t.toDev [(pSYSC, SYSC.PWRSTAT_RAIL_OK.off, SYSC.PWRSTAT_RAIL_OK.lsb)]) := by
  refine ⟨_, exec_railGood r s, ?_, ?_, State.ending_keepsBut fun pg F hF hne => ⟨?_, Dev.railGood_inForce ..⟩⟩
  · rw [Dev.bit, State.ending_get, Dev.railGood_get]
    exact s.toDev.bit_setBit_true _ _ r.isLt
  · rw [State.ending_phase, State.ending_get, Dev.railGood_phase]
    split
    next hall => exact iff_of_true rfl (.inr hall)
    next hnot => exact ⟨.inl, fun h => h.resolve_right hnot⟩
  · rw [Dev.railGood_get]
    exact (Dev.KeepsBut.set _ (by decide) _ (List.mem_singleton.2 rfl) pg F hF hne).1

theorem exec_powerOnResetEnd (rstN : Bool) (straps : BitVec 6) (a b : Source) (s : State) :
    exec (.powerOnResetEnd rstN straps a b) s = .next (s.ending (s.toDev.porEnd rstN straps.toNat a b)) := rfl

theorem exec_strapLatch (straps : BitVec 6) (a b : Source) (s : State) :
    exec (.strapLatch straps a b) s = .next (s.ending (s.toDev.strapEdge straps.toNat a b)) := rfl

/-- At the end of the interval the device is held, and latches its straps where RST_N is high. -/
theorem Dev.porEnd_interval (d : Dev) (rstN : Bool) (straps : Nat) (a b : Source) (h : d.phase = .interval) :
    d.porEnd rstN straps a b =
      if rstN then Dev.strapLatch { d with phase := .held, rstN := rstN, causes := [] } straps a b
      else { d with phase := .held, rstN := rstN, causes := [] } := if_neg (not_not_intro h)

theorem Dev.strapEdge_held (d : Dev) (straps : Nat) (a b : Source) (h : d.phase = .held) :
    d.strapEdge straps a b = d.strapLatch straps a b := if_pos h

/-! ### VDDQ_OK_CHANGE and TAP_RESET (R53, R61) -/

theorem exec_vddqOkChange (ok : Bool) (s : State) : exec (.vddqOkChange ok) s = .next (s.ending (s.toDev.vddqOk ok)) := rfl

theorem exec_tapReset (s : State) : exec .tapReset s = .next (s.ending s.toDev.tapReset) := rfl

end Sys2Proof.Machine
end

section
open Sys2Proof Sys2Proof.Machine

/-- Settles O13, clause by clause: both commands that latch the straps leave what `Dev.strapLatch_leaves` says; a pin reset and a
brown-out enter the reset that keeps CALSTORE and the rail flags; the others change one register field, the phase or the TAP. -/
theorem powerAndPinResetsAct : Obligations.PowerAndPinResetsAct := by
  unfold Obligations.PowerAndPinResetsAct
  refine ⟨railGood_answers, ?_, ?_, ?_, fun s r h => brownOutReset_answers r h,
    fun s ns ⟨hphase, hns⟩ => pinReset_long_answers hphase hns, ?_, ?_⟩
  · intro s straps a b h
    refine ⟨_, exec_powerOnResetEnd true straps a b s, ?_⟩
    rw [s.toDev.porEnd_interval true straps.toNat a b h, if_pos rfl]
    obtain ⟨hphase, hrst, hrole, hboot, href, -, hcal⟩ :=
      Dev.strapLatch_leaves { s.toDev with phase := .held, rstN := true, causes := [] } straps a b
    exact ⟨hphase, hrst, hrole, hboot, href, hcal⟩
  · intro s straps a b h
    refine ⟨_, exec_powerOnResetEnd false straps a b s, ?_⟩
    rw [s.toDev.porEnd_interval false straps.toNat a b h, if_neg Bool.false_ne_true]
    exact ⟨rfl, rfl, fun _ _ _ _ => ⟨rfl, rfl⟩⟩
  · intro s straps a b h
    refine ⟨_, exec_strapLatch straps a b s, ?_⟩
    rw [s.toDev.strapEdge_held straps.toNat a b h]
    exact Dev.strapLatch_leaves s.toDev straps a b
  · intro s ok
    refine ⟨_, exec_vddqOkChange ok s, (Dev.get_set_same ..).trans ?_, rfl,
      Dev.KeepsBut.set _ (by decide) _ (List.mem_singleton.2 rfl)⟩
    cases ok <;> rfl
  · intro s
    exact ⟨_, exec_tapReset s, rfl, rfl, fun _ _ _ _ => ⟨rfl, rfl⟩⟩

end

section
/-! PROOFS. How the bus refuses an access (R100, R110, R111): the places and directions that complete with a bus error whatever
the state, and a write of 8 or 16 bits to a page. -/

namespace Sys2Proof.Machine

/-! ### Places that refuse an access -/

/-- An access of `len` bytes to this place completes with a bus error in every state (R100, R110, R111). -/
def Place.refuses (len : Nat) (write : Bool) : Place → Bool
  | .mem .. => false
  | .ddr => false
  | .rom => write
  | .page _ off => off % len != 0
  | .win w off => off % len != 0 || (write && (w == 1 || w == 3))
  | .nothing => true

/-- The refusal is what the bus does (`Dev.busRead`, `Dev.busWrite`). -/
theorem Dev.access_refused (m : Mems) (d : Dev) {who : Who} {addr : BitVec 32} {size : Size} {write : Option Word}
    (hb : d.onBus who = true) (h : (place_ who addr.toNat).refuses (sizeLen size) write.isSome = true) :
    Dev.access m d who addr size write = d.busErr := by
  generalize hp : place_ who addr.toNat = p at h
  cases write with
  | none => cases p <;> simp_all [Dev.access, Dev.busRead, Place.refuses]
  | some v =>
    cases p
    case win w off =>
      have hw : off % sizeLen size ≠ 0 ∨ w = 1 ∨ w = 3 := by simpa [Place.refuses] using h
      simp [Dev.access, Dev.busWrite, hb, hp, hw]
    all_goals simp_all [Dev.access, Dev.busWrite, Place.refuses]

/-! An access's width divides a page and a window, so an offset in either is aligned as its address is. -/

theorem dvd_4096_of_size (size : Size) : sizeLen size ∣ 4096 := by cases size <;> decide
theorem dvd_65536_of_size (size : Size) : sizeLen size ∣ 65536 := by cases size <;> decide

theorem place_win (who : Who) {a : Nat} (h1 : 0x48000000 ≤ a) (h2 : a < 0x48040000) :
    place_ who a = .win ((a - 0x48000000) / 65536) (a % 65536) := by
  have hpage : ¬ (0x40000000 ≤ a ∧ a < 0x48000000) := by omega
  simp only [place_, hpage, h1, h2, and_self, if_true, if_false]

/-- An address in the range of the pages reaches its page, where the map defines it. -/
theorem place_pageOf (who : Who) {a : Nat} (h1 : 0x40000000 ≤ a) (h2 : a < 0x48000000)
    (hk : (pageKind ((a - 0x40000000) / 4096)).isSome = true) :
    place_ who a = .page ((a - 0x40000000) / 4096) (a % 4096) := by
  simp only [place_, h1, h2, hk, and_self, if_true]

theorem place_undefinedPage (who : Who) {a : Nat} (h1 : 0x40000000 ≤ a) (h2 : a < 0x48000000)
    (hk : pageKind ((a - 0x40000000) / 4096) = none) : place_ who a = .nothing := by
  simp [place_, h1, h2, hk]

/-- The reserved parts of the map. -/
theorem place_reserved (who : Who) {a : Nat}
    (h : 0x20400000 ≤ a ∧ a < 0x40000000 ∨ 0x48040000 ≤ a ∧ a < 0x80000000) : place_ who a = .nothing := by
  have hno : ¬ (0x40000000 ≤ a ∧ a < 0x48000000) ∧ ¬ (0x48000000 ≤ a ∧ a < 0x48040000) ∧ ¬ a < 0x40000 ∧
      ¬ (0x01000000 ≤ a ∧ a < 0x01040000) ∧ ¬ (0x01040000 ≤ a ∧ a < 0x01080000) ∧ ¬ (0x10000000 ≤ a ∧ a < 0x10010000) ∧
      ¬ (0x20000000 ≤ a ∧ a < 0x20400000) ∧ ¬ (0x80000000 ≤ a ∧ a < 0x100000000) := by omega
  simp only [place_, hno, if_false, ite_self]

/-- A management frame reaches pages and windows only. -/
theorem place_mgmt_outside (p : Fin 2) {a : Nat} (h : a < 0x40000000 ∨ 0x48040000 ≤ a) : place_ (.mgmt p) a = .nothing := by
  have hno : ¬ (0x40000000 ≤ a ∧ a < 0x48000000) ∧ ¬ (0x48000000 ≤ a ∧ a < 0x48040000) := by omega
  simp only [place_, hno, if_false, if_true]

/-- The boot ROM, which a management frame does not reach. -/
theorem place_rom (who : Who) {a : Nat} (h1 : 0x10000000 ≤ a) (h2 : a < 0x10010000) :
    place_ who a = .rom ∨ place_ who a = .nothing := by
  cases who with
  | mgmt p => exact .inr (place_mgmt_outside p (by omega))
  | _ =>
    have hno : ¬ (0x40000000 ≤ a ∧ a < 0x48000000) ∧ ¬ (0x48000000 ≤ a ∧ a < 0x48040000) ∧ ¬ a < 0x40000 ∧
        ¬ (0x01000000 ≤ a ∧ a < 0x01040000) ∧ ¬ (0x01040000 ≤ a ∧ a < 0x01080000) := by omega
    left
    simp only [place_, hno, h1, h2, and_self, if_false, if_true, Bool.false_eq_true]

/-! ### The commands that are refused -/

theorem exec_misalignedAccess (who : Who) (addr : BitVec 32) (size : Size) (write : Option Word) (s : State) :
    exec (.misalignedAccess who addr size write) s = s.doesM fun m d => Dev.access m d who addr size write := rfl

theorem exec_unmappedAccess (who : Who) (addr : BitVec 32) (size : Size) (write : Option Word) (s : State) :
    exec (.unmappedAccess who addr size write) s = s.doesM fun m d => Dev.access m d who addr size write := rfl

theorem exec_subWordWrite (who : Who) (addr : BitVec 32) (size : Size) (v : Word) (s : State) :
    exec (.subWordWrite who addr size v) s = s.doesM fun m d => Dev.access m d who addr size (some v) := rfl

/-- A refused access answers a bus error and changes no register and no byte. -/
theorem State.doesM_refused {s : State} {who : Who} {addr : BitVec 32} {size : Size} {write : Option Word} (hr : s.Ready)
    (hb : s.onBus who = true) (h : (place_ who addr.toNat).refuses (sizeLen size) write.isSome = true) :
    ∃ t, s.doesM (fun m d => Dev.access m d who addr size write) = .next t ∧
      (t.reply = some none ∧ s.KeepsBut t.toDev [] ∧ s.KeepsMem t) := by
  obtain ⟨t, ht, hreply, hregs, hmem, -, -⟩ :=
    s.doesM_withBus (fun m d => Dev.access m d who addr size write) (u := s.unlock) hr (Dev.access_refused s.mems s.toDev hb h)
  exact ⟨t, ht, hreply, hregs, hmem⟩

/-- A misaligned access to the pages or the windows is refused (R100). -/
theorem misaligned_refused (who : Who) {a : Nat} {size : Size} (write : Bool) (h1 : 0x40000000 ≤ a) (h2 : a < 0x48040000)
    (hk : a < 0x48000000 → (pageKind ((a - 0x40000000) / 4096)).isSome = true) (hmis : a % sizeLen size ≠ 0) :
    (place_ who a).refuses (sizeLen size) write = true := by
  by_cases hpage : a < 0x48000000
  · rw [place_pageOf who h1 hpage (hk hpage)]
    simpa [Place.refuses, Nat.mod_mod_of_dvd a (dvd_4096_of_size size)] using hmis
  · rw [place_win who (by omega) h2]
    simp [Place.refuses, Nat.mod_mod_of_dvd a (dvd_65536_of_size size), hmis]

/-- Reserved addresses, undefined pages, writes to the boot ROM, and management frames outside pages and windows are refused
(R110). -/
theorem unmapped_refused {who : Who} {a : Nat} (len : Nat) {write : Bool}
    (h : 0x20400000 ≤ a ∧ a < 0x40000000 ∨ 0x48040000 ≤ a ∧ a < 0x80000000 ∨
      0x40000000 ≤ a ∧ a < 0x48000000 ∧ pageKind ((a - 0x40000000) / 4096) = none ∨
      0x10000000 ≤ a ∧ a < 0x10010000 ∧ write = true ∨ (∃ p : Fin 2, who = .mgmt p) ∧ (a < 0x40000000 ∨ 0x48040000 ≤ a)) :
    (place_ who a).refuses len write = true := by
  rcases h with h | h | ⟨h1, h2, hk⟩ | ⟨h1, h2, rfl⟩ | ⟨⟨p, rfl⟩, h⟩
  · rw [place_reserved who (.inl h)]; rfl
  · rw [place_reserved who (.inr h)]; rfl
  · rw [place_undefinedPage who h1 h2 hk]; rfl
  · obtain hp | hp := place_rom who h1 h2 <;> rw [hp] <;> rfl
  · rw [place_mgmt_outside p h]; rfl

/-- The boot ROM and the windows 1 and 3 take no write (R110, R111). -/
theorem readOnly_refused (who : Who) {a : Nat} (len : Nat)
    (h : 0x10000000 ≤ a ∧ a < 0x10010000 ∨ 0x48010000 ≤ a ∧ a < 0x48020000 ∨ 0x48030000 ≤ a ∧ a < 0x48040000) :
    (place_ who a).refuses len true = true := by
  have hwin (w : Nat) (hw : w = 1 ∨ w = 3) (hlo : 0x48000000 + w * 65536 ≤ a) (hhi : a < 0x48000000 + (w + 1) * 65536) :
      (place_ who a).refuses len true = true := by
    have hdiv : (a - 0x48000000) / 65536 = w := by omega
    rw [place_win who (by omega) (by omega), hdiv]
    rcases hw with rfl | rfl <;> simp [Place.refuses]
  rcases h with ⟨h1, h2⟩ | ⟨h1, h2⟩ | ⟨h1, h2⟩
  · exact unmapped_refused len (.inr (.inr (.inr (.inl ⟨h1, h2, rfl⟩))))
  · exact hwin 1 (.inl rfl) h1 h2
  · exact hwin 3 (.inr rfl) h1 h2

end Sys2Proof.Machine
end

section
/-! PROOFS. A write to the common header of a page (R100, R103 to R108): the fields it changes, and that beside them only the
bookkeeping of the bus and of errors moves (`Dev.books`), so that MOTR has nothing to follow and no byte is stored. -/

namespace Sys2Proof.Machine

/-! ### Effects on listed fields and the bookkeeping -/

/-- Of the registers only the listed fields change, and behind the registers only the bookkeeping of the bus and of errors. -/
def Dev.HeaderWrite (d d' : Dev) (l : List (Nat × Nat × Nat)) : Prop := d.KeepsBut d' l ∧ d' = d.books d'

namespace Dev.HeaderWrite

variable {d e f : Dev} {l : List (Nat × Nat × Nat)}

theorem refl (d : Dev) (l : List (Nat × Nat × Nat)) : d.HeaderWrite d l := ⟨.refl d l, rfl⟩

theorem trans (h : d.HeaderWrite e l) (h' : e.HeaderWrite f l) : d.HeaderWrite f l := by
  obtain ⟨hk, hb⟩ := h
  obtain ⟨hk', hb'⟩ := h'
  refine ⟨hk.trans hk', hb'.trans ?_⟩
  rw [hb]
  rfl

theorem set (d : Dev) {pg : Nat} {F : Fld} (hF : F.ok) (v : Nat) (hm : (pg, F.off, F.lsb) ∈ l) :
    d.HeaderWrite (d.set pg F v) l := ⟨.set d hF v hm, rfl⟩

theorem withBus (d : Dev) (r : Option (Option Nat)) (u : List Nat) : d.HeaderWrite (d.withBus r u) l :=
  ⟨.withBus d r u l, rfl⟩

theorem meet (d : Dev) (g : Meets → Meets) : d.HeaderWrite (d.meet g) l := ⟨fun _ _ _ _ => ⟨rfl, rfl⟩, rfl⟩

theorem err (d : Dev) (pg b : Nat) : d.HeaderWrite (d.err pg b) [(pg, 0x020, 0), (pg, 0x028, 8)] := by
  refine ⟨.err d pg b, ?_⟩
  obtain ⟨-, r, rp, tl, ne, h⟩ := Dev.PageOnly.err d pg b
  rw [h]
  rfl

theorem errIf (d : Dev) (c : Bool) (pg b : Nat) : d.HeaderWrite (d.errIf c pg b) [(pg, 0x020, 0), (pg, 0x028, 8)] := by
  cases c
  · exact refl d _
  · exact err d pg b

/-- A dropped key is an error of the page or none. -/
theorem dropKey (d : Dev) (pg : Nat) : d.HeaderWrite (d.dropKey pg) [(pg, 0x020, 0), (pg, 0x028, 8)] := by
  rw [d.dropKey_eq]
  exact (withBus d _ _).trans (errIf _ _ pg _)

end Dev.HeaderWrite

/-- A command of such an effect on a device where MOTR is settled is its effect, keeps every field not listed and every byte of
memory. -/
theorem State.doesM_headerWrite {s : State} {f : Mems → Dev → Dev} {e : Dev} {l : List (Nat × Nat × Nat)} (hr : s.Ready)
    (he : f s.mems s.toDev = e) (hw : s.toDev.HeaderWrite e l) (hl : ∀ x ∈ l, x.2.1 < 0x040 ∧ x.2.1 ≠ 0x010) :
    s.doesM f = .next (s.ending e) ∧ s.KeepsBut (s.ending e).toDev l ∧ s.KeepsMem (s.ending e) := by
  obtain ⟨hkeeps, hbooks⟩ := hw
  obtain ⟨-, -, hstores, hwipe⟩ := id hr
  have hmotr : e.motr = s.motr := by rw [hbooks]; rfl
  have hst : e.stores = [] := by rw [hbooks]; exact hstores
  have hwp : e.soc.wipe = none := by rw [hbooks]; exact hwipe
  exact ⟨s.doesM_settled f hr he (hkeeps.sameConfig hmotr hl), State.ending_keepsBut hkeeps, State.ending_keepsMem hst hwp⟩

/-- ERRSTAT and FIRST belong to the header, not to the configuration. -/
theorem errFields_header (pg : Nat) : ∀ x ∈ [(pg, 0x020, 0), (pg, 0x028, 8)], x.2.1 < 0x040 ∧ x.2.1 ≠ 0x010 := by simp

@[simp] theorem State.ending_reply (s : State) (e : Dev) : (s.ending e).reply = e.reply := rfl
@[simp] theorem State.ending_latched (s : State) (e : Dev) : (s.ending e).latched = e.latched := rfl
@[simp] theorem State.ending_bit (s : State) (e : Dev) (pg : Nat) (F : Fld) (n : Nat) :
    (s.ending e).bit pg F n = e.bit pg F n := rfl

theorem Dev.err_reply (d : Dev) (pg b : Nat) : (d.err pg b).reply = d.reply := by
  obtain ⟨-, r, rp, tl, ne, h⟩ := Dev.PageOnly.err d pg b
  rw [h]

theorem Dev.dropKey_reply (d : Dev) (pg : Nat) : (d.dropKey pg).reply = d.reply := by
  rw [d.dropKey_eq]
  generalize (d.unlock.contains pg && d.locked pg) = c
  cases c
  · rfl
  · exact Dev.err_reply ..

/-! ### A write of 8 or 16 bits to a page (R100) -/

/-- A write of less than a word to a page reaches the page's rule for it. -/
theorem Dev.access_subWord (m : Mems) (d : Dev) {who : Who} {addr : BitVec 32} {size : Size} (v : Word) {pg : Nat}
    (hb : d.onBus who = true) (h1 : 0x40000000 ≤ addr.toNat) (hpg : pg = (addr.toNat - 0x40000000) / 4096)
    (hk : (pageKind pg).isSome = true) (hs : size ≠ .word) (hal : addr.toNat % sizeLen size = 0) :
    Dev.access m d who addr size (some v) = d.subWrite pg (addr.toNat % 4096) := by
  have hlt : addr.toNat < 0x48000000 := by
    have := pageKind_isSome_lt hk
    omega
  subst hpg
  have hoff : addr.toNat % 4096 % sizeLen size = 0 := by rw [Nat.mod_mod_of_dvd _ (dvd_4096_of_size size), hal]
  have hlen : sizeLen size ≠ 4 := by
    cases size
    case word => exact absurd rfl hs
    all_goals decide
  simp only [Dev.access, hb, Dev.busWrite, place_pageOf who h1 hlt hk, hoff, hlen, Bool.not_true, Bool.false_eq_true, ne_eq,
    not_true_eq_false, not_false_eq_true, if_true, if_false]

/-- A page that takes writes refuses this one with ACC_REJ. -/
theorem Dev.subWrite_rejected {d : Dev} {pg : Nat} (off : Nat) (hd : d.deaf pg = false) :
    (d.subWrite pg off).bit pg HDR.ERRSTAT HDR.E_ACC_REJ = true ∧ (d.subWrite pg off).reply = none ∧
      d.HeaderWrite (d.subWrite pg off) [(pg, 0x020, 0), (pg, 0x028, 8)] := by
  obtain ⟨ha, hi⟩ := Dev.live_of_deaf hd
  have hd' : Dev.deaf { d with reply := none } pg = false := hd
  obtain ⟨u, hu⟩ := Dev.tstkKey_eq { d with reply := none } pg off
  have he : d.subWrite pg off = ((d.withBus none u).dropKey pg).err pg HDR.E_ACC_REJ := by
    simp only [Dev.subWrite, hd', Bool.false_eq_true, if_false, hu]
    rfl
  obtain ⟨-, habs, hblk, -⟩ := (d.withBus none u).dropKey_keeps pg
  rw [he]
  refine ⟨Dev.err_bit _ pg (by decide) (habs.trans ha) (hblk ▸ hi), (Dev.err_reply ..).trans (Dev.dropKey_reply ..), ?_⟩
  exact ((Dev.HeaderWrite.withBus d none u).trans (.dropKey _ pg)).trans (.err _ pg _)

theorem subWordWrite_answers {s : State} {who : Who} {addr : BitVec 32} {size : Size} (v : Word) {pg : Nat} (hr : s.Ready)
    (hb : s.onBus who = true) (h1 : 0x40000000 ≤ addr.toNat) (hpg : pg = (addr.toNat - 0x40000000) / 4096)
    (hk : (pageKind pg).isSome = true) (hs : size ≠ .word) (hal : addr.toNat % sizeLen size = 0) (hd : s.deaf pg = false) :
    ∃ t, exec (.subWordWrite who addr size v) s = .next t ∧ (t.bit pg HDR.ERRSTAT HDR.E_ACC_REJ = true ∧ t.reply = none ∧
      s.KeepsBut t.toDev [(pg, 0x020, 0), (pg, 0x028, 8)] ∧ s.KeepsMem t) := by
  have he := s.toDev.access_subWord s.mems v hb h1 hpg hk hs hal
  obtain ⟨hbit, hreply, hwrite⟩ := s.toDev.subWrite_rejected (addr.toNat % 4096) hd
  rw [exec_subWordWrite]
  obtain ⟨hexec, hkeeps, hmem⟩ :=
    State.doesM_headerWrite (f := fun m d => Dev.access m d who addr size (some v)) hr he hwrite (errFields_header pg)
  exact ⟨_, hexec, hbit, hreply, hkeeps, hmem⟩

/-! ### Writes of IRQEN, IRQFLG and ERRSTAT reach their rules -/

/-- Where no first key waits for the page, a write drops none (R107, R433). -/
theorem Dev.tstkKey_idle (d : Dev) {pg : Nat} (off : Nat) (hw : d.unlock.contains pg = false) : d.tstkKey pg off = d := by
  unfold Dev.tstkKey
  split
  next h =>
    obtain ⟨rfl, -⟩ := h
    rw [filter_ne_of_not_contains hw]
  next => rfl

theorem Dev.dropKey_idle (d : Dev) {pg : Nat} (hw : d.unlock.contains pg = false) : d.dropKey pg = d :=
  if_neg (by rw [hw]; exact Bool.false_ne_true)

theorem Dev.pageWrite_irqen (d : Dev) (mg : Option Nat) {pg : Nat} (v : Nat) (h : d.deaf pg = false) :
    d.pageWrite mg pg 0x018 v = ((d.withBus none d.unlock).tstkKey pg 0x018).guard pg 0x018 v
      fun d v => d.writeWord pg 0x018 (v &&& irqDefined pg) := by
  have h' : Dev.deaf { d with reply := none } pg = false := h
  simp only [Dev.pageWrite, h', Bool.false_eq_true, if_false, if_true, Nat.reduceEqDiff]
  rfl

theorem Dev.pageWrite_irqflg (d : Dev) (mg : Option Nat) {pg : Nat} (v : Nat) (h : d.deaf pg = false)
    (hw : d.unlock.contains pg = false) (hg : pg ≠ pGPIO) (hu0 : pg ≠ pUART 0) (hu1 : pg ≠ pUART 1) :
    d.pageWrite mg pg 0x01C v = (d.withBus none d.unlock).w1c pg HDR.IRQFLG v := by
  have h' : Dev.deaf { d with reply := none } pg = false := h
  have hw' : ({ d with reply := none } : Dev).unlock.contains pg = false := hw
  simp only [Dev.pageWrite, h', Bool.false_eq_true, if_false, if_true, Nat.reduceEqDiff, hg, hu0, hu1,
    Dev.tstkKey_idle _ _ hw', Dev.dropKey_idle _ hw']
  rfl

theorem Dev.pageWrite_errstat (d : Dev) (mg : Option Nat) {pg : Nat} (v : Nat) (h : d.deaf pg = false)
    (hw : d.unlock.contains pg = false) : d.pageWrite mg pg 0x020 v = (d.withBus none d.unlock).clearErrs pg v := by
  have h' : Dev.deaf { d with reply := none } pg = false := h
  have hw' : ({ d with reply := none } : Dev).unlock.contains pg = false := hw
  simp only [Dev.pageWrite, h', Bool.false_eq_true, if_false, if_true, Nat.reduceEqDiff, Dev.tstkKey_idle _ _ hw',
    Dev.dropKey_idle _ hw']
  rfl

/-! ### IRQEN (R103, R108) -/

theorem HDR.IRQEN_ok : HDR.IRQEN.ok := by decide

/-- The register IRQEN is one field of 32 bits. -/
theorem Dev.writeWord_irqen (d : Dev) (pg v : Nat) : d.writeWord pg 0x018 v = d.set pg HDR.IRQEN (v % 2 ^ 32) := rfl

/-- An unlocked page with no key waiting lets a write pass. -/
theorem Dev.guard_open {d : Dev} {pg : Nat} (off v : Nat) (f : Dev → Nat → Dev) (ha : d.absent pg = false)
    (hi : d.inBlk.contains pg = false) (hw : d.unlock.contains pg = false) (hl : d.locked pg = false) :
    d.guard pg off v f = f d v := by
  simp only [Dev.guard, ha, hi, d.dropKey_idle hw, hl, Bool.or_self, Bool.false_eq_true, if_false]

/-- Software can write every bit of IRQEN that the page defines. -/
theorem Dev.written_irqen (d : Dev) {pg : Nat} (v : Nat) (hk : (pageKind pg).isSome = true) :
    d.written pg 0x018 v ⟨.rw, 0, 32, 0⟩ = (v % 2 ^ 32 &&& irqDefined pg) := by
  obtain ⟨⟨k, n⟩, hkn⟩ := Option.isSome_iff_exists.1 hk
  have hfix : d.fixedFld pg 0x018 ⟨.rw, 0, 32, 0⟩ = false := by
    cases k <;> simp [Dev.fixedFld, hkn]
  simp only [Dev.written, hfix, hkn, irqDefined, Bool.false_eq_true, if_false, if_true]
  rfl

/-- The lock guards the whole of IRQEN: a write is refused, with LOCK_ERR where it would change something. -/
theorem Dev.guard_irqen_locked {d : Dev} {pg : Nat} (v : Nat) (f : Dev → Nat → Dev) (hk : (pageKind pg).isSome = true)
    (ha : d.absent pg = false) (hi : d.inBlk.contains pg = false) (hl : d.locked pg = true) :
    d.guard pg 0x018 v f =
      (d.dropKey pg).errIf ((v % 2 ^ 32 &&& irqDefined pg) != d.get pg HDR.IRQEN) pg HDR.E_LOCK_ERR := by
  obtain ⟨hlock, -, -, -⟩ := d.dropKey_keeps pg
  have hl' : (d.dropKey pg).locked pg = true := by
    rw [Dev.locked, Dev.on, hlock]
    exact hl
  have hget : (d.dropKey pg).get pg HDR.IRQEN = d.get pg HDR.IRQEN :=
    ((Dev.HeaderWrite.dropKey d pg).1 pg HDR.IRQEN HDR.IRQEN_ok (by simp [HDR.IRQEN])).1
  have hfields : pageFields pg 0x018 = [⟨.rw, 0, 32, 0⟩] := rfl
  have hfld : RegFld.fld ⟨.rw, 0, 32, 0⟩ 0x018 = HDR.IRQEN := rfl
  have hguarded : guardedFld 0x018 ⟨.rw, 0, 32, 0⟩ = true := rfl
  simp only [Dev.guard, ha, hi, hl', Dev.lockHits, hfields, List.any_cons, List.any_nil, List.all_cons, List.all_nil, hguarded,
    Dev.written_irqen _ v hk, hfld, hget, Bool.or_self, Bool.or_false, Bool.true_or, Bool.true_and, Bool.and_true,
    Bool.false_eq_true, if_false, if_true]

section
variable {s : State} {who : Who} {addr : BitVec 32} {v : Word} {pg : Nat}

theorem irqenWrite_answers (hr : s.Ready) (hb : s.onBus who = true) (hk : (pageKind pg).isSome = true)
    (haddr : addr.toNat = 0x40000000 + pg * 4096 + 0x018) (hd : s.deaf pg = false) (hl : s.locked pg = false)
    (hw : s.unlock.contains pg = false) :
    ∃ t, exec (.registerWrite who addr .word v) s = .next t ∧ (t.get pg HDR.IRQEN = (v.toNat &&& irqDefined pg) ∧
      t.reply = none ∧ s.KeepsBut t.toDev [(pg, 0x018, 0)] ∧ s.KeepsMem t) := by
  obtain ⟨ha, hi⟩ := Dev.live_of_deaf hd
  have hlt : (v.toNat &&& irqDefined pg) < 2 ^ 32 := Nat.lt_of_le_of_lt Nat.and_le_left v.isLt
  have he := s.toDev.access_page s.mems who addr v hb haddr (pageKind_isSome_lt hk) (by decide) (by decide) hk
  rw [Dev.pageWrite_irqen _ _ _ hd, Dev.tstkKey_idle (s.toDev.withBus none s.unlock) _ hw,
    Dev.guard_open (d := s.toDev.withBus none s.unlock) _ _ _ ha hi hw hl, Dev.writeWord_irqen, Nat.mod_eq_of_lt hlt] at he
  rw [exec_registerWrite]
  obtain ⟨hexec, hkeeps, hmem⟩ :=
    State.doesM_headerWrite (f := fun m d => Dev.access m d who addr .word (some v)) (l := [(pg, 0x018, 0)]) hr he
      ((Dev.HeaderWrite.withBus s.toDev none s.unlock).trans (.set _ HDR.IRQEN_ok _ (List.mem_singleton.2 rfl))) (by simp)
  exact ⟨_, hexec, (Dev.get_set_same ..).trans (Nat.mod_eq_of_lt hlt), rfl, hkeeps, hmem⟩

theorem irqenWrite_locked_answers (hr : s.Ready) (hb : s.onBus who = true) (hk : (pageKind pg).isSome = true)
    (haddr : addr.toNat = 0x40000000 + pg * 4096 + 0x018) (hd : s.deaf pg = false) (hl : s.locked pg = true)
    (hv : (v.toNat &&& irqDefined pg) ≠ s.get pg HDR.IRQEN) :
    ∃ t, exec (.registerWrite who addr .word v) s = .next t ∧ (t.get pg HDR.IRQEN = s.get pg HDR.IRQEN ∧
      t.bit pg HDR.ERRSTAT HDR.E_LOCK_ERR = true ∧ s.KeepsMem t) := by
  obtain ⟨ha, hi⟩ := Dev.live_of_deaf hd
  obtain ⟨u, hu⟩ := (s.toDev.withBus none s.unlock).tstkKey_eq pg 0x018
  have hne : ((v.toNat % 2 ^ 32 &&& irqDefined pg) != (s.toDev.withBus none u).get pg HDR.IRQEN) = true := by
    rw [Nat.mod_eq_of_lt v.isLt]
    exact bne_iff_ne.2 hv
  have he := s.toDev.access_page s.mems who addr v hb haddr (pageKind_isSome_lt hk) (by decide) (by decide) hk
  rw [Dev.pageWrite_irqen _ _ _ hd, hu] at he
  replace he := he.trans (Dev.guard_irqen_locked (d := s.toDev.withBus none u) v.toNat _ hk ha hi hl)
  rw [hne] at he
  obtain ⟨-, habs, hblk, -⟩ := (s.toDev.withBus none u).dropKey_keeps pg
  rw [exec_registerWrite]
  obtain ⟨hexec, hkeeps, hmem⟩ :=
    State.doesM_headerWrite (f := fun m d => Dev.access m d who addr .word (some v)) hr he
      (((Dev.HeaderWrite.withBus s.toDev none u).trans (.dropKey _ pg)).trans (.err _ pg _)) (errFields_header pg)
  exact ⟨_, hexec, (hkeeps pg HDR.IRQEN HDR.IRQEN_ok (by simp [HDR.IRQEN])).1,
    Dev.err_bit _ pg (by decide) (habs.trans ha) (hblk ▸ hi), hmem⟩

/-! ### IRQFLG (R4, R103) -/

theorem irqflgWrite_answers (hr : s.Ready) (hb : s.onBus who = true) (hk : (pageKind pg).isSome = true)
    (hg : pg ≠ pGPIO) (hu0 : pg ≠ pUART 0) (hu1 : pg ≠ pUART 1) (haddr : addr.toNat = 0x40000000 + pg * 4096 + 0x01C)
    (hd : s.deaf pg = false) (hw : s.unlock.contains pg = false) (hlt : s.get pg HDR.IRQFLG < 2 ^ 32) :
    ∃ t, exec (.registerWrite who addr .word v) s = .next t ∧
      (t.get pg HDR.IRQFLG =
          s.get pg HDR.IRQFLG - (s.get pg HDR.IRQFLG &&& (v.toNat - (v.toNat &&& s.raised pg HDR.IRQFLG))) ∧
        s.KeepsBut t.toDev [(pg, 0x01C, 0)] ∧ s.KeepsMem t) := by
  have he := s.toDev.access_page s.mems who addr v hb haddr (pageKind_isSome_lt hk) (by decide) (by decide) hk
  rw [Dev.pageWrite_irqflg _ _ _ hd hw hg hu0 hu1] at he
  rw [exec_registerWrite]
  obtain ⟨hexec, hkeeps, hmem⟩ :=
    State.doesM_headerWrite (f := fun m d => Dev.access m d who addr .word (some v)) (l := [(pg, 0x01C, 0)]) hr he
      ((Dev.HeaderWrite.withBus s.toDev none s.unlock).trans (.set _ HDR.IRQFLG_ok _ (List.mem_singleton.2 rfl))) (by simp)
  exact ⟨_, hexec, (Dev.get_set_same ..).trans (Nat.mod_eq_of_lt (Nat.lt_of_le_of_lt (Nat.sub_le ..) hlt)), hkeeps, hmem⟩

end

/-! ### ERRSTAT (R4, R104, R105) -/

/-- Adding a power of two to a number without that bit sets the bit and touches no other. -/
theorem testBit_add_two_pow {m b : Nat} (h : m.testBit b = false) (i : Nat) :
    (m + 2 ^ b).testBit i = (m.testBit i || decide (i = b)) := by
  have hlow : m % 2 ^ (b + 1) = m % 2 ^ b := by
    refine Nat.eq_of_testBit_eq fun j => ?_
    rcases Nat.lt_trichotomy j b with hj | rfl | hj
    · simp [Nat.testBit_mod_two_pow, hj, Nat.lt_succ_of_lt hj]
    · simp [Nat.testBit_mod_two_pow, h]
    · simp [Nat.testBit_mod_two_pow, Nat.not_lt_of_lt hj, show ¬ j < b + 1 by omega]
  have hlt : m % 2 ^ b < 2 ^ b := Nat.mod_lt _ (Nat.two_pow_pos b)
  have hm : m = 2 ^ (b + 1) * (m / 2 ^ (b + 1)) + m % 2 ^ b := by
    rw [← hlow]
    exact (Nat.div_add_mod m _).symm
  rcases Nat.lt_trichotomy i b with hi | rfl | hi
  · rw [Nat.add_comm, Nat.testBit_two_pow_add_gt hi]
    simp only [Nat.ne_of_lt hi, decide_false, Bool.or_false]
  · rw [Nat.add_comm, Nat.testBit_two_pow_add_eq]
    simp [h]
  · have hhigh (r : Nat) (hr : r < 2 ^ (b + 1)) :
        (2 ^ (b + 1) * (m / 2 ^ (b + 1)) + r).testBit i = (m / 2 ^ (b + 1)).testBit (i - (b + 1)) := by
      rw [Nat.testBit_two_pow_mul_add _ hr, if_neg (by omega)]
    have hsum : m + 2 ^ b = 2 ^ (b + 1) * (m / 2 ^ (b + 1)) + (m % 2 ^ b + 2 ^ b) := by omega
    have hbit : m.testBit i = (m / 2 ^ (b + 1)).testBit (i - (b + 1)) :=
      (congrArg (Nat.testBit · i) hm).trans (hhigh _ (by rw [Nat.pow_succ]; omega))
    rw [hsum, hhigh _ (by rw [Nat.pow_succ]; omega), hbit]
    simp only [Nat.ne_of_gt hi, decide_false, Bool.or_false]

/-- A sum of powers of two, each exponent once, has exactly the bits of these exponents. -/
theorem foldl_add_two_pow_testBit (p : Nat → Bool) (l : List Nat) (m i : Nat) (hnd : l.Nodup)
    (hm : ∀ b ∈ l, m.testBit b = false) :
    (l.foldl (fun m b => if p b then m + 2 ^ b else m) m).testBit i = (m.testBit i || (decide (i ∈ l) && p i)) := by
  induction l generalizing m with
  | nil => simp
  | cons b l ih =>
    obtain ⟨hb, hrest⟩ := List.forall_mem_cons.1 hm
    obtain ⟨hnot, hnd'⟩ := List.nodup_cons.1 hnd
    rw [List.foldl_cons]
    by_cases hp : p b = true
    · have hstep : ∀ x ∈ l, (m + 2 ^ b).testBit x = false := fun x hx => by
        have hxb : x ≠ b := fun e => hnot (e ▸ hx)
        simp [testBit_add_two_pow hb, hrest x hx, hxb]
      rw [if_pos hp, ih _ hnd' hstep, testBit_add_two_pow hb]
      by_cases hi : i = b
      · simp [hi, hp]
      · simp [hi]
    · rw [if_neg hp, ih _ hnd' hrest]
      by_cases hi : i = b
      · simp [hi, hp, hnot]
      · simp [hi]

/-- No error bit stands twice in a page's table. -/
theorem definedErrs_nodup (pg : Nat) : (definedErrs pg).Nodup := by
  have htable : ∀ k : Kind, (k.errTable.map Prod.fst ++ [29, 30, 31]).Nodup := by
    intro k
    cases k <;> decide
  unfold definedErrs
  split
  next k _ _ => exact htable k
  next => exact List.nodup_nil

/-- The error bits that a write to ERRSTAT leaves set. -/
def Dev.errsLeft (d : Dev) (pg mask : Nat) : Nat :=
  (definedErrs pg).foldl (fun m b =>
    if d.bit pg HDR.ERRSTAT b && (!bitAt mask b || d.told.contains (pg, b)) then m + 2 ^ b else m) 0

theorem Dev.errsLeft_testBit (d : Dev) (pg mask i : Nat) : (d.errsLeft pg mask).testBit i =
    (decide (i ∈ definedErrs pg) && (d.bit pg HDR.ERRSTAT i && (!bitAt mask i || d.told.contains (pg, i)))) := by
  have h := foldl_add_two_pow_testBit (fun b => d.bit pg HDR.ERRSTAT b && (!bitAt mask b || d.told.contains (pg, b)))
    (definedErrs pg) 0 i (definedErrs_nodup pg) fun b _ => Nat.zero_testBit b
  rwa [Nat.zero_testBit, Bool.false_or] at h

/-- Only defined errors are left, so they fit the register. -/
theorem Dev.errsLeft_lt (d : Dev) (pg mask : Nat) : d.errsLeft pg mask < 2 ^ 32 := by
  refine Nat.lt_pow_two_of_testBit _ fun i hi => ?_
  have hnot : i ∉ definedErrs pg := fun h => absurd (definedErrs_lt h) (Nat.not_lt.2 hi)
  simp [d.errsLeft_testBit, hnot]

/-- A write to ERRSTAT: while errors are left, FIRST stays; else both registers read zero (R105). -/
theorem Dev.clearErrs_cases (d : Dev) (pg mask : Nat) :
    (d.errsLeft pg mask ≠ 0 ∧ d.clearErrs pg mask = d.set pg HDR.ERRSTAT (d.errsLeft pg mask)) ∨
      ∃ g, d.clearErrs pg mask = ((d.set pg HDR.ERRSTAT (d.errsLeft pg mask)).set pg HDR.FIRST 0).meet g := by
  by_cases h : d.errsLeft pg mask = 0
  · right
    have he : d.clearErrs pg mask =
        if d.get pg HDR.ERRSTAT = 0 ∨ d.meets.first.contains pg ∨ (d.meets.emptied.lookup pg).isSome
        then (d.set pg HDR.ERRSTAT (d.errsLeft pg mask)).set pg HDR.FIRST 0
        else ((d.set pg HDR.ERRSTAT (d.errsLeft pg mask)).set pg HDR.FIRST 0).meet fun m =>
          { m with emptied := (pg, d.get pg HDR.FIRST) :: m.emptied } := if_neg fun hne => hne h
    rw [he]
    split
    · exact ⟨id, rfl⟩
    · exact ⟨_, rfl⟩
  · exact .inl ⟨h, if_pos h⟩

theorem Dev.clearErrs_leaves (d : Dev) (pg mask : Nat) :
    (d.clearErrs pg mask).get pg HDR.ERRSTAT = d.errsLeft pg mask ∧
      (d.errsLeft pg mask = 0 → (d.clearErrs pg mask).get pg HDR.FIRST = 0) ∧
      d.HeaderWrite (d.clearErrs pg mask) [(pg, 0x020, 0), (pg, 0x028, 8)] := by
  have hmod : d.errsLeft pg mask % 2 ^ 32 = d.errsLeft pg mask := Nat.mod_eq_of_lt (d.errsLeft_lt pg mask)
  have hset : d.HeaderWrite (d.set pg HDR.ERRSTAT (d.errsLeft pg mask)) [(pg, 0x020, 0), (pg, 0x028, 8)] :=
    .set d HDR.ERRSTAT_ok _ (by simp [HDR.ERRSTAT])
  rcases d.clearErrs_cases pg mask with ⟨h, he⟩ | ⟨g, he⟩
  · rw [he]
    exact ⟨(Dev.get_set_same ..).trans hmod, fun h0 => absurd h0 h, hset⟩
  · have hne : HDR.ERRSTAT.key pg ≠ HDR.FIRST.key pg := key_ne HDR.ERRSTAT_ok HDR.FIRST_ok (.inr (.inl (by decide)))
    rw [he]
    exact ⟨(Dev.get_set_ne _ 0 hne).trans ((Dev.get_set_same ..).trans hmod), fun _ => Dev.get_set_same ..,
      (hset.trans (.set _ HDR.FIRST_ok 0 (by simp [HDR.FIRST]))).trans (.meet _ g)⟩

theorem errstatWrite_answers {s : State} {who : Who} {addr : BitVec 32} {v : Word} {pg : Nat} (hr : s.Ready)
    (hb : s.onBus who = true) (hk : (pageKind pg).isSome = true) (haddr : addr.toNat = 0x40000000 + pg * 4096 + 0x020)
    (hd : s.deaf pg = false) (hw : s.unlock.contains pg = false) :
    ∃ t, exec (.registerWrite who addr .word v) s = .next t ∧
      ((∀ b ∈ definedErrs pg, t.bit pg HDR.ERRSTAT b =
          (s.bit pg HDR.ERRSTAT b && (!bitAt v.toNat b || s.told.contains (pg, b)))) ∧
        (t.get pg HDR.ERRSTAT = 0 → t.get pg HDR.FIRST = 0) ∧
        s.KeepsBut t.toDev [(pg, 0x020, 0), (pg, 0x028, 8)] ∧ s.KeepsMem t) := by
  have he := s.toDev.access_page s.mems who addr v hb haddr (pageKind_isSome_lt hk) (by decide) (by decide) hk
  rw [Dev.pageWrite_errstat _ _ _ hd hw] at he
  obtain ⟨herr, hfirst, hwrite⟩ := (s.toDev.withBus none s.unlock).clearErrs_leaves pg v.toNat
  rw [exec_registerWrite]
  obtain ⟨hexec, hkeeps, hmem⟩ :=
    State.doesM_headerWrite (f := fun m d => Dev.access m d who addr .word (some v)) hr he
      ((Dev.HeaderWrite.withBus s.toDev none s.unlock).trans hwrite) (errFields_header pg)
  refine ⟨_, hexec, fun b hdef => ?_, fun h0 => hfirst (herr.symm.trans h0), hkeeps, hmem⟩
  rw [State.ending_bit, Dev.bit, herr, bitAt_testBit, Dev.errsLeft_testBit, decide_eq_true hdef, Bool.true_and]
  rfl

end Sys2Proof.Machine
end

section
/-! PROOFS. A read of the first word of a wide group (R100), a word written to shared SRAM, and the DRAM window (R112, R114,
R448). -/

namespace Sys2Proof.Machine

/-! ### Latched words (R100) -/

/-- Dropping the entry of another key leaves a list's answer. -/
theorem lookup_filter_bne {β : Type} (l : List (Nat × β)) {k a : Nat} (h : a ≠ k) :
    (l.filter fun x => x.1 != k).lookup a = l.lookup a := by
  induction l with
  | nil => rfl
  | cons x l ih =>
    obtain ⟨j, b⟩ := x
    by_cases hj : j = k
    · subst hj
      simp [ih, List.lookup_cons, beq_false_of_ne h]
    · simp [hj, List.lookup_cons, ih]

/-- Every register of a group reads from the latch what was latched for it. -/
theorem Dev.latch_lookup (d : Dev) (pg : Nat) (g : Nat → Nat) (os : List Nat) {o : Nat} (ho : o ∈ os) :
    (d.latch pg (os.map fun o => (o, g o))).latched.lookup (pg * 4096 + o) = some (g o) := by
  have hfold : ∀ (os : List Nat) (l : List (Nat × Nat)), o ∈ os ∨ l.lookup (pg * 4096 + o) = some (g o) →
      ((os.map fun o => (o, g o)).foldl
        (fun l w => (pg * 4096 + w.1, w.2) :: l.filter fun x => x.1 != pg * 4096 + w.1) l).lookup (pg * 4096 + o) =
          some (g o) := by
    intro os
    induction os with
    | nil => exact fun l h => h.resolve_left List.not_mem_nil
    | cons x os ih =>
      intro l h
      rw [List.map_cons, List.foldl_cons]
      refine ih _ ?_
      by_cases hx : o = x
      · subst hx
        exact .inr (by simp)
      · refine (h.imp_left fun hm => (List.mem_cons.1 hm).resolve_left hx).imp_right fun hl => ?_
        have hne : pg * 4096 + o ≠ pg * 4096 + x := by omega
        rw [List.lookup_cons, beq_false_of_ne hne]
        exact (lookup_filter_bne l hne).trans hl
  exact hfold os d.latched (.inl ho)

/-! ### A wide read -/

/-- The first word of a wide group is answered, and the others are latched from the same state. -/
theorem Dev.liveRead_wide {d : Dev} {k : Kind} (n : Nat) {pg off : Nat} (hw : wideRest k off ≠ [])
    (hl : d.latched.lookup (pg * 4096 + off) = none) :
    d.liveRead k n pg off = (({ d with fresh := (d.refresh pg off).fresh } : Dev).latch pg
      ((wideRest k off).map fun o => (o, (d.refresh pg off).readWord pg o))).answer ((d.refresh pg off).readWord pg off) := by
  have hno : ∀ {k0 : Kind} {o : Nat}, wideRest k0 o = [] → ¬ (k = k0 ∧ off = o) := by
    rintro k0 o h ⟨rfl, rfl⟩
    exact hw h
  simp only [Dev.liveRead, hl, hno (k0 := .intc) (o := 0x804) rfl, hno (k0 := .intc) (o := 0x80C) rfl,
    hno (k0 := .time) (o := 0x800) rfl, hno (k0 := .time) (o := 0xA00) rfl, hno (k0 := .time) (o := 0xA10) rfl,
    hno (k0 := .eth) (o := 0xC00) rfl, hno (k0 := .eth) (o := 0xC10) rfl, hno (k0 := .strd) (o := 0x840) rfl,
    hno (k0 := .uart) (o := 0x800) rfl, if_false]

theorem wideReadLatch_answers {s : State} {who : Who} {addr : BitVec 32} {k : Kind} {n pg off : Nat}
    (hrun : s.phase = .running) (hb : s.onBus who = true) (haddr : addr.toNat = 0x40000000 + pg * 4096 + off)
    (ho : off < 4096) (h4 : off % 4 = 0) (hk : pageKind pg = some (k, n)) (hw : wideRest k off ≠ [])
    (hl : s.latched.lookup (pg * 4096 + off) = none) (ha : s.absent pg = false) (hi : s.inBlk.contains pg = false) :
    ∃ t, exec (.wideReadLatch who addr .word) s = .next t ∧
      (t.reply = some (some ((s.refresh pg off).readWord pg off % 2 ^ 32)) ∧
        ∀ o ∈ wideRest k off, t.latched.lookup (pg * 4096 + o) = some ((s.refresh pg off).readWord pg o)) := by
  have he := s.toDev.access_page_read s.mems who addr hb haddr ho h4 (Option.isSome_iff_exists.2 ⟨_, hk⟩)
  have hread : s.toDev.pageRead pg off = s.toDev.liveRead k n pg off := by
    simp only [Dev.pageRead, hk, ha, hi, Bool.false_eq_true, if_false]
  rw [hread, Dev.liveRead_wide n hw hl] at he
  rw [exec_wideReadLatch, s.doesM_running _ hrun, he]
  refine ⟨_, rfl, (Dev.motrSync_reply ..).trans rfl, fun o hmem => ?_⟩
  exact (congrArg (List.lookup _) (Dev.motrSync_latched ..)).trans
    (Dev.latch_lookup _ pg (fun o => (s.refresh pg off).readWord pg o) _ hmem)

/-! ### Bytes of a written value -/

theorem toLE_length (n v : Nat) : (toLE n v).length = n := by
  induction n generalizing v with
  | zero => rfl
  | succ n ih => simp [toLE, ih]

/-- Byte `i` of a little-endian value. -/
theorem toLE_getD {n i : Nat} (v : Nat) (h : i < n) : (toLE n v).getD i 0 = BitVec.ofNat 8 (v >>> (8 * i)) := by
  induction n generalizing v i with
  | zero => omega
  | succ n ih =>
    cases i with
    | zero => rfl
    | succ i =>
      rw [toLE, List.getD_cons_succ, ih _ (by omega), ← Nat.shiftRight_add]
      congr 2
      omega

/-- The bytes of an access's width do not depend on the bits above it. -/
theorem toLE_getD_mod {n i : Nat} (v : Nat) (h : i < n) : (toLE n (v % 2 ^ (8 * n))).getD i 0 = (toLE n v).getD i 0 := by
  rw [toLE_getD _ h, toLE_getD _ h]
  refine BitVec.eq_of_getLsbD_eq fun j hj => ?_
  have hbit : 8 * i + j < 8 * n := by omega
  rw [BitVec.getLsbD_ofNat, BitVec.getLsbD_ofNat, Nat.testBit_shiftRight, Nat.testBit_shiftRight, Nat.testBit_mod_two_pow,
    decide_eq_true hbit, Bool.true_and]

/-- A byte that is put into a memory reads as put. -/
theorem Mems.byte_put (m : Mems) (id : MemId) (a : Nat) {i : Nat} (bs : List Byte) (h : i < bs.length) :
    (m.put id a bs).byte id (a + i) = bs.getD i 0 := by
  have hget : bs.getD i 0 = bs[i] := by simp [h]
  have hat : (m.put id a bs).at id = memPuts (m.at id) a bs := by cases id <;> rfl
  rw [Mems.byte, hat, memLook_puts_same _ _ _ _ h, hget]
  rfl

/-- The bytes that a command stores last stand in their memory when it ends. -/
theorem State.flush_stored {s : State} {l : List (MemId × Nat × List Byte)} {id : MemId} {a i : Nat} {bs : List Byte}
    (hs : s.stores = l ++ [(id, a, bs)]) (h : i < bs.length) : s.flush.mems.byte id (a + i) = bs.getD i 0 := by
  rw [State.flush, hs, List.foldl_append]
  exact Mems.byte_put _ id a bs h

/-! ### Shared SRAM (R110) -/

theorem mgmtPort_of_not_mgmt {who : Who} (h : ∀ p : Fin 2, who ≠ .mgmt p) : mgmtPort who = none := by
  cases who with
  | mgmt p => exact absurd rfl (h p)
  | _ => rfl

theorem place_sram {who : Who} {a : Nat} (hwho : ∀ p : Fin 2, who ≠ .mgmt p) (h1 : 0x20000000 ≤ a) (h2 : a < 0x20400000) :
    place_ who a = .mem .sram (a - 0x20000000) := by
  have hno : ¬ (0x40000000 ≤ a ∧ a < 0x48000000) ∧ ¬ (0x48000000 ≤ a ∧ a < 0x48040000) ∧ ¬ a < 0x40000 ∧
      ¬ (0x01000000 ≤ a ∧ a < 0x01040000) ∧ ¬ (0x01040000 ≤ a ∧ a < 0x01080000) ∧ ¬ (0x10000000 ≤ a ∧ a < 0x10010000) := by
    omega
  cases who with
  | mgmt p => exact absurd rfl (hwho p)
  | _ => simp only [place_, hno, h1, h2, and_self, if_false, if_true, Bool.false_eq_true]

theorem sramWrite_answers {s : State} {who : Who} {addr : BitVec 32} (v : Word) (i : Fin 4) (hr : s.Ready)
    (hb : s.onBus who = true) (hwho : ∀ p : Fin 2, who ≠ .mgmt p) (h1 : 0x20000000 ≤ addr.toNat)
    (h2 : addr.toNat + 4 ≤ 0x20400000) :
    ∃ t, exec (.registerWrite who addr .word v) s = .next t ∧ (t.reply = none ∧
      t.mems.byte .sram (addr.toNat - 0x20000000 + i) = (toLE 4 v.toNat).getD i 0 ∧ s.KeepsBut t.toDev []) := by
  have hsize : ¬ MemId.size .sram < addr.toNat - 0x20000000 + 4 := by
    simp only [MemId.size]
    omega
  have he : Dev.access s.mems s.toDev who addr .word (some v) =
      (s.toDev.store .sram (addr.toNat - 0x20000000) (toLE 4 v.toNat)).withBus none s.unlock := by
    have hv : v.toNat % 2 ^ (8 * 4) = v.toNat := Nat.mod_eq_of_lt v.isLt
    simp only [Dev.access, hb, Dev.busWrite, place_sram hwho h1 (by omega : addr.toNat < 0x20400000), sizeLen, hsize, hv,
      Bool.not_true, Bool.false_eq_true, if_false]
    rfl
  obtain ⟨-, -, hstores, -⟩ := id hr
  rw [exec_registerWrite]
  exact ⟨s.ending _, s.doesM_settled _ hr he ⟨rfl, fun _ _ _ _ => rfl⟩, rfl,
    State.flush_stored (l := []) (congrArg (· ++ _) hstores) (by rw [toLE_length]; exact i.isLt), fun _ _ _ _ => ⟨rfl, rfl⟩⟩

/-! ### The DRAM window (R112, R114, R448) -/

theorem exec_ddrWindowAccess (who : Who) (addr : BitVec 31) (size : Size) (write : Option Word) (ecc : Option Bool)
    (s : State) : exec (.ddrWindowAccess who addr size write ecc) s =
      s.doesM fun m d => Dev.windowAccess m d who addr.toNat size write ecc := rfl

/-- The DRAM byte at an offset of the window. -/
theorem Dev.windowAt_offset (d : Dev) (off : Nat) :
    d.windowAt (0x80000000 + off) = d.get pDDRC DDRC.WINBASE_BASE * 2 ^ 28 + off := by
  unfold Dev.windowAt
  omega

/-- In a hub, whoever is on the bus reaches the window. -/
theorem Dev.windowAccess_hub (m : Mems) {d : Dev} {who : Who} (off : Nat) (size : Size) (write : Option Word)
    (ecc : Option Bool) (hb : d.onBus who = true) (hc : d.isCell = false) :
    Dev.windowAccess m d who off size write ecc =
      Dev.ddrWindow m d (0x80000000 + off) (sizeLen size) (write.map fun v => v.toNat % 2 ^ (8 * sizeLen size)) ecc := by
  have hmg : mgmtPort who = none := mgmtPort_of_not_mgmt fun p hp => by simp [Dev.onBus, hp, hc] at hb
  simp only [Dev.windowAccess, hb, hmg, Bool.not_true, Option.isSome_none, Bool.false_eq_true, if_false]

/-- A ready DRAM takes a write inside its size. -/
theorem Dev.ddrWindow_write (m : Mems) {d : Dev} {off len : Nat} (v : Nat) (hc : d.isCell = false)
    (hin : d.get pDDRC DDRC.WINBASE_BASE * 2 ^ 28 + off + len ≤ d.dramSize) (hready : d.on pDDRC DDRC.STAT_READY = true) :
    Dev.ddrWindow m d (0x80000000 + off) len (some v) none =
      (d.store .dram (d.get pDDRC DDRC.WINBASE_BASE * 2 ^ 28 + off) (toLE len v)).withBus none d.unlock := by
  simp only [Dev.ddrWindow, d.windowAt_offset, hc, hready, Nat.not_lt.2 hin, Dev.ddrEcc, Bool.not_true,
    Bool.false_eq_true, if_false]
  rfl

/-- A ready DRAM answers a read inside its size. -/
theorem Dev.ddrWindow_read (m : Mems) {d : Dev} {off len : Nat} (hc : d.isCell = false)
    (hin : d.get pDDRC DDRC.WINBASE_BASE * 2 ^ 28 + off + len ≤ d.dramSize) (hready : d.on pDDRC DDRC.STAT_READY = true) :
    Dev.ddrWindow m d (0x80000000 + off) len none none =
      d.answer (leNat (m.bytes .dram (d.get pDDRC DDRC.WINBASE_BASE * 2 ^ 28 + off) len)) := by
  simp only [Dev.ddrWindow, d.windowAt_offset, hc, hready, Nat.not_lt.2 hin, Dev.ddrEcc, Bool.not_true,
    Bool.false_eq_true, if_false]

/-- Past the DRAM's end the access is an error of DDRC. -/
theorem Dev.ddrWindow_range (m : Mems) {d : Dev} {off len : Nat} (write : Option Nat) (ecc : Option Bool)
    (hc : d.isCell = false) (hout : d.dramSize < d.get pDDRC DDRC.WINBASE_BASE * 2 ^ 28 + off + len) :
    Dev.ddrWindow m d (0x80000000 + off) len write ecc = (d.err pDDRC DDRC.E_WIN_RANGE).busErr := by
  simp only [Dev.ddrWindow, d.windowAt_offset, hc, hout, Bool.false_eq_true, if_false, if_true]

section
variable {s : State} {who : Who} {addr : BitVec 31} {size : Size}

theorem ddrWindowAccess_write_answers (v : Word) (i : Fin 4) (hrun : s.phase = .running) (hb : s.onBus who = true)
    (hc : s.isCell = false) (hi : i.val < sizeLen size)
    (hin : s.get pDDRC DDRC.WINBASE_BASE * 2 ^ 28 + addr.toNat + sizeLen size ≤ s.dramSize)
    (hready : s.on pDDRC DDRC.STAT_READY = true) :
    ∃ t, exec (.ddrWindowAccess who addr size (some v) none) s = .next t ∧ (t.reply = none ∧
      t.mems.byte .dram (s.get pDDRC DDRC.WINBASE_BASE * 2 ^ 28 + addr.toNat + i) = (toLE 4 v.toNat).getD i 0) := by
  have hbyte : (toLE (sizeLen size) (v.toNat % 2 ^ (8 * sizeLen size))).getD i 0 = (toLE 4 v.toNat).getD i 0 := by
    rw [toLE_getD_mod _ hi, toLE_getD _ hi, toLE_getD _ i.isLt]
  rw [exec_ddrWindowAccess, s.doesM_running _ hrun, Dev.windowAccess_hub _ _ _ _ _ hb hc, Option.map_some,
    Dev.ddrWindow_write s.mems _ hc hin hready, ← hbyte]
  refine ⟨_, rfl, (Dev.motrSync_reply ..).trans rfl, ?_⟩
  exact State.flush_stored (l := s.stores) ((Dev.motrSync_stores ..).trans rfl) (by rw [toLE_length]; exact hi)

theorem ddrWindowAccess_read_answers (hr : s.Ready) (hb : s.onBus who = true) (hc : s.isCell = false)
    (hin : s.get pDDRC DDRC.WINBASE_BASE * 2 ^ 28 + addr.toNat + sizeLen size ≤ s.dramSize)
    (hready : s.on pDDRC DDRC.STAT_READY = true) :
    ∃ t, exec (.ddrWindowAccess who addr size none none) s = .next t ∧ (t.reply = some (some
        (leNat (s.mems.bytes .dram (s.get pDDRC DDRC.WINBASE_BASE * 2 ^ 28 + addr.toNat) (sizeLen size)))) ∧
      s.KeepsBut t.toDev [] ∧ s.KeepsMem t) := by
  have he := Dev.windowAccess_hub s.mems addr.toNat size none none hb hc
  rw [Option.map_none, Dev.ddrWindow_read s.mems hc hin hready, Dev.answer_eq] at he
  rw [exec_ddrWindowAccess]
  obtain ⟨t, hexec, hreply, hregs, hmem, -, -⟩ :=
    s.doesM_withBus (fun m d => Dev.windowAccess m d who addr.toNat size none none) hr he
  exact ⟨t, hexec, hreply, hregs, hmem⟩

theorem ddrWindowAccess_range_answers (write : Option Word) (ecc : Option Bool) (hlive : s.Live pDDRC) (hb : s.onBus who = true)
    (hc : s.isCell = false) (hout : s.dramSize < s.get pDDRC DDRC.WINBASE_BASE * 2 ^ 28 + addr.toNat + sizeLen size) :
    ∃ t, exec (.ddrWindowAccess who addr size write ecc) s = .next t ∧ (t.reply = some none ∧
      t.bit pDDRC HDR.ERRSTAT DDRC.E_WIN_RANGE = true) := by
  obtain ⟨hrun, ha, hi⟩ := hlive
  have he := Dev.windowAccess_hub s.mems addr.toNat size write ecc hb hc
  rw [Dev.ddrWindow_range s.mems _ ecc hc hout] at he
  have hgrow := Dev.HeadersGrow.motrSync s.toDev (s.err pDDRC DDRC.E_WIN_RANGE).busErr
  rw [exec_ddrWindowAccess, s.doesM_running _ hrun, he]
  exact ⟨_, rfl, (Dev.motrSync_reply ..).trans rfl, hgrow.errBit _ _ (by decide) (s.err_bit pDDRC (by decide) ha hi)⟩

end

/-! ### WINBASE (R112) -/

theorem exec_winbaseWrite (v : Word) (s : State) :
    exec (.winbaseWrite v) s = s.does fun d => d.regWrite pDDRC 0x040 v.toNat := rfl

theorem winbaseWrite_answers {s : State} (v : Word) (hw : s.Writable pDDRC) :
    ∃ t, exec (.winbaseWrite v) s = .next t ∧ (t.get pDDRC DDRC.WINBASE_BASE = DDRC.WINBASE_BASE.pick v.toNat) := by
  obtain ⟨⟨hrun, hstop⟩, hd, hl⟩ := hw
  obtain ⟨u, hu⟩ := s.toDev.pageWrite_block none pDDRC 0x040 v.toNat hd hl (.inr (by decide)) (.inl (by decide))
  obtain ⟨g, hg⟩ := Dev.noteSoft_eq (Dev.blockWrite { s.toDev with reply := none, unlock := u } none pDDRC 0x040 v.toNat) pDDRC
    0x040 v.toNat
  have he : s.regWrite pDDRC 0x040 v.toNat =
      ((s.toDev.withBus none u).set pDDRC DDRC.WINBASE_BASE (DDRC.WINBASE_BASE.pick v.toNat)).meet g := by
    rw [Dev.regWrite, hstop, if_neg Bool.false_ne_true, hu, hg]
    rfl
  obtain ⟨t, ht, hget, -⟩ := s.does_get (fun d => d.regWrite pDDRC 0x040 v.toNat) hrun
  refine ⟨t, ht, ?_⟩
  rw [hget pDDRC DDRC.WINBASE_BASE (by decide) (by decide), he]
  exact (Dev.get_set_same ..).trans (Nat.mod_mod ..)

end Sys2Proof.Machine
end

section
open Sys2Proof Sys2Proof.Machine

/-- Settles O30, clause by clause: the bus refuses by the place alone (`Place.refuses`), a write to a header register moves that
register and the bookkeeping only (`Dev.HeaderWrite`), and MOTR, which follows every command, keeps answers, latched words and
stored bytes. -/
theorem busAccessesAct : Obligations.BusAccessesAct := by
  unfold Obligations.BusAccessesAct
  refine ⟨?_, ?_, ?_, ?_, ?_, ?_, ?_, ?_, ?_, ?_, ?_, ?_, ?_, fun s v hw => winbaseWrite_answers v hw⟩
  · rintro s who addr size v pg ⟨hr, hb, h1, hpg, hk, hs, hal, hd⟩
    exact subWordWrite_answers v hr hb h1 hpg hk hs hal hd
  · rintro s who addr size write ⟨hr, hb, h1, h2, hk, hmis⟩
    rw [exec_misalignedAccess]
    exact State.doesM_refused hr hb (misaligned_refused who _ h1 h2 hk hmis)
  · rintro s who addr size write ⟨hr, hb, h⟩
    rw [exec_unmappedAccess]
    exact State.doesM_refused hr hb (unmapped_refused _ h)
  · rintro s who addr size write ⟨hr, hb, h, hwrite⟩
    rw [exec_unmappedAccess]
    refine State.doesM_refused hr hb ?_
    rw [hwrite]
    exact readOnly_refused who _ h
  · rintro s who addr k n pg off ⟨hrun, hb, haddr, ho, h4, hk, hw, hl, ha, hi⟩
    exact wideReadLatch_answers hrun hb haddr ho h4 hk hw hl ha hi
  · rintro s who addr v pg ⟨hr, hb, hk, haddr, hd, hl, hw⟩
    exact irqenWrite_answers hr hb hk haddr hd hl hw
  · rintro s who addr v pg ⟨hr, hb, hk, haddr, hd, hl, hv⟩
    exact irqenWrite_locked_answers hr hb hk haddr hd hl hv
  · rintro s who addr v pg ⟨hr, hb, hk, hg, hu0, hu1, haddr, hd, hw, hlt⟩
    exact irqflgWrite_answers hr hb hk hg hu0 hu1 haddr hd hw hlt
  · rintro s who addr v pg ⟨hr, hb, hk, haddr, hd, hw⟩
    exact errstatWrite_answers hr hb hk haddr hd hw
  · rintro s who addr v i ⟨hr, hb, hwho, h1, h2⟩
    exact sramWrite_answers v i hr hb hwho h1 h2
  · rintro s who addr size v i ⟨hrun, hb, hc, hi, hin, hready⟩
    exact ddrWindowAccess_write_answers v i hrun hb hc hi hin hready
  · rintro s who addr size ⟨hr, hb, hc, hin, hready⟩
    exact ddrWindowAccess_read_answers hr hb hc hin hready
  · rintro s who addr size write ecc ⟨hlive, hb, hc, hout⟩
    exact ddrWindowAccess_range_answers write ecc hlive hb hc hout

end

section
/-! PROOFS. An angle event that fires while its AEVFLG bit is still set: the AEV interrupt tells of a bit that became set (R165),
so this firing raises none. -/

namespace Sys2Proof.Machine

/-- A hub in a tick in which θ crosses AEV0ANG forward: event 0 is enabled, armed and asks for the interrupt; its AEVFLG bit and
IRQFLG.AEV stand from an earlier firing. -/
def State.pendingAev : State :=
  { State.reset with
    regs := [(SYSC.STRAP_ROLE.key pSYSC, 1), (CKSW.CKSTAT_SRC.key pCKSW, 0), (SPDL.STAT_VALID.key pSPDL, 1),
      (HDR.IRQFLG.key pSPDL, 2 ^ SPDL.I_AEV), ((SPDL.AEVEN 0).key pSPDL, 1), ((SPDL.AEVANG 0).key pSPDL, 5),
      ((SPDL.AEVACT 0).key pSPDL, 2 ^ 31), ((SPDL.AEVFLG 0).key pSPDL, 1)]
    spd := { spd0 with armed := 1, prevValid := true, prev := 4, theta := 5 * 2 ^ 32 } }

/-- The same hub with IRQFLG.AEV clear; the AEVFLG bit stands. -/
def State.standingAev : State :=
  { State.pendingAev with regs := State.pendingAev.regs.filter fun r => r.1 != HDR.IRQFLG.key pSPDL }

/-- Software's write of 1 to IRQFLG.AEV leads from the one to the other. -/
theorem exec_irqflgWrite_pendingAev :
    exec (.registerWrite .cpu0 0x4011001C .word (2 ^ SPDL.I_AEV)) State.pendingAev = .next State.standingAev :=
  congrArg Host.Outcome.next (by decide +kernel)

/-- Event 0 is due: all that R155 asks for a firing holds. -/
theorem State.standingAev_due : State.standingAev.Live pSPDL ∧ State.standingAev.aevOn 0 = true ∧
    State.standingAev.aevArmed 0 = true ∧ State.standingAev.spdValid = true ∧ State.standingAev.spd.prevValid = true ∧
    State.standingAev.onSyna = true ∧ State.standingAev.crossed (State.standingAev.aevAng 0) = true := by
  decide +kernel

/-- The event's action asks for the interrupt (R161). -/
theorem State.standingAev_asks : bitAt (State.standingAev.get pSPDL (SPDL.AEVACT 0)) 31 = true := by decide

/-- The event fires, and IRQFLG.AEV stays clear: the AEVFLG bit does not become set (`Dev.spdFlag`). -/
theorem exec_angleEventFire_standingAev :
    ∃ t, exec (.angleEventFire 0) State.standingAev = .next t ∧ t.aevArmed 0 = false ∧
      t.bit pSPDL HDR.IRQFLG SPDL.I_AEV = false :=
  ⟨_, rfl, by decide +kernel⟩

end Sys2Proof.Machine
end

section
open Sys2Proof Sys2Proof.Machine

/-- Refutes O22: its fifth clause fails in a hub (`State.standingAev`) whose software has cleared IRQFLG.AEV and not the AEVFLG
bit; a write of IRQFLG leads there (`exec_irqflgWrite_pendingAev`). The event fires again, and as its AEVFLG bit does not become
set, no interrupt is raised (R165). -/
theorem not_spindleAngleAndEventsAct : ¬ Obligations.SpindleAngleAndEventsAct := by
  unfold Obligations.SpindleAngleAndEventsAct
  rintro ⟨-, -, -, -, hfire, -⟩
  obtain ⟨t, hexec, -, hflags⟩ := hfire State.standingAev 0 State.standingAev_due
  obtain ⟨-, hraised⟩ := hflags State.standingAev_asks
  obtain ⟨t', hexec', -, hclear⟩ := exec_angleEventFire_standingAev
  obtain rfl : t = t' := Host.Outcome.next.inj (hexec.symm.trans hexec')
  exact absurd (hraised.symm.trans hclear) (by decide)

end

section
/-! PROOFS. States in which commands of the links and of Isobar reach more than their own result: a token that meets a report of
no listed source, a request that a cell forwards to a port that is down, an S frame that meets the head of the T train, and Isobar
disabled before its run. -/

namespace Sys2Proof.Machine

/-! ### A token, and a waiting report of a source beyond the 48 that R371 lists -/

/-- The source whose CORCNT would lie at GUSTLAST of LINK0. -/
def straySource : Nat := ((pLINK 0 - pFCOL) * 4096 + LINK.GUSTLAST_CODE.off - (FCOL.CORCNT 0).off) / 4

/-- Counted for this source, FCOL's CORCNT has the key of GUSTLAST.CODE in the register file. -/
theorem straySource_key : (FCOL.CORCNT straySource).key pFCOL = LINK.GUSTLAST_CODE.key (pLINK 0) := by decide

/-- A cell with both ports aligned, in which a corrected error of that source waits to be collected. -/
def State.strayReported : State :=
  linkS.but fun d => { d with reports := [⟨straySource, 0, 0, 1, false, 0, 0, 0⟩] }

/-- LINK0 takes tokens, and these three copies carry code 15. -/
theorem State.strayReported_takes :
    State.strayReported.rxSync 0 = true ∧ State.strayReported.lpbk 0 = false ∧ State.strayReported.phase = .running ∧
      gustCode (some 0xF0) (some 0xF0) none = some 15 := by decide +kernel

/-- The token stores code 15, and the event handled before the token's own counts GUSTLAST.CODE up. -/
theorem exec_gustTokenRx_strayReported :
    ∃ t, exec (.gustTokenRx 0 (some 0xF0) (some 0xF0) none 0) State.strayReported = .next t ∧
      t.get (pLINK 0) LINK.GUSTLAST_CODE = 16 :=
  ⟨_, rfl, by decide +kernel⟩

/-! ### A management write outside pages and windows, at the last cell before a break -/

/-- A cell at position 5 whose LINK1 is down; LINK0 forwards, as after reset. -/
def State.lastCell : State :=
  linkS.having [(pLINK 1, LINK.STAT_STATE, 0), (pVANE, VANE.POS_ASSIGNED, 1), (pVANE, VANE.POS_APOS, 5)]

/-- A request to position 5 of one write to shared SRAM, which management frames do not reach (R110). -/
def outsideWrite : Frame := mkFrame 4 0 0x8000 5 2 77 (toBE 4 0x20000001 ++ toBE 4 5)

theorem outsideWrite_sound :
    frameSound outsideWrite ∧ outsideWrite.cls = 4 ∧ outsideWrite.typ = 0 ∧ outsideWrite.dst ≠ 0xFFFF ∧
      outsideWrite.payload.length = 8 := by decide +kernel

theorem outsideWrite_address :
    fieldBE outsideWrite.payload 0 4 % 4 = 1 ∧ fieldBE outsideWrite.payload 0 4 < 0x40000000 := by decide +kernel

/-- The cell takes the request as its own, for the first time. -/
theorem State.lastCell_takes :
    State.lastCell.phase = .running ∧ State.lastCell.isCell = true ∧ State.lastCell.rxSync 0 = true ∧
      State.lastCell.lpbk 0 = false ∧ 0 < State.lastCell.ports.length ∧
      State.lastCell.myPos = some outsideWrite.dst.toNat ∧
      ((State.lastCell.port 0).kept.find? fun k => k.1 == outsideWrite.src.toNat && k.2.1 == outsideWrite.seq.toNat) = none ∧
      State.lastCell.stores = [] ∧ State.lastCell.soc.wipe = none := by decide +kernel

/-- The cell also forwards the request (R182), and LINK1, which is down, drops it and counts that (R171). -/
theorem exec_mRequestRx_lastCell :
    ∃ t, exec (.mRequestRx 0 outsideWrite) State.lastCell = .next t ∧ t.get (pLINK 1) LINK.CNTD_DROP = 1 :=
  ⟨_, rfl, by decide +kernel⟩

/-! ### An S frame whose tick is that of the head copy -/

/-- A cell on its grid that starts the head of the T train out of LINK0 at place 125 of the superframe, one tick ahead; an S frame
of LINK0, which a token has moved, waits for that very tick. -/
def State.headAhead : State :=
  (linkS.having [(pVANE, VANE.GRIDCTL_RUN, 1), (pLINK 0, LINK.SLOTCFG_THEAD, 1)]).but fun d =>
    { d.modPort 0 fun x => { x with waits := [⟨d.ticks + 1, .slot⟩] } with time := 124 * tick16 * 2 ^ 24 }

theorem State.headAhead_waits :
    State.headAhead.phase = .running ∧ State.headAhead.txRuns 0 = true ∧ State.headAhead.lpbk 0 = false ∧
      0 < State.headAhead.ports.length ∧ (State.headAhead.port 0).waits = [⟨State.headAhead.ticks + 1, .slot⟩] := by
  decide +kernel

/-- In that tick nothing is sent: the S frame takes its place behind the head copy, 89 ticks later (R189). -/
theorem exec_fabricTick_headAhead :
    ∃ t, exec .fabricTick State.headAhead = .next t ∧ State.headAhead.sentHeads t.toDev = [] ∧
      (t.port 0).willSend = [(t.ticks + 89, 5, 0xFFFE)] :=
  ⟨_, rfl, by decide +kernel⟩

/-! ### Isobar disabled before its run -/

/-- A hub whose telemetry for this superframe is complete, and whose run of Isobar has not started. -/
def State.awaitingRun : State :=
  { State.reset with
    regs := [(SYSC.STRAP_ROLE.key pSYSC, 1), (ISOB.CTRL_EN.key pISOB, 1)]
    hub := { hub0 with teleDone := true } }

theorem State.awaitingRun_ready : State.awaitingRun.Ready := by decide

/-- Without the run, assembly of the commands starts (R239): the hub holds a prediction. -/
theorem exec_isobarEnableWrite_awaitingRun :
    ∃ t, exec (.isobarEnableWrite 0) State.awaitingRun = .next t ∧ t.hub.pred.length = 1 :=
  ⟨_, rfl, by decide +kernel⟩

end Sys2Proof.Machine
end

section
open Sys2Proof Sys2Proof.Machine

/-- Refutes O23: its eighth clause fails where a report waits with a source number beyond those of R371 (`State.strayReported`), as
the clause is about every state and does not exclude a malformed report. The report's event comes before the token's (R380), and its
count changes GUSTLAST.CODE, as the key of its CORCNT is that field's (`straySource_key`). -/
theorem not_linkReceiversAct : ¬ Obligations.LinkReceiversAct := by
  unfold Obligations.LinkReceiversAct
  rintro ⟨-, -, -, -, -, -, -, htoken, -⟩
  obtain ⟨t, hexec, hcode, -⟩ :=
    htoken State.strayReported 0 (some 0xF0) (some 0xF0) none 0 15 State.strayReported_takes
  obtain ⟨t', hexec', hcounted⟩ := exec_gustTokenRx_strayReported
  obtain rfl : t = t' := Host.Outcome.next.inj (hexec.symm.trans hexec')
  exact absurd (hcounted.symm.trans hcode) (by decide)

/-- Refutes O24: its thirteenth clause fails at a cell that forwards and whose other port is down (`State.lastCell`). An M frame
for the cell is both taken and forwarded (R182), so that the write outside pages and windows leaves a count in CNTD.DROP of the
other port, whose page is not MOTR's. -/
theorem not_linkFramesArrive : ¬ Obligations.LinkFramesArrive := by
  unfold Obligations.LinkFramesArrive
  rintro ⟨-, -, -, -, -, -, -, -, -, -, -, -, houtside, -⟩
  obtain ⟨hrun, hcell, hsync, hlpbk, hport, hpos, hnew, hstores, hwipe⟩ := State.lastCell_takes
  obtain ⟨hsound, hcls, htyp, hdst, hlen⟩ := outsideWrite_sound
  obtain ⟨hop, haddr⟩ := outsideWrite_address
  obtain ⟨t, hexec, -, hkeeps, -⟩ := houtside State.lastCell 0 outsideWrite
    ⟨hrun, hcell, hsync, hlpbk, hport, hsound, hcls, htyp, hdst, hpos, hnew, hlen, hop, .inl haddr, hstores, hwipe⟩
  obtain ⟨t', hexec', hdropped⟩ := exec_mRequestRx_lastCell
  obtain rfl : t = t' := Host.Outcome.next.inj (hexec.symm.trans hexec')
  have hkept := (hkeeps (pLINK 1) LINK.CNTD_DROP (by decide) (by decide)).1
  have hbefore : State.lastCell.get (pLINK 1) LINK.CNTD_DROP = 0 := by decide
  exact absurd (hdropped.symm.trans (hkept.trans hbefore)) (by decide)

/-- Refutes O25: its fourth clause fails at a cell with THEAD = 1 where the S frame's tick has come and the head copy's with it
(`State.headAhead`), which the clause does not exclude. The S frame does not begin, but goes behind the head copy (R189). -/
theorem not_linkPortsSend : ¬ Obligations.LinkPortsSend := by
  unfold Obligations.LinkPortsSend
  rintro ⟨-, -, -, hslot, -⟩
  obtain ⟨t, hexec, hsent⟩ := hslot State.headAhead 0 [] State.headAhead_waits
  obtain ⟨t', hexec', hnone, -⟩ := exec_fabricTick_headAhead
  obtain rfl : t = t' := Host.Outcome.next.inj (hexec.symm.trans hexec')
  rw [hnone] at hsent
  exact List.not_mem_nil hsent

/-- Refutes O58: its clause of ISOBAR_ENABLE_WRITE fails in a hub whose telemetry awaits a run (`State.awaitingRun`). Disabling
Isobar starts assembly without the run (R239), which changes the hub's part; the frame names Isobar's part and the free values
alone. -/
theorem not_linkAndStrandFrames : ¬ Obligations.LinkAndStrandFrames := by
  unfold Obligations.LinkAndStrandFrames
  rintro ⟨-, -, -, -, -, -, -, -, -, -, -, -, -, -, -, -, -, -, -, -, -, -, -, -, -, -, -, -, -, -, -, -, henable, -⟩
  obtain ⟨t, hexec, -, hframe, -⟩ := henable State.awaitingRun 0 State.awaitingRun_ready
  obtain ⟨t', hexec', hpred⟩ := exec_isobarEnableWrite_awaitingRun
  obtain rfl : t = t' := Host.Outcome.next.inj (hexec.symm.trans hexec')
  have hhub : t.hub = State.awaitingRun.hub := (congrArg Dev.hub hframe).trans rfl
  rw [hhub] at hpred
  exact absurd hpred (by decide)

end

section
/-! PROOFS. Two commands of the strand manager that their statements take to act always: a slot plan in the tick in which software
has written the slot register, which R101 lets stand, and a peer record that comes after its miss has been counted, which makes up
for no miss (R218). -/

namespace Sys2Proof.Machine

/-! ### A slot plan, and a slot that software has written in the same tick -/

/-- A hub that plans slots, with strand 0 enabled; none of its eight cells has answered yet. -/
def State.planningHub : State :=
  { State.reset with
    regs := [(SYSC.STRAP_ROLE.key pSYSC, 1), (STRD.CTRL_PLAN.key pSTRD, 1), ((STRD.SCFG_SLEN 0).key pSTRD, 8),
      ((STRD.SCFG_EN 0).key pSTRD, 1)] }

/-- The planning hub after a write of SSLOT = 5 to SLOTCFG of LINK0: the register is noted as written in this tick. -/
def State.slotWritten : State :=
  { State.planningHub with
    regs := [(SYSC.STRAP_ROLE.key pSYSC, 1), (LINK.SLOTCFG_SSLOT.key (pLINK 0), 5), (STRD.CTRL_PLAN.key pSTRD, 1),
      ((STRD.SCFG_SLEN 0).key pSTRD, 8), ((STRD.SCFG_EN 0).key pSTRD, 1)]
    meets := { meets0 with soft := [(pLINK 0, LINK.SLOTCFG_SSLOT.off)] } }

/-- REGISTER_WRITE leads from the planning hub to the state of the refutation (TSLOT is written with its reset value 125). -/
theorem exec_registerWrite_planningHub :
    exec (.registerWrite .cpu0 0x40200054 .word 0x007D0005) State.planningHub = .next State.slotWritten :=
  congrArg Host.Outcome.next (by decide +kernel)

theorem State.slotWritten_plans :
    State.slotWritten.phase = .running ∧ State.slotWritten.isHub = true ∧ State.slotWritten.standalone = false ∧
      State.slotWritten.on pSTRD STRD.CTRL_PLAN = true ∧ State.slotWritten.strandEn 0 = true := by decide

/-- The plan leaves SSLOT of LINK0 as software has written it. -/
theorem exec_slotPlan_slotWritten :
    ∃ t, exec (.slotPlan 0) State.slotWritten = .next t ∧ t.get (pLINK 0) LINK.SLOTCFG_SSLOT = 5 :=
  ⟨_, rfl, by decide +kernel⟩

/-! ### A peer record that comes after its miss -/

/-- The time leader of a pair, in superframe 1 after the loop instant, with its partner on port 8; the partner's record of
superframe 0 has not come. -/
def State.awaitingRecord : State :=
  { State.reset with
    regs := [(SYSC.STRAP_ROLE.key pSYSC, 1), (CKSW.CKSTAT_SRC.key pCKSW, 0), (LINK.PCFG_EN.key (pLINK 8), 1),
      (STRD.CTRL_RUN.key pSTRD, 1), (STRD.STAT_RUN.key pSTRD, 1), (STRD.STAT_LEADER.key pSTRD, 1)]
    time := 2 ^ 56
    hub := { hub0 with idx := 2, loopAt := some 0, leader := some 0, grid := true } }

/-- The hub after PEER_RECORD_MISS: one miss is counted, and HBMISS shows it. -/
def State.recordMissed : State :=
  { State.awaitingRecord with
    regs := State.awaitingRecord.regs ++ [(VANE.STAT_HBMISS.key pVANE, 1)]
    hub := { State.awaitingRecord.hub with peers := [{ peer0 with came := some 0, missed := 1 }, peer0] } }

theorem exec_peerRecordMiss_awaitingRecord : exec (.peerRecordMiss 0) State.awaitingRecord = .next State.recordMissed :=
  congrArg Host.Outcome.next (by decide +kernel)

/-- A record of superframe 0: a header of 64 bytes whose fields are all 0. -/
def lateRecord : List Byte := List.replicate 64 0

theorem State.recordMissed_receives :
    State.recordMissed.phase = .running ∧ State.recordMissed.isCell = false ∧ State.recordMissed.rxRuns 8 = true ∧
      0 < State.recordMissed.hub.peers.length ∧ 64 ≤ lateRecord.length ∧ State.recordMissed.get pVANE VANE.FLOOR < 2 ^ 31 := by
  decide +kernel

/-- The late record does not end the miss: the next loop instant asks for superframe 1 (`Dev.recordDue`). -/
theorem exec_peerRecordRx_recordMissed :
    ∃ t, exec (.peerRecordRx 0 lateRecord) State.recordMissed = .next t ∧ (t.peer 0).missed = 1 :=
  ⟨_, rfl, by decide +kernel⟩

end Sys2Proof.Machine
end

section
open Sys2Proof Sys2Proof.Machine

/-- Refutes O26: its seventh clause fails in a hub (`State.slotWritten`) in whose present tick software has written SLOTCFG of the
strand's port; REGISTER_WRITE leads there (`exec_registerWrite_planningHub`). The plan's SSLOT does not replace the written one
(R101, `Dev.hwSet`), which the clause does not exclude. -/
theorem not_strandManagerActs : ¬ Obligations.StrandManagerActs := by
  unfold Obligations.StrandManagerActs
  rintro ⟨-, -, -, -, -, -, hplan, -⟩
  obtain ⟨t, hexec, hslot, -⟩ := hplan State.slotWritten 0 State.slotWritten_plans
  obtain ⟨t', hexec', hwritten⟩ := exec_slotPlan_slotWritten
  obtain rfl : t = t' := Host.Outcome.next.inj (hexec.symm.trans hexec')
  exact absurd (hwritten.symm.trans hslot) (by decide)

/-- Refutes O28: its second clause fails in a hub (`State.recordMissed`) that has counted the record of superframe 0 as missed and
then receives it; PEER_RECORD_MISS leads there (`exec_peerRecordMiss_awaitingRecord`). While the grid runs, only the record that the
next loop instant asks for ends the misses (R218, `Dev.recordDue`), and the clause takes any record. -/
theorem not_hubsOfAPairAct : ¬ Obligations.HubsOfAPairAct := by
  unfold Obligations.HubsOfAPairAct
  rintro ⟨-, hrecord, -⟩
  obtain ⟨t, hexec, -, -, hended, -⟩ := hrecord State.recordMissed 0 lateRecord State.recordMissed_receives
  obtain ⟨t', hexec', hmissed⟩ := exec_peerRecordRx_recordMissed
  obtain rfl : t = t' := Host.Outcome.next.inj (hexec.symm.trans hexec')
  exact absurd (hmissed.symm.trans hended) (by decide)

end
